-- ==== Sys2Proof/Word.lean ====
section
/-! DEFINITION. The word types and the sparse table every memory, register file and queue index of the model is kept in. -/

namespace Sys2Proof

abbrev Byte := BitVec 8
abbrev W32 := BitVec 32
abbrev W64 := BitVec 64

/-- A sparse table: key and value pairs, keys strictly rising, no entry equal to what an unlisted key reads as. -/
abbrev Tbl (α : Type) := List (Nat × α)

/-- The value at key `k`; `d` is what an unlisted key reads as. -/
def Tbl.get {α : Type} (d : α) : Tbl α → Nat → α
  | [], _ => d
  | (j, v) :: r, k => if k = j then v else Tbl.get d r k

/-- Remove key `k`. -/
def Tbl.erase {α : Type} : Tbl α → Nat → Tbl α
  | [], _ => []
  | (j, v) :: r, k => if k = j then Tbl.erase r k else (j, v) :: Tbl.erase r k

/-- Insert key `k` in its place, replacing what stood there. -/
def Tbl.insert {α : Type} : Tbl α → Nat → α → Tbl α
  | [], k, x => [(k, x)]
  | (j, v) :: r, k, x =>
    if k < j then (k, x) :: (j, v) :: r
    else if k = j then (k, x) :: r
    else (j, v) :: Tbl.insert r k x

/-- Write `x` at key `k`, keeping the canonical form: writing the default removes the entry. -/
def Tbl.set {α : Type} [DecidableEq α] (d : α) (t : Tbl α) (k : Nat) (x : α) : Tbl α :=
  if x = d then Tbl.erase t k else Tbl.insert t k x

/-- Keys strictly rising from `lo`, no value equal to the default of its key. -/
def Tbl.wfFrom {α : Type} [DecidableEq α] (d : Nat → α) : Nat → Tbl α → Bool
  | _, [] => true
  | lo, (j, v) :: r => decide (lo ≤ j) && decide (v ≠ d j) && Tbl.wfFrom d (j + 1) r

/-- The canonical form of a table whose unlisted key `k` reads as `d k`. -/
def Tbl.wf {α : Type} [DecidableEq α] (d : Nat → α) (t : Tbl α) : Bool := Tbl.wfFrom d 0 t

/-- A byte memory: a sparse table of bytes. -/
abbrev Mem := Tbl Byte

/-- Array time, in units of 0.5 ns (00_scope R10). -/
abbrev Time := W64

/-- A line sequence number, or an encoder position (00_scope R10). -/
abbrev B48 := BitVec 48

end Sys2Proof
end

