-- ==== Sys2Proof/Config.lean ====
section
/-! DEFINITION. What an implementation fixes, the free values of the spec, and the operand types that commands carry. -/

namespace Sys2Proof

/-- A bus write as it reaches the device: the 64-bit data, how many bytes it carries, and its source
(R15, R16, R119): bit 6 clear, the local PCIe function; bit 6 set, the remote chain position of bits 5..0. -/
structure Wr where
  v   : W64
  nb  : Nat
  src : BitVec 7
deriving DecidableEq, Repr

/-- How a descriptor fetch ends: with its descriptors, a Completion Timeout, or a completion that is poisoned or carries Unsupported Request or
Completer Abort (09_host_link R322). -/
inductive FetchEnd where
  | data (ws : List (W64 × W64))
  | timeout
  | error (poison : Bool)
deriving DecidableEq, Repr

/-- What a temperature sensor delivers at a sample: the value half and the complement half (15_thermal R494). -/
structure Reading where
  v : BitVec 16
  c : BitVec 16
deriving DecidableEq, Repr

/-- What a calibration run of a slice yields (04_converters R143): the sums over the 16,384 conversions of VREF_LO and VREF_HI,
the VREF_MID values with their multiplicities, and whether a conversion failed its in-service check. -/
structure CalRun where
  lo  : Int
  hi  : Int
  mid : List (Int × Nat)
  chk : Bool
deriving DecidableEq, Repr

/-- A PCIe configuration request (09_host_link R309, R310): a read of the dword at a byte offset, or a write of the bytes of it that `be` enables. -/
inductive CfgReq where
  | read (off : Nat)
  | write (off : Nat) (be : BitVec 4) (v : W32)
deriving DecidableEq, Repr

/-- A loss of CPLL lock: when the VCO left its bound, and the end of the last lock-monitor window that passed (10_clocks R356, R359, R360). -/
structure LockLoss where
  left     : Time
  lastPass : Time
deriving DecidableEq, Repr

/-- A level change at an input of a pin engine: the input, the code of the source it comes from, the level of the source after it, the array time of
its first transition, and for how many pin clocks the level then holds (11_pin_engines R381 to R383). -/
structure PinEdge where
  i     : Nat
  src   : Nat
  lev   : Bool
  stamp : Time
  held  : Nat
deriving DecidableEq, Repr

/-- What a maintenance frame reaches: a BAR0 byte offset, and how many bytes (12_hinge_array R410; 09_host_link R312, R338). -/
structure Access where
  off : BitVec 22
  nb  : Nat
deriving DecidableEq, Repr

namespace Config

/-- FREE: a value the spec leaves undefined (R135, R194, R218), one per use of the counter. -/
opaque freeValue : Nat → W64

/-- FREE: which of two outcomes the device takes where the spec allows either (R41, R58, R107). -/
opaque choice : Nat → Bool

/-- FREE: whether a BAR0 request to the offset needs the supervisor, which no rule says (R485). -/
opaque needsSup : Nat → Bool

/-- FREE: whether an RSASSA-PSS SHA-384 signature verifies (R457): key, message, signature. -/
opaque rsaOk : List Byte → List Byte → List Byte → Bool

/-- FREE: whether an SLH-DSA-SHA2-192s signature verifies (R457): key, message, signature. -/
opaque slhOk : List Byte → List Byte → List Byte → Bool

/-- FREE: the SHA-384 digest (R457), 48 bytes. -/
opaque sha384 : List Byte → List Byte

/-- FREE: the SLH-DSA signature made with the attestation key, 16,224 bytes (R466). -/
opaque attestSign : List Byte → List Byte

/-- FREE: the attestation public key, 48 bytes (R466). -/
opaque attestPub : List Byte

/-- FREE: the HMAC-SHA-384 tag under the palette key of this bridge die (R183), 48 bytes. -/
opaque paletteTag : List Byte → List Byte

/-- Implementation: trigger-to-shift latency measured at module test, in ps, when no OTP entry gives it (R28). -/
opaque pathPs : BitVec 16

/-- Implementation: the vendor public keys held in ROM: key set k gives modulus (384 bytes) then SLH-DSA key (48) (R450). -/
opaque romKeys : Nat → List Byte

/-- The three optical variants (R1). -/
inductive Variant where
  | m
  | s
  | p
deriving DecidableEq, Repr, Inhabited

/-- GLB_ID.VARIANT of a variant; other values are not used (R1, R21). -/
def Variant.code : Variant → BitVec 4
  | .m => 0
  | .s => 1
  | .p => 2

/-- Implementation: the variant of the module (R1). -/
opaque module : Variant

/-- GLB_ID.VARIANT of the module: 0 M, 1 S, 2 P (R1, R21). -/
def variant : BitVec 4 := module.code

/-- FREE: the light: charge in e- that the pixel of row `r`, column `c` collects from array time `t` to the next charge shift or drain (R66, R87). -/
opaque light : Time → Nat → Nat → Nat

/-- Implementation: full well of the TDI register in e-, per band and column (R78). -/
opaque fullWell : Nat → Nat → Nat

end Config
end Sys2Proof
end

