-- ==== Sys2Proof/Syntax.lean ====
section
/-! DEFINITION. The commands of the block: one constructor per row of spec/opcode_table.json, with the operands the command carries.
`t` is the array time at which the event happens, in units of 0.5 ns (R10). -/

namespace Sys2Proof

/-- The commands. -/
inductive Instr where
  /-- LINE_TICK (R33). A line tick fires from any source: it shifts TDI charge, samples the columns, runs the sequence entry and advances every line in flight. -/
  | lineTick (t : Time)
  /-- TRIGGER_EDGE (R39). A direct-mode trigger edge, from the pins or a relayed TRIG frame, fires a tick, is held, or is rejected with an OVERRUN record. -/
  | triggerEdge (t : Time) (inp : BitVec 2) (falling : Bool)
  /-- HOLD_GATE_OPEN (R39). T_min after the last charge shift the hold-and-reject gate opens and a held trigger fires at once with LATE. -/
  | holdGateOpen (t : Time)
  /-- SLOT_RELEASE_DEADLINE (R34). At tick n + 2 a line slot not yet released is revoked and the line is ended FAILED for that tile. -/
  | slotReleaseDeadline (t : Time) (e : Nat)
  /-- IDLE_FLUSH (R45). When no tick has come for TCK_IDLE_FLUSH the device pulses all drain gates and enters IDLE from RUNNING. -/
  | idleFlush (t : Time)
  /-- REVERSAL_CONFIRMED (R48). The encoder has moved TCK_DIR.HYST counts in the new direction without returning, so a reversal is confirmed. -/
  | reversalConfirmed (t : Time)
  /-- DIRECTION_FLUSH_END (R56). The 64th flush tick ends REVERSING and returns the tick generator to RUNNING or HOLDOVER. -/
  | directionFlushEnd (t : Time)
  /-- LINE_REFERENCE (R368). A tracked-mode line reference event reaches the LPLL, which measures, acquires, tracks, clamps or detects a step beyond 2 %. -/
  | lineReference (t : Time)
  /-- REFERENCE_LOSS (R368). No reference edge arrives within 1.25 expected periods, which counts as loss of the reference and leads to HOLDOVER. -/
  | referenceLoss (t : Time)
  /-- LPLL_LOCK (R366). The LPLL declares lock after four good periods, ungates the tick class and the tick generator proceeds from LOCKING. -/
  | lpllLock (t : Time)
  /-- HOLDOVER_LINES_REACHED (R52). The holdover count reaches TCK_HOLDOVER.LINES, ticking stops and the device enters LOCKING with GAP accounting. -/
  | holdoverLinesReached (t : Time)
  /-- GAP_PROVISIONAL (R278). 100 µs after a range of untaken object lines began without an ending tick, a provisional KIND 1 GAP record is staged. -/
  | gapProvisional (t : Time)
  /-- COMMIT_GO (R57). A write of GLB_COMMIT.GO requests a commit and sets PENDING. -/
  | commitGo (t : Time) (w : Wr)
  /-- COMMIT_NO_TICK (R60). In STOPPED, IDLE or LOCKING before the first tick, a pending commit takes effect within 1 µs without a tick. -/
  | commitNoTick (t : Time)
  /-- SNAPSHOT_TAKE (R61). A write of GLB_SNAP_CTL.TAKE requests a snapshot at the next tick or merges with a pending one. -/
  | snapshotTake (t : Time) (w : Wr)
  /-- SNAPSHOT_NO_TICK (R61). When no tick fires within 1 µs of a snapshot request, the device takes the snapshot at once. -/
  | snapshotNoTick (t : Time)
  /-- BANK_WRITE (R111). A write to an entry word or length register is accepted into the inactive bank or rejected for bank, state, lock or source. -/
  | bankWrite (t : Time) (off : Nat) (w : Wr)
  /-- SEQ_SWAP_GO (R113). A write of SEQ_SWAP.GO with the owner token freezes the inactive bank and starts its validation. -/
  | seqSwapGo (t : Time) (w : Wr)
  /-- SWAP_VALIDATED (R113). Validation of the submitted bank ends, either arming the swap or setting INVALID and SEQ_BAD. -/
  | swapValidated (t : Time)
  /-- SWAP_NO_TICK (R115). In STOPPED or LOCKING before the first tick, a validated swap takes effect within 1 µs without a tick. -/
  | swapNoTick (t : Time)
  /-- COPY_COMPLETE (R122). The copy of the active bank into the inactive bank ends and COPY_BUSY clears. -/
  | copyComplete (t : Time)
  /-- LOCK_ACQUIRE (R118). A SEQ_LOCK acquire write takes a free lock for its token and source. -/
  | lockAcquire (t : Time) (w : Wr)
  /-- LOCK_RENEW (R118). A SEQ_LOCK renew write from the owner restarts the lease. -/
  | lockRenew (t : Time) (w : Wr)
  /-- LOCK_RELEASE (R122). A SEQ_LOCK release write from the owner frees the lock and restores the inactive bank unless a swap is pending. -/
  | lockRelease (t : Time) (w : Wr)
  /-- LEASE_EXPIRY (R120). The lock lease runs out and the device releases the lock. -/
  | leaseExpiry (t : Time)
  /-- HOLD_TRIG_FIRE (R106). A write of SEQ_HOLD_TRIG.FIRE is a hold trigger from the host. -/
  | holdTrigFire (t : Time) (w : Wr)
  /-- DELAY_EXPIRY (R105). The entry delay in lines or sub-line phases runs out and the entry's first execution starts. -/
  | delayExpiry (t : Time)
  /-- SEQ_RES_UPDATE (R125). After every tile has released the entry's last line of the pass, SEQ_RES is updated and a KIND 1 STAT record is delivered. -/
  | seqResUpdate (t : Time)
  /-- SEQ_RES_READ (R126). A read of SEQ_RES returns the word and clears FRESH. -/
  | seqResRead (t : Time) (n lo nb : Nat)
  /-- CONVERSION_END (R133). A bank finishes converting the line into its slot and signals the end of conversion to the engine. -/
  | conversionEnd (t : Time) (tile : Nat) (xs : List Int)
  /-- SLICE_CHECK_FAIL (R151). A conversion fails its in-service check, writes 0x4000, and the bank acts by its state. -/
  | sliceCheckFail (t : Time) (tile j : Nat)
  /-- ROTATION (R144). At a tick whose line sequence is a nonzero multiple of 4,096, NORMAL banks rotate the calibrating slice. -/
  | rotation (t : Time)
  /-- CAL_RUN_END (R143). A slice calibration run ends, passing with new coefficients or failing with retirement. -/
  | calRunEnd (t : Time) (tile : Nat) (run : CalRun)
  /-- BANK_POWER_DOWN (R148). 2 µs after the last conversion with no converting tick, a bank's converting slices power down. -/
  | bankPowerDown (t : Time) (tile : Nat)
  /-- BANK_WAKE_AHEAD (R148). With LPLL or holdover ticks, the device wakes a sleeping bank at least 450 ns before the tick that converts in it. -/
  | bankWakeAhead (t : Time) (tile : Nat)
  /-- DARK (R166). CAL_CMD GO with CMD DARK makes a dark step pending on the named entry. -/
  | dark (t : Time) (w : Wr)
  /-- FLAT_HG (R166). CAL_CMD GO with CMD FLAT_HG makes an HG flat step pending. -/
  | flatHg (t : Time) (w : Wr)
  /-- FLAT_LG (R166). CAL_CMD GO with CMD FLAT_LG makes an LG flat step pending. -/
  | flatLg (t : Time) (w : Wr)
  /-- APPLY (R177). CAL_CMD GO with CMD APPLY starts installing the candidates of every complete band. -/
  | apply (t : Time) (w : Wr)
  /-- SAVE (R183). CAL_CMD GO with CMD SAVE starts writing the palette in force to flash. -/
  | save (t : Time) (w : Wr)
  /-- RESTORE (R184). CAL_CMD GO with CMD RESTORE loads the valid flash copy with the higher COUNTER, as an APPLY does. -/
  | restore (t : Time) (w : Wr)
  /-- ABORT (R169). CAL_CMD GO with CMD ABORT ends a pending or running step with reason ABORT. -/
  | abort (t : Time) (w : Wr)
  /-- CAL_STEP_START (R166). A pending step starts at the first qualifying execution of its entry after its checks. -/
  | calStepStart (t : Time)
  /-- CAL_STEP_PENDING_TIMEOUT (R166). A pending step fails TIMEOUT after two passes or 1,048,576 ticks without an execution of its entry. -/
  | calStepPendingTimeout (t : Time)
  /-- CAL_STEP_END (R168). Every tile has accumulated 4,096 lines, the coefficients are computed and the step passes or fails. -/
  | calStepEnd (t : Time)
  /-- CAL_STEP_TIMEOUT (R169). 8,192 executions pass without a complete accumulation and the step fails TIMEOUT. -/
  | calStepTimeout (t : Time)
  /-- APPLY_LOAD_END (R179). The four apply ticks end, the new palette is in force and CAL_APPLY_LINE is written. -/
  | applyLoadEnd (t : Time)
  /-- SAVE_END (R183). A palette save ends after write and read-back, succeeding or failing FLASH. -/
  | saveEnd (t : Time) (good : Bool)
  /-- PALETTE_REWRITE_END (R163). The bridge finishes rewriting a tile's palette region from the master copy. -/
  | paletteRewriteEnd (t : Time) (tile : Nat)
  /-- MASTER_RELOAD_END (R164). The reload of a tile from flash after an uncorrectable master-copy error ends. -/
  | masterReloadEnd (t : Time) (tile : Nat)
  /-- JOURNAL_APPEND (R185). A retired-slice journal entry is written to flash. -/
  | journalAppend (t : Time) (good : Bool)
  /-- ADD (R205). Lane-wise add. -/
  | teAdd (t : Time) (e : Nat) (d a b : BitVec 5) (ln pc fl : BitVec 2)
  /-- SUB (R205). Lane-wise subtract. -/
  | teSub (t : Time) (e : Nat) (d a b : BitVec 5) (ln pc fl : BitVec 2)
  /-- ADDS (R205). Lane-wise signed saturating add. -/
  | teAdds (t : Time) (e : Nat) (d a b : BitVec 5) (ln pc fl : BitVec 2)
  /-- ADDUS (R205). Lane-wise unsigned saturating add. -/
  | teAddus (t : Time) (e : Nat) (d a b : BitVec 5) (ln pc fl : BitVec 2)
  /-- SUBS (R205). Lane-wise signed saturating subtract. -/
  | teSubs (t : Time) (e : Nat) (d a b : BitVec 5) (ln pc fl : BitVec 2)
  /-- SUBUS (R205). Lane-wise unsigned saturating subtract. -/
  | teSubus (t : Time) (e : Nat) (d a b : BitVec 5) (ln pc fl : BitVec 2)
  /-- AND (R205). Bitwise AND. -/
  | teAnd (t : Time) (e : Nat) (d a b : BitVec 5) (ln pc fl : BitVec 2)
  /-- OR (R205). Bitwise OR. -/
  | teOr (t : Time) (e : Nat) (d a b : BitVec 5) (ln pc fl : BitVec 2)
  /-- XOR (R205). Bitwise XOR. -/
  | teXor (t : Time) (e : Nat) (d a b : BitVec 5) (ln pc fl : BitVec 2)
  /-- ANDN (R205). Bitwise AND with complement of b. -/
  | teAndn (t : Time) (e : Nat) (d a b : BitVec 5) (ln pc fl : BitVec 2)
  /-- SHL (R205). Lane-wise shift left. -/
  | teShl (t : Time) (e : Nat) (d a b : BitVec 5) (ln pc fl : BitVec 2)
  /-- SHR (R205). Lane-wise logical shift right. -/
  | teShr (t : Time) (e : Nat) (d a b : BitVec 5) (ln pc fl : BitVec 2)
  /-- SAR (R205). Lane-wise arithmetic shift right. -/
  | teSar (t : Time) (e : Nat) (d a b : BitVec 5) (ln pc fl : BitVec 2)
  /-- MIN (R205). Lane-wise signed minimum. -/
  | teMin (t : Time) (e : Nat) (d a b : BitVec 5) (ln pc fl : BitVec 2)
  /-- MAX (R205). Lane-wise signed maximum. -/
  | teMax (t : Time) (e : Nat) (d a b : BitVec 5) (ln pc fl : BitVec 2)
  /-- MINU (R205). Lane-wise unsigned minimum. -/
  | teMinu (t : Time) (e : Nat) (d a b : BitVec 5) (ln pc fl : BitVec 2)
  /-- MAXU (R205). Lane-wise unsigned maximum. -/
  | teMaxu (t : Time) (e : Nat) (d a b : BitVec 5) (ln pc fl : BitVec 2)
  /-- ABSD (R205). Lane-wise absolute difference. -/
  | teAbsd (t : Time) (e : Nat) (d a b : BitVec 5) (ln pc fl : BitVec 2)
  /-- AVGU (R205). Lane-wise unsigned rounded average. -/
  | teAvgu (t : Time) (e : Nat) (d a b : BitVec 5) (ln pc fl : BitVec 2)
  /-- BSEL (R205). Bitwise select by mask in d. -/
  | teBsel (t : Time) (e : Nat) (d a b : BitVec 5) (ln pc fl : BitVec 2)
  /-- MUL (R205). Lane-wise low product. -/
  | teMul (t : Time) (e : Nat) (d a b : BitVec 5) (ln pc fl : BitVec 2)
  /-- MULHS (R205). Lane-wise high signed product. -/
  | teMulhs (t : Time) (e : Nat) (d a b : BitVec 5) (ln pc fl : BitVec 2)
  /-- MULHU (R205). Lane-wise high unsigned product. -/
  | teMulhu (t : Time) (e : Nat) (d a b : BitVec 5) (ln pc fl : BitVec 2)
  /-- MAC (R205). Lane-wise multiply-accumulate. -/
  | teMac (t : Time) (e : Nat) (d a b : BitVec 5) (ln pc fl : BitVec 2)
  /-- CMP (R206). Lane-wise compare writing a mask and a flag. -/
  | teCmp (t : Time) (e : Nat) (fn d a b : BitVec 5) (ln pc fl : BitVec 2)
  /-- UNPKLU (R207). Unpack low lanes, zero-extended. -/
  | teUnpklu (t : Time) (e : Nat) (d a b : BitVec 5) (ln pc fl : BitVec 2)
  /-- UNPKHU (R207). Unpack high lanes, zero-extended. -/
  | teUnpkhu (t : Time) (e : Nat) (d a b : BitVec 5) (ln pc fl : BitVec 2)
  /-- UNPKLS (R207). Unpack low lanes, sign-extended. -/
  | teUnpkls (t : Time) (e : Nat) (d a b : BitVec 5) (ln pc fl : BitVec 2)
  /-- UNPKHS (R207). Unpack high lanes, sign-extended. -/
  | teUnpkhs (t : Time) (e : Nat) (d a b : BitVec 5) (ln pc fl : BitVec 2)
  /-- PACKUS (R207). Pack with unsigned saturation. -/
  | tePackus (t : Time) (e : Nat) (d a b : BitVec 5) (ln pc fl : BitVec 2)
  /-- PACKSS (R207). Pack with signed saturation. -/
  | tePackss (t : Time) (e : Nat) (d a b : BitVec 5) (ln pc fl : BitVec 2)
  /-- PACKT (R207). Pack by truncation. -/
  | tePackt (t : Time) (e : Nat) (d a b : BitVec 5) (ln pc fl : BitVec 2)
  /-- HADDU (R207). Horizontal unsigned lane sum. -/
  | teHaddu (t : Time) (e : Nat) (d a b : BitVec 5) (ln pc fl : BitVec 2)
  /-- HADDS (R207). Horizontal signed lane sum. -/
  | teHadds (t : Time) (e : Nat) (d a b : BitVec 5) (ln pc fl : BitVec 2)
  /-- SPLAT (R207). Broadcast lane 0 to every lane. -/
  | teSplat (t : Time) (e : Nat) (d a b : BitVec 5) (ln pc fl : BitVec 2)
  /-- CLZ (R207). Lane-wise leading zero count. -/
  | teClz (t : Time) (e : Nat) (d a b : BitVec 5) (ln pc fl : BitVec 2)
  /-- POPC (R207). Lane-wise population count. -/
  | tePopc (t : Time) (e : Nat) (d a b : BitVec 5) (ln pc fl : BitVec 2)
  /-- ADDI (R208). Add sign-extended immediate. -/
  | teAddi (t : Time) (e : Nat) (d a : BitVec 5) (imm : BitVec 16)
  /-- ANDI (R208). AND with zero-extended immediate. -/
  | teAndi (t : Time) (e : Nat) (d a : BitVec 5) (imm : BitVec 16)
  /-- ORI (R208). OR with zero-extended immediate. -/
  | teOri (t : Time) (e : Nat) (d a : BitVec 5) (imm : BitVec 16)
  /-- XORI (R208). XOR with zero-extended immediate. -/
  | teXori (t : Time) (e : Nat) (d a : BitVec 5) (imm : BitVec 16)
  /-- LUI (R208). Load shifted immediate. -/
  | teLui (t : Time) (e : Nat) (d a : BitVec 5) (imm : BitVec 16)
  /-- SHLI (R208). Lane-wise shift left by immediate. -/
  | teShli (t : Time) (e : Nat) (d a : BitVec 5) (imm : BitVec 16)
  /-- SHRI (R208). Lane-wise logical shift right by immediate. -/
  | teShri (t : Time) (e : Nat) (d a : BitVec 5) (imm : BitVec 16)
  /-- SARI (R208). Lane-wise arithmetic shift right by immediate. -/
  | teSari (t : Time) (e : Nat) (d a : BitVec 5) (imm : BitVec 16)
  /-- EXTU (R208). Extract bit field, zero-extended. -/
  | teExtu (t : Time) (e : Nat) (d a : BitVec 5) (imm : BitVec 16)
  /-- EXTS (R208). Extract bit field, sign-extended. -/
  | teExts (t : Time) (e : Nat) (d a : BitVec 5) (imm : BitVec 16)
  /-- CMPI (R208). Compare with immediate and set a flag. -/
  | teCmpi (t : Time) (e : Nat) (d a : BitVec 5) (imm : BitVec 16)
  /-- LINFO (R217). Return selected information about the line in a slot. -/
  | teLinfo (t : Time) (e : Nat) (d a : BitVec 5) (imm : BitVec 16)
  /-- LD64 (R209). Load 64 bits. -/
  | teLd64 (t : Time) (e : Nat) (d a : BitVec 5) (imm : BitVec 16)
  /-- LD32U (R209). Load 32 bits zero-extended. -/
  | teLd32u (t : Time) (e : Nat) (d a : BitVec 5) (imm : BitVec 16)
  /-- LD32S (R209). Load 32 bits sign-extended. -/
  | teLd32s (t : Time) (e : Nat) (d a : BitVec 5) (imm : BitVec 16)
  /-- LD16U (R209). Load 16 bits zero-extended. -/
  | teLd16u (t : Time) (e : Nat) (d a : BitVec 5) (imm : BitVec 16)
  /-- LD16S (R209). Load 16 bits sign-extended. -/
  | teLd16s (t : Time) (e : Nat) (d a : BitVec 5) (imm : BitVec 16)
  /-- LD8U (R209). Load 8 bits zero-extended. -/
  | teLd8u (t : Time) (e : Nat) (d a : BitVec 5) (imm : BitVec 16)
  /-- LD8S (R209). Load 8 bits sign-extended. -/
  | teLd8s (t : Time) (e : Nat) (d a : BitVec 5) (imm : BitVec 16)
  /-- ST64 (R209). Store 64 bits. -/
  | teSt64 (t : Time) (e : Nat) (d a : BitVec 5) (imm : BitVec 16)
  /-- ST32 (R209). Store 32 bits. -/
  | teSt32 (t : Time) (e : Nat) (d a : BitVec 5) (imm : BitVec 16)
  /-- ST16 (R209). Store 16 bits. -/
  | teSt16 (t : Time) (e : Nat) (d a : BitVec 5) (imm : BitVec 16)
  /-- ST8 (R209). Store 8 bits. -/
  | teSt8 (t : Time) (e : Nat) (d a : BitVec 5) (imm : BitVec 16)
  /-- PLD (R221). Palette pair load with complement check. -/
  | tePld (t : Time) (e : Nat) (d a : BitVec 5) (imm : BitVec 16)
  /-- BR (R210). Unconditional branch. -/
  | teBr (t : Time) (e : Nat) (d a : BitVec 5) (imm : BitVec 16)
  /-- BF (R210). Branch if flag set. -/
  | teBf (t : Time) (e : Nat) (d a : BitVec 5) (imm : BitVec 16)
  /-- BNF (R210). Branch if flag clear. -/
  | teBnf (t : Time) (e : Nat) (d a : BitVec 5) (imm : BitVec 16)
  /-- LOOP (R210). Decrement a loop counter and branch while nonzero. -/
  | teLoop (t : Time) (e : Nat) (d a : BitVec 5) (imm : BitVec 16)
  /-- CALL (R210). Branch and save the return index. -/
  | teCall (t : Time) (e : Nat) (d a : BitVec 5) (imm : BitVec 16)
  /-- LCSET (R210). Set a loop counter. -/
  | teLcset (t : Time) (e : Nat) (d a : BitVec 5) (imm : BitVec 16)
  /-- NOP (R211). Tile engine no operation. -/
  | teNop (t : Time) (e : Nat) (d a b : BitVec 5) (ln pc fl : BitVec 2)
  /-- MFS (R211). Read a special register. -/
  | teMfs (t : Time) (e : Nat) (d a b : BitVec 5) (ln pc fl : BitVec 2)
  /-- MTS (R211). Write a special register. -/
  | teMts (t : Time) (e : Nat) (d a b : BitVec 5) (ln pc fl : BitVec 2)
  /-- HB (R211). Emit a heartbeat to the stripe monitor. -/
  | teHb (t : Time) (e : Nat) (d a b : BitVec 5) (ln pc fl : BitVec 2)
  /-- KB (R211). Kernel boundary with the throttle pause. -/
  | teKb (t : Time) (e : Nat) (d a b : BitVec 5) (ln pc fl : BitVec 2)
  /-- BRK (R211). Raise TRAP with a code. -/
  | teBrk (t : Time) (e : Nat) (d a b : BitVec 5) (ln pc fl : BitVec 2)
  /-- RET (R211). Return to the index in a register. -/
  | teRet (t : Time) (e : Nat) (d a b : BitVec 5) (ln pc fl : BitVec 2)
  /-- LACQ (R214). Acquire the next line after its conversion ends. -/
  | teLacq (t : Time) (e : Nat) (d a b : BitVec 5) (ln pc fl : BitVec 2)
  /-- LACQE (R214). Acquire the next line when its conversion starts. -/
  | teLacqe (t : Time) (e : Nat) (d a b : BitVec 5) (ln pc fl : BitVec 2)
  /-- LWAIT (R214). Wait for the end of conversion of a held slot. -/
  | teLwait (t : Time) (e : Nat) (d a b : BitVec 5) (ln pc fl : BitVec 2)
  /-- LWAITF (R214). Wait for the end of given conversion frames of a held slot. -/
  | teLwaitf (t : Time) (e : Nat) (d a b : BitVec 5) (ln pc fl : BitVec 2)
  /-- LREL (R214). Release a slot and end the line, running the drift routine for a reference line. -/
  | teLrel (t : Time) (e : Nat) (d a b : BitVec 5) (ln pc fl : BitVec 2)
  /-- LTEST (R214). Test whether a slot is held and not revoked. -/
  | teLtest (t : Time) (e : Nat) (d a b : BitVec 5) (ln pc fl : BitVec 2)
  /-- LKILL (R214). End a held line FAILED with a kernel code and release it. -/
  | teLkill (t : Time) (e : Nat) (d a b : BitVec 5) (ln pc fl : BitVec 2)
  /-- NSENDW (R222). Push a word toward the west neighbour. -/
  | teNsendw (t : Time) (e : Nat) (d a b : BitVec 5) (ln pc fl : BitVec 2)
  /-- NSENDE (R222). Push a word toward the east neighbour. -/
  | teNsende (t : Time) (e : Nat) (d a b : BitVec 5) (ln pc fl : BitVec 2)
  /-- NRECVW (R222). Receive a word from the west neighbour. -/
  | teNrecvw (t : Time) (e : Nat) (d a b : BitVec 5) (ln pc fl : BitVec 2)
  /-- NRECVE (R222). Receive a word from the east neighbour. -/
  | teNrecve (t : Time) (e : Nat) (d a b : BitVec 5) (ln pc fl : BitVec 2)
  /-- NB_TIMEOUT (R223). A neighbour instruction blocked for the timeout completes and sets NST. -/
  | nbTimeout (t : Time) (e : Nat)
  /-- RSEND (R226). Send a staged record through the record port with tile fields set to t. -/
  | teRsend (t : Time) (e : Nat) (d a b : BitVec 5) (ln pc fl : BitVec 2)
  /-- RSENDT (R226). Send a staged record keeping the staged tile fields. -/
  | teRsendt (t : Time) (e : Nat) (d a b : BitVec 5) (ln pc fl : BitVec 2)
  /-- RTRY (R226). Send a record only if the queue has room, setting a flag. -/
  | teRtry (t : Time) (e : Nat) (d a b : BitVec 5) (ln pc fl : BitVec 2)
  /-- RTRYT (R226). As RTRY, keeping the staged tile fields. -/
  | teRtryt (t : Time) (e : Nat) (d a b : BitVec 5) (ln pc fl : BitVec 2)
  /-- BLOCKED_HEARTBEAT (R234). Every 1 µs while blocked an engine emits a heartbeat. -/
  | blockedHeartbeat (t : Time) (e : Nat)
  /-- ENGINE_HANG (R234). A RUNNING slot emits no heartbeat for 10 µs and the monitor raises HANG or HANG_DEAD. -/
  | engineHang (t : Time) (e : Nat)
  /-- PORT_CHECK_FAIL (R233). An internal check of a record port or neighbour FIFO fails and raises PORT, class H. -/
  | portCheckFail (t : Time) (e : Nat)
  /-- ENGINE_RESTART_END (R235). The restart after a class K exception completes and the slot runs again or parks. -/
  | engineRestartEnd (t : Time) (e : Nat)
  /-- SPARE_LOAD_END (R475). The spare slot finishes loading for the retired slot's tile and becomes RUNNING. -/
  | spareLoadEnd (t : Time) (e : Nat)
  /-- RESTART_ALL (R237). A write of TE_CTL.RESTART_ALL restarts every PARKED slot. -/
  | restartAll (t : Time) (w : Wr)
  /-- TE_LOAD_GO (R239). A write of TE_LOAD.GO starts loading the staged kernel image or sets DENIED. -/
  | teLoadGo (t : Time) (w : Wr)
  /-- TE_LOAD_END (R239). The kernel image load of every slot ends and BUSY clears. -/
  | teLoadEnd (t : Time)
  /-- TE_CYCLES_CLEAR (R232). A write of TE_CYCLES.CLEAR sets MAX and SLOT to 0. -/
  | teCyclesClear (t : Time) (w : Wr)
  /-- STAT_COMBINE (R268). Once every tile of the window has released or ended a line, the device delivers the combined STAT record. -/
  | statCombine (t : Time) (line : Nat)
  /-- CLOSE (R279). When all records up to line C are delivered and its lock window has passed, a CLOSE EVENT is sent on the channel. -/
  | close (t : Time) (ch : Nat)
  /-- CLASS_C_DROP (R298). A class C record whose deadline has passed unsent is dropped from its slot queue. -/
  | classCDrop (t : Time) (e : Nat)
  /-- RECORD_REASSEMBLED (R287). The bridge reassembles a whole record from its flits, checks it and puts it in the egress buffer. -/
  | recordReassembled (t : Time) (src : Nat) (ue bad : Bool)
  /-- SLACK_CLEAR (R306). A write of RF_CH_SLACK.CLEAR resets MIN. -/
  | slackClear (t : Time) (ch : Nat) (w : Wr)
  /-- EGRESS_WRITE (R330). The bridge writes a record from the egress buffer into its channel's host ring. -/
  | egressWrite (t : Time) (ch : Nat) (ue : Bool)
  /-- STARVED_DROP (R331). A class C record that has waited C_GRACE on a starved ring is dropped with a GAP 0x07 record. -/
  | starvedDrop (t : Time) (ch : Nat)
  /-- WRITEBACK (R327). The device writes the completion word when a byte, age, buffer or state condition holds. -/
  | writeback (t : Time) (ch : Nat)
  /-- IRQ_HOLDOFF_END (R329). The MSI-X holdoff of a channel ends and a withheld message is sent. -/
  | irqHoldoffEnd (t : Time) (ch : Nat)
  /-- RING_START (R333). RF_CH_RING_CTL.START checks the addresses and moves an IDLE ring to RUNNING. -/
  | ringStart (t : Time) (ch : Nat) (w : Wr)
  /-- RING_START_EFFECT (R334). The START takes effect at the start tick, or at once when no tick fires within 1 µs. -/
  | ringStartEffect (t : Time) (ch : Nat)
  /-- RING_STOP (R333). RF_CH_RING_CTL.STOP moves a RUNNING ring to STOPPING or a FAULT ring to IDLE. -/
  | ringStop (t : Time) (ch : Nat) (w : Wr)
  /-- STOPPING_DRAINED (R333). All records of carried lines are written and the STOPPING ring goes IDLE with a CLOSE. -/
  | stoppingDrained (t : Time) (ch : Nat)
  /-- STOPPING_TIMEOUT (R333). 1 ms after STOP the ring goes IDLE and discards records still unwritten. -/
  | stoppingTimeout (t : Time) (ch : Nat)
  /-- TAIL_WRITE (R321). A write of RF_CH_TAIL posts descriptors or is rejected. -/
  | tailWrite (t : Time) (ch : Nat) (w : Wr)
  /-- DESCRIPTOR_FETCH_DONE (R322). A descriptor fetch completes, times out or fails, possibly sending the ring to FAULT. -/
  | descriptorFetchDone (t : Time) (ch : Nat) (r : FetchEnd)
  /-- BUS_MASTER_DISABLE (R333). Clearing Bus Master Enable sends every RUNNING ring to FAULT with code 5. -/
  | busMasterDisable (t : Time)
  /-- CONFIG_REQUEST (R309). A PCIe configuration request completes or receives Request Retry Status. -/
  | configRequest (t : Time) (req : CfgReq)
  /-- BAR0_OVERLONG_READ (R312). A BAR0 read longer than 8 bytes or crossing an 8-byte boundary completes with Completer Abort. -/
  | bar0OverlongRead (t : Time) (off nb : Nat)
  /-- BAR2_WRITE (R315). A BAR2 write lands in a staging region or is discarded and counted. -/
  | bar2Write (t : Time) (off nb : Nat) (v : W64)
  /-- FLR (R342). A function-level reset resets the host-link registers, idles every ring and releases a local lock. -/
  | flr (t : Time)
  /-- FLR_COMPLETE (R343). The FLR completes within 1 ms and configuration requests are answered again. -/
  | flrComplete (t : Time)
  /-- HOT_RESET (R342). A hot reset acts on the host link as the table of R342 gives. -/
  | hotReset (t : Time)
  /-- LINK_DOWN (R342). The PCIe link goes down and acts on the host link as R342 gives. -/
  | linkDown (t : Time)
  /-- PCIE_PERST_N (R342). Assertion of PCIE_PERST_N resets configuration space and the host-link state. -/
  | pciePerstN (t : Time)
  /-- D3HOT_ENTRY (R344). Entry into D3hot stops every ring as FLR does. -/
  | d3hotEntry (t : Time)
  /-- RWIN_SEL_WRITE (R341). A write of RF_RWIN_SEL selects the remote window target or is rejected while a read is outstanding. -/
  | rwinSelWrite (t : Time) (w : Wr)
  /-- REMOTE_WINDOW_WRITE (R338). A write into the remote window is forwarded to the selected device or refused. -/
  | remoteWindowWrite (t : Time) (x : Nat) (w : Wr)
  /-- REMOTE_WINDOW_READ (R339). A read of the remote window is forwarded to the selected device or refused. -/
  | remoteWindowRead (t : Time) (x nb : Nat)
  /-- REMOTE_READ_TIMEOUT (R340). A remote read with no answer after 20 µs completes with all ones. -/
  | remoteReadTimeout (t : Time)
  /-- REF_ABSENT (R351). A reference source shows no edge for 200 ns and is declared absent. -/
  | refAbsent (t : Time) (r : BitVec 2)
  /-- REF_PRESENT (R351). An absent source shows 100 µs of edges and is present again. -/
  | refPresent (t : Time) (r : BitVec 2)
  /-- REF_MONITOR_MEASURE (R351). Every 1 ms the monitor measures LREF against the PCIe reference and sets or clears FAILOVER_BLOCKED. -/
  | refMonitorMeasure (t : Time) (ppm : Int)
  /-- CPLL_LOSS_OF_LOCK (R357). The CPLL lock monitor declares loss of lock and all CPLL domains are gated. -/
  | cpllLossOfLock (t : Time) (loss : LockLoss)
  /-- RELOCK_TIMEOUT (R352). The CPLL has not locked 20 µs into a relock and the device fails over or retries. -/
  | relockTimeout (t : Time)
  /-- CPLL_LOCK (R356). The CPLL declares lock, array time is restored and the domains are ungated. -/
  | cpllLock (t : Time)
  /-- INTERRUPTION_END (R359). The post-relock drain pulse ends, the tick generator is armed and the interruption ends. -/
  | interruptionEnd (t : Time)
  /-- INTERRUPTION_LONG (R360). A clock interruption passes 40 µs, HEALTH becomes 2 and READY_N is released. -/
  | interruptionLong (t : Time)
  /-- GATED_ACCESS_TIMEOUT (R360). A BAR access to a gated CPLL block waits 45 µs and then returns 0 or is discarded. -/
  | gatedAccessTimeout (t : Time)
  /-- REVERT (R353). A write of CLK_REF.REVERT returns to the primary with a CPLL interruption, or is refused. -/
  | revert (t : Time) (w : Wr)
  /-- CLK_REF_SRC_WRITE (R353). A write that changes CLK_REF.SRC changes the primary and may switch the reference. -/
  | clkRefSrcWrite (t : Time) (w : Wr)
  /-- APLL_LOSS_OF_LOCK (R363). The APLL loses lock and its domains are gated. -/
  | apllLossOfLock (t : Time)
  /-- APLL_LOCK (R363). The APLL relocks, its domains resume and ENC_SUSPECT is set. -/
  | apllLock (t : Time)
  /-- ASYNC_EDGE (R373). An ASYNC edge arrives and, if accepted, resets the sample-class dividers. -/
  | asyncEdge (t : Time)
  /-- FIRE (R374). A write of CLK_ASYNC.FIRE in OUT_MODE 2 drives an ASYNC pulse that also acts as an edge. -/
  | fire (t : Time) (w : Wr)
  /-- CLK_OUT_WRITE (R376). A write of CLK_OUT starts, stops or changes a CLKOUT output without a short pulse. -/
  | clkOutWrite (t : Time) (j : Nat) (w : Wr)
  /-- INPUT_EDGE (R382). An accepted pin-engine input edge is stamped and counted and may latch an index. -/
  | inputEdge (t : Time) (e : Nat) (es : List PinEdge)
  /-- PX_NOP (R393). Pin engine no operation. -/
  | pxNop (t : Time) (e : Nat)
  /-- PX_WAITE (R393). Block until an edge on the masked inputs. -/
  | pxWaite (t : Time) (e : Nat) (mask : BitVec 4) (edge : BitVec 2)
  /-- PX_WAITL (R393). Block until an input is at a level. -/
  | pxWaitl (t : Time) (e : Nat) (i : BitVec 2) (level : Bool)
  /-- PX_WAITC (R393). Block until a counter condition holds. -/
  | pxWaitc (t : Time) (e : Nat) (a b c cond : BitVec 2)
  /-- PX_CNT (R388). Set a counter's counting mode. -/
  | pxCnt (t : Time) (e : Nat) (k : BitVec 2) (mode : BitVec 3) (a b x : BitVec 2) (xen : Bool) (eng : BitVec 3)
  /-- PX_LDI (R393). Load a counter with an immediate. -/
  | pxLdi (t : Time) (e : Nat) (k : BitVec 2) (imm : BitVec 24)
  /-- PX_ADDI (R393). Add an immediate to a counter. -/
  | pxAddi (t : Time) (e : Nat) (k : BitVec 2) (imm : BitVec 24)
  /-- PX_CALC (R393). Counter arithmetic MOV, ADD, SUB, ADV or NEG. -/
  | pxCalc (t : Time) (e : Nat) (d a b : BitVec 2) (op : BitVec 3)
  /-- PX_JMP (R393). Conditional jump. -/
  | pxJmp (t : Time) (e : Nat) (cond : BitVec 3) (n : BitVec 2) (target : BitVec 5)
  /-- PX_OUT (R393). Set an output level. -/
  | pxOut (t : Time) (e : Nat) (o act : BitVec 2)
  /-- PX_DLY (R393). Wait a number of engine cycles. -/
  | pxDly (t : Time) (e : Nat) (src : Bool) (k : BitVec 2) (n : BitVec 24)
  /-- PX_SHIN (R393). Shift bits into SH. -/
  | pxShin (t : Time) (e : Nat) (i : BitVec 2) (clk : Bool) (ci : BitVec 2) (n : BitVec 6)
  /-- PX_SHOUT (R393). Shift SH bits out on an output. -/
  | pxShout (t : Time) (e : Nat) (o : BitVec 2) (clk : Bool) (ci : BitVec 2) (n : BitVec 6)
  /-- PX_XSH (R393). Move between SH and a counter. -/
  | pxXsh (t : Time) (e : Nat) (op k : BitVec 2)
  /-- PX_GET (R400). Take a value from PX_IN when full. -/
  | pxGet (t : Time) (e : Nat) (dst : Bool) (k : BitVec 2) (w j : Bool)
  /-- PX_PUT (R399). Update a PX_DATA register. -/
  | pxPut (t : Time) (e : Nat) (m : BitVec 2) (src : BitVec 3) (i : BitVec 2)
  /-- PX_EVT (R396). Emit an event to the tick generator, sequencer and engine inputs. -/
  | pxEvt (t : Time) (e : Nat) (imm : Bool)
  /-- PX_CAP (R397). Stage a capture EVENT record on the capture stream. -/
  | pxCap (t : Time) (e : Nat) (src : BitVec 3) (i : BitVec 2)
  /-- PX_IRQ (R398). Raise a host event with a code. -/
  | pxIrq (t : Time) (e : Nat) (code : Byte)
  /-- PX_HALT (R393). Stop the pin engine. -/
  | pxHalt (t : Time) (e : Nat)
  /-- PX_START (R404). A write of PX_CTL.START starts a stopped or faulted engine. -/
  | pxStart (t : Time) (e : Nat) (w : Wr)
  /-- PX_STOP (R402). A write of PX_CTL.STOP requests the engine to stop. -/
  | pxStop (t : Time) (e : Nat) (w : Wr)
  /-- PX_STOP_EFFECT (R402). At the next engine cycle boundary the engine stops and abandons a blocked instruction. -/
  | pxStopEffect (t : Time) (e : Nat)
  /-- PX_IN_WRITE (R400). A write of PX_IN sets its full flag or is rejected while full. -/
  | pxInWrite (t : Time) (e j : Nat) (w : Wr)
  /-- PX_CONFIG_WRITE (R403). A write to a pin engine program or configuration register is applied only when the engine is not RUNNING. -/
  | pxConfigWrite (t : Time) (off : Nat) (w : Wr)
  /-- PX_DATA_READ (R399). A read of PX_DATA returns the word and clears FRESH. -/
  | pxDataRead (t : Time) (e m lo nb : Nat)
  /-- PORT_UP (R414). A Hinge port finishes training and latency padding and becomes UP, or LONG. -/
  | portUp (t : Time) (port : Bool)
  /-- MARK (R413). A MARK frame is received and returned or measured. -/
  | mark (t : Time) (port : Bool) (returned : Bool) (echo : W64) (rtt : Nat)
  /-- HEARTBEAT_SEND (R415). Every 1 µs the device sends a HEARTBEAT on both ports. -/
  | heartbeatSend (t : Time)
  /-- HEARTBEAT (R415). A HEARTBEAT frame is received; position is taken and array time slewed. -/
  | heartbeat (t : Time) (port : Bool) (high : BitVec 6) (aligned posValid : Bool) (src : BitVec 6) (time : W64) (diff : Int)
  /-- PARTNER_LOST (R423). No valid heartbeat for 4 µs declares the partner lost and sends a LOSS frame. -/
  | partnerLost (t : Time) (port : Bool)
  /-- PARTNER_REJOIN (R423). The port is UP again with 100 µs of heartbeats and the partner rejoins. -/
  | partnerRejoin (t : Time) (port : Bool)
  /-- REF (R417). A REF frame delivers a relayed line reference stamp and is forwarded. -/
  | ref (t : Time) (port : Bool) (src : BitVec 6) (stamp : W64)
  /-- TRIG (R421). A TRIG frame delivers a relayed direct-mode trigger and is forwarded. -/
  | trig (t : Time) (port : Bool) (src : BitVec 6) (stamp : W64)
  /-- BCAST (R428). A BCAST frame updates HNG_BCAST_RX and is forwarded. -/
  | bcast (t : Time) (port : Bool) (src : BitVec 6) (v : W32)
  /-- BARRIER_GATHER (R429). A barrier gather frame travels toward the root, adding entered devices. -/
  | barrierGather (t : Time) (port : Bool) (src : BitVec 6) (id : Byte) (n : BitVec 7)
  /-- BARRIER_RELEASE (R429). A barrier release frame clears WAITING and sets DONE. -/
  | barrierRelease (t : Time) (port : Bool) (src : BitVec 6) (id : Byte) (n : BitVec 7)
  /-- SCHED (R431). A SCHED frame arms a scheduled snapshot, commit or reset, or is discarded as conflict or late. -/
  | sched (t : Time) (port : Bool) (src : BitVec 6) (op : BitVec 2) (dest : BitVec 6) (all : Bool) (at' : W64)
  /-- SCHED_DEADLINE (R431). 1 µs after T without a tick, an armed scheduled operation executes. -/
  | schedDeadline (t : Time)
  /-- MNT_RD (R435). A maintenance read frame for this device reads a BAR0 register and answers. -/
  | mntRd (t : Time) (port : Bool) (src dest : BitVec 6) (req : BitVec 11) (acc : Access)
  /-- MNT_WR (R435). A maintenance write frame with its data writes a BAR0 register here. -/
  | mntWr (t : Time) (port : Bool) (src dest : BitVec 6) (req : BitVec 11) (acc : Access) (v : W64)
  /-- MNT_DATA (R435). A maintenance data frame completes an outstanding remote read. -/
  | mntData (t : Time) (port : Bool) (src dest : BitVec 6) (req : BitVec 11) (err : Bool) (v : W64)
  /-- LOSS (R424). A LOSS frame sets or clears HNG_LOST bits and raises vector 24. -/
  | loss (t : Time) (port : Bool) (src : BitVec 6) (lost : Bool) (pos : BitVec 6)
  /-- PCIE_EVT (R436). A PCIE_EVT frame releases a sequence lock owned by the issuing position. -/
  | pcieEvt (t : Time) (port : Bool) (src : BitVec 6) (kind : BitVec 2)
  /-- HNG_BCAST_TX (R428). A write of HNG_BCAST_TX sends a broadcast value. -/
  | hngBcastTx (t : Time) (w : Wr)
  /-- BCAST_RX_READ (R428). A read of HNG_BCAST_RX returns the word and clears FRESH. -/
  | bcastRxRead (t : Time) (lo nb : Nat)
  /-- BARRIER_ENTER (R429). A write of HNG_BARRIER.ENTER enters a barrier ID. -/
  | barrierEnter (t : Time) (w : Wr)
  /-- SCHED_GO (R430). A write of HNG_SCHED_CTL.GO schedules an operation at time T on every reachable device. -/
  | schedGo (t : Time) (w : Wr)
  /-- MNT_READ (R435). HNG_MNT_CTL GO with WRITE = 0 issues a remote read. -/
  | mntRead (t : Time) (w : Wr)
  /-- MNT_WRITE (R435). HNG_MNT_CTL GO with WRITE = 1 issues a remote write. -/
  | mntWrite (t : Time) (w : Wr)
  /-- MNT_TIMEOUT (R435). A maintenance access with no answer after 20 µs ends with ERR. -/
  | mntTimeout (t : Time)
  /-- MOD_RESET_N_ASSERT (R438). MOD_RESET_N goes low and holds the whole module in reset. -/
  | modResetNAssert (t : Time)
  /-- MOD_RESET_N_RELEASE (R439). MOD_RESET_N is released, the straps are sampled and boot begins. -/
  | modResetNRelease (t : Time) (sel : BitVec 2)
  /-- RESET_STAGE_END (R441). The APLL locks and the boot enters ROM. -/
  | resetStageEnd (t : Time)
  /-- ROM_STAGE_END (R447). OTP classification and patching end and the boot enters FLASH. -/
  | romStageEnd (t : Time)
  /-- FLASH_STAGE_END (R454). The flash descriptor is read, octal DDR set, and the boot enters WARD. -/
  | flashStageEnd (t : Time) (readOk : Bool)
  /-- WARD_END (R458). Ward verification of a slot ends, passing to FIRMWARE or failing the slot. -/
  | wardEnd (t : Time) (readOk : Bool)
  /-- FIRMWARE_STAGE_END (R441). The firmware self-test ends and the boot enters CANVAS, or MAINT_WAIT on failure. -/
  | firmwareStageEnd (t : Time) (readOk testOk : Bool)
  /-- CANVAS_STAGE_END (R460). The canvas is validated and the boot enters PALETTE, or the slot fails 0x0B. -/
  | canvasStageEnd (t : Time) (readOk : Bool)
  /-- PALETTE_STAGE_END (R510). Palette, journal and shutdown record are read and the boot enters READOUT. -/
  | paletteStageEnd (t : Time) (readOk : Bool)
  /-- READOUT_STAGE_END (R461). Readout bring-up, loads, calibration and presets end and the device changes to RUN. -/
  | readoutStageEnd (t : Time) (runs : List (Nat × Nat × CalRun)) (badSlots : List Nat)
  /-- READOUT_BRINGUP_TIMEOUT (R444). The CPLL does not lock within 20 ms in READOUT and the device enters MAINT_WAIT with error 0x0D. -/
  | readoutBringupTimeout (t : Time)
  /-- ATTEST (R466). Mailbox ATTEST makes a signed attestation report. -/
  | attest (t : Time) (w : Wr)
  /-- FLASH_READ (R464). Mailbox FLASH_READ returns flash data. -/
  | flashRead (t : Time) (w : Wr)
  /-- FLASH_ERASE (R465). Mailbox FLASH_ERASE erases permitted flash sectors. -/
  | flashErase (t : Time) (w : Wr)
  /-- FLASH_WRITE (R465). Mailbox FLASH_WRITE programs permitted flash pages. -/
  | flashWrite (t : Time) (w : Wr)
  /-- VERIFY_SLOT (R464). Mailbox VERIFY_SLOT runs the ward and canvas checks on a slot without loading it. -/
  | verifySlot (t : Time) (w : Wr)
  /-- OTP_BURN (R452). Mailbox OTP_BURN checks a signed patch package and burns its entries. -/
  | otpBurn (t : Time) (w : Wr) (fail : List (Nat × BitVec 256 × BitVec 256))
  /-- OTP_READ (R464). Mailbox OTP_READ returns an entry read with both references. -/
  | otpRead (t : Time) (w : Wr)
  /-- OTP_REBURN (R453). Mailbox OTP_REBURN reburns a WEAK entry and reclassifies it. -/
  | otpReburn (t : Time) (w : Wr) (n m : BitVec 256)
  /-- REBOOT (R464). Mailbox REBOOT acts as a reset with a one-boot strap selection. -/
  | reboot (t : Time) (w : Wr)
  /-- MAILBOX_COMMAND_END (R463). A mailbox command ends, writes its response and RESULT, and raises vector 27. -/
  | mailboxCommandEnd (t : Time) (flashOk : Bool)
  /-- PAIR_SCRUB (R470). The scrubber checks every stored PW pair at least every 10 µs. -/
  | pairScrub (t : Time)
  /-- PAIR_REPAIR (R469). The supervisor rewrites a mismatched pair from its copy and logs it. -/
  | pairRepair (t : Time) (off : Nat) (shadow : Bool)
  /-- LOCKSTEP_MISMATCH (R485). The supervisor cores disagree and the firmware restarts from state memory, or FAULTED is entered. -/
  | lockstepMismatch (t : Time)
  /-- SUPERVISOR_RESTART_END (R485). The supervisor restart ends and queued device records are staged. -/
  | supervisorRestartEnd (t : Time)
  /-- SUPERVISOR_RESTART_TIMEOUT (R486). A supervisor restart not ended within 30 µs puts the device into FAULTED. -/
  | supervisorRestartTimeout (t : Time)
  /-- STATE_MEMORY_UE (R486). An uncorrectable error in supervisor state memory puts the device into FAULTED. -/
  | stateMemoryUe (t : Time)
  /-- LOG_ENTRY_WRITE (R492). A staged event-log entry is programmed into flash. -/
  | logEntryWrite (t : Time) (good : Bool)
  /-- THERMAL_SAMPLE (R497). Every 250 µs all active sensors are sampled, checked, substituted, and throttle, warning and shutdown are decided. -/
  | thermalSample (t : Time) (rs : List Reading)
  /-- SHUTDOWN_DRAIN_END (R507). 1 ms into shutdown the rings are closed, CPLL domains gated and analogue bias removed. -/
  | shutdownDrainEnd (t : Time)
  /-- SHUTDOWN_RECORD_WRITTEN (R507). The shutdown record is written and read back, then the device power-gates and pulls SHDN_N low. -/
  | shutdownRecordWritten (t : Time) (good : Bool)
  /-- TH_ACK (R500). A write of TH_ACK.ACK clears ACK_REQ. -/
  | thAck (t : Time) (w : Wr)
  /-- REARM (R511). A write of TH_REARM.REARM is accepted or rejected after a shutdown. -/
  | rearm (t : Time) (w : Wr)
  /-- REARM_RECORD_WRITTEN (R511). The KIND 2 rearm record is written, REARM_REQ clears and a pending MODE takes effect. -/
  | rearmRecordWritten (t : Time)
  /-- TH_MAX_CLEAR (R513). A write of TH_MAX.CLEAR resets MAX and SENSOR. -/
  | thMaxClear (t : Time) (w : Wr)
  /-- TH_CTL_WRITE (R502). An accepted write of TH_CTL or TH_TIME restarts the step sample counts. -/
  | thCtlWrite (t : Time) (off : Nat) (w : Wr)
  /-- REGISTER_WRITE (R16). A BAR0 write to a register without a row of its own is accepted or rejected under the PW and register rules. -/
  | registerWrite (t : Time) (off : Nat) (w : Wr)
  /-- ARBITRATION_CYCLE (R292). In every 0.25 ns arbitration cycle each stripe arbiter and the top arbiter form requests, hold contests or preempt, apply backoff and transfer one flit. -/
  | arbitrationCycle (t : Time)
  /-- LINK_UP (R343). The PCIe link trains and the data link layer comes up, setting RF_HOST_LINK.DL_UP, speed and width. -/
  | linkUp (t : Time) (speed width : Nat) (flit : Bool)
  /-- PCIE_PERST_N_RELEASE (R309). Release of PCIE_PERST_N starts the 100 ms window after which configuration requests complete. -/
  | pciePerstNRelease (t : Time)
  /-- POWER_LOSS (R490). A rail sags or is removed, cutting short flash writes and, for VDDIO, clearing the SHDN_N latch. -/
  | powerLoss (t : Time) (vddio : Bool)
  /-- INTERNAL_RESET_RELEASE (R438). The internal reset of a REBOOT, a slot fallback or a scheduled Hinge reset ends after its 10 µs and the boot starts at stage RESET with the stored strap selection. -/
  | internalResetRelease (t : Time)
  /-- FRAME_DISCARD (R410). A Hinge frame whose two lane copies both fail their CRC, or of a reserved type, is discarded and counted in HNG_LINK_ERR.FRAME. -/
  | frameDiscard (t : Time) (port : Bool) (lanes : BitVec 2)
  /-- ILLEGAL_OPCODE (R198). A tile engine executes an instruction word whose opcode is not listed, such as the 0xFFFF_FFFF fill, and raises ILLEGAL. -/
  | illegalOpcode (t : Time) (e : Nat) (w : W32)
  /-- PX_ILLEGAL_INSTRUCTION (R393). A pin engine executes opcode 0x14 to 0x1F or a word with a reserved field and enters FAULT with CAUSE 1. -/
  | pxIllegalInstruction (t : Time) (e : Nat) (w : W32)
  /-- THROTTLE_CHANGE_NO_TICK (R503). In STOPPED and IDLE a decided throttle step change takes effect within 1 µs without a tick. -/
  | throttleChangeNoTick (t : Time)
deriving DecidableEq, Repr

end Sys2Proof
end

