-- ==== Sys2Proof/Decode.lean ====
section
/-! DEFINITION. The words of commands: the spec gives no row of its command table any bits. The words of the tile engines' and the pin engines'
instruction memories do have encodings: what command each spells. -/

namespace Sys2Proof

/-- The command a word spells by the table's bits: none, since no row of the table has bits (log entry 1). -/
def decodeTableWord (_nbits _w : Nat) : Option Instr := none

/-! Tile engine instructions (06_tile_engine_isa R198). -/

/-- An R-form instruction: engine, d, a, b, lane mode, predicate condition, flag index. -/
abbrev RForm := Time → Nat → BitVec 5 → BitVec 5 → BitVec 5 → BitVec 2 → BitVec 2 → BitVec 2 → Instr

/-- An I-form instruction: engine, d, a, imm16. -/
abbrev IForm := Time → Nat → BitVec 5 → BitVec 5 → BitVec 16 → Instr

/-- The functions of opcode 0x00 (06_tile_engine_isa R205). -/
def teAluForms : List RForm :=
  [.teAdd, .teSub, .teAdds, .teAddus, .teSubs, .teSubus, .teAnd, .teOr,
   .teXor, .teAndn, .teShl, .teShr, .teSar, .teMin, .teMax, .teMinu,
   .teMaxu, .teAbsd, .teAvgu, .teBsel, .teMul, .teMulhs, .teMulhu, .teMac]

/-- The functions of opcode 0x02 (06_tile_engine_isa R207). -/
def teShapeForms : List RForm :=
  [.teUnpklu, .teUnpkhu, .teUnpkls, .teUnpkhs, .tePackus, .tePackss, .tePackt, .teHaddu,
   .teHadds, .teSplat, .teClz, .tePopc]

/-- The functions of opcode 0x03 (06_tile_engine_isa R211). -/
def teSysForms : List RForm :=
  [.teNop, .teMfs, .teMts, .teHb, .teKb, .teBrk, .teRet]

/-- The functions of opcode 0x04 (06_tile_engine_isa R214). -/
def teLineForms : List RForm :=
  [.teLacq, .teLacqe, .teLwait, .teLwaitf, .teLrel, .teLtest, .teLkill]

/-- The functions of opcode 0x05 (06_tile_engine_isa R222). -/
def tePortForms : List RForm :=
  [.teNsendw, .teNsende, .teNrecvw, .teNrecve]

/-- The functions of opcode 0x06 (06_tile_engine_isa R226). -/
def teRecForms : List RForm :=
  [.teRsend, .teRsendt, .teRtry, .teRtryt]

/-- CMP, whose function code is its condition (06_tile_engine_isa R206). -/
def teCmpForm (fn : BitVec 5) : RForm := fun t e d a b ln pc fl => .teCmp t e fn d a b ln pc fl

/-- The R-form instruction of an opcode and a function code, where the tables list one. -/
def teRForm (op : Nat) (fn : BitVec 5) : Option RForm :=
  if op == 0x00 then teAluForms[fn.toNat]?
  else if op == 0x01 then (if fn.toNat ≤ 6 then some (teCmpForm fn) else none)
  else if op == 0x02 then teShapeForms[fn.toNat]?
  else if op == 0x03 then teSysForms[fn.toNat]?
  else if op == 0x04 then teLineForms[fn.toNat]?
  else if op == 0x05 then tePortForms[fn.toNat]?
  else if op == 0x06 then teRecForms[fn.toNat]?
  else none

/-- The I-form opcodes from 0x10 on, from 0x20 on, and from 0x30 on (06_tile_engine_isa R208 to R210). -/
def teImmForms : List IForm :=
  [.teAddi, .teAndi, .teOri, .teXori, .teLui, .teShli, .teShri, .teSari,
   .teExtu, .teExts, .teCmpi, .teLinfo, .tePld]

def teMemForms : List (Option IForm) :=
  [some .teLd64, some .teLd32u, some .teLd32s, some .teLd16u, some .teLd16s, some .teLd8u, some .teLd8s,
   none, some .teSt64, some .teSt32, some .teSt16, some .teSt8]

def teBranchForms : List IForm :=
  [.teBr, .teBf, .teBnf, .teLoop, .teCall, .teLcset]

/-- The I-form instruction of an opcode, where the tables list one. -/
def teIForm (op : Nat) : Option IForm :=
  if op < 0x10 then none
  else if op < 0x20 then teImmForms[op - 0x10]?
  else if op < 0x30 then (teMemForms[op - 0x20]?).join
  else teBranchForms[op - 0x30]?

/-- The command that the instruction word `w` of a tile engine spells; none where its opcode or function is not listed, which raises ILLEGAL
(06_tile_engine_isa R198, R200). -/
def decodeTe (t : Time) (e : Nat) (w : W32) : Option Instr :=
  let d := w.extractLsb' 21 5
  let a := w.extractLsb' 16 5
  let op := (w.extractLsb' 26 6).toNat
  if op < 0x10 then
    (teRForm op (w.extractLsb' 0 5)).map fun f => f t e d a (w.extractLsb' 11 5) (w.extractLsb' 9 2) (w.extractLsb' 7 2) (w.extractLsb' 5 2)
  else (teIForm op).map fun f => f t e d a (w.extractLsb' 0 16)

/-! Pin engine instructions (11_pin_engines R393). -/

/-- The command that the instruction word `w` of a pin engine spells by its opcode; none for the opcodes that are not listed. A word that breaks its
row spells PX_ILLEGAL_INSTRUCTION (11_pin_engines R393). -/
def decodePx (t : Time) (e : Nat) (w : W32) : Option Instr :=
  let f2 := fun (lo : Nat) => w.extractLsb' lo 2
  let f3 := fun (lo : Nat) => w.extractLsb' lo 3
  let fb := fun (lo : Nat) => w.getLsbD lo
  let imm := w.extractLsb' 0 24
  match (w.extractLsb' 27 5).toNat with
  | 0x00 => some (.pxNop t e)
  | 0x01 => some (.pxWaite t e (w.extractLsb' 23 4) (f2 21))
  | 0x02 => some (.pxWaitl t e (f2 25) (fb 24))
  | 0x03 => some (.pxWaitc t e (f2 25) (f2 23) (f2 21) (f2 19))
  | 0x04 => some (.pxCnt t e (f2 25) (f3 22) (f2 20) (f2 18) (f2 16) (fb 15) (f3 12))
  | 0x05 => some (.pxLdi t e (f2 25) imm)
  | 0x06 => some (.pxAddi t e (f2 25) imm)
  | 0x07 => some (.pxCalc t e (f2 25) (f2 23) (f2 21) (f3 18))
  | 0x08 => some (.pxJmp t e (f3 24) (f2 22) (w.extractLsb' 0 5))
  | 0x09 => some (.pxOut t e (f2 25) (f2 23))
  | 0x0A => some (.pxDly t e (fb 26) (f2 24) imm)
  | 0x0B => some (.pxShin t e (f2 25) (fb 24) (f2 22) (w.extractLsb' 16 6))
  | 0x0C => some (.pxShout t e (f2 25) (fb 24) (f2 22) (w.extractLsb' 16 6))
  | 0x0D => some (.pxXsh t e (f2 25) (f2 23))
  | 0x0E => some (.pxGet t e (fb 26) (f2 24) (fb 23) (fb 22))
  | 0x0F => some (.pxPut t e (f2 25) (f3 22) (f2 20))
  | 0x10 => some (.pxEvt t e (fb 26))
  | 0x11 => some (.pxCap t e (f3 24) (f2 22))
  | 0x12 => some (.pxIrq t e (w.extractLsb' 19 8))
  | 0x13 => some (.pxHalt t e)
  | _ => none

end Sys2Proof
end

