-- ==== Sys2Proof/Machine/Bits.lean ====
section
/-! DEFINITION. Bit fields, signed fields, byte order and the record checksum. -/

namespace Sys2Proof
namespace Machine

/-- Bits [hi:lo] of a word, as a number (00_scope R8). -/
def fld {n : Nat} (w : BitVec n) (hi lo : Nat) : Nat := (w.toNat / 2 ^ lo) % 2 ^ (hi + 1 - lo)

/-- Bit i of a word. -/
def bit {n : Nat} (w : BitVec n) (i : Nat) : Bool := w.getLsbD i

/-- The signed value of the low `n` bits of `v`. -/
def sgn (n v : Nat) : Int := if v % 2 ^ n < 2 ^ (n - 1) then (v % 2 ^ n : Nat) else ((v % 2 ^ n : Nat) : Int) - 2 ^ n

/-- The low `n` bits of a signed value. -/
def usg (n : Nat) (i : Int) : Nat := (i % (2 ^ n : Nat)).toNat

/-- A word put together from values and the bit each begins at. -/
def pack (n : Nat) (l : List (Nat × Nat)) : BitVec n := BitVec.ofNat n (l.foldl (fun a p => a + p.1 * 2 ^ p.2) 0)

/-- Round up to a multiple. -/
def ceilDiv (a b : Nat) : Nat := (a + b - 1) / b

/-- A value and its bitwise complement as one stored pair (00_scope R17). -/
def pairOf (v : W32) : W64 := (~~~v) ++ v

/-- The halves of a pair complement each other (00_scope R15). -/
def pairOk (p : W64) : Bool := p.extractLsb' 32 32 == ~~~(p.extractLsb' 0 32)

/-- The bytes of a word, least significant first (00_scope R8). -/
def bytesLE {n : Nat} (k : Nat) (w : BitVec n) : List Byte := (List.range k).map fun i => w.extractLsb' (8 * i) 8

/-- The word whose bytes, least significant first, are the list. -/
def leNat : List Byte → Nat
  | [] => 0
  | b :: r => b.toNat + 256 * leNat r

/-- One bit of the reflected CRC-32C (07_kernels_records R263). -/
def crcBit (c : W32) : W32 := if c.getLsbD 0 then (c >>> 1) ^^^ 0x82F63B78#32 else c >>> 1

/-- One byte of the CRC-32C. -/
def crcByte (c : W32) (b : Byte) : W32 := (List.range 8).foldl (fun a _ => crcBit a) (c ^^^ b.setWidth 32)

/-- CRC-32C: reflected polynomial 0x82F6_3B78, initial value and final XOR 0xFFFF_FFFF (07_kernels_records R263). -/
def crc32c (bs : List Byte) : W32 := ~~~(bs.foldl crcByte 0xFFFFFFFF#32)

/-- The word of `d` that begins at byte `o` of the list, `k` bytes long. -/
def leAt (bs : List Byte) (o k : Nat) : Nat := leNat ((bs.drop o).take k)

/-- Replace element `i` of a list. -/
def upd {α : Type} (l : List α) (i : Nat) (f : α → α) : List α := l.modify i f

/-- `n` bytes of a memory from `a` on; unlisted bytes read as `d`. -/
def memBytes (d : Byte) (m : Mem) (a n : Nat) : List Byte := (List.range n).map fun i => Tbl.get d m (a + i)

/-- Write bytes to a memory from `a` on. -/
def memPut (d : Byte) (m : Mem) (a : Nat) : List Byte → Mem
  | [] => m
  | b :: r => memPut d (Tbl.set d m a b) (a + 1) r

/-- Elapsed time from `b` to `a`, in 0.5 ns units, modulo 2^64 (00_scope R10). -/
def since (a b : Time) : Nat := (a - b).toNat

/-- Array time `a` is at `b` or after it: of two moments less than 2^63 units apart, across the wrap of the 64-bit count (00_scope R10). -/
def reached (a b : Time) : Bool := since a b < 2 ^ 63

/-- A counter that saturates at `m`. -/
def satInc (m n : Nat) : Nat := if n < m then n + 1 else n

end Machine
end Sys2Proof
end

