-- ==== Sys2Proof/Machine/State.lean ====
section
/-! DEFINITION. The state of the block as plain data, the fault and refusal reasons, and the state after reset.
Every field's docstring gives its width, its meaning, the rule that names it and its reset value. -/

namespace Sys2Proof
namespace Machine

/-- Reasons a step could stop with a fault. The spec gives every command of the block an effect or no effect, so no meaning raises it. -/
inductive Fault where
  /-- Raised by nobody: kept so that the outcome type is inhabited by a named reason. Safe: a claim about it is vacuous. -/
  | none
deriving DecidableEq, Repr

/-- Reasons a command could be refused. -/
inductive Refusal where
  /-- Raised by an arm of exec whose command has no meaning in this model. Safe: the model stops where the hardware goes on. -/
  | notModelled (mnemonic : String)
deriving DecidableEq, Repr

/-- A stored PW register (14_faults R469, R471): the pair, the last value that checked, and the supervisor's copy. -/
structure RegCell where
  /-- [64] the pair as stored, value low and complement high (00_scope R17). reset: see State.regs -/
  pair : W64
  /-- [32] the last value that checked (14_faults R469). reset: see State.regs -/
  good : W32
  /-- [32] the supervisor's copy of the accepted write (14_faults R469). reset: see State.regs -/
  copy : W32
deriving DecidableEq, Repr

/-- What a command shows outside the block. -/
inductive Out where
  /-- an MSI-X message: vector, address, data (09_host_link R346) -/
  | msix (v : Nat) (addr : W64) (data : W32)
  /-- a memory write to the host: address, bytes from the lowest address on, relaxed ordering (00_scope R8; 09_host_link R307, R323) -/
  | memWr (addr : W64) (bs : List Byte) (ro : Bool)
  /-- a read request to host memory: address, bytes (09_host_link R322) -/
  | memRd (addr : W64) (n : Nat)
  /-- a completion of a BAR0 read: offset, bytes, data (09_host_link R312) -/
  | rdData (off nb : Nat) (v : W64)
  /-- a completion of a BAR2 read: offset, bytes, poisoned (09_host_link R315) -/
  | rdBar2 (off : Nat) (bs : List Byte) (poison : Bool)
  /-- a completion with Completer Abort (09_host_link R312) -/
  | rdAbort (off : Nat)
  /-- a configuration completion: 0 Successful with the data of a read, 1 Request Retry Status (09_host_link R309) -/
  | cfg (status : Nat) (v : W32)
  /-- a Hinge frame sent: port (0 upstream, 1 downstream), type, words (12_hinge_array R410) -/
  | hinge (port : Nat) (typ : Nat) (ws : List W64)
  /-- a pin output: pin number as PX_OUTSEL names it; 0 low, 1 high, 2 high-Z (11_pin_engines R380) -/
  | pin (p : Nat) (lev : Nat)
  /-- a pulse of all drain gates begins; it lasts 2 us unless a tick cuts it short (01_line_tick R45, R46) -/
  | drain (t : Time)
  /-- a tick cuts the drain pulse short (01_line_tick R46) -/
  | drainCut (t : Time)
  /-- the overflow gates of all rows open for 200 ns: the beginning of a frame exposure (02_pixel_array R89) -/
  | gates (t : Time)
  /-- a charge shift of the four bands: line, reverse direction, bands whose node is sampled (01_line_tick R33; 02_pixel_array R71, R72) -/
  | shift (line : B48) (rev : Bool) (bands : BitVec 4)
  /-- an event of a pin engine, as its EVT makes it: a pulse at every input that selects it (11_pin_engines R396) -/
  | event (e : Nat) (t : Time)
  /-- sequence strobe lines asserted at a tick (03_sequence_table R108) -/
  | strobe (m : Byte)
  /-- an ASYNC output pulse (10_clocks R374) -/
  | async (t : Time)
  /-- READY_N pulled low (true) or released (14_faults R487) -/
  | ready (low : Bool)
  /-- SHDN_N pulled low (true) or released (15_thermal R508) -/
  | shdn (low : Bool)
  /-- CLKOUT j started, stopped or changed: its control value (10_clocks R376) -/
  | clkout (j : Nat) (v : W32)
  /-- an error message or internal error flag to the link (09_host_link R311) -/
  | aer (code : Nat)
deriving DecidableEq, Repr

/-- A register access that waits until the clocks of its block run (10_clocks R360, R363). -/
structure Wait where
  /-- when it began to wait -/
  t : Time
  /-- byte address in BAR0 -/
  off : Nat
  /-- bytes -/
  nb : Nat
  /-- the write, none for a read -/
  w : Option Wr
  /-- for a read over Hinge: issuer and request number (12_hinge_array R435) -/
  rem : Option (Nat × Nat)
  /-- a read of BAR2, `off` being its offset there -/
  bar2 : Bool := false
deriving DecidableEq, Repr

/-- A record on its way: its words, trailer included, and what the fabric needs (08_result_fabric R288, R289). -/
structure QRec where
  /-- the words of the record, header to trailer (07_kernels_records R262, R263) -/
  ws : List W64
  /-- [32] deadline D (08_result_fabric R288, R289) -/
  dl : W32
  /-- [1] class fixed at entry: true C, false L (08_result_fabric R288) -/
  cls : Bool
  /-- bytes of the record that have been sent (08_result_fabric R298) -/
  sent : Nat
  /-- of those, the bytes that went in class L flits (08_result_fabric R301) -/
  lb : Nat
  /-- array time at which the record entered its queue -/
  t : Time
  /-- made by the device, not by a kernel (08_result_fabric R289) -/
  dev : Bool
  /-- an uncorrectable error struck the record (14_faults R482) -/
  ue : Bool
deriving DecidableEq, Repr

/-- What the output of a band did at a tick (02_pixel_array R71, R75, R89). -/
inductive NodeAct where
  /-- no shift: an exposure tick of a frame -/
  | halted
  /-- the packet went to the output drain and the node was not sampled -/
  | drained
  /-- the packet went to the output drain and the node was sampled at its reset level, the transfer gate closed -/
  | level
  /-- the packet was passed to the node and sampled: its light contributions, oldest first, each the array time it began and the row -/
  | packet (q : List (Time × Nat))
deriving DecidableEq, Repr

/-- The pixel array: charge packets and drain rows (02_pixel_array). -/
structure Pix where
  /-- [256 rows] the packet of each row: the light it holds, oldest first, as array time at which a contribution began and the row it was collected in;
  packets of a row are alike in every column (02_pixel_array R66, R67, R87). reset: DESIGN CHOICE all empty (log entry 82) -/
  rows : List (List (Time × Nat))
  /-- [4 x 7] stage count in force per band, 1 to 64; 0 while a frame has no drain row in force (02_pixel_array R68, R69, R90). reset: DESIGN CHOICE 64, no drain row (log entry 82) -/
  stage : List Nat
  /-- [64] end of the drain pulse in progress or last made (01_line_tick R45, R46). reset: none -/
  drainT : Option Time
deriving DecidableEq, Repr

/-- One line in flight or accounted: what its tick fixed (01_line_tick R33). -/
structure Line where
  /-- [64] array time of the tick (01_line_tick R30) -/
  t : Time
  /-- [48] encoder position fixed at the tick (01_line_tick R31) -/
  enc : B48
  /-- entry index (03_sequence_table R103) -/
  entry : Nat
  /-- 0 image, 1 reference line, 2 frame, 3 idle or wait tick (03_sequence_table R99) -/
  kind : Nat
  /-- frame tick f 0 to 255, 0 for other types (02_pixel_array R89) -/
  frame : Nat
  /-- [32] the entry words 0 to 3 in force (03_sequence_table R99) -/
  w0 : W32
  w1 : W32
  w2 : W32
  w3 : W32
  /-- the line has line items: image, reference or frame readout tick (07_kernels_records R274) -/
  items : Bool
  /-- [16] CHANNELS of the chain (07_kernels_records R242) -/
  chans : BitVec 16
  /-- [16] the device-set record flags of the line, bit 0 = LATE (07_kernels_records R265) -/
  flags : BitVec 16
  /-- [4] bands flushed (02_pixel_array R70) -/
  flushed : BitVec 4
  /-- T_min of the line, 0.5 ns units (01_line_tick R38) -/
  tmin : Nat
  /-- [4] what the output of each band did at the tick (02_pixel_array R71, R75, R90) -/
  nodes : List NodeAct
  /-- [1024] tiles that have released or ended the line (07_kernels_records R268) -/
  rel : BitVec 1024
  /-- [1024] tiles for which the line ended FAILED, GAP, or lost records that were discarded (03_sequence_table R101; 06_tile_engine_isa R215) -/
  fail : BitVec 1024
  gap : BitVec 1024
  lost : BitVec 1024
  /-- conversion frames of the line whose words stand in the slot, per tile whose conversion is in progress (04_converters R133, R134) -/
  frs : Tbl Nat
  /-- [1024] tiles whose conversion of the line has ended (04_converters R133) -/
  conv : BitVec 1024
  /-- [1024] tiles whose accumulation routine has run on the line (06_tile_engine_isa R220) -/
  accd : BitVec 1024
  /-- [1024] tiles whose bank slept at the tick in direct mode: their conversion starts 400 ns later (04_converters R148) -/
  woke : BitVec 1024
  /-- samples with OR = 1 within the window (03_sequence_table R100 code 0x03) -/
  ors : Nat
  /-- DEFECT records produced (03_sequence_table R100 code 0x02) -/
  defects : Nat
  /-- which pass of which sequence generation the line belongs to (03_sequence_table R116, R125) -/
  pass : Nat
  gen : Nat
deriving DecidableEq, Repr

/-- A covering record staged for a rectangle of line items (07_kernels_records R275, R278). -/
structure Cover where
  /-- true FAILED, false GAP of KIND 0 (07_kernels_records R275) -/
  failed : Bool
  /-- REASON (07_kernels_records R269, R270) -/
  reason : Nat
  /-- CODE of a FAILED record (07_kernels_records R270) -/
  code : Nat
  /-- first line covered -/
  line : Nat
  /-- consecutive lines covered -/
  count : Nat
  /-- first and last tile covered -/
  t0 : Nat
  t1 : Nat
  /-- [16] channels covered -/
  chans : BitVec 16
deriving DecidableEq, Repr

/-- One pair of a STAT contribution (07_kernels_records R268). -/
structure StatPair where
  /-- pair index 2b + g -/
  p : Nat
  sum : Nat
  cnt : Nat
  ors : Nat
  mn : Nat
  mx : Nat
  user : Nat
deriving DecidableEq, Repr

/-- A STAT contribution of one tile, line and channel (07_kernels_records R268). -/
structure Contrib where
  line : Nat
  tile : Nat
  ch : Nat
  /-- [16] kernel-set flags -/
  flags : BitVec 16
  pairs : List StatPair
deriving DecidableEq, Repr

/-- The line tick generator, commit and snapshot (01_line_tick). -/
structure Tick where
  /-- [3] tick generator state, TCK_STATUS.STATE (01_line_tick R56). reset: 0 STOPPED -/
  st : Nat
  /-- [48] line sequence of the next tick (01_line_tick R32). reset: 0 -/
  line : B48
  /-- [1] direction in force, TCK_STATUS.DIR (01_line_tick R49, R72). reset: 0 forward -/
  dir : Bool
  /-- [1] direction confirmed last (01_line_tick R541). reset: 0 forward -/
  conf : Bool
  /-- [1] one or more reversals confirmed since the previous tick (01_line_tick R541). reset: 0 -/
  revPend : Bool
  /-- flush ticks of the direction flush still to run, 0 to 64 (01_line_tick R49). reset: 0 -/
  flush : Nat
  /-- [1] a direction flush was abandoned in REVERSING by the end of the holdover (01_line_tick R56). reset: 0 -/
  flushAb : Bool
  /-- [1] the holdover count is running (01_line_tick R56). reset: 0 -/
  hold : Bool
  /-- lines taken in the holdover (01_line_tick R52). reset: 0 -/
  holdN : Nat
  /-- lines still to carry FLUSHED in every band, 0 to 64 (01_line_tick R46, R47). reset: 0 -/
  flushed : Nat
  /-- [64] TDC stamp of the held trigger, TCK_STATUS.HELD (01_line_tick R39, R40). reset: none -/
  held : Option Time
  /-- [48] encoder position captured at the held edge (01_line_tick R31). reset: 0 -/
  heldEnc : B48
  /-- [64] array time of the most recent charge shift (01_line_tick R39). reset: none -/
  shift : Option Time
  /-- T_min of the line of the most recent shift, 0.5 ns units (01_line_tick R39). reset: 0 -/
  shiftTmin : Nat
  /-- [16] T_min of the next line, TCK_MIN_PERIOD.NEXT (01_line_tick R38). reset: 2000 -/
  next : Nat
  /-- [16] greatest T_min over the active bank, TCK_MIN_PERIOD.WORST (01_line_tick R38). reset: 2000 -/
  worst : Nat
  /-- [32] TCK_HELD_COUNT (01_line_tick R43). reset: 0 -/
  heldN : W32
  /-- [32] TCK_REJECT_COUNT (01_line_tick R39, R54). reset: 0 -/
  rejN : W32
  /-- [32] TCK_GAP_COUNT (01_line_tick R25, R53, R54). reset: 0 -/
  gapN : W32
  /-- [64] TCK_LAST_TRIG.STAMP (01_line_tick, TCK_LAST_TRIG). reset: 0 -/
  lastTrig : Time
  /-- [16] TCK_LATENCY.LAST_LAT (01_line_tick R43). reset: 0 -/
  lastLat : BitVec 16
  /-- [1] GLB_COMMIT.PENDING (01_line_tick R57). reset: 0 -/
  commit : Bool
  /-- [64] array time of the accepted commit GO (01_line_tick R58, R60). reset: 0 -/
  commitT : Time
  /-- [1] GLB_COMMIT.BUSY_REJECT (01_line_tick R59). reset: 0 -/
  busyRej : Bool
  /-- [32] GLB_EPOCH.EPOCH (01_line_tick R57). reset: 0 -/
  epoch : W32
  /-- [1] GLB_SNAP_CTL.PENDING (01_line_tick R61). reset: 0 -/
  snap : Bool
  /-- [64] array time of the pending snapshot request (01_line_tick R61). reset: 0 -/
  snapT : Time
  /-- [8] GLB_SNAP_CTL.TAG (01_line_tick R61). reset: 0 -/
  tag : Byte
  /-- [48] TCK_COMMIT_LINE (01_line_tick R57). reset: 0 -/
  commitLine : B48
  /-- [48] TCK_SNAP_LINE (01_line_tick R61). reset: 0 -/
  snapLine : B48
  /-- [64] TCK_SNAP_TIME (01_line_tick R61). reset: 0 -/
  snapTime : Time
  /-- [48] TCK_SNAP_ENC (01_line_tick R61). reset: 0 -/
  snapEnc : B48
  /-- [64] moment from which the idle-flush time counts (01_line_tick R45). reset: 0 -/
  idleBase : Time
  /-- [1] at least one tick has fired since the state left STOPPED or entered LOCKING first (01_line_tick R60, R115). reset: 0 -/
  ticked : Bool
  /-- [64] array time of the last tick (01_line_tick R269). reset: none -/
  last : Option Time
  /-- stage count per band at each recent tick, newest first, at most 64 entries; 0 for a frame tick (02_pixel_array R70). reset: none -/
  hist : List (Nat × Nat × Nat × Nat)
  /-- the open range of object lines not taken: REASON, line of the last tick, encoder start, start time, encoder counts before the start that do not make a line yet (01_line_tick R53; 07_kernels_records R269, R278). reset: none -/
  gap : Option (Nat × B48 × B48 × Time × Int)
  /-- [48] furthest encoder position in the confirmed direction, from which a reversal is measured (01_line_tick R48). reset: 0 -/
  turn : B48
deriving DecidableEq, Repr

/-- The end of a pass whose result update is due (03_sequence_table R125). -/
structure Due where
  /-- entry index n -/
  n : Nat
  /-- serial of the pass -/
  pass : Nat
  /-- serial of the active bank's term -/
  gen : Nat
  /-- line sequence of the pass's last tick -/
  last : Nat
  /-- [32] words 0 and 2 of the entry -/
  w0 : W32
  w2 : W32
  /-- ticks of the pass's executions of the entry -/
  ticks : Nat
deriving DecidableEq, Repr

/-- The sequencer, its banks' control and the ownership lock (03_sequence_table). -/
structure Seq where
  /-- [1] SEQ_STATUS.ACTIVE: false A, true B (03_sequence_table R97). reset: 0 -/
  act : Bool
  /-- [1] SEQ_STATUS.SWAP_PENDING (03_sequence_table R113). reset: 0 -/
  swap : Bool
  /-- [1] the pending swap has been validated (03_sequence_table R114). reset: 0 -/
  valid : Bool
  /-- [1] SEQ_STATUS.INVALID (03_sequence_table R113). reset: 0 -/
  invalid : Bool
  /-- [1] SEQ_STATUS.DISCARDED (03_sequence_table R122). reset: 0 -/
  discarded : Bool
  /-- [1] SEQ_STATUS.COPY_BUSY (03_sequence_table R116, R122). reset: 0 -/
  copy : Bool
  /-- [1] SEQ_STATUS.EARLY_ARMED (03_sequence_table R113). reset: 0 -/
  early : Bool
  /-- [1] a write to the inactive bank was accepted since the last copy (03_sequence_table R122). reset: 0 -/
  edited : Bool
  /-- [1] SEQ_LOCK.HELD (03_sequence_table R118). reset: 0 -/
  held : Bool
  /-- [7] owner source: bit 6 SEQ_LOCK.SRC, bits 5..0 SEQ_LOCK.SRC_POS (03_sequence_table R119). reset: 0 -/
  src : BitVec 7
  /-- [16] SEQ_LOCK.TOKEN (03_sequence_table R118). reset: 0 -/
  token : BitVec 16
  /-- [64] array time at which the lease runs out, SEQ_LEASE.LEFT (03_sequence_table R120). reset: 0 -/
  lease : Time
  /-- [32] SEQ_BAD (03_sequence_table R113). reset: 0 -/
  bad : W32
  /-- [16] SEQ_REJECT.BANK (03_sequence_table R111). reset: 0 -/
  rejBank : BitVec 16
  /-- [16] SEQ_REJECT.LOCK (03_sequence_table R112, R113, R118). reset: 0 -/
  rejLock : BitVec 16
  /-- [16] SEQ_HOLD_COUNT.ACCEPTED (03_sequence_table R106). reset: 0 -/
  hAcc : BitVec 16
  /-- [16] SEQ_HOLD_COUNT.IGNORED (03_sequence_table R106). reset: 0 -/
  hIgn : BitVec 16
  /-- [48] SEQ_HOLD_LINE (03_sequence_table R106). reset: 0 -/
  hLine : B48
  /-- [64] SEQ_HOLD_TIME (03_sequence_table R106). reset: 0 -/
  hTime : Time
  /-- [1] the hold line is to be written at the first execution (03_sequence_table R106). reset: 0 -/
  hWait : Bool
  /-- sequencer phase: 0 begin entry, 1 holding, 2 delay, 3 executing, 4 the delay has run out, 5 the entry's last execution is done and the next tick
  moves on (03_sequence_table R103, SEQ_POS). reset: 0 -/
  ph : Nat
  /-- [6] SEQ_POS.ENTRY (03_sequence_table R103). reset: 0 -/
  entry : Nat
  /-- [17] SEQ_POS.EXEC (03_sequence_table R103). reset: 0 -/
  exec : Nat
  /-- next frame tick f of the frame in progress (02_pixel_array R89). reset: 0 -/
  frame : Nat
  /-- sub-line phases or, for lines, ticks waited since the origin of the delay (03_sequence_table R105). reset: 0 -/
  waited : Nat
  /-- [1] the origin of the delay is a hold trigger (03_sequence_table R105). reset: 0 -/
  hOrig : Bool
  /-- [10] sub-line phases from the last tick to the hold trigger that is the origin (00_scope R10; 03_sequence_table R105). reset: 0 -/
  hPhase : BitVec 10
  /-- [48] SEQ_PASS.COUNT (03_sequence_table SEQ_PASS). reset: 0 -/
  passes : B48
  /-- serial of the pass in progress (03_sequence_table R125). reset: 0 -/
  pass : Nat
  /-- serial of the active bank's term, stepped at a swap and at leaving STOPPED (03_sequence_table R116). reset: 0 -/
  gen : Nat
  /-- [64 x 64] SEQ_RES[n] (03_sequence_table R124). reset: 0 -/
  res : Tbl W64
  /-- pass ends whose update is due (03_sequence_table R125). reset: none -/
  due : List Due
deriving DecidableEq, Repr

/-- A converter bank: nine slices, their coefficients and their places (04_converters R140, R144, R151). -/
structure Bank where
  /-- [2] CNV_BANK.STATE: 0 NORMAL, 1 FIXED, 2 FAILED (04_converters R151). reset: 0 -/
  st : Nat
  /-- slice at interleave positions 0 to 7; 9 where a position has no slice (04_converters R132, R144). reset: slices 0 to 7 -/
  pos : List Nat
  /-- [4] CNV_BANK.CAL, calibrating slice 0 to 8, 15 none (04_converters R144). reset: 8 -/
  cal : Nat
  /-- [9] CNV_BANK.RETIRED (04_converters R152). reset: 0 -/
  ret : BitVec 9
  /-- coefficients in use of slices 0 to 8: O, G, line of the run (04_converters R140, R141, CNV_COEF). reset: DESIGN CHOICE O 0, G 32768, line 0 (log entry 6) -/
  coef : List (Int × Nat × Nat)
  /-- slices whose calibration run is in progress, oldest run first, CNV_BANK.RUNNING (04_converters R143, R151). reset: none -/
  run : List Nat
  /-- [1] that run follows an in-service check failure (04_converters R151). reset: 0 -/
  oot : Bool
  /-- [1] the calibrating slice has passed a run since it became it (04_converters R145). reset: 1, the boot run -/
  passed : Bool
  /-- [1] a rotation is deferred (04_converters R145). reset: 0 -/
  defer : Bool
  /-- slices that failed an in-service check and leave their position at the next tick (04_converters R151 NORMAL). reset: none -/
  swap : List Nat
  /-- slices whose run passed in FIXED and that resume their position at the next tick: position, slice (04_converters R151 FIXED). reset: none -/
  resume : List (Nat × Nat)
  /-- positions that failed slices of a FIXED bank have left: position, slice (04_converters R151, R544). reset: none -/
  gone : List (Nat × Nat)
  /-- samples of lines that failed their check: line, sample index j (04_converters R136, R151). reset: none -/
  fails : List (Nat × Nat)
  /-- [64] end of the bank's last conversion (04_converters R148). reset: 0 -/
  lastConv : Time
deriving DecidableEq, Repr

/-- A bank as the boot calibration leaves it with no slice retired (04_converters R147). -/
def Bank.fresh : Bank :=
  { st := 0, pos := [0, 1, 2, 3, 4, 5, 6, 7], cal := 8, ret := 0, coef := List.replicate 9 (0, 32768, 0), run := [], oot := false,
    passed := true, defer := false, swap := [], resume := [], gone := [], fails := [], lastConv := 0 }

/-- The converters as a whole (04_converters). -/
structure Conv where
  /-- [1024 banks] the converter banks (04_converters R130, R151). reset: every bank as Bank.fresh -/
  banks : Tbl Bank
  /-- [1024] banks whose converting slices are powered down (04_converters R148). reset: DESIGN CHOICE all, asleep until a tick converts (log entry 6) -/
  asleep : BitVec 1024
  /-- [48] CNV_ROT_LINE (04_converters R144). reset: 0 -/
  rotLine : B48
  /-- [16] CNV_ROT_COUNT.ROTATIONS (04_converters R144). reset: 0 -/
  rotN : BitVec 16
  /-- [16] CNV_ROT_COUNT.DEFERRED (04_converters R145). reset: 0 -/
  defN : BitVec 16
  /-- [16] CNV_RETIRE_COUNT.ROTATION (04_converters R155). reset: 0 -/
  retRot : BitVec 16
  /-- [16] CNV_RETIRE_COUNT.OUT_OF_TURN (04_converters R155). reset: 0 -/
  retOot : BitVec 16
  /-- [32] CNV_CHECK_COUNT (04_converters R154). reset: 0 -/
  chkN : W32
  /-- [32] CNV_LAST_RETIRE (04_converters R155). reset: 0 -/
  lastRet : W32
  /-- [48] CNV_LAST_RETIRE_LINE (04_converters R155). reset: 0 -/
  lastRetLine : B48
deriving DecidableEq, Repr

/-- Accumulators of one position in a calibration step (05_calibration R172, R173). -/
structure PosAcc where
  /-- S1, sum of CODE -/
  s1 : Nat
  /-- S2, sum of (CODE - x0)^2, saturating at 2^32 - 1 -/
  s2 : Nat
  /-- CODE of the first accumulated line -/
  x0 : Nat
  /-- sum of CODE over the first 2,048 accumulated lines -/
  h1 : Nat
  /-- an OR or UR word was accumulated -/
  bad : Bool
  /-- an OR word was accumulated -/
  orr : Bool
deriving DecidableEq, Repr

/-- Accumulators of one tile (05_calibration R168). -/
structure TileAcc where
  /-- lines accumulated per band -/
  n : List Nat
  /-- positions 64b + 32g + k -/
  pos : Tbl PosAcc
  /-- per 2b + g: sum of m16 and count of the reference executions (05_calibration R171) -/
  refs : Tbl (Int × Nat)
deriving DecidableEq, Repr

/-- The step in progress or last ended, and what it fixed when it started (05_calibration R166). -/
structure CalStep where
  /-- [4] CAL_STATUS.STEP (05_calibration CAL_STATUS). reset: 0 -/
  cmd : Nat
  /-- 0 none, 1 pending, 2 running, 3 apply waiting or in its four ticks (05_calibration R166, R179). reset: 0 -/
  ph : Nat
  /-- [64] array time at which the GO was accepted (05_calibration R166). reset: 0 -/
  goT : Time
  /-- [6] ENTRY of the GO (05_calibration R166). reset: 0 -/
  entry : Nat
  /-- REF_ENTRY when REF_EN = 1 (05_calibration R171). reset: none -/
  ref : Option Nat
  /-- passes ended since the GO (05_calibration R166). reset: 0 -/
  passes : Nat
  /-- ticks since the GO (05_calibration R166). reset: 0 -/
  ticks : Nat
  /-- executions of the entry since the step started (05_calibration R169). reset: 0 -/
  execs : Nat
  /-- window of the entry, first and last tile (05_calibration R166). reset: 0 -/
  t0 : Nat
  t1 : Nat
  /-- [4] band mask of the entry (05_calibration R166). reset: 0 -/
  bands : BitVec 4
  /-- reference executions that fell within the step (05_calibration R171). reset: 0 -/
  refN : Nat
  /-- sum over the lines of the pixel die temperature in 1/16 C, and lines summed (05_calibration R180). reset: 0 -/
  tsum : Int
  tn : Nat
  /-- tick of the first execution and of the latest one (05_calibration R180). reset: 0 -/
  tFirst : Time
  tLast : Time
  /-- ticks from the first execution to the latest one (05_calibration R180). reset: 0 -/
  tkLast : Nat
  /-- apply ticks still to run, 4 to 0 (05_calibration R179). reset: 0 -/
  left : Nat
  /-- the apply installs a flash copy, RESTORE (05_calibration R184). reset: none -/
  copy : Option Nat
deriving DecidableEq, Repr

/-- Conditions of a band's dark step (05_calibration R180, R182). -/
structure DarkCond where
  /-- stage count 1 to 64; 0 when the band is not installed -/
  stage : Nat
  /-- line period in ns -/
  period : Nat
  /-- dark step direction reverse -/
  rev : Bool
  /-- mean pixel die temperature, 1/16 C -/
  temp : Int
  /-- band installed -/
  inst : Bool
  /-- baselines valid -/
  base : Bool
deriving DecidableEq, Repr

/-- Calibration, the palette and drift tracking (05_calibration). -/
structure Cal where
  /-- the step or apply in progress (05_calibration R166, R179). reset: none in progress -/
  step : CalStep
  /-- accumulators per tile (05_calibration R168). reset: none -/
  acc : Tbl TileAcc
  /-- [4] CAL_STATUS.DARK_OK (05_calibration R176). reset: 0 -/
  darkOk : BitVec 4
  /-- [8] CAL_STATUS.FLAT_OK, bit 2b + g (05_calibration R176). reset: 0 -/
  flatOk : BitVec 8
  /-- candidate O16 per 256 t + p (05_calibration R172). reset: none -/
  candO : Tbl Int
  /-- candidate G per 256 t + p (05_calibration R173). reset: none -/
  candG : Tbl Nat
  /-- candidate defects per 256 t + p: 1 from the dark step, 2 from a flat step (05_calibration R174). reset: none -/
  candD : Tbl Nat
  /-- candidate baselines per 8 t + 2b + g (05_calibration R171). reset: none -/
  candB : Tbl Int
  /-- per band: conditions of the session's latest dark step (05_calibration R180). reset: none -/
  cand : List DarkCond
  /-- tiles of the session's dark steps that passed, per 4 t + b (05_calibration R177). reset: none -/
  darkT : Tbl Bool
  /-- tiles of the session's flat steps that passed, per 8 t + 2b + g (05_calibration R177). reset: none -/
  flatT : Tbl Bool
  /-- [1] CAL_STATUS.SAVE_BUSY (05_calibration R183). reset: 0 -/
  saveBusy : Bool
  /-- [1] CAL_STATUS.SAVED (05_calibration R183). reset: 0 -/
  saved : Bool
  /-- [1] CAL_STATUS.FAILED (05_calibration R175). reset: 0 -/
  failed : Bool
  /-- [32] CAL_FAIL (05_calibration R175). reset: 0 -/
  fail : W32
  /-- [2] CAL_STATUS.SOURCE (05_calibration R184). reset: 0 -/
  source : Nat
  /-- [32] CAL_SAVE_COUNT (05_calibration R183). reset: 0 -/
  counter : W32
  /-- copy and new COUNTER of the save in progress (05_calibration R183). reset: none -/
  saving : Option (Nat × W32)
  /-- a mailbox command that uses flash was in progress when the save began, and has not ended (13_boot_security R455). reset: 0 -/
  saveAfter : Bool
  /-- [1 MiB] the master copy of the palette, word 256 t + p (05_calibration R164). reset: every word 0x8000_0000, OFFSET 0 and GAIN 32,768 -/
  master : Tbl W32
  /-- tiles whose master copy has an uncorrectable error, and a single-bit error (05_calibration R164). reset: none -/
  masterUe : List Nat
  masterCe : List Nat
  /-- tiles whose palette region is being rewritten or reloaded (05_calibration R163, R164). reset: none -/
  rewrite : List Nat
  reload : List Nat
  /-- per band: conditions of the dark step in force (05_calibration R180). reset: not installed -/
  dark : List DarkCond
  /-- baselines per 8 t + 2b + g, 1/16 DN (05_calibration R186). reset: 0 -/
  base : Tbl Int
  /-- set drift terms per 16 t + 2 (2b + g) + direction, 1/16 DN (05_calibration R186). reset: unset -/
  drift : Tbl (Option Int)
  /-- [48] CAL_STEP_LINE (05_calibration R166). reset: 0 -/
  stepLine : B48
  /-- [48] CAL_APPLY_LINE (05_calibration R179). reset: 0 -/
  applyLine : B48
  /-- retired-slice journal entries written, CAL_JOURNAL.USED (05_calibration R185). reset: 0 -/
  journal : Nat
  /-- retirements whose journal entry is not yet in flash: tile, slice, reason, line (05_calibration R185). reset: none -/
  jQueue : List (Nat × Nat × Nat × Nat)
deriving DecidableEq, Repr

/-- A line slot of an engine (06_tile_engine_isa, Lines). -/
structure LSlot where
  /-- held by the engine (06_tile_engine_isa R214) -/
  held : Bool
  /-- revoked under R34 (06_tile_engine_isa R218) -/
  rev : Bool
  /-- line sequence of the line held -/
  line : Nat
  /-- PREFAILED of the descriptor (06_tile_engine_isa R215) -/
  pre : Bool
  /-- to be ended FAILED, reason palette, at its release (06_tile_engine_isa R221) -/
  pal : Bool
deriving DecidableEq, Repr

def LSlot.free : LSlot := { held := false, rev := false, line := 0, pre := false, pal := false }

/-- A blocked engine instruction (06_tile_engine_isa R204, R222). -/
structure Blk where
  /-- array time at which it began to block -/
  t : Time
  /-- 0 other, 1 NSENDW, 2 NSENDE, 3 NRECVW, 4 NRECVE, 5 RSEND of a class L record, 6 LACQ or LACQE -/
  op : Nat
  /-- destination register of an NRECV -/
  d : BitVec 5
  /-- timeout of a neighbour instruction, 0.5 ns units -/
  lim : Nat
deriving DecidableEq, Repr

/-- A tile engine slot (06_tile_engine_isa R189, R237). -/
structure Engine where
  /-- [3] TE_SLOT.STATE: 0 LOADING, 1 RUNNING, 2 RESTARTING, 3 PARKED, 4 SPARE, 5 RETIRED (06_tile_engine_isa R237). reset: 0 -/
  st : Nat
  /-- [10] TE_SLOT.TILE, the tile served (06_tile_engine_isa R190). reset: 0 -/
  tile : Nat
  /-- [4] TE_SLOT.CAUSE (06_tile_engine_isa R233). reset: 0 -/
  cause : Nat
  /-- [7] TE_SLOT.CE, saturating (06_tile_engine_isa R196). reset: 0 -/
  ce : Nat
  /-- [8] TE_SLOT.RESTARTS, saturating (06_tile_engine_isa TE_SLOT). reset: 0 -/
  rst : Nat
  /-- restarts with no LREL between any two of them (06_tile_engine_isa R235). reset: 0 -/
  kcnt : Nat
  /-- [1] the slot has emitted a heartbeat since its last start (06_tile_engine_isa R233). reset: 0 -/
  hb : Bool
  /-- [64] array time of the last heartbeat, or of the start (06_tile_engine_isa R234). reset: 0 -/
  hbT : Time
  /-- [31 x 64] general registers w1 to w31; w0 is never listed (06_tile_engine_isa R189, R191). reset: 0 -/
  w : Tbl W64
  /-- [4] flags f3 to f0 (06_tile_engine_isa R189). reset: 0 -/
  f : BitVec 4
  /-- [17] loop counter lc0 (06_tile_engine_isa R189). reset: 0 -/
  lc0 : BitVec 17
  /-- [17] loop counter lc1 (06_tile_engine_isa R189). reset: 0 -/
  lc1 : BitVec 17
  /-- [12] instruction index; 0x1000 stands for a fetch past 0xFFF (06_tile_engine_isa R189, R192). reset: 0 -/
  pc : Nat
  /-- [4] neighbour status NST (06_tile_engine_isa R223). reset: 0 -/
  nst : BitVec 4
  /-- counted cycles, special register CYC (06_tile_engine_isa R190). reset: 0 -/
  cyc : Nat
  /-- [1] a line has been acquired, so that cycles count (06_tile_engine_isa, The cycle budget). reset: 0 -/
  cycOn : Bool
  /-- the instruction at PC that is blocked, since when, and its timeout (06_tile_engine_isa R204, R223). reset: none -/
  blk : Option Blk
  /-- [64 KiB] data memory that differs from the content at a load: user, slots, staging, workspace, parameters and stack (06_tile_engine_isa R194). reset: nothing listed -/
  dmem : Mem
  /-- 64-bit words of data memory with an uncorrectable error, and with a single-bit error (06_tile_engine_isa R196). reset: none -/
  dUe : List Nat
  dCe : List Nat
  /-- instructions with an uncorrectable error, and with a single-bit error (06_tile_engine_isa R233, 14_faults R473). reset: none -/
  iUe : List Nat
  iCe : List Nat
  /-- parameter block and instruction memory kept by a RETIRED slot across TE_LOAD (06_tile_engine_isa R239). reset: none -/
  own : Option (Mem × Tbl W32)
  /-- [512 x 32] upsets of the palette region: XOR mask of word k of 0xC800 to 0xCFFF (06_tile_engine_isa R221). reset: none -/
  palX : Tbl W32
  /-- the four line slots (06_tile_engine_isa R218). reset: free -/
  slots : List LSlot
  /-- lowest line sequence LACQ may still return (06_tile_engine_isa R213). reset: 0 -/
  nextLine : Nat
  /-- [1] the switch line of a takeover is still to come (14_faults R476). reset: 0 -/
  swPend : Bool
deriving DecidableEq, Repr

def Engine.fresh : Engine :=
  { st := 0, tile := 0, cause := 0, ce := 0, rst := 0, kcnt := 0, hb := false, hbT := 0, w := [], f := 0, lc0 := 0, lc1 := 0, pc := 0,
    nst := 0, cyc := 0, cycOn := false, blk := none, dmem := [], dUe := [], dCe := [], iUe := [], iCe := [], own := none, palX := [],
    slots := List.replicate 4 LSlot.free, nextLine := 0, swPend := false }

/-- The spare of a stripe (14_faults R474, TE_SPARE). -/
structure Stripe where
  /-- [1] TE_SPARE.USED (14_faults TE_SPARE). reset: 0 -/
  used : Bool
  /-- [5] TE_SPARE.TILE_K (14_faults TE_SPARE). reset: 0 -/
  k : Nat
  /-- [6] TE_SPARE.FAILED_SLOT (14_faults TE_SPARE). reset: 0 -/
  fslot : Nat
  /-- unserved tiles of the stripe: k, cause of the last class H exception (14_faults R478). reset: none -/
  uns : List (Nat × Nat)
deriving DecidableEq, Repr

def Stripe.fresh : Stripe := { used := false, k := 0, fslot := 0, uns := [] }

/-- The tile engines as a whole (06_tile_engine_isa). -/
structure Te where
  /-- [1056 slots] engine slot i = 33 s + slot (06_tile_engine_isa TE_SLOT). reset: Engine.fresh -/
  eng : Tbl Engine
  /-- [32] the spares (14_faults R474). reset: Stripe.fresh -/
  stripe : Tbl Stripe
  /-- [3840 x 32] kernel image in instruction memory, 0xFFFF_FFFF where unlisted (06_tile_engine_isa R193). reset: unlisted -/
  image : Tbl W32
  /-- [4 KiB] parameter block, by offset from 0xF000 (06_tile_engine_isa R193). reset: 0 -/
  params : Mem
  /-- neighbour FIFOs: key 2 x boundary, plus 1 westward; words with the time each becomes available (06_tile_engine_isa R222, R224). reset: empty -/
  fifo : Tbl (List (Time × W64))
  /-- [16] TE_EXC_COUNT.K (06_tile_engine_isa TE_EXC_COUNT). reset: 0 -/
  excK : BitVec 16
  /-- [16] TE_EXC_COUNT.H (06_tile_engine_isa TE_EXC_COUNT). reset: 0 -/
  excH : BitVec 16
  /-- [32] TE_LAST_EXC (06_tile_engine_isa TE_LAST_EXC). reset: 0 -/
  lastExc : W32
  /-- [64] TE_LAST_EXC_INFO (06_tile_engine_isa TE_LAST_EXC_INFO). reset: 0 -/
  lastInfo : W64
  /-- [20] TE_CYCLES.MAX (06_tile_engine_isa TE_CYCLES). reset: 0 -/
  cycMax : Nat
  /-- [11] TE_CYCLES.SLOT (06_tile_engine_isa TE_CYCLES). reset: 0 -/
  cycSlot : Nat
  /-- [1] TE_LOAD.BUSY (06_tile_engine_isa TE_LOAD). reset: 0 -/
  loadBusy : Bool
  /-- [1] TE_LOAD.DENIED (06_tile_engine_isa TE_LOAD). reset: 0 -/
  denied : Bool
  /-- takeovers that wait for the end of a TE_LOAD: spare slot index (14_faults R477). reset: none -/
  waitLoad : List Nat
deriving DecidableEq, Repr

/-- An arbiter of the fabric (08_result_fabric R292 to R296). -/
structure Arb where
  /-- input that owns the grant (08_result_fabric R294). reset: none -/
  owner : Option Nat
  /-- burst count of the owner (08_result_fabric R295). reset: 0 -/
  burst : Nat
  /-- loss count m per input (08_result_fabric R293). reset: 0 -/
  m : Tbl Nat
  /-- arbitration cycle from which an input is eligible again (08_result_fabric R293). reset: 0 -/
  back : Tbl Nat
  /-- burst count kept by a preempted input (08_result_fabric R296). reset: none -/
  kept : Tbl Nat
  /-- inputs whose request was formed before the current cycle (08_result_fabric R292). reset: none -/
  formed : List Nat
deriving DecidableEq, Repr

def Arb.fresh : Arb := { owner := none, burst := 0, m := [], back := [], kept := [], formed := [] }

/-- A record in the egress buffer of the bridge (08_result_fabric R301). -/
structure ERec where
  /-- the record and its source 0 to 1057 (08_result_fabric R284) -/
  r : QRec
  src : Nat
  /-- array time of its arrival in the egress buffer (09_host_link R331) -/
  t : Time
deriving DecidableEq, Repr

/-- Accounting of a result channel (07_kernels_records R279, 08_result_fabric RF_CH registers). -/
structure Chan where
  /-- [64] RF_CH_RECS (08_result_fabric RF_CH_RECS). reset: 0 -/
  recs : W64
  /-- [64] RF_CH_BYTES (08_result_fabric RF_CH_BYTES). reset: 0 -/
  bytes : W64
  /-- [16] RF_CH_DROP.DROPPED (08_result_fabric R299). reset: 0 -/
  drop : BitVec 16
  /-- [16] RF_CH_DROP.DISABLED (08_result_fabric R304). reset: 0 -/
  dis : BitVec 16
  /-- [32] RF_CH_LATE (08_result_fabric R300). reset: 0 -/
  late : W32
  /-- [31] RF_CH_SLACK.MIN, ns, signed (08_result_fabric RF_CH_SLACK). reset: 0x3FFF_FFFF -/
  slack : Int
  /-- LINE of the previous CLOSE (07_kernels_records R279). reset: none -/
  closed : Option Nat
  /-- header LINEs of records delivered after the previous CLOSE (07_kernels_records R279). reset: none -/
  since : List Nat
deriving DecidableEq, Repr

def Chan.fresh : Chan :=
  { recs := 0, bytes := 0, drop := 0, dis := 0, late := 0, slack := 0x3FFFFFFF, closed := none, since := [] }

/-- The result fabric and the record accounting (07_kernels_records, 08_result_fabric). -/
structure Fab where
  /-- queues of the sources: 0 to 1055 slots, 1056 supervisor stream, 1057 capture stream (08_result_fabric R284). reset: empty -/
  q : Tbl (List QRec)
  /-- records wholly sent into the spine and not yet reassembled: source, entry time of the last flit, record (08_result_fabric R287). reset: none -/
  spine : List (Nat × Time × QRec)
  /-- [1 MiB] egress buffer, oldest first (08_result_fabric R301). reset: empty -/
  egress : List ERec
  /-- bytes in the spine or reassembled only in part, class L and class C (08_result_fabric R301). reset: 0 -/
  fillL : Nat
  fillC : Nat
  /-- number of the arbitration cycle (08_result_fabric R286). reset: 0 -/
  cyc : Nat
  /-- [33 arbiters] 0 to 31 stripe arbiters, 32 the top arbiter (08_result_fabric R284). reset: Arb.fresh -/
  arb : Tbl Arb
  /-- [16] RF_PREEMPT_COUNT.STRIPE (08_result_fabric R296). reset: 0 -/
  preS : BitVec 16
  /-- [16] RF_PREEMPT_COUNT.TOP (08_result_fabric R296). reset: 0 -/
  preT : BitVec 16
  /-- [64] RF_SPINE_L (08_result_fabric RF_SPINE_L). reset: 0 -/
  spL : W64
  /-- [64] RF_SPINE_C (08_result_fabric RF_SPINE_C). reset: 0 -/
  spC : W64
  /-- [16] the channels' accounting (08_result_fabric RF_CH). reset: Chan.fresh -/
  ch : Tbl Chan
  /-- lines in flight or not yet closed (01_line_tick R33). reset: none -/
  lines : Tbl (Option Line)
  /-- covering records made (07_kernels_records R275). reset: none -/
  covers : List Cover
  /-- STAT contributions not yet combined (07_kernels_records R268). reset: none -/
  contrib : List Contrib
  /-- STAT contributions that have been combined, kept for the statistic of their pass (03_sequence_table R101, 07_kernels_records R268). reset: none -/
  comb : List Contrib
  /-- CLOSE events due: channel, line C (07_kernels_records R279). reset: none -/
  closeDue : List (Nat × Nat)
  /-- device records that fell due while the supervisor restarts, oldest first (14_faults R485). reset: none -/
  paused : List QRec
deriving DecidableEq, Repr

/-- A host ring (09_host_link R318 to R334). -/
structure Ring where
  /-- [3] RF_CH_HEAD.STATE: 0 IDLE, 1 RUNNING, 2 STOPPING, 3 FAULT (09_host_link R333). reset: 0 -/
  st : Nat
  /-- [16] RF_CH_HEAD.HEAD (09_host_link R320). reset: 0 -/
  head : Nat
  /-- descriptors fetched and not yet filled: buffer address, length (09_host_link R322). reset: none -/
  desc : List (W64 × Nat)
  /-- [16] index of the next descriptor to fetch (09_host_link R322). reset: 0 -/
  fetch : Nat
  /-- index and count of the fetch in flight, and whether it is the repetition (09_host_link R322). reset: none -/
  inFl : Option (Nat × Nat × Bool)
  /-- [48] RF_CH_PRODUCED, stream bytes written (09_host_link R324). reset: 0 -/
  prod : Nat
  /-- [48] stream bytes reported by the last completion word (09_host_link R327). reset: 0 -/
  rep : Nat
  /-- bytes written into the current buffer (09_host_link R324). reset: 0 -/
  used : Nat
  /-- [64] array time of the oldest unreported byte (09_host_link R327). reset: none -/
  oldest : Option Time
  /-- [1] a buffer has been closed or the state changed, unreported (09_host_link R327). reset: 0 -/
  wbDue : Bool
  /-- [8] TAG of the completion word (09_host_link R326). reset: 0 -/
  tag : Byte
  /-- bytes of an incomplete 64-byte block at the end of the stream, as 64-bit words (09_host_link R323). reset: none -/
  part : List W64
  /-- [64] array time of the last MSI-X message of the channel's vector (09_host_link R329). reset: none -/
  irqT : Option Time
  /-- [1] a message is withheld by the holdoff (09_host_link R329). reset: 0 -/
  irqHeld : Bool
  /-- [1] START written and not yet in effect, and when it was accepted (09_host_link R334). reset: none -/
  startT : Option Time
  /-- [48] RF_CH_START_LINE (09_host_link R334). reset: 0 -/
  startLine : Nat
  /-- [1] START has taken effect: lines are carried from startLine on (09_host_link R334). reset: 0 -/
  carry : Bool
  /-- [64] array time at which the latest START took effect (09_host_link R334). reset: 0 -/
  effT : Time
  /-- [64] array time of STOP, and the line after the last one carried (09_host_link R333). reset: none -/
  stop : Option (Time × Nat)
  /-- [4] RF_CH_RING_STAT.FAULT (09_host_link RF_CH_RING_STAT). reset: 0 -/
  fault : Nat
  /-- [16] RF_CH_RING_STAT.NODESC (09_host_link R331). reset: 0 -/
  noDesc : BitVec 16
deriving DecidableEq, Repr

def Ring.fresh : Ring :=
  { st := 0, head := 0, desc := [], fetch := 0, inFl := none, prod := 0, rep := 0, used := 0, oldest := none, wbDue := false, tag := 0,
    part := [], irqT := none, irqHeld := false, startT := none, startLine := 0, carry := false, effT := 0, stop := none, fault := 0, noDesc := 0 }

/-- An MSI-X table entry: address, data, vector control (09_host_link R346). -/
structure Msix where
  /-- [64] message address. reset: 0 -/
  addr : W64
  /-- [32] message data. reset: 0 -/
  data : W32
  /-- [1] vector masked. reset: 1, per PCI Express -/
  mask : Bool
deriving DecidableEq, Repr

/-- The host link (09_host_link). -/
structure HostLink where
  /-- [16] host rings (09_host_link R333). reset: Ring.fresh -/
  ring : Tbl Ring
  /-- [64 vectors] MSI-X table (09_host_link R310, R346). reset: every vector masked, address and data 0 -/
  msix : Tbl Msix
  /-- [64] MSI-X pending bits (09_host_link R329). reset: 0 -/
  pba : W64
  /-- [12] RF_HOST_CAUSE.CAUSE (09_host_link R346). reset: 0 -/
  cause : BitVec 12
  /-- [8] RF_HOST_EVENTS.FLR (09_host_link R342). reset: 0 -/
  flr : Byte
  /-- [8] RF_HOST_EVENTS.HOT_RESET (09_host_link R342). reset: 0 -/
  hot : Byte
  /-- [8] RF_HOST_EVENTS.LINK_DOWN (09_host_link R342). reset: 0 -/
  down : Byte
  /-- [8] RF_HOST_EVENTS.PERST (09_host_link R342). reset: 0 -/
  perstN : Byte
  /-- [1] RF_HOST_LINK.DL_UP (09_host_link RF_HOST_LINK). reset: 0 -/
  dlUp : Bool
  /-- [1] RF_HOST_LINK.FLIT (09_host_link RF_HOST_LINK). reset: 0 -/
  flit : Bool
  /-- [3] RF_HOST_LINK.SPEED (09_host_link RF_HOST_LINK). reset: 0 -/
  speed : Nat
  /-- [5] RF_HOST_LINK.WIDTH (09_host_link RF_HOST_LINK). reset: 0 -/
  width : Nat
  /-- [1] Bus Master Enable of the Command register (09_host_link R333). reset: PRESUMED 0 (log entry 100) -/
  bme : Bool
  /-- [1] Memory Space Enable of the Command register (09_host_link R309). reset: PRESUMED 0 (log entry 100) -/
  memEn : Bool
  /-- [1] MSI-X Enable of the MSI-X capability (09_host_link R346). reset: PRESUMED 0 (log entry 100) -/
  msixEn : Bool
  /-- [1] Function Mask of the MSI-X capability (09_host_link R310, R329). reset: PRESUMED 0 (log entry 100) -/
  fnMask : Bool
  /-- [16] Device Control of the PCI Express capability (09_host_link R307). reset: PRESUMED 0x2010 (log entry 100) -/
  devCtl : BitVec 16
  /-- [16] Link Control of the PCI Express capability (09_host_link R342). reset: PRESUMED 0 (log entry 100) -/
  linkCtl : BitVec 16
  /-- [32] AER uncorrectable error status, sticky (09_host_link R311, R342). reset: PRESUMED 0 (log entry 100) -/
  aerU : W32
  /-- [32] AER uncorrectable error mask, sticky (09_host_link R311, R342). reset: PRESUMED 0x0040_0000 (log entry 100) -/
  aerUM : W32
  /-- [32] AER uncorrectable error severity, sticky (09_host_link R311, R342). reset: PRESUMED 0x0046_2030 (log entry 100) -/
  aerUS : W32
  /-- [32] AER correctable error status, sticky (09_host_link R311, R342). reset: PRESUMED 0 (log entry 100) -/
  aerC : W32
  /-- [32] AER correctable error mask, sticky (09_host_link R311, R342). reset: PRESUMED 0x0000_E000 (log entry 100) -/
  aerCM : W32
  /-- [1] an FLR is in progress (09_host_link R343). reset: 0 -/
  flrBusy : Bool
  /-- [1] PCIE_PERST_N is asserted (09_host_link R309). reset: 0 -/
  perst : Bool
  /-- [64] array time of the later release of PCIE_PERST_N and MOD_RESET_N (09_host_link R309). reset: 0 -/
  relT : Time
  /-- [1] configuration space ready: requests complete successfully (09_host_link R309). reset: 0 -/
  ready : Bool
  /-- [1] the function is in D3hot (09_host_link R344). reset: 0 -/
  d3 : Bool
  /-- remote reads through the window outstanding: request number, window offset, bytes, time issued (09_host_link R339). reset: none -/
  rwin : List (Nat × Nat × Nat × Time)
  /-- remote reads that wait for one of the eight places: position, window offset, bytes (09_host_link R339). reset: none -/
  rwait : List (Nat × Nat × Nat)
  /-- [16] RF_RWIN_STAT.TIMEOUT (09_host_link R340). reset: 0 -/
  rTo : BitVec 16
  /-- [16] RF_RWIN_STAT.REFUSED (09_host_link R340). reset: 0 -/
  rRef : BitVec 16
  /-- [15 KiB] staged kernel image, instruction k (09_host_link R314, R317). reset: DESIGN CHOICE 0 (log entry 7) -/
  stImage : Tbl W32
  /-- [4 KiB] staged parameter block (09_host_link R314, R317). reset: DESIGN CHOICE 0 (log entry 7) -/
  stParams : Mem
deriving DecidableEq, Repr

/-- The clocks (10_clocks). -/
structure Clk where
  /-- [1] CLK_STATUS.CPLL_LOCK (10_clocks R356). reset: 0 -/
  cLock : Bool
  /-- [1] CLK_STATUS.APLL_LOCK (10_clocks R363). reset: 0 -/
  aLock : Bool
  /-- [1] CLK_STATUS.GATED, CPLL domains gated (10_clocks R357). reset: 0 -/
  gated : Bool
  /-- [1] APLL domains gated, since (10_clocks R363). reset: none -/
  aGated : Option Time
  /-- [3] CLK_STATUS.LPLL: 0 off, 1 acquiring, 2 locked, 3 clamped, 4 holdover (10_clocks CLK_STATUS). reset: 0 -/
  lpll : Nat
  /-- [2] CLK_STATUS.REF, reference in use: 0 LREF, 1 Hinge, 2 REFCLK_PCIE/4, 3 none (10_clocks R350, R354). reset: 0 -/
  ref : Nat
  /-- [1] CLK_STATUS.PULLIN (10_clocks R370). reset: 0 -/
  pullin : Bool
  /-- [1] CLK_STATUS.FAILOVER_BLOCKED (10_clocks R351). reset: 0 -/
  foBlk : Bool
  /-- [1] CLK_STATUS.NO_BAND (10_clocks R366). reset: 0 -/
  noBand : Bool
  /-- [4] CLK_STATUS.BAND (10_clocks R366). reset: 0 -/
  band : Nat
  /-- [1] CLK_STATUS.ENC_SUSPECT (10_clocks R363). reset: 0 -/
  encSus : Bool
  /-- [16] CLK_REF_MON.PPM, signed (10_clocks R351). reset: 0 -/
  ppm : BitVec 16
  /-- [3] absent sources: bit 0 LREF, bit 1 Hinge, bit 2 REFCLK_PCIE (10_clocks R351). reset: 0 -/
  absent : BitVec 3
  /-- [16] CLK_LOSS_COUNT.CPLL (10_clocks CLK_LOSS_COUNT). reset: 0 -/
  cN : BitVec 16
  /-- [8] CLK_LOSS_COUNT.APLL (10_clocks CLK_LOSS_COUNT). reset: 0 -/
  aN : Byte
  /-- [8] CLK_LOSS_COUNT.FAILOVER (10_clocks R352). reset: 0 -/
  fN : Byte
  /-- [16] CLK_LAST_INTR.LENGTH, 0.1 us, saturating (10_clocks CLK_LAST_INTR). reset: 0 -/
  liLen : Nat
  /-- [4] CLK_LAST_INTR.CAUSE (10_clocks CLK_LAST_INTR). reset: 0 -/
  liCause : Nat
  /-- [64] CLK_LAST_INTR_TIME (10_clocks CLK_LAST_INTR_TIME). reset: 0 -/
  liTime : Time
  /-- [64] beginning of the CPLL interruption in progress (10_clocks R359). reset: none -/
  intr : Option Time
  /-- cause of the CPLL interruption in progress (10_clocks CLK_LAST_INTR). reset: 0 -/
  intrCause : Nat
  /-- [64] array time at which the domains were gated (10_clocks R357, R361). reset: 0 -/
  gateT : Time
  /-- [64] array time at which engines stopped, the first gating of the interruption in progress (10_clocks R359, R360). reset: 0 -/
  stopT : Time
  /-- [64] start of the relock attempt in progress (10_clocks R352). reset: 0 -/
  relockT : Time
  /-- the order has been gone through once: further attempts are no failovers (10_clocks R547). reset: 0 -/
  again : Bool
  /-- [48] encoder position and line of the last tick at the gating, triggers received, held trigger included (01_line_tick R54). reset: 0 -/
  gEnc : B48
  gTrig : Nat
  /-- encoder counts of the interruption already reported PROVISIONAL that do not make a line yet, and the moment from which its next PROVISIONAL record counts (07_kernels_records R278). reset: 0 -/
  gRem : Int
  gapT : Time
  /-- end of the last CPLL interruption, for invalid stamps (11_pin_engines R384). reset: none -/
  lastInv : Option (Time × Time)
  /-- [32] CLK_LPLL_PERIOD (10_clocks CLK_LPLL_PERIOD). reset: 0 -/
  period : Nat
  /-- [16] CLK_LPLL_PHASE.PHERR, signed (10_clocks R371). reset: 0 -/
  phErr : BitVec 16
  /-- [16] CLK_LPLL_PHASE.ACQ (10_clocks CLK_LPLL_PHASE). reset: 0 -/
  acq : BitVec 16
  /-- [64] stamp of the last reference edge (10_clocks R366). reset: none -/
  lastRef : Option Time
  /-- period f_0 chosen in step 1, 0.5 ns units; 0 while still measuring (10_clocks R366). reset: 0 -/
  t0 : Nat
  /-- previous reference period, 0.5 ns units; 0 when none (10_clocks R366, R368). reset: 0 -/
  prev : Nat
  /-- good periods counted toward lock, 0 to 4 (10_clocks R366). reset: 0 -/
  good : Nat
  /-- period of the ticks in force: last tracked, clamped or held (10_clocks R368, R369). reset: 0 -/
  tickT : Nat
  /-- reference events emitted and not yet at the LPLL, oldest first: stamp, or none where the stamp is invalid (11_pin_engines R396, R548). reset: none -/
  refQ : List (Option Time)
  /-- hops from the tick source to this device, of the latest relayed reference (12_hinge_array R417). reset: 0 -/
  refHops : Nat
  /-- [48] encoder position up to which object lines have been taken while clamped (01_line_tick R25). reset: 0 -/
  clampEnc : B48
  /-- [1] CLK_ASYNC.DONE (10_clocks R373). reset: 0 -/
  asDone : Bool
  /-- [8] CLK_ASYNC.IGNORED (10_clocks R373). reset: 0 -/
  asIgn : Byte
  /-- [3] CLK_ASYNC.OFFSET, the offset A (10_clocks R372). reset: 0 -/
  asOff : BitVec 3
  /-- [64] CLK_ASYNC_TIME (10_clocks R373). reset: 0 -/
  asT : Time
  /-- register accesses that wait, oldest first (10_clocks R360, R363). reset: none -/
  wait : List Wait
deriving DecidableEq, Repr

/-- A pin engine (11_pin_engines). -/
structure Px where
  /-- [2] PX_STATUS.STATE: 0 STOPPED, 1 RUNNING, 2 FAULT (11_pin_engines R402). reset: 0 -/
  st : Nat
  /-- [5] PX_STATUS.PC (11_pin_engines R387). reset: 0 -/
  pc : Nat
  /-- [64] time since which the instruction at PC is blocked, PX_STATUS.BLOCKED (11_pin_engines R387). reset: none -/
  blk : Option Time
  /-- edges that became visible since the blocked instruction issued: input, rising, stamp, valid (11_pin_engines R393). reset: none -/
  seen : List (Nat × Bool × Time × Bool)
  /-- [1] a STOP waits for the cycle boundary (11_pin_engines R402). reset: 0 -/
  stopReq : Bool
  /-- [1] PX_STATUS.PROG_REJECT (11_pin_engines R403). reset: 0 -/
  progRej : Bool
  /-- [1] PX_STATUS.HOST_EVT (11_pin_engines R398). reset: 0 -/
  evt : Bool
  /-- [4] PX_STATUS.CAUSE (11_pin_engines R393). reset: 0 -/
  cause : Nat
  /-- [2] PX_STATUS.IN1_FULL, IN0_FULL (11_pin_engines R400). reset: 0 -/
  full : BitVec 2
  /-- [8] PX_STATUS.HOST_CODE (11_pin_engines R398). reset: 0 -/
  code : Byte
  /-- [64] shift register SH (11_pin_engines R393). reset: 0 -/
  sh : W64
  /-- [7] PX_SHCOUNT (11_pin_engines R395). reset: 0 -/
  shc : Nat
  /-- [1] the shift instruction at PC is a resumed one (11_pin_engines R404). reset: 0 -/
  resume : Bool
  /-- [4 x 48] counters c0 to c3 (11_pin_engines R388). reset: 0 -/
  c : List B48
  /-- modes of the counters: MODE, A, B, ENG (11_pin_engines R388). reset: 0 -/
  mode : List (Nat × Nat × Nat × Nat)
  /-- stamp and validity of the latest count edge of each counter (11_pin_engines R391, R394). reset: none -/
  cnt : List (Option (Time × Bool))
  /-- counter with XEN, its input X, and XEN (11_pin_engines R390). reset: 0, 0, 0 -/
  xk : Nat
  xi : Nat
  xen : Bool
  /-- [1] PX_CNTMODE.DIR, latest count of c0 was down (11_pin_engines R391). reset: 0 -/
  down : Bool
  /-- [4] filtered input levels after inversion (11_pin_engines R382). reset: DESIGN CHOICE 0 (log entry 8) -/
  lev : BitVec 4
  /-- [4 x 64] PX_LAST_STAMP and its validity; none when no edge was accepted (11_pin_engines R383, R399). reset: none, read as 0 -/
  last : List (Option (Time × Bool))
  /-- level each output drives: 0 low, 1 high, 2 high-Z; none until the first OUT or SHOUT (11_pin_engines R380). reset: none -/
  outs : List (Option Nat)
  /-- causing edge: stamp and validity; none when cleared (11_pin_engines R394). reset: none -/
  edge : Option (Time × Bool)
  /-- [64] PX_IDX_STAMP (11_pin_engines R390). reset: 0 -/
  idx : Time
  /-- [4 x 64] PX_DATA (11_pin_engines R399). reset: 0 -/
  data : List W64
  /-- [16] PX_ERR.QERR (11_pin_engines R389). reset: 0 -/
  qerr : BitVec 16
  /-- [16] PX_ERR.IN_REJECT (11_pin_engines R400). reset: 0 -/
  inRej : BitVec 16
  /-- [64] time of the previous EVT (11_pin_engines R396). reset: none -/
  evtT : Option Time
  /-- input on which the last WAITE completed (11_pin_engines R393, JMP COND 7). reset: none -/
  wIn : Option Nat
  /-- [64] array time of the latest START: the cycles of the engine clock and its 8-bit accumulator count from there (11_pin_engines R386). reset: 0 -/
  startT : Time
deriving DecidableEq, Repr

def Px.fresh : Px :=
  { st := 0, pc := 0, blk := none, seen := [], stopReq := false, progRej := false, evt := false, cause := 0, full := 0, code := 0, sh := 0,
    shc := 0, resume := false, c := List.replicate 4 0, mode := List.replicate 4 (0, 0, 0, 0), cnt := List.replicate 4 none, xk := 0, xi := 0,
    xen := false, down := false, lev := 0, last := List.replicate 4 none, outs := List.replicate 4 none, edge := none, idx := 0,
    data := List.replicate 4 0, qerr := 0, inRej := 0, evtT := none, wIn := none, startT := 0 }

/-- A Hinge port (12_hinge_array R412 to R414, R423). -/
structure Port where
  /-- [3] 0 down, 1 training, 2 UP, 3 LOST, 4 LONG (12_hinge_array HNG_STATUS). reset: 0 -/
  st : Nat
  /-- [10] raw one-way latency, 0.1 ns units (12_hinge_array R413). reset: 0 -/
  raw : Nat
  /-- MARK round trips measured, and their sum in 0.1 ns (12_hinge_array R413). reset: 0 -/
  marks : Nat
  markSum : Nat
  /-- [64] array time of the last valid HEARTBEAT (12_hinge_array R423). reset: 0 -/
  hbT : Time
  /-- [64] beginning of the run of heartbeats without a gap of 2 us (12_hinge_array R423). reset: none -/
  runT : Option Time
  /-- [6] chain position of the neighbour, when its heartbeat carries POS_VALID (12_hinge_array R408). reset: none -/
  pos : Option Nat
  /-- [6] highest position seen in that direction (12_hinge_array R410 HEARTBEAT TAG). reset: 0 -/
  high : Nat
  /-- [1] the partner was lost and has not rejoined (12_hinge_array R423). reset: 0 -/
  lost : Bool
deriving DecidableEq, Repr

def Port.fresh : Port := { st := 0, raw := 0, marks := 0, markSum := 0, hbT := 0, runT := none, pos := none, high := 0, lost := false }

/-- Hinge (12_hinge_array). -/
structure Hinge where
  /-- upstream and downstream port (12_hinge_array R406). reset: Port.fresh -/
  up : Port
  dn : Port
  /-- [6] HNG_STATUS.POS with POS_VALID (12_hinge_array R408). reset: none -/
  pos : Option Nat
  /-- [1] HNG_STATUS.ALIGNED (12_hinge_array R415). reset: 0 -/
  aligned : Bool
  /-- consecutive comparisons within 10 ps, up to 64 (12_hinge_array R415). reset: 0 -/
  alGood : Nat
  /-- [1] HNG_STATUS.REROUTED (12_hinge_array R425). reset: 0 -/
  rerouted : Bool
  /-- [16] HNG_TRIM.OFFSET, 10 ps units (12_hinge_array R415). reset: 0 -/
  offset : BitVec 16
  /-- [16] HNG_TRIM.TRIM, 10 ps units (12_hinge_array R418). reset: 0 -/
  trim : BitVec 16
  /-- slew of array time accumulated below one 0.5 ns unit, 10 ps units (12_hinge_array R415). reset: 0 -/
  slew : Int
  /-- [64] HNG_LOST (12_hinge_array R424). reset: 0 -/
  lost : W64
  /-- [8] HNG_LOSS_COUNT.UP, DN, REROUTES (12_hinge_array R424). reset: 0 -/
  lossUp : Byte
  lossDn : Byte
  reN : Byte
  /-- [16] HNG_LINK_ERR.LANE, [8] FRAME, [8] CONFLICT (12_hinge_array R410, R417). reset: 0 -/
  lane : BitVec 16
  frame : Byte
  confl : Byte
  /-- [64] HNG_BCAST_RX (12_hinge_array R428). reset: 0 -/
  rx : W64
  /-- [1] HNG_BARRIER.WAITING, [1] DONE, [7] PARTS (12_hinge_array R429). reset: 0 -/
  bWait : Bool
  bDone : Bool
  bParts : Nat
  /-- gathers received and not yet passed on, by port of arrival: downstream, barrier ID, devices gathered (12_hinge_array R429). reset: none -/
  bGath : List (Bool × Nat × Nat)
  /-- armed snapshot, commit, reset: T, issuer, for a reset its target and ALL (12_hinge_array R431). reset: none -/
  aSnap : Option (Time × Nat)
  aCommit : Option (Time × Nat)
  aReset : Option (Time × Nat × Nat × Bool)
  /-- [1] HNG_SCHED_CTL.REFUSED (12_hinge_array R433). reset: 0 -/
  refused : Bool
  /-- [64] HNG_SCHED_TIME (12_hinge_array R430). reset: 0 -/
  schedT : Time
  /-- [8] HNG_SCHED_STAT.CONFLICT, LATE, NEAR (12_hinge_array R433). reset: 0 -/
  sConf : Byte
  sLate : Byte
  sNear : Byte
  /-- maintenance read in progress, HNG_MNT_CTL.BUSY: request number, time of issue (12_hinge_array R435). reset: none -/
  mnt : Option (Nat × Time)
  /-- [1] HNG_MNT_CTL.ERR (12_hinge_array R435). reset: 0 -/
  mErr : Bool
  /-- [64] HNG_MNT_WDATA (12_hinge_array R435). reset: 0 -/
  wdata : W64
  /-- [64] HNG_MNT_RDATA (12_hinge_array R435). reset: 0 -/
  rdata : W64
  /-- [11] next request number (12_hinge_array R410). reset: DESIGN CHOICE 0 (log entry 9) -/
  req : Nat
deriving DecidableEq, Repr

/-- Result of a slot attempt, BT_SLOT_RESULT (13_boot_security R458). -/
structure SlotRes where
  tried : Bool
  passed : Bool
  vend : BitVec 2
  own : BitVec 2
  canv : BitVec 2
  err : Byte
deriving DecidableEq, Repr

def SlotRes.none : SlotRes := { tried := false, passed := false, vend := 0, own := 0, canv := 0, err := 0 }

/-- Start-up, OTP, flash and the mailbox (13_boot_security). -/
structure Boot where
  /-- [1] MOD_RESET_N is low (13_boot_security R438). reset: 0, just released -/
  rst : Bool
  /-- an internal reset is in progress: 0 with the straps, 1 to 3 with that REBOOT selection, 4 with the slots still to be tried kept
  (13_boot_security R438, R444, R464). reset: none -/
  intRst : Option Nat
  /-- [1] all rails are present (17_electrical_mechanical R525). reset: 1 -/
  power : Bool
  /-- [8] GLB_BOOT_STAGE.STAGE (13_boot_security R441). reset: 0x00 RESET -/
  stage : Nat
  /-- [8] GLB_BOOT_STAGE.ERROR (13_boot_security R444). reset: 0 -/
  err : Nat
  /-- [2] GLB_BOOT_STAGE.SLOT (13_boot_security GLB_BOOT_STAGE). reset: 0 -/
  slot : Nat
  /-- [1] GLB_BOOT_STAGE.FALLBACK (13_boot_security GLB_BOOT_STAGE). reset: 0 -/
  fall : Bool
  /-- [2] GLB_BOOT_STAGE.STRAP, the sample or the REBOOT selection (13_boot_security R439). reset: BOOT_SEL, DESIGN CHOICE 0b00 (log entry 10) -/
  strap : Nat
  /-- [1] STRAP holds a REBOOT selection (13_boot_security R464). reset: 0 -/
  reb : Bool
  /-- [2] level of BOOT_SEL at the latest release of MOD_RESET_N (13_boot_security R439). reset: DESIGN CHOICE 0b00 (log entry 10) -/
  sel : Nat
  /-- the slots still to be tried: 1 A, 2 B (13_boot_security R439). reset: A then B for strap 0b00 -/
  todo : List Nat
  /-- [64] time of the release of MOD_RESET_N (13_boot_security R442). reset: 0 -/
  relT : Time
  /-- [16] BT_STATUS.BOOT_TIME, ms (13_boot_security R442). reset: 0 -/
  bootMs : Nat
  /-- [8] BT_STATUS.ATTEMPTS (13_boot_security BT_STATUS). reset: 0 -/
  tries : Nat
  /-- BT_SLOT_RESULT[0] and [1] (13_boot_security R458). reset: 0 -/
  resA : SlotRes
  resB : SlotRes
  /-- [32] BT_FW_VERSION, BT_OWNER, BT_CANVAS_VERSION (13_boot_security BT_FW_VERSION). reset: 0 -/
  fw : W32
  owner : W32
  canvVer : W32
  /-- [2] PERMISSIONS of the owner certificate, and of SYSTEM (13_boot_security R462). reset: 0 -/
  permO : BitVec 2
  permS : BitVec 2
  /-- canvas body of the slot in use: flash address and length (13_boot_security R459). reset: 0 -/
  body : Nat
  bodyLen : Nat
  /-- canvas sections in force: type, offset in the body, length (13_boot_security R459). reset: none -/
  secs : List (Nat × Nat × Nat)
  /-- [2048 B] chain table (07_kernels_records R242). reset: 0 -/
  chains : Mem
  /-- [1 KiB] parameter sets of the canvas, 64 B each (07_kernels_records R241, R260). reset: 0 -/
  psets : Mem
  /-- pin engines with the auto-start flag (11_pin_engines R405). reset: none -/
  auto : List Nat
  /-- OTP entries with the normal and with the margin reference, entry e as 256 bits (13_boot_security R446, R447). reset: DESIGN CHOICE 0, EMPTY (log entry 11) -/
  otpN : Tbl (BitVec 256)
  otpM : Tbl (BitVec 256)
  /-- classification of the entries: 0 EMPTY, 1 VALID, 2 VOID, 3 WEAK, OTP_STATE (13_boot_security R447). reset: 0 -/
  otpSt : Tbl Nat
  /-- the entries applied at the latest boot: the VALID ones, normal reference (13_boot_security R447, R448). reset: none, set at stage ROM -/
  otpA : Tbl (BitVec 256)
  /-- signed digests of the booted manifests: vendor, owner certificate, canvas (13_boot_security R466). reset: none -/
  digs : List (List Byte)
  /-- [64 MiB] flash contents, 0xFF where unlisted (13_boot_security R454). reset: DESIGN CHOICE erased (log entry 11) -/
  flash : Mem
  /-- [1] SEC_MBX_STATUS.BUSY, with the request running: op, length (13_boot_security R463). reset: none -/
  mbx : Option (Nat × Nat)
  /-- a palette save was in progress when the running command began, and has not ended (13_boot_security R455). reset: 0 -/
  mbxAfter : Bool
  /-- response and result of the running command, written at its end: bytes, result (13_boot_security R463). reset: none -/
  mbxResp : Option (List Byte × Nat)
  /-- OTP entries that the running command burns, in order: entry, what it then reads with the normal and the margin reference
  (13_boot_security R452, R453). reset: none -/
  burn : List (Nat × BitVec 256 × BitVec 256)
  /-- [8] SEC_MBX_STATUS.TAG, [7] RESULT, [7] SRC and SRC_POS (13_boot_security R463). reset: 0 -/
  mTag : Byte
  mRes : Nat
  mSrc : BitVec 7
  /-- [64 KiB] SEC_MBX_BUF, words (13_boot_security R463). reset: 0 -/
  buf : Tbl W64
deriving DecidableEq, Repr

/-- A staged event-log entry (14_faults R491). -/
structure LogEnt where
  seq : Nat
  t : Time
  line : Nat
  unit : Nat
  code : Nat
  rep : Nat
  d1 : W64
  d2 : W64
  d3 : W64
deriving DecidableEq, Repr

/-- Faults, readiness and the event log (14_faults). -/
structure Flt where
  /-- [3] GLB_RUN.HEALTH (14_faults R487). reset: 0 -/
  health : Nat
  /-- [1] GLB_RUN.READY, READY_N pulled low (14_faults R487). reset: 0 -/
  ready : Bool
  /-- [4] GLB_RUN.CAUSE (14_faults GLB_RUN). reset: 0 -/
  cause : Nat
  /-- [1] interrupted for longer than 40 us, [1] faulted (14_faults R487). reset: 0 -/
  long : Bool
  faulted : Bool
  /-- [32] GLB_WRITE_REJECT (14_faults R472). reset: 0 -/
  rej : W32
  /-- [64] FLT_REJECT_INFO (14_faults R472). reset: 0 -/
  info : W64
  /-- [16] FLT_PAIR.REPAIRED (14_faults R469). reset: 0 -/
  pairs : BitVec 16
  /-- BAR0 offsets of stored pairs whose repair is due; shadow banks with bit 31 set (14_faults R469). reset: none -/
  repair : List Nat
  /-- [16] FLT_ECC.CE, UE (14_faults FLT_ECC). reset: 0 -/
  ce : BitVec 16
  ue : BitVec 16
  /-- [16] FLT_INTEGRITY.RECORDS, REMADE (14_faults R482, R483). reset: 0 -/
  recs : BitVec 16
  remade : BitVec 16
  /-- device records whose first remake was made: channel, LINE, TYPE (14_faults R483). reset: none -/
  remadeOf : List (List W64)
  /-- [8] FLT_SUP.RESTARTS (14_faults R485). reset: 0 -/
  sups : Byte
  /-- [64] start of the supervisor restart in progress (14_faults R485). reset: none -/
  sup : Option Time
  /-- [64] time of the latest lockstep mismatch (14_faults R486). reset: none -/
  lastMis : Option Time
  /-- [32] FLT_LOG_SEQ.BOOT, SEQ (14_faults R491). reset: 0, set at boot -/
  boot : Nat
  seq : Nat
  /-- [18] entry of the log region written next (14_faults R491). reset: 0, set at boot -/
  lpos : Nat
  /-- [256 x 64 B] the RAM ring, by SEQ mod 256 (14_faults R492). reset: none -/
  log : Tbl (Option LogEnt)
  /-- SEQs staged and not yet in flash, oldest first, FLT_LOG_STAT.PENDING (14_faults R492). reset: none -/
  pend : List Nat
  /-- [16] FLT_LOG_STAT.OVERFLOW, and events not yet reported by an overflow entry (14_faults R492). reset: 0 -/
  ovf : BitVec 16
  overN : Nat
  /-- tiles that no engine serves because of a class H exception, until a switch line: tile, cause (14_faults R476). reset: none -/
  dead : List (Nat × Nat)
deriving DecidableEq, Repr

/-- A temperature sensor, TH_SENSOR (15_thermal R497 to R499). -/
structure Sensor where
  /-- [16] RAW: latest reading, 0x8000 when its halves did not complement. reset: 0 -/
  raw : BitVec 16
  /-- [16] EFF: effective reading, 1/16 C. reset: 0 -/
  eff : Int
  /-- substituted (15_thermal R498). reset: 0 -/
  sub : Bool
  /-- in a forced region (15_thermal R498). reset: 0 -/
  forced : Bool
  /-- [3] CAUSE of the latest failure (15_thermal R497). reset: 0 -/
  cause : Nat
  /-- [10] GOOD: consecutive plausible samples, saturating at 400 (15_thermal R499). reset: 0 -/
  good : Nat
  /-- reference reading and its time (15_thermal R497). reset: none -/
  ref : Option (Int × Time)
deriving DecidableEq, Repr

def Sensor.fresh : Sensor := { raw := 0, eff := 0, sub := false, forced := false, cause := 0, good := 0, ref := none }

/-- Thermal management (15_thermal). -/
structure Therm where
  /-- [40] the sensors (15_thermal R493). reset: Sensor.fresh -/
  sen : Tbl Sensor
  /-- [4] TH_STATUS.STEP, throttle step k in force (15_thermal R503). reset: 0 -/
  k : Nat
  /-- step decided and not yet in force (15_thermal R503). reset: none -/
  kNew : Option Nat
  /-- [64] time of the previous change (15_thermal R502). reset: none -/
  chT : Option Time
  /-- [1] a sample has been taken since the last accepted TH_CTL or TH_TIME write; T_c of the previous sample (15_thermal R501, R502). reset: none -/
  prev : Option Int
  /-- per step threshold 1 to 8: consecutive samples with T_c below E_k - HYST (15_thermal R501). reset: 0 -/
  low : List Nat
  /-- [16] T_c and [6] HOT (15_thermal R496). reset: 0 -/
  tc : Int
  hot : Nat
  /-- [16] pixel die temperature (15_thermal R496). reset: 0 -/
  pix : Int
  /-- [1] TH_STATUS.WARN (15_thermal R506). reset: 0 -/
  warn : Bool
  /-- [1] TH_STATUS.ACK_REQ (15_thermal R500). reset: 0 -/
  ack : Bool
  /-- [1] TH_STATUS.REARM_REQ (15_thermal R510). reset: 0 -/
  rearm : Bool
  /-- [1] a rearm was accepted and its record is not written (15_thermal R511). reset: 0 -/
  rearming : Bool
  /-- [16] TH_MAX.MAX, [6] SENSOR (15_thermal R513). reset: 0x8000, 0 -/
  max : Int
  maxS : Nat
  /-- [16] TH_COUNT.CHANGES, [8] SUBST (15_thermal TH_COUNT). reset: 0 -/
  chg : BitVec 16
  subs : Byte
  /-- consecutive samples with T_c at or above SHUT (15_thermal R507). reset: 0 -/
  hotN : Nat
  /-- shutdown: 0 none, 1 draining, 2 record due, 3 off; its sample time; HEALTH before it (15_thermal R507). reset: 0 -/
  shut : Nat
  shutT : Time
  shutH : Nat
  /-- [1] SHDN_N latch (15_thermal R508). reset: 0 -/
  shdn : Bool
  /-- SEQ of the latest record of the shutdown area, its position, KIND, and the SEQ of the record to be rearmed (15_thermal R509, R510). reset: 0 -/
  recSeq : Nat
  recPos : Nat
  recKind : Nat
  recShut : Nat
deriving DecidableEq, Repr

/-- The block. -/
structure State where
  /-- the commands that wait, first in, first out. reset: empty -/
  pending : List Instr
  /-- [64] array time of the latest event, GLB_ARRAY_TIME (16_register_index R516). reset: 0 -/
  now : Time
  /-- PW control registers, and the words of CLK_BAND[0] to CLK_BAND[15], with their stored pair, by BAR0 offset (00_scope R15 to R19; 10_clocks R364;
  14_faults R469, R471). reset: regReset of the offset -/
  regs : Tbl RegCell
  /-- shadow banks of the double-banked registers, by BAR0 offset (00_scope R18). reset: equal to the bank in force -/
  shadow : Tbl RegCell
  /-- values frozen at the latest snapshot, by BAR0 offset (01_line_tick R61). reset: 0 -/
  snap : Tbl W64
  tick : Tick
  pix : Pix
  seq : Seq
  conv : Conv
  cal : Cal
  te : Te
  fab : Fab
  host : HostLink
  clk : Clk
  /-- [8] pin engines (11_pin_engines). reset: Px.fresh -/
  px : Tbl Px
  hng : Hinge
  boot : Boot
  flt : Flt
  th : Therm
  /-- what the block has shown outside, newest first. reset: none -/
  out : List Out
  /-- the model's own field, not the spec's: how many free values have been used. reset: DESIGN CHOICE 0 (log entry 3) -/
  free : Nat
deriving DecidableEq, Repr

def Pix.fresh : Pix := { rows := List.replicate 256 [], stage := [64, 64, 64, 64], drainT := none }

def Tick.reset : Tick :=
  { st := 0, line := 0, dir := false, conf := false, revPend := false, flush := 0, flushAb := false, hold := false, holdN := 0, flushed := 0,
    held := none, heldEnc := 0, shift := none, shiftTmin := 0, next := 2000, worst := 2000, heldN := 0, rejN := 0, gapN := 0, lastTrig := 0,
    lastLat := 0, commit := false, commitT := 0, busyRej := false, epoch := 0, snap := false, snapT := 0, tag := 0, commitLine := 0,
    snapLine := 0, snapTime := 0, snapEnc := 0, idleBase := 0, ticked := false, last := none, hist := [], gap := none, turn := 0 }

def Seq.reset : Seq :=
  { act := false, swap := false, valid := false, invalid := false, discarded := false, copy := false, early := false, edited := false,
    held := false, src := 0, token := 0, lease := 0, bad := 0, rejBank := 0, rejLock := 0, hAcc := 0, hIgn := 0, hLine := 0, hTime := 0,
    hWait := false, ph := 0, entry := 0, exec := 0, frame := 0, waited := 0, hOrig := false, hPhase := 0, passes := 0, pass := 0, gen := 0,
    res := [], due := [] }

def Conv.reset : Conv :=
  { banks := [], asleep := BitVec.allOnes 1024, rotLine := 0, rotN := 0, defN := 0, retRot := 0, retOot := 0, chkN := 0, lastRet := 0, lastRetLine := 0 }

def CalStep.none : CalStep :=
  { cmd := 0, ph := 0, goT := 0, entry := 0, ref := Option.none, passes := 0, ticks := 0, execs := 0, t0 := 0, t1 := 0, bands := 0, refN := 0,
    tsum := 0, tn := 0, tFirst := 0, tLast := 0, tkLast := 0, left := 0, copy := Option.none }

def DarkCond.none : DarkCond := { stage := 0, period := 0, rev := false, temp := 0, inst := false, base := false }

def Cal.reset : Cal :=
  { step := CalStep.none, acc := [], darkOk := 0, flatOk := 0, candO := [], candG := [], candD := [], candB := [],
    cand := List.replicate 4 DarkCond.none, darkT := [], flatT := [], saveBusy := false, saved := false, failed := false,
    fail := 0, source := 0, counter := 0, saving := none, saveAfter := false, master := [], masterUe := [], masterCe := [], rewrite := [], reload := [],
    dark := List.replicate 4 DarkCond.none, base := [], drift := [], stepLine := 0, applyLine := 0, journal := 0, jQueue := [] }

def Te.reset : Te :=
  { eng := [], stripe := [], image := [], params := [], fifo := [], excK := 0, excH := 0, lastExc := 0, lastInfo := 0, cycMax := 0,
    cycSlot := 0, loadBusy := false, denied := false, waitLoad := [] }

def Fab.reset : Fab :=
  { q := [], spine := [], egress := [], fillL := 0, fillC := 0, cyc := 0, arb := [], preS := 0, preT := 0, spL := 0, spC := 0,
    ch := [], lines := [], covers := [], contrib := [], comb := [], closeDue := [], paused := [] }

def HostLink.reset : HostLink :=
  { ring := [], msix := [], pba := 0, cause := 0, flr := 0, hot := 0, down := 0, perstN := 0, dlUp := false, flit := false, speed := 0,
    width := 0, bme := false, memEn := false, msixEn := false, fnMask := false, devCtl := 0x2010, linkCtl := 0, aerU := 0, aerUM := 0x00400000,
    aerUS := 0x00462030, aerC := 0, aerCM := 0x0000E000, flrBusy := false, perst := false, relT := 0, ready := false, d3 := false, rwin := [],
    rwait := [], rTo := 0, rRef := 0, stImage := [], stParams := [] }

def Clk.reset : Clk :=
  { cLock := false, aLock := false, gated := false, aGated := none, lpll := 0, ref := 0, pullin := false, foBlk := false, noBand := false,
    band := 0, encSus := false, ppm := 0, absent := 0, cN := 0, aN := 0, fN := 0, liLen := 0, liCause := 0, liTime := 0, intr := none,
    intrCause := 0, gateT := 0, stopT := 0, relockT := 0, again := false, gEnc := 0, gTrig := 0, gRem := 0, gapT := 0, lastInv := none, period := 0, phErr := 0,
    acq := 0, lastRef := none, t0 := 0, prev := 0, good := 0, tickT := 0, refQ := [], refHops := 0, clampEnc := 0, asDone := false, asIgn := 0, asOff := 0,
    asT := 0, wait := [] }

def Hinge.reset : Hinge :=
  { up := Port.fresh, dn := Port.fresh, pos := none, aligned := false, alGood := 0, rerouted := false, offset := 0, trim := 0, slew := 0,
    lost := 0, lossUp := 0, lossDn := 0, reN := 0, lane := 0, frame := 0, confl := 0, rx := 0, bWait := false, bDone := false, bParts := 0,
    bGath := [], aSnap := none, aCommit := none, aReset := none, refused := false, schedT := 0, sConf := 0, sLate := 0, sNear := 0,
    mnt := none, mErr := false, wdata := 0, rdata := 0, req := 0 }

def Boot.reset : Boot :=
  { rst := false, intRst := none, power := true, stage := 0, err := 0, slot := 0, fall := false, strap := 0, reb := false, sel := 0, todo := [1, 2], relT := 0,
    bootMs := 0, tries := 0, resA := SlotRes.none, resB := SlotRes.none, fw := 0, owner := 0, canvVer := 0, permO := 0, permS := 0, body := 0,
    bodyLen := 0, secs := [], chains := [], psets := [], auto := [], otpN := [], otpM := [], otpSt := [], otpA := [], digs := [], flash := [], mbx := none,
    mbxAfter := false, mbxResp := none, burn := [], mTag := 0, mRes := 0, mSrc := 0, buf := [] }

def Flt.reset : Flt :=
  { health := 0, ready := false, cause := 0, long := false, faulted := false, rej := 0, info := 0, pairs := 0, repair := [],
    ce := 0, ue := 0, recs := 0, remade := 0, remadeOf := [], sups := 0, sup := none, lastMis := none, boot := 0, seq := 0, lpos := 0, log := [],
    pend := [], ovf := 0, overN := 0, dead := [] }

def Therm.reset : Therm :=
  { sen := [], k := 0, kNew := none, chT := none, prev := none, low := List.replicate 8 0, tc := 0, hot := 0, pix := 0, warn := false,
    ack := false, rearm := false, rearming := false, max := -32768, maxS := 0, chg := 0, subs := 0, hotN := 0, shut := 0, shutT := 0,
    shutH := 0, shdn := false, recSeq := 0, recPos := 0, recKind := 0, recShut := 0 }

/-- The block right after MOD_RESET_N is released with the straps at 0b00: stage RESET, every field at its reset value (00_scope R13, 13_boot_security R438). -/
def State.reset : State :=
  { pending := [], now := 0, regs := [], shadow := [], snap := [], tick := Tick.reset, pix := Pix.fresh, seq := Seq.reset, conv := Conv.reset, cal := Cal.reset,
    te := Te.reset, fab := Fab.reset, host := HostLink.reset, clk := Clk.reset, px := [], hng := Hinge.reset, boot := Boot.reset, flt := Flt.reset,
    th := Therm.reset, out := [], free := 0 }

end Machine
end Sys2Proof
end

