-- ==== Sys2Proof/Machine/Ops.lean ====
section
/-! DEFINITION. The named operations: updating one part of the state, reading and writing registers, rejecting a write, raising an interrupt,
logging an event, and staging a device record. -/

namespace Sys2Proof
namespace Machine

def State.modTick (s : State) (f : Tick → Tick) : State := { s with tick := f s.tick }
def State.modSeq (s : State) (f : Seq → Seq) : State := { s with seq := f s.seq }
def State.modConv (s : State) (f : Conv → Conv) : State := { s with conv := f s.conv }
def State.modCal (s : State) (f : Cal → Cal) : State := { s with cal := f s.cal }
def State.modTe (s : State) (f : Te → Te) : State := { s with te := f s.te }
def State.modFab (s : State) (f : Fab → Fab) : State := { s with fab := f s.fab }
def State.modHost (s : State) (f : HostLink → HostLink) : State := { s with host := f s.host }
def State.modClk (s : State) (f : Clk → Clk) : State := { s with clk := f s.clk }
def State.modHng (s : State) (f : Hinge → Hinge) : State := { s with hng := f s.hng }
def State.modBoot (s : State) (f : Boot → Boot) : State := { s with boot := f s.boot }
def State.modFlt (s : State) (f : Flt → Flt) : State := { s with flt := f s.flt }
def State.modTh (s : State) (f : Therm → Therm) : State := { s with th := f s.th }

/-- The event happens at array time `t`: time never runs backwards, and wraps at 2^64 (00_scope R10; 10_clocks R361; log entry 73). -/
def State.at (s : State) (t : Time) : State := { s with now := if reached t s.now then t else s.now }

/-- Show something outside the block. -/
def State.emit (s : State) (o : Out) : State := { s with out := o :: s.out }

/-- The CPLL interruption is in progress: no ticks, and the engines stand still (01_line_tick R54; 10_clocks R359, R360). -/
def State.noTicks (s : State) : Bool := s.clk.gated || s.clk.intr.isSome

/-- Array time as the device shows it: exact while the fabric clock runs, in 40 ns steps from the gating on while it is gated (10_clocks R361). -/
def State.arrayNow (s : State) : Time :=
  if s.clk.gated then s.clk.gateT + BitVec.ofNat 64 (since s.now s.clk.gateT / 80 * 80) else s.now

/-- The logic is powered, out of reset, no internal reset is in progress, and the device has not power-gated itself (13_boot_security R438,
17_electrical_mechanical R525, 15_thermal R507). -/
def State.alive (s : State) : Bool := s.boot.power && !s.boot.rst && s.boot.intRst.isNone && s.th.shut != 3

/-- GLB_BOOT_STAGE reports RUN, 0x08 (13_boot_security R441). -/
def State.running (s : State) : Bool := s.alive && s.boot.stage == 0x08

/-- The frame every timed command shares: nothing happens while the logic is off; else the event happens at `t`. -/
def timed (t : Time) (s : State) (f : State → State) : Host.Outcome State Fault Refusal :=
  .next (if s.alive then f (s.at t) else s)

/-- As `timed`, for an event that can only happen in RUN. -/
def inRun (t : Time) (s : State) (f : State → State) : Host.Outcome State Fault Refusal :=
  timed t s fun s => if s.running then f s else s

/-- Which way the device goes where the spec allows either (log entry 4). -/
def State.chooses (s : State) : Bool := Config.choice s.free

/-- A free value used once: the counter steps (log entry 3). -/
def State.useFree (s : State) : State := { s with free := s.free + 1 }

/-! Engines, rings, channels, pin engines, banks, lines by index. -/

def State.eng (s : State) (e : Nat) : Engine := Tbl.get Engine.fresh s.te.eng e
def State.modEng (s : State) (e : Nat) (f : Engine → Engine) : State :=
  s.modTe fun x => { x with eng := Tbl.set Engine.fresh x.eng e (f (Tbl.get Engine.fresh x.eng e)) }
def State.ring (s : State) (ch : Nat) : Ring := Tbl.get Ring.fresh s.host.ring ch
def State.modRing (s : State) (ch : Nat) (f : Ring → Ring) : State :=
  s.modHost fun x => { x with ring := Tbl.set Ring.fresh x.ring ch (f (Tbl.get Ring.fresh x.ring ch)) }
def State.chan (s : State) (ch : Nat) : Chan := Tbl.get Chan.fresh s.fab.ch ch
def State.modChan (s : State) (ch : Nat) (f : Chan → Chan) : State :=
  s.modFab fun x => { x with ch := Tbl.set Chan.fresh x.ch ch (f (Tbl.get Chan.fresh x.ch ch)) }
def State.pin (s : State) (e : Nat) : Px := Tbl.get Px.fresh s.px e
def State.modPx (s : State) (e : Nat) (f : Px → Px) : State :=
  { s with px := Tbl.set Px.fresh s.px e (f (Tbl.get Px.fresh s.px e)) }
def State.bank (s : State) (t : Nat) : Bank := Tbl.get Bank.fresh s.conv.banks t
def State.modBank (s : State) (t : Nat) (f : Bank → Bank) : State :=
  s.modConv fun x => { x with banks := Tbl.set Bank.fresh x.banks t (f (Tbl.get Bank.fresh x.banks t)) }
def State.line (s : State) (n : Nat) : Option Line := Tbl.get none s.fab.lines n
def State.modLine (s : State) (n : Nat) (f : Line → Line) : State :=
  s.modFab fun x => { x with lines := Tbl.set none x.lines n ((Tbl.get none x.lines n).map f) }
def State.stripe (s : State) (k : Nat) : Stripe := Tbl.get Stripe.fresh s.te.stripe k
def State.modStripe (s : State) (k : Nat) (f : Stripe → Stripe) : State :=
  s.modTe fun x => { x with stripe := Tbl.set Stripe.fresh x.stripe k (f (Tbl.get Stripe.fresh x.stripe k)) }

/-! Registers. -/

/-- The PW registers that store written fields: BAR0 offset, reset value, stored bits, banked (16_register_index). -/
def rwSingles : List (Nat × W32 × W32 × Bool) :=
  [(0x10000, 0, 0xFFFE0000, true), (0x10008, 0xFA, 0x1FFF, true), (0x10018, 0x64, 0xFFFF, true), (0x10020, 0x100, 0xFFFF, true),
   (0x10028, 4, 0xFF, true), (0x10030, 0, 1, true), (0x10068, 1, 0xFFC0FFFF, true),
   (0x20000, 0x78000000, 0xF8000000, false), (0x20020, 0x64, 0xFFFF, false), (0x21800, 0, 0x7F, false), (0x22800, 0, 0x7F, false),
   (0x30038, 0, 0xFFFC0000, false), (0x40000, 0, 0x7FFFC000, false), (0x40018, 0, 0xFFFFFFFF, false),
   (0x40020, 0x0A401031, 0xFFFFFFF1, false), (0x50000, 0x01001000, 0x7FFFFF00, false)] ++
  [(0x100000, 0x07D04040, 0xFFFFFFFF, true), (0x100008, 0x41000000, 0xFFF00000, true), (0x100010, 0xC0000000, 0xFF000000, true),
   (0x104000, 0x14000000, 0xFF000000, false), (0x104028, 0x00100100, 0xFFFFFF00, false), (0x104030, 0, 0xFE000000, false),
   (0x180008, 0x40000000, 0xC0000000, false), (0x180040, 0x10000000, 0xB7FF0000, false),
   (0x180050, 0x20000, 0xFFFFE000, false), (0x180058, 0x20000, 0xFFFFE000, false),
   (0x1C0000, 0x20000000, 0xF0000000, false), (0x1C0048, 0, 0xFF, false), (0x1C0050, 0x40000, 0x61FCFFFF, false),
   (0x1C0068, 0, 0x40000000, false), (0x1C0070, 0, 0xFC3FFFFF, false), (0x1E0000, 0x56236400, 0xFFFFFF00, false),
   (0x1E0008, 0x00640000, 0xFFFF0000, false), (0x1F0000, 0x80000000, 0x80000000, false), (0x202000, 0, 0x7FFFFF00, false)]

/-- Word `w` of an entry: its stored bits (03_sequence_table R96). -/
def entryMask (w : Nat) : W32 := if w == 1 then 0xFFFFFFC0 else if w == 2 then 0xFFFFF000 else 0xFFFFFFFF

/-- The channel registers: offset in the block, reset value by channel, stored bits, banked (16_register_index RF_). -/
def chanReg (ch o : Nat) : Option (W32 × W32 × Bool) :=
  if o == 0x00 then
    some (if ch == 1 then 0xC4000000 else if ch == 0 || ch == 2 then 0x80C00000 else 0x00C00000, 0xFFFFFF00, true)
  else if o == 0x40 then some (0x01000000, 0x3F000000, false)
  else if o == 0x48 then some (0, 0xFFFFFFC0, false)
  else if o == 0x50 then some (0, 0xFFFFFFFF, false)
  else if o == 0x58 then some (0, 0xFFFFFFF8, false)
  else if o == 0x60 then some (0, 0xFFFFFFFF, false)
  else if o == 0x68 then some (0, 0xFFFF, false)
  else if o == 0x78 then some (if ch == 1 then 0x00100064 else 5, 0xFFFFFFFF, false)
  else if o == 0x80 then some (0, 0xFFFF, false)
  else none

/-- The pin engine registers: offset in the block, reset value, stored bits (16_register_index PX_). -/
def pxReg (o : Nat) : Option (W32 × W32 × Bool) :=
  if o == 0x00 then some (0, 0x3F800000, false)
  else if o == 0x10 then some (0x00010000, 0xFFFFFF00, false)
  else if o == 0x18 then some (0xFFFFFF00, 0xFFFFFF00, false)
  else if o == 0x20 then some (0, 0xFFFFF000, false)
  else if o == 0x28 then some (0xFFFFFF00, 0xFFFFFF00, false)
  else if o == 0x30 then some (0xAA800000, 0xFF800000, false)
  else if o == 0x48 || o == 0x50 then some (0, 0xFFFFFFFF, false)
  else if 0x100 ≤ o && o < 0x200 then some (0x98000000, 0xFFFFFFFF, false)
  else none

/-- Reset value, stored bits and banking of the PW register at a BAR0 offset that stores written fields (16_register_index). -/
def rwReg (off : Nat) : Option (W32 × W32 × Bool) :=
  if off % 8 != 0 then none
  else if (0x21000 ≤ off && off < 0x21800) || (0x22000 ≤ off && off < 0x22800) then some (0, entryMask (off % 32 / 8), false)
  else if 0x101000 ≤ off && off < 0x102000 then chanReg ((off - 0x101000) / 0x100) (off % 0x100)
  else if 0x1A0000 ≤ off && off < 0x1A2000 then pxReg (off % 0x400)
  else (rwSingles.find? fun r => r.1 == off).map fun r => r.2

/-- The reset value of the register at an offset (16_register_index; canvas fields 0 before the canvas loads, log entry 5). -/
def regReset (off : Nat) : W32 := ((rwReg off).map (·.1)).getD 0

/-- The register as an accepted write leaves it: pair, last good value and supervisor's copy agree (14_faults R469). -/
def cellOf (v : W32) : RegCell := { pair := pairOf v, good := v, copy := v }

/-- The value a unit uses: the pair's value half where the halves complement, else the last value that checked (14_faults R469). -/
def RegCell.val (c : RegCell) : W32 := if pairOk c.pair then c.pair.setWidth 32 else c.good

def State.cell (s : State) (off : Nat) : RegCell := Tbl.get (cellOf (regReset off)) s.regs off

/-- The value in force of the PW register at an offset. -/
def State.reg (s : State) (off : Nat) : W32 := (s.cell off).val

/-- Entry `i` of the band table mirror, the words of CLK_BAND[i]: two stored pairs, the low word first (10_clocks R364; 14_faults R471; log entry 105). -/
def State.bandWord (s : State) (i : Nat) : W64 := s.reg (0x180104 + 8 * i) ++ s.reg (0x180100 + 8 * i)

/-- A field of the register in force. -/
def State.regF (s : State) (off hi lo : Nat) : Nat := fld (s.reg off) hi lo

/-- Base of the registers of pin engine `e`. -/
def pxBase (e : Nat) : Nat := 0x1A0000 + 0x400 * e

/-- PX_OUTSEL of an output: a pin, or 63 for none. -/
def State.outSel (s : State) (e o : Nat) : Nat := fld (s.reg (pxBase e + 0x28)) (31 - 6 * o) (26 - 6 * o)

/-- The level of an output: what the engine drives, or its idle level. -/
def State.outLevel (s : State) (e o : Nat) : Nat :=
  ((s.pin e).outs.getD o none).getD (fld (s.reg (pxBase e + 0x30)) (31 - 2 * o) (30 - 2 * o))

/-- The level of a plant pin: the one the output whose PX_OUTSEL names it drives, high-Z without one and outside RUN (11_pin_engines R379, R380). -/
def State.pinLevel (s : State) (p : Nat) : Nat :=
  if !s.running then 2
  else match (List.range 32).find? fun k => s.outSel (k / 4) (k % 4) == p with
    | some k => s.outLevel (k / 4) (k % 4)
    | none => 2

/-- Put a value in force. -/
def State.putReg (s : State) (off : Nat) (v : W32) : State :=
  { s with regs := Tbl.set (cellOf (regReset off)) s.regs off (cellOf v) }

/-- What the shadow bank of a banked register holds: the bank in force unless written since the last commit (00_scope R18). -/
def State.shadowCell (s : State) (off : Nat) : RegCell :=
  (Tbl.get none (s.shadow.map fun p => (p.1, some p.2)) off).getD (cellOf (s.reg off))

/-- Store the accepted write `v`: banked registers hold it in the shadow bank, and reserved and read-only bits are ignored
(00_scope R14, R18, R19); the write takes the place of a pending repair (14_faults R471). -/
def State.storeReg (s : State) (off : Nat) (v : W32) : State :=
  match rwReg off with
  | none => s
  | some (_, m, banked) =>
    if banked then
      { s with shadow := Tbl.insert s.shadow off (cellOf (v &&& m)),
               flt := { s.flt with repair := s.flt.repair.filter (· != off + 2 ^ 31) } }
    else
      let s := s.putReg off (v &&& m)
      { s with flt := { s.flt with repair := s.flt.repair.filter (· != off) } }

/-- Replace fields of a stored register by the device itself. -/
def State.setFld (s : State) (off hi lo v : Nat) : State :=
  let w := (s.reg off).toNat
  let old := (w / 2 ^ lo) % 2 ^ (hi + 1 - lo)
  s.putReg off (BitVec.ofNat 32 (w - old * 2 ^ lo + (v % 2 ^ (hi + 1 - lo)) * 2 ^ lo))

/-- Every shadow bank becomes the bank in force (01_line_tick R57, 00_scope R18). -/
def State.commitRegs (s : State) : State :=
  s.shadow.foldl (fun s p => s.putReg p.1 p.2.val) { s with shadow := [] }

/-- A rejected write: counted once, its cause, source and offset kept (14_faults R472). -/
def State.reject (s : State) (cause : Nat) (src : BitVec 7) (off : Nat) : State :=
  s.modFlt fun f => { f with rej := f.rej + 1, info := pack 64 [(cause, 60), (src.toNat, 53), (off % 2 ^ 22, 0)] }

/-- A write to a PW register: accepted only as one 64-bit write whose halves complement (00_scope R15, R16). -/
def State.acceptPW (s : State) (off : Nat) (w : Wr) (f : W32 → State) : State :=
  if w.nb != 8 then s.reject 2 w.src off
  else if !pairOk w.v then s.reject 1 w.src off
  else f (w.v.setWidth 32)

/-- The offset responds before RUN: GLB_, BT_, OTP_, SEC_, and the host-link registers with MSI-X (09_host_link R313). -/
def early (off : Nat) : Bool :=
  off < 0x10000 || 0x200000 ≤ off || (0x101000 ≤ off && off < 0x102000 && 0x40 ≤ off % 0x100) || (0x104000 ≤ off && off < 0x180000)

/-- The offset lies in a block fed by the CPLL: the sensor blocks and the result fabric (10_clocks R357, R360; log entry 15). -/
def cpllFed (off : Nat) : Bool :=
  (0x10000 ≤ off && off < 0x100040) || (0x101000 ≤ off && off < 0x102000 && off % 0x100 < 0x40)

/-- A BAR0 request to the offset waits: to a CPLL-fed block while those domains are gated, to any register during an APLL interruption, and one that
needs the supervisor while its firmware restarts (10_clocks R360, R363; 14_faults R485; log entry 104). -/
def State.stalls (s : State) (off : Nat) : Bool :=
  (cpllFed off && s.clk.gated) || s.clk.aGated.isSome || (s.flt.sup.isSome && Config.needsSup off)

/-- Report an uncorrectable error through AER: its status bit is set, and unless it is masked a message is sent. The code is the bit's number: 12
Poisoned TLP, 14 Completion Timeout, 15 Completer Abort, 20 Unsupported Request (09_host_link R311; log entries 22 and 100). -/
def State.aer (s : State) (code : Nat) : State :=
  let s := s.modHost fun h => { h with aerU := h.aerU ||| (1#32 <<< code) }
  if s.host.aerUM.getLsbD code then s else s.emit (.aer code)

/-- The mailbox command in progress uses the flash: FLASH_READ, FLASH_ERASE, FLASH_WRITE or VERIFY_SLOT (13_boot_security R455, R464). -/
def State.mbxFlashes (s : State) : Bool := match s.boot.mbx with
  | some (op, _) => decide (2 ≤ op) && decide (op ≤ 5)
  | none => false

/-- A write from the local function, not from another device (03_sequence_table R119). -/
def isLocal (w : Wr) : Bool := !bit w.src 6

/-- A write reaches the register at `off`: one of the local host only while Memory Space is enabled; before RUN and in a thermal shutdown
(15_thermal R507) it is discarded unless the block responds, while the clocks of the block are gated it waits, and a PW register accepts only a paired
word (09_host_link R309, R313, 10_clocks R360, 00_scope R15, R16). -/
def State.writePW (s : State) (off : Nat) (w : Wr) (f : W32 → State → State) : State :=
  if isLocal w && !s.host.memEn then s.aer 20
  else if !early off && (!s.running || s.th.shut != 0) then s.reject 4 w.src off
  else if s.stalls off then s.modClk fun c => { c with wait := c.wait ++ [{ t := s.now, off := off, nb := w.nb, w := some w, rem := none }] }
  else s.acceptPW off w fun v => f v s

/-- A command that writes the PW register at `off`. -/
def regCmd (t : Time) (off : Nat) (w : Wr) (s : State) (f : W32 → State → State) : Host.Outcome State Fault Refusal :=
  timed t s fun s => s.writePW off w f

/-! Interrupts. -/

/-- A vector of the MSI-X table at reset (09_host_link R310). -/
def Msix.masked : Msix := { addr := 0, data := 0, mask := true }

/-- Send the MSI-X message of vector `v`; a channel's HOLDOFF counts from it (09_host_link R329). -/
def State.msixSend (s : State) (v : Nat) : State :=
  let m := Tbl.get Msix.masked s.host.msix v
  let s := if v < 16 then s.modRing v fun r => { r with irqT := some s.now } else s
  s.emit (.msix v m.addr m.data)

/-- The message of vector `v` is due: it is sent, or the vector or the function is masked and its PBA bit is set (09_host_link R329, R346). -/
def State.msix (s : State) (v : Nat) : State :=
  let m := Tbl.get Msix.masked s.host.msix v
  if !s.host.msixEn || !s.host.bme then s
  else if m.mask || s.host.fnMask then s.modHost fun h => { h with pba := h.pba ||| (1#64 <<< v) }
  else s.msixSend v

/-- The message of a vector that is no longer masked and whose PBA bit is set is sent, and the bit clears (09_host_link R329). -/
def State.msixFree (s : State) (v : Nat) : State :=
  let m := Tbl.get Msix.masked s.host.msix v
  if s.host.pba.getLsbD v && !m.mask && !s.host.fnMask && s.host.msixEn && s.host.bme then
    (s.modHost fun h => { h with pba := h.pba &&& ~~~(1#64 <<< v) }).msixSend v
  else s

/-- An event of vector 16 to 27: the message is sent only when its cause bit goes from 0 to 1 (09_host_link R346). -/
def State.raise (s : State) (v : Nat) : State :=
  if s.host.cause.getLsbD (v - 16) then s
  else (s.modHost fun h => { h with cause := h.cause ||| (1#12 <<< (v - 16)) }).msix v

/-! The event log. -/

/-- Line sequence of the latest tick, 0 before the first (log entry 12). -/
def State.lastLine (s : State) : Nat := if s.tick.last.isNone then 0 else (s.tick.line - 1).toNat


/-- Stage an event (14_faults R491, R492). -/
def State.logEvent (s : State) (unit code : Nat) (d1 d2 d3 : Nat) : State :=
  let w1 := BitVec.ofNat 64 d1
  let same := s.flt.pend.find? fun q => match Tbl.get none s.flt.log (q % 256) with
    | some e => e.seq == q && e.unit == unit && e.code == code && e.d1 == w1 && since s.arrayNow e.t ≤ 2000000 && e.rep < 0xFFFF
    | none => false
  match same with
  | some q =>
    let e := (Tbl.get none s.flt.log (q % 256)).map fun e => { e with rep := e.rep + 1 }
    s.modFlt fun f => { f with log := Tbl.set none f.log (q % 256) e }
  | none =>
    if 256 ≤ s.flt.pend.length then s.modFlt fun f => { f with ovf := f.ovf + 1, overN := f.overN + 1 }
    else
      let q := s.flt.seq + 1
      let e : LogEnt := { seq := q, t := s.arrayNow, line := s.lastLine, unit := unit, code := code, rep := 1, d1 := w1,
                          d2 := BitVec.ofNat 64 d2, d3 := BitVec.ofNat 64 d3 }
      (s.modFlt fun f => { f with seq := q, log := Tbl.set none f.log (q % 256) (some e), pend := f.pend ++ [q] }).raise 26

end Machine
end Sys2Proof
end

