-- ==== Sys2Proof/Machine/Rec.lean ====
section
/-! DEFINITION. Records: their words, the staging of device records, and the covering of line items (07_kernels_records). -/

namespace Sys2Proof
namespace Machine

/-- The trailer of a record whose words before it are `ws` (07_kernels_records R263). -/
def trailer (ws : List W64) : W64 :=
  let line := (ws.getD 0 0).setWidth 32
  crc32c (ws.flatMap (bytesLE 8)) ++ ~~~line

/-- A record: header of R262, body, trailer of R263. `span` is word 3 bits [63:32]: FIRST_TILE, LAST_TILE, ENTRY, CHAIN. -/
def recWords (typ ch line : Nat) (enc : B48) (time : Time) (span flags part : Nat) (body : List W64) : List W64 :=
  let ws := [pack 64 [(typ, 56), (ch, 48), (line % 2 ^ 48, 0)], pack 64 [(enc.toNat, 16), (body.length + 5, 0)], time,
             pack 64 [(span % 2 ^ 32, 32), (flags % 2 ^ 16, 16), (part % 2 ^ 16, 0)]] ++ body
  ws ++ [trailer ws]

/-- FIRST_TILE, LAST_TILE, ENTRY and CHAIN as word 3 bits [63:32] (07_kernels_records R262). -/
def span (t0 t1 entry chain : Nat) : Nat := t0 * 2 ^ 22 + t1 * 2 ^ 12 + entry * 2 ^ 6 + chain

/-- A record is whole: its LENGTH and its trailer agree with its words (07_kernels_records R262, R263). -/
def recOk (ws : List W64) : Bool :=
  ws.length ≥ 5 && fld (ws.getD 1 0) 15 0 == ws.length && ws.getLast? == some (trailer ws.dropLast)

/-- Fields of a record's header (07_kernels_records R262). -/
def recType (ws : List W64) : Nat := fld (ws.getD 0 0) 63 56
def recCh (ws : List W64) : Nat := fld (ws.getD 0 0) 51 48
def recLine (ws : List W64) : Nat := fld (ws.getD 0 0) 47 0
def recTile0 (ws : List W64) : Nat := fld (ws.getD 3 0) 63 54

/-- The record with LATE set and a new trailer (08_result_fabric R300). -/
def recLate (ws : List W64) : List W64 :=
  let w := upd ws.dropLast 3 fun x => x ||| (1#64 <<< 16)
  w ++ [trailer w]

/-- RF_CH_CFG of a channel in force. -/
def State.chCfg (s : State) (ch : Nat) : W32 := s.reg (0x101000 + 0x100 * ch)

/-- The channel is enabled: EN = 1 in force and its ring RUNNING (09_host_link R318). -/
def State.chanOn (s : State) (ch : Nat) : Bool := bit (s.chCfg ch) 31 && (s.ring ch).st == 1

/-- The ring takes the items of line `n`: from the start tick on, and in STOPPING up to the last line carried
(09_host_link R318, R333, R334; log entry 13). -/
def State.ringTakes (s : State) (ch n : Nat) : Bool :=
  let r := s.ring ch
  r.carry && r.startLine ≤ n && (r.st == 1 || (r.st == 2 && match r.stop with | some (_, l) => n < l | none => false))

/-- The channel carries the items of line `n`: EN = 1 in force and its ring takes them (08_result_fabric R304; 09_host_link R318). -/
def State.carries (s : State) (ch n : Nat) : Bool := bit (s.chCfg ch) 31 && s.ringTakes ch n

/-- CHANNELS of a chain (07_kernels_records R242). -/
def State.chainChans (s : State) (chain : Nat) : BitVec 16 := BitVec.ofNat 16 (leNat (memBytes 0 s.boot.chains (0x20 * chain + 0x10) 2))

/-- The encoder position at this moment: counter c0 of the pin engine TCK_CTL.ENC_ENG (01_line_tick R31). -/
def State.encNow (s : State) : B48 := (s.pin (s.regF 0x10000 19 17)).c.getD 0 0

/-- Put a record at the end of the supervisor stream, class L, with the deadline of R289; while the supervisor restarts it waits, and in
FAULTED no device record is made (08_result_fabric R289, 14_faults R485, R486). -/
def State.stage (s : State) (ws : List W64) : State :=
  let q : QRec := { ws := ws, dl := (s.arrayNow + BitVec.ofNat 64 (32 * s.regF 0x100000 7 0)).setWidth 32, cls := false, sent := 0, lb := 0, t := s.now,
                    dev := true, ue := false }
  if s.flt.faulted then s
  else if s.flt.sup.isSome then s.modFab fun f => { f with paused := f.paused ++ [q] }
  else s.modFab fun f => { f with q := Tbl.set [] f.q 1056 (Tbl.get [] f.q 1056 ++ [q]) }

/-- Stage one record on every channel of the list that passes the test. -/
def State.stageOn (s : State) (ok : State → Nat → Bool) (mk : Nat → List W64) : State :=
  (List.range 16).foldl (fun a ch => if ok a ch then a.stage (mk ch) else a) s

/-- An EVENT record on every enabled channel (07_kernels_records R272, R277). No rule gives the tiles, the entry and the chain of its header:
they are a free value (log entry 3). -/
def State.event (s : State) (code line : Nat) (enc : B48) (time : Time) (d1 d2 : Nat) : State :=
  let sp := (Config.freeValue s.free).toNat
  s.useFree.stageOn State.chanOn fun ch =>
    recWords 0x0C ch line enc time sp 0 0 [pack 64 [(code, 56), (d1 % 2 ^ 56, 0)], BitVec.ofNat 64 d2]

/-- An EVENT record about something that takes effect without a tick or before its line's tick (07_kernels_records R272). -/
def State.eventNow (s : State) (code line : Nat) (d1 d2 : Nat) : State := s.event code line s.encNow s.arrayNow d1 d2

/-- A GAP record of KIND 1: object lines for which no tick was taken (07_kernels_records R269, R277). No rule gives the entry and the chain of
its header: a free value (log entry 3). -/
def State.gapLines (s : State) (reason line count : Nat) (enc encEnd : B48) (time : Time) (prov : Bool) : State :=
  let fv := (Config.freeValue s.free).toNat
  s.useFree.stageOn State.chanOn fun ch =>
    recWords 0x08 ch line enc time (span 0 1023 (fv % 64) (fv / 64 % 64)) 0 0
      [pack 64 [(reason, 56), (1, 52), (count % 2 ^ 32, 0)], pack 64 [(encEnd.toNat, 16), (prov.toNat, 0)]]

/-- Bytes of a record. -/
def QRec.bytes (r : QRec) : Nat := 8 * r.ws.length

/-- Bytes of the egress buffer in class L flits, which hold device records too, and in class C flits (08_result_fabric R301; log entry 20). -/
def State.fillL (s : State) : Nat := s.fab.fillL + (s.fab.egress.map fun r => r.r.lb).sum
def State.fillC (s : State) : Nat := s.fab.fillC + (s.fab.egress.map fun r => r.r.bytes - r.r.lb).sum

/-- A STAT contribution: TYPE 0x04, KIND 0, of a kernel (07_kernels_records R268). -/
def QRec.contrib (r : QRec) : Bool := !r.dev && recType r.ws == 0x04 && fld (r.ws.getD 4 0) 63 56 == 0

/-- A contribution of channel `ch` for a line that satisfies `p` crosses the fabric (07_kernels_records R268; 08_result_fabric R284). -/
def State.crossing (s : State) (ch : Nat) (p : Nat → Bool) : Bool :=
  let hit := fun (r : QRec) => r.contrib && recCh r.ws == ch && p (recLine r.ws)
  s.fab.q.any (fun q => q.2.any hit) || s.fab.spine.any fun q => hit q.2.2

/-- The same for line `n`. -/
def State.statCrossing (s : State) (ch n : Nat) : Bool := s.crossing ch fun m => m == n

/-- A contribution for a line up to `n` crosses the fabric or waits to be combined (07_kernels_records R268). -/
def State.statOpen (s : State) (ch n : Nat) : Bool :=
  s.fab.contrib.any (fun c => c.ch == ch && c.line ≤ n) || s.crossing ch fun m => m ≤ n

/-- A kernel record of line `n`, tile `t` is discarded: the tile-line is not delivered complete (03_sequence_table R101; 08_result_fabric R304). -/
def State.loseRec (s : State) (n t ch : Nat) : State :=
  (s.modLine n fun l => { l with lost := l.lost ||| (1#1024 <<< t) }).modChan ch fun c => { c with dis := c.dis + 1 }

/-- The line item is covered by a FAILED or GAP record (07_kernels_records R275). -/
def State.covered (s : State) (n t ch : Nat) : Bool :=
  s.fab.covers.any fun c => c.line ≤ n && n < c.line + c.count && c.t0 ≤ t && t ≤ c.t1 && c.chans.getLsbD ch

/-- A record of the line item was dropped or lost: each later one is dropped on arrival (08_result_fabric R299; 14_faults R482). -/
def State.voided (s : State) (n t ch : Nat) : Bool :=
  s.fab.covers.any fun c => c.line ≤ n && n < c.line + c.count && c.t0 ≤ t && t ≤ c.t1 && c.chans.getLsbD ch &&
    (if c.failed then c.reason == 0x09 else c.reason == 0x06)

/-- First and last tile of the window of a line (03_sequence_table R99). -/
def Line.first (l : Line) : Nat := fld l.w2 31 22
def Line.last (l : Line) : Nat := fld l.w2 21 12

/-- The chain of a line (03_sequence_table R99). -/
def Line.chain (l : Line) : Nat := fld l.w0 19 14

/-- Maximal runs of adjacent numbers of a rising list. -/
def runsOf : List Nat → List (Nat × Nat)
  | [] => []
  | x :: xs =>
    match runsOf xs with
    | (a, b) :: r => if x + 1 = a then (x, b) :: r else (x, x) :: (a, b) :: r
    | [] => [(x, x)]

/-- The covering record of lines `n` to `n + count - 1`, tiles `a` to `b`, on channel `ch`: FAILED, or GAP of KIND 0
(07_kernels_records R269, R270). ENC_END is the position of the last line covered (log entry 14). -/
def State.coverRec (s : State) (failed : Bool) (reason code n count a b ch : Nat) (l : Line) : List W64 :=
  let e := ((s.line (n + count - 1)).map (·.enc)).getD l.enc
  recWords (if failed then 0x09 else 0x08) ch n l.enc l.t (span a b l.entry l.chain) l.flags.toNat 0
    [pack 64 [(reason, 56), (if failed then code else 0, 48), (count, 0)], pack 64 [(e.toNat, 16)]]

/-- Tiles `a` to `b` as a bit mask. -/
def tileSpan (a b : Nat) : BitVec 1024 := ((BitVec.allOnes 1024) <<< a) &&& ((BitVec.allOnes 1024) >>> (1023 - b))

/-- End tiles `a` to `b` of line `n` on channel `ch`: the line is noted as ended for them, and what no record covers already is covered, where the
channel carries the line (07_kernels_records R275; 14_faults R484). -/
def State.coverCh (s : State) (failed : Bool) (reason code n a b ch : Nat) (l : Line) : State :=
  let m := tileSpan a b
  let s := s.modLine n fun l => if failed then { l with fail := l.fail ||| m } else { l with gap := l.gap ||| m }
  if l.chans.getLsbD ch && s.carries ch n then
    (runsOf (((List.range (b + 1 - a)).map (· + a)).filter fun t => !s.covered n t ch)).foldl
      (fun s p =>
        let c : Cover :=
          { failed := failed, reason := reason, code := code, line := n, count := 1, t0 := p.1, t1 := p.2, chans := 1#16 <<< ch }
        (s.modFab fun f => { f with covers := f.covers ++ [c] }).stage (s.coverRec failed reason code n 1 p.1 p.2 ch l)) s
  else s

/-- End the line items of line `n` on tiles `t0` to `t1` of its window, on every channel of its chain (07_kernels_records R275, R277). -/
def State.cover (s : State) (failed : Bool) (reason code n t0 t1 : Nat) : State :=
  match s.line n with
  | none => s
  | some l =>
    if l.items then
      (List.range 16).foldl (fun s ch => s.coverCh failed reason code n (max t0 l.first) (min t1 l.last) ch l) s
    else s

/-- End line `n` FAILED for tile `t`: the tile will not release it any more (01_line_tick R34, 07_kernels_records R270). -/
def State.failTile (s : State) (reason code n t : Nat) : State :=
  ((s.cover true reason code n t t)).modLine n fun l => { l with rel := l.rel ||| (1#1024 <<< t) }

/-- The line item has neither been released nor ended for tile `t`. -/
def State.openItem (s : State) (n t : Nat) : Bool :=
  match s.line n with
  | some l => l.items && l.first ≤ t && t ≤ l.last && !l.rel.getLsbD t
  | none => false

/-- End line `n` FAILED on its whole window; a tick without line items is reported on every enabled channel (07_kernels_records R277). -/
def State.failLine (s : State) (reason code n : Nat) : State :=
  match s.line n with
  | none => s
  | some l =>
    if l.items then (s.cover true reason code n 0 1023).modLine n fun l => { l with rel := BitVec.allOnes 1024 }
    else s.stageOn State.chanOn fun ch =>
      recWords 0x09 ch n l.enc l.t (span 0 1023 l.entry l.chain) l.flags.toNat 0
        [pack 64 [(reason, 56), (code, 48), (1, 0)], pack 64 [(l.enc.toNat, 16)]]

/-- End line `n` as GAP on its whole window; no engine receives it (07_kernels_records R269, R275; 06_tile_engine_isa R212). -/
def State.gapWhole (s : State) (reason n : Nat) : State :=
  (s.cover false reason 0 n 0 1023).modLine n fun l => { l with rel := BitVec.allOnes 1024 }

/-- HEALTH and READY_N after a change of their conditions; each release and each later pull-low is logged (14_faults R487). -/
def State.health (s : State) : State :=
  let f := s.flt
  let unserved := (List.range 32).any fun k => !(s.stripe k).uns.isEmpty
  let failedBank := s.conv.banks.any fun p => p.2.st == 2
  let bad := unserved || failedBank
  let degr := s.regF 0x1F0000 31 31 == 1 && bad
  let h := if !s.running then 0 else if s.th.shut != 0 then 5 else if f.faulted then 4 else if degr then 3 else if f.long then 2 else 1
  let s1 := s.modFlt fun f => { f with health := h, ready := h == 1, cause := if f.ready && h != 1 then h else f.cause }
  if f.ready && h != 1 then (s1.logEvent 0x0B 1 h 0 0).emit (.ready false)
  else if !f.ready && h == 1 then (s1.logEvent 0x0B 2 0 0 0).emit (.ready true)
  else s1

end Machine
end Sys2Proof
end

