-- ==== Sys2Proof/Machine/Seq.lean ====
section
/-! DEFINITION. The sequence table: banks, validation, swap, ownership lock, hold triggers, the walk of the table, the minimum line period
and the result registers (03_sequence_table; 01_line_tick R36 to R38). -/

namespace Sys2Proof
namespace Machine

/-- Offset of bank A (false) or B (true) (03_sequence_table R95). -/
def bankBase (b : Bool) : Nat := if b then 0x22000 else 0x21000

/-- Word `w` of entry `n` of a bank. -/
def State.entW (s : State) (b : Bool) (n w : Nat) : W32 := s.reg (bankBase b + 0x20 * n + 8 * w)

/-- LEN of a bank (03_sequence_table R97). -/
def State.bankLen (s : State) (b : Bool) : Nat := fld (s.reg (bankBase b + 0x800)) 6 0

/-- Steps of a chain: kernel code and parameter set (07_kernels_records R242). -/
def chainSteps (m : Mem) (chain : Nat) : List (Nat × Nat) :=
  ((List.range 8).map fun i =>
    ((Tbl.get 0 m (0x20 * chain + 2 * i)).toNat, (Tbl.get 0 m (0x20 * chain + 2 * i + 1)).toNat)).takeWhile fun p => p.1 != 0

/-- The chain is defined (07_kernels_records R242). -/
def chainDef (m : Mem) (chain : Nat) : Bool := (Tbl.get 0 m (0x20 * chain + 0x12)).getLsbD 0

def chainHas (m : Mem) (chain code : Nat) : Bool := (chainSteps m chain).any fun p => p.1 == code

/-- CHANNEL and SRC of the chain's STAT step (07_kernels_records R260, R268). -/
def State.statStep (s : State) (chain : Nat) : Option (Nat × Nat) :=
  ((chainSteps s.boot.chains chain).find? fun p => p.1 == 9).map fun p =>
    ((Tbl.get 0 s.boot.psets (0x40 * (p.2 % 16) + 1)).toNat % 16, (Tbl.get 0 s.boot.psets (0x40 * (p.2 % 16))).toNat)

/-- The statistic selector is legal in the entry (03_sequence_table R100). -/
def statLegal (m : Mem) (w0 : W32) : Bool :=
  let ty := fld w0 31 28
  let c := fld w0 5 0
  if c == 0 then true
  else if c == 1 then ty ≤ 2
  else if c == 2 || c == 3 then ty == 0 || ty == 2
  else if 0x10 ≤ c && c < 0x28 then
    let g := c % 2
    ty ≤ 2 && fld w0 27 24 / 2 ^ (c / 2 % 4) % 2 == 1 && !(fld w0 23 22 == 2 - g) && chainHas m (fld w0 19 14) 9
  else c == 0x3F && ty ≤ 2 && chainHas m (fld w0 19 14) 9

/-- The first illegal field of an entry: word and low bit (03_sequence_table R99, R100). -/
def entryBad (m : Mem) (w0 w1 w2 : W32) : Option (Nat × Nat) :=
  let ty := fld w0 31 28
  let idle := ty == 3
  let chain := fld w0 19 14
  if 4 ≤ ty then some (0, 28)
  else if !idle && fld w0 27 24 == 0 then some (0, 24)
  else if !idle && fld w0 23 22 == 3 then some (0, 22)
  else if !idle && !chainDef m chain then some (0, 14)
  else if !statLegal m w0 then some (0, 0)
  else if !idle && (fld w1 7 6 == 3 || (fld w1 7 6 != 0 && !chainHas m chain 7)) then some (1, 6)
  else if !idle && fld w2 21 12 < fld w2 31 22 then some (2, 12)
  else none

/-- SEQ_BAD for a table given by its words and length; none when it is legal (03_sequence_table R113). -/
def tableBad (m : Mem) (len : Nat) (w : Nat → Nat → W32) : Option W32 :=
  if len == 0 || 64 < len then some (pack 32 [(1, 31), (1, 30)])
  else ((List.range len).findSome? fun n => (entryBad m (w n 0) (w n 1) (w n 2)).map fun p => (n, p)).map fun q =>
    pack 32 [(1, 31), (q.1, 24), (q.2.1, 22), (q.2.2, 17)]

/-! T_min. -/

/-- T_conv of an entry in ns; `conv` false for a line that reads no band (01_line_tick R36). -/
def tConv (w0 : W32) (reads : Bool) : Nat :=
  let nb := if reads then ((List.range 4).filter fun b => fld w0 27 24 / 2 ^ b % 2 == 1).length else 0
  96 * nb * (if fld w0 23 22 == 0 then 2 else 1) + 190

/-- T_min in 0.5 ns units at throttle step `k` (01_line_tick R36). -/
def tMin (w0 : W32) (reads wake : Bool) (k : Nat) : Nat :=
  let c := tConv w0 reads
  ceilDiv (2 * max 1000 (if wake then 400 + c else c) * (16 + k)) 16

/-- TCK_MIN_PERIOD.WORST: over the valid entries of the active bank (01_line_tick R38). -/
def State.worstPeriod (s : State) : Nat :=
  (List.range (s.bankLen s.seq.act)).foldl
    (fun a n => let w0 := s.entW s.seq.act n 0; max a (tMin w0 (fld w0 31 28 < 3) false s.th.k)) (tMin 0 false false s.th.k)

/-! The walk of the table. -/

/-- What a tick does with the table: entry, kind (0 image, 1 reference, 2 frame, 3 idle or wait), frame tick, execution or wait. -/
structure SeqAct where
  entry : Nat
  kind : Nat
  frame : Nat
  wait : Bool
deriving DecidableEq, Repr

/-- Wait ticks of the delay of an entry (03_sequence_table R105): `d` lines, or sub-line phases counted from the phase of the origin. -/
def delayTicks (w3 : W32) (direct : Bool) (phase : Nat) : Nat :=
  let d := fld w3 14 0
  if bit w3 15 then d else if direct then ceilDiv d 1024 else (d + phase) / 1024

/-- The delay of the current entry has run out (03_sequence_table R105). -/
def State.delayOver (s : State) : Bool :=
  delayTicks (s.entW s.seq.act s.seq.entry 3) (s.regF 0x10000 31 30 == 2) (if s.seq.hOrig then s.seq.hPhase.toNat else 0) ≤ s.seq.waited

/-- REPEAT of an entry, 0 meaning 65,536 (03_sequence_table R99). -/
def repeatOf (w3 : W32) : Nat := if fld w3 31 16 == 0 then 65536 else fld w3 31 16

/-- The last execution of the current entry ends with the tick of line `n`: its result falls due, and the next tick moves on. After the last entry
the pass is completed (03_sequence_table R103, R125, SEQ_POS, SEQ_PASS). -/
def endEntry (s : State) (n : Nat) (q : Seq) : Seq :=
  let w := fun i => s.entW q.act q.entry i
  let due : Due := { n := q.entry, pass := q.pass, gen := q.gen, last := n, w0 := w 0, w2 := w 2, ticks := q.exec }
  { q with due := q.due ++ [due], ph := 5, hOrig := false, frame := 0, waited := 0,
           passes := if s.bankLen q.act ≤ q.entry + 1 then q.passes + 1 else q.passes }

/-- The tick after the last execution of an entry moves on: to the next entry, or to entry 0 of a new pass (03_sequence_table R103). -/
def Seq.advance (q : Seq) (len : Nat) : Seq :=
  if q.ph != 5 then q
  else if len ≤ q.entry + 1 then { q with ph := 0, exec := 0, entry := 0, pass := q.pass + 1 }
  else { q with ph := 0, exec := 0, entry := q.entry + 1 }

/-- One execution tick of the current entry, for the line `n` (03_sequence_table R102, R103). -/
def execTick (s : State) (n : Nat) (q : Seq) : Seq × SeqAct :=
  let w0 := s.entW q.act q.entry 0
  let w3 := s.entW q.act q.entry 3
  let ty := fld w0 31 28
  let a : SeqAct := { entry := q.entry, kind := min ty 3, frame := if ty == 2 then q.frame else 0, wait := false }
  let q := if q.hWait then { q with hLine := BitVec.ofNat 48 n, hWait := false } else q
  if ty == 2 && q.frame < 255 then ({ q with ph := 3, frame := q.frame + 1 }, a)
  else
    let q := { q with ph := 3, frame := 0, exec := q.exec + 1 }
    (if repeatOf w3 ≤ q.exec then endEntry s n q else q, a)

/-- The walk at the tick of line `n` (03_sequence_table R103 to R105). `late`: a trigger accepted less than 50 ns before the tick counts as
arriving after it, and the phase count of its origin is then that of the tick (R105, R107; log entry 83). -/
def seqWalk (s : State) (n : Nat) (late : Bool) : Seq × SeqAct :=
  let q := s.seq.advance (s.bankLen s.seq.act)
  let s := { s with seq := q }
  let w0 := s.entW q.act q.entry 0
  let wait : SeqAct := { entry := q.entry, kind := 3, frame := 0, wait := true }
  if q.ph == 3 || q.ph == 4 then execTick s n q
  else if q.ph == 1 then (q, wait)
  else if q.ph == 0 && bit w0 20 then ({ q with ph := 1 }, wait)
  else if late && q.ph == 2 && q.hOrig && q.waited == 0 then ({ q with hPhase := 0 }, wait)
  else if s.delayOver then execTick s n q
  else ({ q with ph := 2, waited := q.waited + 1 }, wait)

/-- A validated swap would take effect at the next tick: at the end of the pass, or with EARLY_ARMED at the end of the entry or at a wait tick
(03_sequence_table R114). -/
def State.swapDue (s : State) : Bool :=
  let q := s.seq
  q.swap && q.valid &&
    (if q.early then q.ph != 3 else (q.ph == 5 && s.bankLen q.act ≤ q.entry + 1) || (q.ph == 0 && q.entry == 0))

/-- The swap takes effect: the new bank is in force, result registers lose VALID and FRESH, and the copy starts (03_sequence_table R116). -/
def swapSeq (q : Seq) : Seq :=
  { q with act := !q.act, swap := false, valid := false, early := false, edited := false, copy := true, gen := q.gen + 1, pass := q.pass + 1,
           res := q.res.map fun p => (p.1, p.2 &&& ~~~(3#64 <<< 54)), entry := 0, exec := 0, frame := 0, ph := 0, hOrig := false, waited := 0,
           hWait := false }

/-- Drop the entries that read as the default after VALID and FRESH are cleared. -/
def Seq.tidy (q : Seq) : Seq := { q with res := q.res.filter fun p => p.2 != 0 }

/-- The swap of a tick or of R115, with its event record and interrupt (03_sequence_table R116, R117; 07_kernels_records R272). -/
def State.swapEffect (s : State) (n : Nat) (enc : B48) (t : Time) : State :=
  let s := s.modSeq fun q => (swapSeq q).tidy
  (s.event 0x03 n enc t s.seq.act.toNat 0).raise 17

/-- The line of a tick has line items: image, reference line, frame readout (07_kernels_records R274). -/
def SeqAct.items (a : SeqAct) : Bool := !a.wait && (a.kind == 0 || a.kind == 1 || (a.kind == 2 && 192 ≤ a.frame))

/-- A frame ended early by a reversal counts as one execution; its last tick is the one before line `n` (02_pixel_array R93, 03_sequence_table R110). -/
def State.cutFrame (s : State) (n : Nat) : State :=
  let q := s.seq
  if q.frame == 0 then s
  else
    let q := { q with frame := 0, exec := q.exec + 1 }
    { s with seq := if repeatOf (s.entW q.act q.entry 3) ≤ q.exec then endEntry s (n - 1) q else q }

/-- The sequencer where a tick at this moment would find it: a confirmed reversal ends a frame, then a due swap takes effect (01_line_tick R38;
02_pixel_array R93; 03_sequence_table R114). -/
def State.beforeWalk (s : State) : State :=
  let s := if s.tick.revPend then s.cutFrame s.tick.line.toNat else s
  if s.swapDue then { s with seq := swapSeq s.seq } else s

/-- The walk that a tick at this moment would make, and its bank (01_line_tick R38). -/
def State.nextAct (s : State) : SeqAct × Bool := ((seqWalk s.beforeWalk 0 false).2, s.beforeWalk.seq.act)

/-- Tiles `t0` to `t1` as a bit mask. -/
def tileMask (t0 t1 : Nat) : BitVec 1024 := ((BitVec.allOnes 1024) <<< t0) &&& ((BitVec.allOnes 1024) >>> (1023 - t1))

/-- Some tile that converts the line has its slices powered down (01_line_tick R36, 04_converters R148). -/
def State.anyAsleep (s : State) (t0 t1 : Nat) : Bool := s.conv.asleep &&& tileMask t0 t1 != 0

/-- T_min of a line that makes the walk `a` in bank `b` at throttle step `k`; `direct` says that direct mode makes its tick (01_line_tick R36, R38). -/
def State.actPeriod (s : State) (a : SeqAct) (b : Bool) (k : Nat) (direct : Bool) : Nat :=
  let w0 := s.entW b a.entry 0
  let w2 := s.entW b a.entry 2
  let wake := direct && a.items && s.anyAsleep (fld w2 31 22) (fld w2 21 12)
  tMin w0 (!a.wait && a.kind < 3) wake k

/-- NEXT and WORST computed again: NEXT is the T_min of a line whose tick fired now, with a throttle step that would take effect at it
(01_line_tick R38; 15_thermal R503). -/
def State.minPeriod (s : State) : State :=
  let p := s.nextAct
  s.modTick fun k =>
    { k with next := s.actPeriod p.1 p.2 (s.th.kNew.getD s.th.k) (s.regF 0x10000 31 30 == 2), worst := s.worstPeriod }

/-! Copy, lock and lease. -/

/-- Copy the active bank with its length register into the inactive bank (03_sequence_table R116, R122). -/
def State.copyBank (s : State) : State :=
  let a := bankBase s.seq.act
  let b := bankBase !s.seq.act
  (List.range 257).foldl (fun s' i => s'.putReg (b + 8 * i) (s.reg (a + 8 * i))) s

/-- The lock is released: a pending swap stands, else the copy starts that discards the edits (03_sequence_table R122). -/
def State.unlock (s : State) : State :=
  if s.seq.held then
    s.modSeq fun q => { q with held := false, token := 0, src := 0, lease := 0, copy := q.copy || !q.swap }
  else s

/-- The lease runs again from now (03_sequence_table R120). -/
def State.renew (s : State) : State :=
  s.modSeq fun q => { q with lease := s.now + BitVec.ofNat 64 (s.regF 0x20020 15 0 * 2000000) }

def State.seqReject (s : State) (cause : Nat) (src : BitVec 7) (off : Nat) : State :=
  (s.modSeq fun q => { q with rejLock := q.rejLock + 1 }).reject cause src off

/-- A write to SEQ_LOCK: acquire, renew or release; any other write is rejected (03_sequence_table R118, R119). -/
def State.lockWrite (s : State) (w : Wr) (v : W32) : State :=
  let tok : BitVec 16 := v.setWidth 16
  let q := s.seq
  if !q.held && tok != 0 && !bit v 31 then (s.modSeq fun q => { q with held := true, token := tok, src := w.src }).renew
  else if q.held && q.src == w.src && q.token == tok then if bit v 31 then s.unlock else s.renew
  else s.seqReject 5 w.src 0x20018

/-- A write to an entry word or a length register (03_sequence_table R111, R112, R120). -/
def State.bankWrite (s : State) (off : Nat) (w : Wr) (v : W32) : State :=
  let b := decide (0x22000 ≤ off)
  let q := s.seq
  if b == q.act || q.swap || q.copy then (s.modSeq fun q => { q with rejBank := q.rejBank + 1 }).reject 4 w.src off
  else if !(q.held && q.src == w.src) then s.seqReject 5 w.src off
  else ((s.storeReg off v).modSeq fun q => { q with edited := true }).renew

/-- A write to SEQ_SWAP (03_sequence_table R113). -/
def State.swapWrite (s : State) (w : Wr) (v : W32) : State :=
  let q := s.seq
  if !bit v 31 then s
  else if !(q.held && q.src == w.src && q.token == v.setWidth 16) then s.seqReject 5 w.src 0x20010
  else if q.swap || q.copy then s.seqReject 4 w.src 0x20010
  else (s.modSeq fun q => { q with swap := true, valid := false, invalid := false, early := s.regF 0x20000 31 31 == 1 }).renew

/-! Hold triggers. -/

/-- Sub-line phases from the last tick to now, 0 to 1,023 (00_scope R10; 03_sequence_table R105). -/
def State.subPhase (s : State) : BitVec 10 :=
  match s.tick.last with
  | some t => if s.clk.tickT == 0 then 0 else BitVec.ofNat 10 (min 1023 (since s.now t * 1024 / s.clk.tickT))
  | none => 0

/-- A hold trigger from the host or from a pin engine; the next line may then be another (03_sequence_table R106; 01_line_tick R38). -/
def State.holdTrigger (s : State) : State :=
  (s.modSeq fun q =>
    if q.ph == 1 then
      { q with ph := 2, hOrig := true, waited := 0, hPhase := s.subPhase, hTime := s.now, hWait := true, hAcc := q.hAcc + 1 }
    else { q with hIgn := q.hIgn + 1 }).minPeriod

/-! Result registers. -/

/-- The tile-line ended FAILED or GAP, or lost a record (03_sequence_table R101). -/
def Line.hurt (l : Line) (t : Nat) : Bool := l.fail.getLsbD t || l.gap.getLsbD t || l.lost.getLsbD t

/-- The tile-line contributions that count for a pass: combined, on the STAT channel, of tile-lines delivered complete on every channel
(03_sequence_table R101). -/
def State.passStats (s : State) (d : Due) (ch : Nat) : List Contrib :=
  s.fab.comb.filter fun c => c.ch == ch && match s.line c.line with
    | some l => l.pass == d.pass && l.gen == d.gen && l.entry == d.n && l.items && !l.hurt c.tile
    | none => false

/-- Lines of the entry in the pass. -/
def State.passLines (s : State) (d : Due) : List (Nat × Line) :=
  s.fab.lines.filterMap fun p => match p.2 with
    | some l => if l.pass == d.pass && l.gen == d.gen && l.entry == d.n && l.items then some (p.1, l) else none
    | none => none

/-- The line ended FAILED or GAP for some tile; it is not delivered complete if it did, or if a record of it was discarded
(03_sequence_table R100, R101). -/
def Line.ended (l : Line) : Bool := l.fail != 0 || l.gap != 0
def Line.whole (l : Line) : Bool := !l.ended && l.lost == 0

/-- USER of a pair in the combined record of a line: the sum over the contributions, modulo 2^32 (07_kernels_records R268). -/
def userSum (cs : List Contrib) (p : Nat) : Nat := ((cs.flatMap fun x => x.pairs.filter fun y => y.p == p).map (·.user)).sum % 2 ^ 32

/-- VALUE of the statistic of a pass (03_sequence_table R100, 07_kernels_records R268). -/
def State.statValue (s : State) (d : Due) : Nat :=
  let c := fld d.w0 5 0
  let ls := s.passLines d
  if fld d.w0 31 28 == 3 then d.ticks
  else if c == 0 then (ls.filter fun p => p.2.whole).length
  else if c == 1 then (ls.filter fun p => p.2.ended).length
  else if c == 2 then (ls.map fun p => p.2.defects).sum
  else if c == 3 then (ls.map fun p => p.2.ors).sum
  else
    match s.statStep (fld d.w0 19 14) with
    | none => 0
    | some (ch, src) =>
      let cs := s.passStats d ch
      if c == 0x3F then
        let low := (cs.flatMap fun x => x.pairs.map (·.p)).foldl min 8
        (ls.map fun l => userSum (cs.filter fun x => x.line == l.1) low).sum % 2 ^ 48
      else
        let ps := cs.flatMap fun x => x.pairs.filter fun p => p.p == c % 8 && p.cnt != 0
        let cnt := (ps.map (·.cnt)).sum
        let div := if src == 1 then 8 else 1
        if cnt == 0 then 0
        else if c < 0x18 then (if src == 1 then 32 else 256) * (ps.map (·.sum)).sum / cnt
        else if c < 0x20 then (ps.map (·.mx)).foldl max 0 / div
        else (ps.map (·.mn)).foldl min 0xFFFF / div

/-- The update of a pass may be written: every tile of the window has released or ended the entry's last line that has line items, and the
contributions of the pass are combined (03_sequence_table R125). -/
def State.dueReady (s : State) (d : Due) : Bool :=
  fld d.w0 31 28 == 3 ||
    match (s.passLines d).getLast? with
    | none => true
    | some (n, l) =>
      ((List.range (l.last + 1 - l.first)).all fun i => l.rel.getLsbD (l.first + i)) &&
        match s.statStep l.chain with
        | none => true
        | some (ch, _) => !s.statOpen ch n

/-- The update of SEQ_RES of one pass, with its KIND 1 record (03_sequence_table R116, R125; 07_kernels_records R268). -/
def State.resUpdate (s : State) (d : Due) : State :=
  let old := Tbl.get 0 s.seq.res d.n
  let w : W64 := pack 64 [((fld old 63 56 + 1) % 256, 56), (3, 54), (fld d.w0 5 0, 48), (s.statValue d % 2 ^ 48, 0)]
  let s1 := if d.gen == s.seq.gen then s.modSeq fun q => { q with res := Tbl.set 0 q.res d.n w } else s
  let last := ((s.passLines d).getLast?.map (·.1)).getD d.last
  match s.statStep (fld d.w0 19 14), s.line last with
  | some (ch, _), some l =>
    if fld d.w0 31 28 == 3 then s1
    else s1.stageOn (fun a c => c == ch && a.chanOn c) fun ch =>
      recWords 0x04 ch last l.enc l.t (span l.first l.last d.n l.chain) 0 0 [pack 64 [(1, 56), (d.n, 0)], w]
  | _, _ => s1

/-- The sequencer starts a new pass at entry 0 when the tick generator leaves STOPPED (03_sequence_table R109). -/
def State.startSeq (s : State) : State :=
  s.modSeq fun q => { q with ph := 0, entry := 0, exec := 0, frame := 0, waited := 0, hOrig := false, hWait := false, passes := 0,
                             pass := q.pass + 1, gen := q.gen }

/-- STOPPED abandons the execution or pass it cuts short: its results that are still due are not written, and a hold or delay ends
(03_sequence_table R109). -/
def State.stopSeq (s : State) : State :=
  let whole := s.seq.ph == 5 && s.bankLen s.seq.act ≤ s.seq.entry + 1
  s.modSeq fun q =>
    { q with ph := if q.ph == 5 then 5 else 0, frame := 0, waited := 0, hOrig := false, hWait := false,
             due := if whole then q.due else q.due.filter fun d => d.pass != q.pass }

/-! The commands. -/

/-- BANK_WRITE (03_sequence_table R111, R112). -/
def execBankWrite (t : Time) (off : Nat) (w : Wr) (s : State) : Host.Outcome State Fault Refusal :=
  regCmd t off w s fun v s => match rwReg off with
    | some _ => if 0x21000 ≤ off && off < 0x23000 then s.bankWrite off w v else s
    | none => s.reject 6 w.src off

/-- SEQ_SWAP_GO (03_sequence_table R113). -/
def execSeqSwapGo (t : Time) (w : Wr) (s : State) : Host.Outcome State Fault Refusal :=
  regCmd t 0x20010 w s fun v s => s.swapWrite w v

/-- SWAP_VALIDATED (03_sequence_table R113 steps 4 and 5). -/
def execSwapValidated (t : Time) (s : State) : Host.Outcome State Fault Refusal :=
  inRun t s fun s =>
    if s.seq.swap && !s.seq.valid then
      let b := !s.seq.act
      match tableBad s.boot.chains (s.bankLen b) (fun n w => s.entW b n w) with
      | none => (s.modSeq fun q => { q with valid := true }).minPeriod
      | some bad => (s.modSeq fun q => { q with swap := false, early := false, invalid := true, bad := bad }).raise 17
    else s

/-- SWAP_NO_TICK: in STOPPED, or in LOCKING before its first tick (03_sequence_table R115). -/
def execSwapNoTick (t : Time) (s : State) : Host.Outcome State Fault Refusal :=
  inRun t s fun s =>
    if s.seq.swap && s.seq.valid && !s.clk.gated && s.clk.intr.isNone && (s.tick.st == 0 || (s.tick.st == 1 && !s.tick.ticked)) then
      (s.swapEffect s.tick.line.toNat s.encNow s.now).minPeriod
    else s

/-- COPY_COMPLETE (03_sequence_table R116, R122). -/
def execCopyComplete (t : Time) (s : State) : Host.Outcome State Fault Refusal :=
  inRun t s fun s =>
    if s.seq.copy then
      let s1 := s.copyBank.modSeq fun q => { q with copy := false, discarded := q.discarded || q.edited, edited := false }
      if s.seq.edited then s1.raise 17 else s1
    else s

/-- LOCK_ACQUIRE (03_sequence_table R118). -/
def execLockAcquire (t : Time) (w : Wr) (s : State) : Host.Outcome State Fault Refusal :=
  regCmd t 0x20018 w s fun v s => s.lockWrite w v

/-- LOCK_RENEW (03_sequence_table R118). -/
def execLockRenew (t : Time) (w : Wr) (s : State) : Host.Outcome State Fault Refusal :=
  regCmd t 0x20018 w s fun v s => s.lockWrite w v

/-- LOCK_RELEASE (03_sequence_table R118, R122). -/
def execLockRelease (t : Time) (w : Wr) (s : State) : Host.Outcome State Fault Refusal :=
  regCmd t 0x20018 w s fun v s => s.lockWrite w v

/-- LEASE_EXPIRY: the lease has run out (03_sequence_table R120). -/
def execLeaseExpiry (t : Time) (s : State) : Host.Outcome State Fault Refusal :=
  inRun t s fun s => if s.seq.held && reached s.now s.seq.lease then s.unlock else s

/-- HOLD_TRIG_FIRE (03_sequence_table R106). -/
def execHoldTrigFire (t : Time) (w : Wr) (s : State) : Host.Outcome State Fault Refusal :=
  regCmd t 0x20038 w s fun v s => if bit v 31 then s.holdTrigger else s

/-- DELAY_EXPIRY: the delay has run out and the next tick starts the first execution (03_sequence_table R105). -/
def execDelayExpiry (t : Time) (s : State) : Host.Outcome State Fault Refusal :=
  inRun t s fun s => if s.seq.ph == 2 && s.delayOver then s.modSeq fun q => { q with ph := 4 } else s

/-- SEQ_RES_UPDATE: the oldest pass end that may be written is written (03_sequence_table R125). -/
def execSeqResUpdate (t : Time) (s : State) : Host.Outcome State Fault Refusal :=
  inRun t s fun s =>
    match s.seq.due.find? fun d => s.dueReady d with
    | some d => (s.resUpdate d).modSeq fun q => { q with due := q.due.erase d }
    | none => s

end Machine
end Sys2Proof
end

