-- ==== Sys2Proof/Machine/TeOps.lean ====
section
/-! DEFINITION. What the tile engine instructions share: registers, flags, the data memory and its checks, exceptions, sparing, neighbour FIFOs
(06_tile_engine_isa; 14_faults R474 to R481). -/

namespace Sys2Proof
namespace Machine

/-! Registers. -/

/-- General register `r`: w0 reads as 0 (06_tile_engine_isa R189). -/
def Engine.reg (x : Engine) (r : BitVec 5) : W64 := if r == 0 then 0 else Tbl.get 0 x.w r.toNat

/-- Write general register `r`: a write to w0 is discarded (06_tile_engine_isa R189). -/
def Engine.setReg (x : Engine) (r : BitVec 5) (v : W64) : Engine := if r == 0 then x else { x with w := Tbl.set 0 x.w r.toNat v }

/-- Flag `i` (06_tile_engine_isa R189). -/
def Engine.flag (x : Engine) (i : BitVec 2) : Bool := x.f.getLsbD i.toNat

def Engine.setFlag (x : Engine) (i : BitVec 2) (v : Bool) : Engine :=
  { x with f := if v then x.f ||| (1#4 <<< i.toNat) else x.f &&& ~~~(1#4 <<< i.toNat) }

/-- Stripe and slot within the stripe of a slot index (06_tile_engine_isa TE_SLOT). -/
def stripeOf (e : Nat) : Nat := e / 33
def slotOf (e : Nat) : Nat := e % 33

/-- The slot that serves tile `t`: its own slot, or the stripe's spare after a takeover; none when the tile is unserved
(00_scope R6, 14_faults R474). -/
def State.serving (s : State) (t : Nat) : Option Nat :=
  let own := 33 * (t / 32) + t % 32
  let sp := 33 * (t / 32) + 32
  if (s.eng own).st != 5 then some own
  else if (s.stripe (t / 32)).used && (s.stripe (t / 32)).k == t % 32 && (s.eng sp).st != 5 then some sp
  else none

/-! Neighbour FIFOs. -/

/-- Key of the FIFO from tile `t` toward the east or the west (06_tile_engine_isa R222). -/
def fifoKey (t : Nat) (east : Bool) : Nat := if east then 2 * t else 2 * (t - 1) + 1

def State.fifo (s : State) (k : Nat) : List (Time × W64) := Tbl.get [] s.te.fifo k
def State.setFifo (s : State) (k : Nat) (l : List (Time × W64)) : State := s.modTe fun x => { x with fifo := Tbl.set [] x.fifo k l }

/-- Empty every FIFO between the tile and its neighbours (06_tile_engine_isa R225). -/
def State.emptyFifos (s : State) (t : Nat) : State :=
  let s := (s.setFifo (fifoKey t true) []).setFifo (2 * t + 1) []
  if t == 0 then s else (s.setFifo (fifoKey t false) []).setFifo (2 * (t - 1)) []

/-! Starting, and class H exceptions. -/

/-- The engine starts: PC, registers, flags, loop counters and NST cleared, no line held (06_tile_engine_isa R191). -/
def Engine.start (x : Engine) (now : Time) : Engine :=
  { x with st := 1, pc := 0, w := [], f := 0, lc0 := 0, lc1 := 0, nst := 0, blk := none, slots := List.replicate 4 LSlot.free,
           hb := false, hbT := now, cyc := 0, cycOn := false }

def State.startEng (s : State) (e : Nat) : State := (s.modEng e fun x => x.start s.now).emptyFifos (s.eng e).tile

/-- Line sequence of the oldest line held (06_tile_engine_isa TE_LAST_EXC_INFO). -/
def Engine.oldest (x : Engine) : Nat :=
  ((x.slots.filter (·.held)).map (·.line)).foldl (fun a n => if a == 0 then n + 1 else min a (n + 1)) 0 - 1

/-- End every line the engine holds FAILED with the reason and free its slots (06_tile_engine_isa R235, R236). -/
def State.failHeld (s : State) (e reason code : Nat) : State :=
  let x := s.eng e
  let s := x.slots.foldl (fun s q => if q.held && s.openItem q.line x.tile then s.failTile reason code q.line x.tile else s) s
  s.modEng e fun x => { x with slots := List.replicate 4 LSlot.free, blk := none }

/-- Lines in flight that tile `t` has neither released nor ended. -/
def State.openLines (s : State) (t : Nat) : List Nat :=
  s.fab.lines.filterMap fun p => if s.openItem p.1 t then some p.1 else none

/-- The lines of a tile in flight end FAILED (14_faults R476, 06_tile_engine_isa R237). -/
def State.failOpen (s : State) (t reason code : Nat) : State :=
  (s.openLines t).foldl (fun s n => s.failTile reason code n t) s

/-- Bytes of data memory that a load of R193 leaves to be loaded: user memory, staging and stack 0, parameters of the canvas, palette of the tile
(06_tile_engine_isa R193, R238). -/
def Engine.load (x : Engine) : Engine :=
  { x with st := 0, dmem := [], dUe := [], dCe := [], iUe := [], iCe := [], palX := [], own := none, blk := none,
           slots := List.replicate 4 LSlot.free }

/-- The spare of stripe `k` takes over tile `t` from slot `e`, or the tile becomes unserved (14_faults R474, R475, R478). -/
def State.takeover (s : State) (e t cause : Nat) : State :=
  let k := t / 32
  let sp := 33 * k + 32
  if (s.eng sp).st == 4 || (s.te.loadBusy && (s.eng sp).st == 0 && !(s.stripe k).used) then
    let s := s.modStripe k fun x => { x with used := true, k := t % 32, fslot := slotOf e }
    let s := s.modEng sp fun x => { x.load with tile := t }
    if s.te.loadBusy then s.modTe fun x => { x with waitLoad := x.waitLoad ++ [sp] } else s
  else
    ((s.modStripe k fun x => { x with uns := x.uns ++ [(t % 32, cause)], used := x.used && e != sp }).logEvent 0x03 3 t e 0).health

/-- The record queue of a slot retired for PORT: its records not wholly sent end FAILED, reason integrity, and what was sent of them leaves the
egress buffer (08_result_fabric R301; 14_faults R480). -/
def State.portQueue (s : State) (e : Nat) : State :=
  let qs := Tbl.get [] s.fab.q e
  let s := qs.foldl (fun s q =>
    let n := recLine q.ws
    match s.line n with
    | some l => s.coverCh true 0x09 0 n (s.eng e).tile (s.eng e).tile (recCh q.ws) l
    | none => s) s
  s.modFab fun f => { f with
    q := Tbl.set [] f.q e [], fillL := f.fillL - (qs.map (·.lb)).sum, fillC := f.fillC - (qs.map fun q => q.sent - q.lb).sum }

/-- A class H exception: record, count, end the lines, retire the slot, request sparing (06_tile_engine_isa R236, 14_faults R474). -/
def State.retire (s : State) (e cause : Nat) : State :=
  let t := (s.eng e).tile
  let s := s.failHeld e 0x06 cause
  let s := s.failOpen t 0x06 cause
  let s := (s.modEng e fun x => { x with st := 5, swPend := false }).logEvent 0x03 1 e cause t
  let s := s.modFlt fun f => { f with dead := (f.dead.filter fun p => p.1 != t) ++ [(t, cause)] }
  let s := s.modCal fun c => { c with rewrite := c.rewrite.filter (· != t) }
  let s := if cause == 0xB then s.portQueue e else s
  s.takeover e t cause

/-! Exceptions (06_tile_engine_isa R233, R235, R236). -/

/-- An exception of engine `e`: `code` is the BRK code, `addr` the effective address. Class H codes are 0x8 to 0xB. -/
def State.raiseExc (s : State) (e cause code addr : Nat) : State :=
  let x := s.eng e
  let isH := 8 ≤ cause
  let s := s.modTe fun y => { y with
    lastExc := pack 32 [(e, 21), (cause, 17), (x.pc % 4096, 5), (code % 32, 0)],
    lastInfo := pack 64 [(addr % 65536, 48), (x.oldest, 0)],
    excH := if isH then y.excH + 1 else y.excH, excK := if isH then y.excK else y.excK + 1 }
  let s := (s.modEng e fun x => { x with cause := cause }).raise 21
  let s := s.emptyFifos x.tile
  if isH then s.retire e cause
  else (s.failHeld e 0x05 cause).modEng e fun x => { x with st := 2, kcnt := x.kcnt + 1 }

/-! The frame of an instruction. -/

/-- An engine executes the instruction at PC: only in RUN, outside a CPLL interruption and with the slot RUNNING; the fetch checks come first
(06_tile_engine_isa R192, R233, R237; 10_clocks R359, R360). -/
def teOp (t : Time) (e : Nat) (s : State) (k : State → Engine → State) : Host.Outcome State Fault Refusal :=
  inRun t s fun s =>
    let x := s.eng e
    if s.noTicks || x.st != 1 then s
    else if 0xF00 ≤ x.pc then s.raiseExc e 2 0 0
    else if x.iUe.contains x.pc then s.raiseExc e 8 0 0
    else if x.iCe.contains x.pc then
      let s := s.modEng e fun x => { x with iCe := x.iCe.filter (· != x.pc), ce := satInc 127 x.ce }
      k s (s.eng e)
    else k s x

/-- The instruction completes after `cyc` counted cycles: `f` is its effect on the engine; cycles it was blocked count when `cb`
(06_tile_engine_isa R204, The cycle budget). -/
def Engine.done (x : Engine) (now : Time) (cyc : Nat) (cb : Bool) (f : Engine → Engine) : Engine :=
  let b := match x.blk with
    | some b => if cb then since now b.t / 2 else 0
    | none => 0
  let y := f { x with pc := x.pc + 1, blk := none }
  { y with cyc := if y.cycOn then y.cyc + cyc + b else y.cyc }

def State.doneEng (s : State) (e cyc : Nat) (f : Engine → Engine) : State := s.modEng e fun x => x.done s.now cyc true f

/-- The instruction at PC blocks (06_tile_engine_isa R204). -/
def State.blockEng (s : State) (e op : Nat) (d : BitVec 5) : State :=
  s.modEng e fun x => if x.blk.isSome then x
    else { x with blk := some { t := s.now, op := op, d := d, lim := s.regF 0x50000 30 16 * 32 } }

/-- The predicate condition of an R-form instruction lets it execute (06_tile_engine_isa R199). -/
def rTaken (x : Engine) (pc fl : BitVec 2) : Bool := pc == 0 || (pc == 1 && x.flag fl) || (pc == 2 && !x.flag fl)

/-- Predication of an R-form instruction: condition 0b11 and a nonzero flag index under 0b00 are illegal; a false predicate takes one cycle and
has no effect; a nonzero lane mode is illegal where the row has none (06_tile_engine_isa R199 to R201). -/
def rForm (s : State) (e : Nat) (x : Engine) (lanes : Bool) (ln pc fl : BitVec 2) (k : State) : State :=
  if pc == 3 || (pc == 0 && fl != 0) then s.raiseExc e 1 0 0
  else if (pc == 1 && !x.flag fl) || (pc == 2 && x.flag fl) then s.doneEng e 1 id
  else if !lanes && ln != 0 then s.raiseExc e 1 0 0
  else k

/-! Lanes (06_tile_engine_isa R202). -/

/-- Lane width of a lane mode. -/
def laneW (ln : BitVec 2) : Nat := 64 / 2 ^ ln.toNat

/-- Lane `j` of width `w`. -/
def lane (w : Nat) (v : W64) (j : Nat) : Nat := (v.toNat / 2 ^ (w * j)) % 2 ^ w

/-- The register whose lanes of width `w` are `f 0`, `f 1`, ... -/
def ofLanes (w n : Nat) (f : Nat → Nat) : W64 :=
  BitVec.ofNat 64 ((List.range n).foldl (fun a j => a + (f j % 2 ^ w) * 2 ^ (w * j)) 0)

/-- A lane operation on two registers. -/
def lanes2 (w : Nat) (f : Nat → Nat → Nat) (a b : W64) : W64 := ofLanes w (64 / w) fun j => f (lane w a j) (lane w b j)

/-- Clamp to the signed range of `w` bits. -/
def clampS (w : Nat) (i : Int) : Int := max (-(2 ^ (w - 1))) (min (2 ^ (w - 1) - 1) i)

/-- Clamp to the unsigned range of `w` bits. -/
def clampU (w : Nat) (i : Int) : Int := max 0 (min (2 ^ w - 1) i)

/-! Data memory. -/

/-- What a byte of data memory reads as when nothing has been written since the load: parameters from 0xF000 on, 0 elsewhere
(06_tile_engine_isa R193). -/
def State.dmemDef (s : State) (x : Engine) (a : Nat) : Byte :=
  if 0xF000 ≤ a then Tbl.get 0 (match x.own with | some p => p.1 | none => s.te.params) (a - 0xF000) else 0

def State.dByte (s : State) (x : Engine) (a : Nat) : Byte := Tbl.get (s.dmemDef x a) x.dmem a

/-- The `n` bytes at `a`, little-endian. -/
def State.dRead (s : State) (x : Engine) (a n : Nat) : Nat := leNat ((List.range n).map fun i => s.dByte x (a + i))

/-- Write bytes at `a`. -/
def State.dWrite (s : State) (x : Engine) (a : Nat) : List Byte → Engine
  | [] => x
  | b :: r => s.dWrite { x with dmem := Tbl.set (s.dmemDef x a) x.dmem a b } (a + 1) r

/-- The effective address (06_tile_engine_isa R195). -/
def Engine.ea (x : Engine) (a : BitVec 5) (imm : BitVec 16) : Nat := (x.reg a + imm.signExtend 64).toNat % 65536

/-- Slot that an address in 0xC000 to 0xC7FF lies in. -/
def Engine.slotAt (x : Engine) (ea : Nat) : LSlot := x.slots.getD ((ea - 0xC000) / 0x200) LSlot.free

/-- Bands converted, gains converted, and conversion frames of a line (04_converters R132, R133). -/
def Line.nb (l : Line) : Nat := ((List.range 4).filter fun b => fld l.w0 27 24 / 2 ^ b % 2 == 1).length
def Line.ng (l : Line) : Nat := if fld l.w0 23 22 == 0 then 2 else 1
def Line.frames (l : Line) : Nat := 4 * l.nb * l.ng

/-- The (band, gain) pairs a line converts, in order (04_converters R132). -/
def Line.pairs (l : Line) : List (Nat × Nat) :=
  (List.range 8).filterMap fun i =>
    if fld l.w0 27 24 / 2 ^ (i / 2) % 2 == 1 && fld l.w0 23 22 != 2 - i % 2 then some (i / 2, i % 2) else none

/-- Sample index j of position 64 b + 32 g + k; none where the entry does not convert it (04_converters R132, R134). -/
def Line.sampleOf (l : Line) (pos : Nat) : Option Nat :=
  let bg := (pos / 64, pos / 32 % 2)
  match l.pairs.findIdx? fun p => p == bg with
  | some i => some (32 * i + pos % 32)
  | none => none

/-- Conversion frames of the line whose words stand in the slot of tile `t` (04_converters R133, R135). -/
def Line.framesIn (l : Line) (t : Nat) : Nat := if l.conv.getLsbD t then l.frames else Tbl.get 0 l.frs t

/-- The bank has written position `pos` of the line for tile `t`: its frame has ended, or, where the entry does not convert it, the conversion has
(04_converters R133 to R135). -/
def Line.written (l : Line) (t pos : Nat) : Bool :=
  l.conv.getLsbD t || match l.sampleOf pos with
    | some j => j / 8 < l.framesIn t
    | none => false

/-- The conversion of the line in a slot has not ended (04_converters R135). -/
def State.converting (s : State) (x : Engine) (q : LSlot) : Bool :=
  match s.line q.line with
  | some l => !l.conv.getLsbD x.tile
  | none => false

/-- The bank has not yet written position `pos` of the line in a slot (04_converters R135; 06_tile_engine_isa R197). -/
def State.unwritten (s : State) (x : Engine) (q : LSlot) (pos : Nat) : Bool :=
  match s.line q.line with
  | some l => !l.written x.tile pos
  | none => false

/-- What an access does (06_tile_engine_isa R194). -/
inductive Acc where
  | ok
  | free
  | drop
  | bad
deriving DecidableEq, Repr

/-- The table of R194 for a load or store at `ea`. Loads of a revoked slot, of positions that the bank has not yet written, and of the calibration
workspace, whose layout the spec does not give, return free values; stores to such positions are lost. An access of at most 8 bytes lies within the
positions of one conversion frame (06_tile_engine_isa R194, R197, R218; 04_converters R132, R135; log entry 3). -/
def State.access (s : State) (x : Engine) (store : Bool) (ea : Nat) : Acc :=
  if ea < 0xC000 || (0xD000 ≤ ea && ea < 0xE000) || 0xF000 ≤ ea then .ok
  else if ea < 0xC800 then
    let q := x.slotAt ea
    if !q.held then .bad else if q.rev || s.unwritten x q ((ea - 0xC000) % 0x200 / 2) then (if store then .drop else .free) else .ok
  else if 0xE000 ≤ ea && !store then .free
  else .bad

end Machine
end Sys2Proof
end

