-- ==== Sys2Proof/Machine/TeMem.lean ====
section
/-! DEFINITION. The tile engine's loads, stores and palette pair load (06_tile_engine_isa R194 to R197, R209, R221). -/

namespace Sys2Proof
namespace Machine

/-- A single-bit error of a word is corrected and counted (06_tile_engine_isa R196). -/
def Engine.fixCe (x : Engine) (wd : Nat) : Engine :=
  if x.dCe.contains wd then { x with dCe := x.dCe.filter (· != wd), ce := satInc 127 x.ce } else x

/-- A load of `n` bytes; `ext` extends the value (06_tile_engine_isa R194 to R196, R209). -/
def teLoad (t : Time) (e : Nat) (d a : BitVec 5) (imm : BitVec 16) (n : Nat) (ext : W64 → W64) (s : State) :
    Host.Outcome State Fault Refusal :=
  teOp t e s fun s x =>
    let ea := x.ea a imm
    if ea % n != 0 then s.raiseExc e 3 0 ea
    else match s.access x false ea with
      | .ok =>
        if x.dUe.contains (ea / 8) then s.raiseExc e 9 0 ea
        else s.doneEng e 2 fun y => (y.fixCe (ea / 8)).setReg d (ext (BitVec.ofNat 64 (s.dRead x ea n)))
      | .free =>
        let v := Config.freeValue s.free
        if x.dUe.contains (ea / 8) then s.raiseExc e 9 0 ea
        else s.useFree.doneEng e 2 fun y => (y.fixCe (ea / 8)).setReg d (ext (v &&& BitVec.ofNat 64 (2 ^ (8 * n) - 1)))
      | _ => s.raiseExc e 4 0 ea

/-- A store of the low `n` bytes of w[d] (06_tile_engine_isa R194 to R197, R209). -/
def teStore (t : Time) (e : Nat) (d a : BitVec 5) (imm : BitVec 16) (n cyc : Nat) (s : State) : Host.Outcome State Fault Refusal :=
  teOp t e s fun s x =>
    let ea := x.ea a imm
    if ea % n != 0 then s.raiseExc e 3 0 ea
    else match s.access x true ea with
      | .ok =>
        if x.dUe.contains (ea / 8) then s.raiseExc e 9 0 ea
        else s.doneEng e cyc fun y => s.dWrite (y.fixCe (ea / 8)) ea (bytesLE n (x.reg d))
      | .drop => s.doneEng e cyc id
      | _ => s.raiseExc e 4 0 ea

/-- LD64 (06_tile_engine_isa R209). -/
def execTeLd64 (t : Time) (e : Nat) (d a : BitVec 5) (imm : BitVec 16) (s : State) : Host.Outcome State Fault Refusal :=
  teLoad t e d a imm 8 id s

/-- LD32U (06_tile_engine_isa R209). -/
def execTeLd32u (t : Time) (e : Nat) (d a : BitVec 5) (imm : BitVec 16) (s : State) : Host.Outcome State Fault Refusal :=
  teLoad t e d a imm 4 id s

/-- LD32S (06_tile_engine_isa R209). -/
def execTeLd32s (t : Time) (e : Nat) (d a : BitVec 5) (imm : BitVec 16) (s : State) : Host.Outcome State Fault Refusal :=
  teLoad t e d a imm 4 (fun v => (v.setWidth 32).signExtend 64) s

/-- LD16U (06_tile_engine_isa R209). -/
def execTeLd16u (t : Time) (e : Nat) (d a : BitVec 5) (imm : BitVec 16) (s : State) : Host.Outcome State Fault Refusal :=
  teLoad t e d a imm 2 id s

/-- LD16S (06_tile_engine_isa R209). -/
def execTeLd16s (t : Time) (e : Nat) (d a : BitVec 5) (imm : BitVec 16) (s : State) : Host.Outcome State Fault Refusal :=
  teLoad t e d a imm 2 (fun v => (v.setWidth 16).signExtend 64) s

/-- LD8U (06_tile_engine_isa R209). -/
def execTeLd8u (t : Time) (e : Nat) (d a : BitVec 5) (imm : BitVec 16) (s : State) : Host.Outcome State Fault Refusal :=
  teLoad t e d a imm 1 id s

/-- LD8S (06_tile_engine_isa R209). -/
def execTeLd8s (t : Time) (e : Nat) (d a : BitVec 5) (imm : BitVec 16) (s : State) : Host.Outcome State Fault Refusal :=
  teLoad t e d a imm 1 (fun v => (v.setWidth 8).signExtend 64) s

/-- ST64 (06_tile_engine_isa R209). -/
def execTeSt64 (t : Time) (e : Nat) (d a : BitVec 5) (imm : BitVec 16) (s : State) : Host.Outcome State Fault Refusal :=
  teStore t e d a imm 8 1 s

/-- ST32 (06_tile_engine_isa R209). -/
def execTeSt32 (t : Time) (e : Nat) (d a : BitVec 5) (imm : BitVec 16) (s : State) : Host.Outcome State Fault Refusal :=
  teStore t e d a imm 4 2 s

/-- ST16 (06_tile_engine_isa R209). -/
def execTeSt16 (t : Time) (e : Nat) (d a : BitVec 5) (imm : BitVec 16) (s : State) : Host.Outcome State Fault Refusal :=
  teStore t e d a imm 2 2 s

/-- ST8 (06_tile_engine_isa R209). -/
def execTeSt8 (t : Time) (e : Nat) (d a : BitVec 5) (imm : BitVec 16) (s : State) : Host.Outcome State Fault Refusal :=
  teStore t e d a imm 1 2 s

/-- The coefficient word `k` of the palette in force for a tile: OFFSET 0 and GAIN 32,768 where none is listed (05_calibration R157). -/
def State.coefWord (s : State) (tile k : Nat) : W32 := Tbl.get 0x80000000 s.cal.master (256 * tile + k)

/-- Word `k` of the palette region of an engine as stored, complements from 256 on (06_tile_engine_isa R194, R221). -/
def State.palWord (s : State) (x : Engine) (k : Nat) : W32 :=
  (if k < 256 then s.coefWord x.tile k else ~~~(s.coefWord x.tile (k - 256))) ^^^ Tbl.get 0 x.palX k

/-- The stripe monitor asks the bridge for the rewrite of a tile's palette region (05_calibration R163). -/
def State.askRewrite (s : State) (tile : Nat) : State :=
  if s.cal.rewrite.contains tile then s
  else (s.modCal fun c => { c with rewrite := c.rewrite ++ [tile] }).logEvent 0x05 1 tile 0 0

/-- PLD (06_tile_engine_isa R221). -/
def execTePld (t : Time) (e : Nat) (d a : BitVec 5) (imm : BitVec 16) (s : State) : Host.Outcome State Fault Refusal :=
  teOp t e s fun s x =>
    let ea := x.ea a imm
    if ea % 8 != 0 then s.raiseExc e 3 0 ea
    else if !(0xC800 ≤ ea && ea < 0xCC00) then s.raiseExc e 4 0 ea
    else
      let k := (ea - 0xC800) / 4
      let hi := s.palWord x (k + 1)
      let lo := s.palWord x k
      let bad := x.dUe.contains (ea / 8) || x.dUe.contains ((ea + 0x400) / 8) ||
        s.palWord x (k + 257) != ~~~hi || s.palWord x (k + 256) != ~~~lo
      if bad then
        (s.doneEng e 2 fun y => { y.setReg d 0x0000800000008000 with slots := y.slots.map fun q => { q with pal := q.pal || q.held } }).askRewrite
          x.tile
      else s.doneEng e 2 fun y => ((y.fixCe (ea / 8)).fixCe ((ea + 0x400) / 8)).setReg d (hi ++ lo)

end Machine
end Sys2Proof
end

