-- ==== Sys2Proof/Machine/Cal.lean ====
section
/-! DEFINITION. System calibration: steps and their arithmetic, apply, the palette section of the flash, drift tracking (05_calibration). -/

namespace Sys2Proof
namespace Machine

/-! Accumulation (05_calibration R168, R172). -/

/-- Accumulate the word `w` as the line number `i` of the band, from 0 (05_calibration, Coefficient arithmetic). -/
def PosAcc.add (q : PosAcc) (i w : Nat) : PosAcc :=
  let c := w % 4096
  let x0 := if i == 0 then c else q.x0
  let d := (c : Int) - x0
  { s1 := q.s1 + c, s2 := min (q.s2 + (d * d).toNat) (2 ^ 32 - 1), x0 := x0, h1 := if i < 2048 then q.h1 + c else q.h1,
    bad := q.bad || w / 4096 % 4 != 0, orr := q.orr || w / 8192 % 2 != 0 }

def PosAcc.zero : PosAcc := { s1 := 0, s2 := 0, x0 := 0, h1 := 0, bad := false, orr := false }
def TileAcc.zero : TileAcc := { n := List.replicate 4 0, pos := [], refs := [] }

/-- The accumulators of tile `t`. -/
def State.tacc (s : State) (t : Nat) : TileAcc := Tbl.get TileAcc.zero s.cal.acc t
def State.modAcc (s : State) (t : Nat) (f : TileAcc → TileAcc) : State :=
  s.modCal fun c => { c with acc := Tbl.set TileAcc.zero c.acc t (f (Tbl.get TileAcc.zero c.acc t)) }

/-- Accumulate one band-line: both gains, 32 columns; a band holds at most 4,096 lines (05_calibration R168). -/
def TileAcc.addBand (a : TileAcc) (b : Nat) (word : Nat → Nat) : TileAcc :=
  let i := a.n.getD b 0
  if 4096 ≤ i then a
  else { a with n := a.n.set b (i + 1),
                pos := (List.range 64).foldl (fun p j =>
                  let k := 64 * b + j
                  Tbl.set PosAcc.zero p k ((Tbl.get PosAcc.zero p k).add i (word k))) a.pos }

/-- The line is an execution of the entry of the step in progress (05_calibration R167). -/
def State.stepLine (s : State) (n : Nat) (l : Line) : Bool :=
  s.cal.step.ph == 2 && l.entry == s.cal.step.entry && l.kind == 0 && s.cal.stepLine.toNat ≤ n && 1 ≤ s.cal.step.cmd && s.cal.step.cmd ≤ 3

/-- The line is an execution of the reference entry of a dark step that forms baselines (05_calibration R171). -/
def State.stepRef (s : State) (n : Nat) (l : Line) : Bool :=
  s.cal.step.ph == 2 && s.cal.step.cmd == 1 && s.cal.step.ref == some l.entry && l.kind == 1 && s.cal.stepLine.toNat ≤ n

/-- The defective marker (05_calibration R160). -/
def marker : W32 := 0x00008000

/-- m16 over the good columns of a band and gain: not marked, and the reference word in range; none without a good column (05_calibration R186). -/
def State.m16 (s : State) (t b g : Nat) (word : Nat → Nat) : Option Int :=
  let good := ((List.range 32).map fun k => 64 * b + 32 * g + k).filter fun p => s.coefWord t p != marker && word p < 4096
  if good.isEmpty then none else some ((32 * (good.map word).sum + good.length) / (2 * good.length) : Nat)

/-- The tile's engine is RUNNING and blocked in LACQ or LACQE, where it runs the accumulation routine (06_tile_engine_isa R220). -/
def State.acquiring (s : State) (t : Nat) : Bool :=
  match s.serving t with
  | some e => (s.eng e).st == 1 && (match (s.eng e).blk with | some b => b.op == 6 | none => false)
  | none => false

/-- The reference line of a dark step that forms baselines gives the tile its means (05_calibration R168, R171). -/
def State.accumRef (s : State) (t n : Nat) (l : Line) (word : Nat → Nat) : State :=
  if s.stepRef n l && !l.fail.getLsbD t && (s.serving t).isSome then
    (List.range 8).foldl (fun s bg =>
      if fld l.w0 27 24 / 2 ^ (bg / 2) % 2 == 1 && !l.flushed.getLsbD (bg / 2) then
        match s.m16 t (bg / 2) (bg % 2) word with
        | some m => s.modAcc t fun a =>
          let r := Tbl.get (0, 0) a.refs bg
          { a with refs := Tbl.set (0, 0) a.refs bg (r.1 + m, r.2 + 1) }
        | none => s
      else s) s
  else s

/-- Line `n` waits for the accumulation routine of tile `t`: a line of the step, converted, not ended FAILED for the tile, and still in its slot
(05_calibration R168; 06_tile_engine_isa R220). -/
def State.accumDue (s : State) (t n : Nat) (l : Line) : Bool :=
  s.stepLine n l && l.first ≤ t && t ≤ l.last && l.conv.getLsbD t && !l.accd.getLsbD t && !l.fail.getLsbD t &&
    !s.fab.lines.any fun p => match p.2 with
      | some m => n < p.1 && p.1 % 4 == n % 4 && m.items && m.first ≤ t && t ≤ m.last && m.framesIn t != 0
      | none => false

/-- The accumulation routine runs on one line of the tile (05_calibration R168). -/
def State.accumLine (s : State) (t n : Nat) (l : Line) (word : Nat → Nat) : State :=
  (s.modLine n fun l => { l with accd := l.accd ||| (1#1024 <<< t) }).modAcc t fun a => (List.range 4).foldl (fun a b =>
    if s.cal.step.bands.getLsbD b && !l.flushed.getLsbD b then a.addBand b word else a) a

/-- An engine blocked in LACQ or LACQE accumulates every line of the step that waits for it, oldest first (05_calibration R168;
06_tile_engine_isa R220). -/
def State.accumulate (s : State) (t : Nat) : State :=
  match s.serving t with
  | some e =>
    if s.acquiring t then
      s.fab.lines.foldl (fun s p => match p.2 with
        | some l =>
          if s.accumDue t p.1 l then s.accumLine t p.1 l fun k => s.dRead (s.eng e) (0xC000 + 0x200 * (p.1 % 4) + 2 * k) 2 else s
        | none => s) s
    else s
  | none => s

/-! The end of a step. -/

/-- Bands that a step would give session bits: those of its start, or of the named entry while it is pending. -/
def State.stepBands (s : State) : BitVec 4 :=
  if s.cal.step.ph == 2 then s.cal.step.bands else (s.entW s.seq.act s.cal.step.entry 0).extractLsb' 24 4

/-- FLAT_OK bits of gain `g` of the bands. -/
def flatBits (bands : BitVec 4) (g : Nat) : BitVec 8 :=
  pack 8 ((List.range 4).map fun b => ((bands.getLsbD b).toNat, 2 * b + g))

/-- BUSY falls: vector 19 (09_host_link R346). -/
def State.calIdle (s : State) : State := (s.modCal fun c => { c with step := { c.step with ph := 0 }, acc := [] }).raise 19

/-- A command fails: CAL_FAIL and FAILED (05_calibration R175). -/
def State.calFailed (s : State) (reason b g t : Nat) : State :=
  s.modCal fun c => { c with failed := true, fail := pack 32 [(reason, 28), (b, 26), (g, 25), (t, 15)] }

/-- A step fails: its candidates are discarded and the session bits it would have set are cleared (05_calibration R175). -/
def State.stepFail (s : State) (reason b g t : Nat) : State :=
  let bs := s.stepBands
  let s := match s.cal.step.cmd with
    | 1 => s.modCal fun c => { c with darkOk := c.darkOk &&& ~~~bs, flatOk := c.flatOk &&& ~~~(flatBits bs 0 ||| flatBits bs 1) }
    | 2 => s.modCal fun c => { c with flatOk := c.flatOk &&& ~~~(flatBits bs 0) }
    | _ => s.modCal fun c => { c with flatOk := c.flatOk &&& ~~~(flatBits bs 1) }
  (s.calFailed reason b g t).calIdle

/-- A pending or running step ends with the reason (05_calibration R166, R169). -/
def State.stepStop (s : State) (reason : Nat) (pending : Bool) : State :=
  if s.cal.step.ph == 2 || (pending && s.cal.step.ph == 1) then s.stepFail reason 0 0 0 else s

/-- The median of 32 values, twice: the sum of the two middle ones (log entry 17). -/
def median2 (l : List Int) : Int :=
  let o := l.mergeSort (fun a b => decide (a ≤ b))
  o.getD 15 0 + o.getD 16 0

/-- L times the variance's L: (L sigma)^2 in DN^2, none when S2 saturated (05_calibration R172). -/
def PosAcc.vari (q : PosAcc) : Option Nat :=
  if q.s2 == 2 ^ 32 - 1 then none
  else some (4096 * (q.s2 : Int) - ((q.s1 : Int) - 4096 * q.x0) ^ 2).toNat

/-- sigma / median sigma > 2.5, the median of 32 being half the sum of the two middle values; an infinite sigma is defective
(05_calibration R174; log entry 17). -/
def sigmaBad (v : Option Nat) (a b : Option Nat) : Bool :=
  match v, a, b with
  | none, _, _ => true
  | some v, some a, some b =>
    let l : Int := 16 * v - 25 * ((a : Int) + b)
    0 < l && l * l > 2500 * a * b
  | _, _, _ => false

/-- Offset O16 or F16: round(S1 / 256) (05_calibration R172, R173). -/
def PosAcc.mean16 (q : PosAcc) : Int := ((q.s1 + 128) / 256 : Nat)

/-- What a tile's columns of one band and gain give. -/
structure BandRes where
  /-- candidate per column: O16, or G -/
  val : List Int
  /-- response R16 per column -/
  resp : List Int
  /-- defective per column -/
  bad : List Bool
deriving DecidableEq, Repr

/-- A dark step on a tile, band and gain (05_calibration R172, R174). -/
def State.darkBand (s : State) (t b g : Nat) : BandRes :=
  let q := fun k => Tbl.get PosAcc.zero (s.tacc t).pos (64 * b + 32 * g + k)
  let o := (List.range 32).map fun k => (q k).mean16
  let m := median2 o
  let vs := ((List.range 32).map fun k => (q k).vari).mergeSort fun x y => match x, y with
    | some a, some b => decide (a ≤ b)
    | some _, none => true
    | none, none => true
    | none, some _ => false
  { val := o, resp := [], bad := (List.range 32).map fun k =>
      (q k).bad || decide ((if g == 0 then 512 else 128) < (2 * o.getD k 0 - m).natAbs) ||
        sigmaBad (q k).vari (vs.getD 15 none) (vs.getD 16 none) }

/-- O16 of the session's dark step, or the OFFSET in force for a tile outside every window of it (05_calibration R173; log entry 17). -/
def State.darkO (s : State) (t b g k : Nat) : Int :=
  let p := 64 * b + 32 * g + k
  if Tbl.get false s.cal.darkT (4 * t + b) then Tbl.get 0 s.cal.candO (256 * t + p) else sgn 16 (fld (s.coefWord t p) 15 0)

/-- The rules of R174 that need no target, on a tile in a flat step: an OR or UR word, R16 of 0 or less, more than 25 % from the median, or
defective in the dark step (05_calibration R173, R174). -/
def State.flatBand (s : State) (t b g : Nat) : BandRes :=
  let q := fun k => Tbl.get PosAcc.zero (s.tacc t).pos (64 * b + 32 * g + k)
  let r := (List.range 32).map fun k => (q k).mean16 - s.darkO t b g k
  let m := median2 r
  { val := [], resp := r, bad := (List.range 32).map fun k =>
      let x := r.getD k 0
      (q k).bad || x ≤ 0 || decide (m < 4 * ((2 * x - m).natAbs : Int)) }

/-- Tiles of the step's window. -/
def CalStep.tiles (c : CalStep) : List Nat := (List.range (c.t1 + 1 - c.t0)).map (· + c.t0)

/-- Bands of the step. -/
def CalStep.bandList (c : CalStep) : List Nat := (List.range 4).filter fun b => c.bands.getLsbD b

/-- round(a / b) with halves upward, for b > 0. -/
def roundDiv (a b : Int) : Int := (2 * a + b) / (2 * b)

/-- The outcome of a step: a failure (reason, band, gain, tile), or the state with the candidates of the step. -/
inductive StepEnd where
  | fail (reason b g t : Nat)
  | ok (s : State)

/-- More than 1 % of the columns of the window are defective in one band and gain (05_calibration R175 code 5). -/
def tooMany (n tiles : Nat) : Bool := 32 * tiles < 100 * n

/-- The mean pixel die temperature over the lines of the step (05_calibration R180). -/
def CalStep.temp (c : CalStep) : Int := if c.tn == 0 then 0 else roundDiv c.tsum c.tn

/-- Columns of tile `t` whose HG dark mean in band `b` lies above 104 DN (05_calibration R175 code 9). -/
def State.lit (s : State) (b t : Nat) : Nat :=
  ((List.range 32).filter fun k => 104 * 4096 < (Tbl.get PosAcc.zero (s.tacc t).pos (64 * b + k)).s1).length

/-- A dark step is computed: LIGHT, then DEFECTS, then the candidates; what a flat step of the session found stays. The baseline of a tile, band and
gain whose reference executions gave no mean is 0 and valid with the others: the spec states none (05_calibration R171, R172, R174, R175, R180;
log entries 17, 86). -/
def State.darkEnd (s : State) : StepEnd :=
  let st := s.cal.step
  let ts := st.tiles
  let res := st.bandList.flatMap fun b => [0, 1].map fun g => (b, g, ts.map fun t => (t, s.darkBand t b g))
  let light := st.bandList.find? fun b => tooMany ((ts.map (s.lit b)).sum) ts.length
  let defect := res.find? fun r => tooMany ((r.2.2.map fun p => (p.2.bad.filter id).length).sum) ts.length
  match light, defect with
  | some b, _ => .fail 9 b 0 ((ts.find? fun t => 0 < s.lit b t).getD st.t0)
  | none, some r => .fail 5 r.1 r.2.1 (((r.2.2.find? fun p => p.2.bad.any id).map (·.1)).getD 0)
  | none, none =>
    let base := st.ref.isSome && 16 ≤ st.refN
    let w1 := s.entW s.seq.act st.entry 1
    let s := res.foldl (fun s r => r.2.2.foldl (fun s p =>
      (List.range 32).foldl (fun s k =>
        let i := 256 * p.1 + 64 * r.1 + 32 * r.2.1 + k
        s.modCal fun c => { c with candO := Tbl.set 0 c.candO i (p.2.val.getD k 0),
                                   candD := Tbl.set 0 c.candD i (Tbl.get 0 c.candD i / 2 * 2 + (if p.2.bad.getD k false then 1 else 0)) })
        (s.modCal fun c =>
          let i := 8 * p.1 + 2 * r.1 + r.2.1
          let q := Tbl.get (0, 0) (Tbl.get TileAcc.zero c.acc p.1).refs (2 * r.1 + r.2.1)
          { c with candB := Tbl.set 0 c.candB i (if base && q.2 != 0 then roundDiv q.1 q.2 else 0) })) s) s
    .ok (s.modCal fun c => { c with
      darkOk := c.darkOk ||| st.bands,
      darkT := ts.foldl (fun d t => st.bandList.foldl (fun d b => Tbl.set false d (4 * t + b) true) d) c.darkT,
      cand := (List.range 4).map fun b =>
        if st.bands.getLsbD b then
          { stage := if fld w1 (31 - 6 * b) (26 - 6 * b) == 0 then 64 else fld w1 (31 - 6 * b) (26 - 6 * b),
            period := if st.tkLast == 0 then 0 else since st.tLast st.tFirst / (2 * st.tkLast), rev := s.tick.dir,
            temp := st.temp, inst := true, base := base }
        else c.cand.getD b DarkCond.none })

/-- A flat step of gain `g` is computed: SATURATED, LEVEL, NONUNIFORM, UNSTABLE, DEFECTS in this order, then the candidates. The 5 % of NONUNIFORM is
taken of the first tile's mean over its good columns, a tile without one passing; the 1 % of UNSTABLE is taken of the first half's mean, over every
column of the window: the spec says neither (05_calibration R173 to R175; log entries 17, 87). -/
def State.flatEnd (s : State) (g : Nat) : StepEnd :=
  let st := s.cal.step
  let ts := st.tiles
  let target := if g == 0 then fld (s.reg 0x40018) 31 16 else fld (s.reg 0x40018) 15 0
  let pos := fun t b k => Tbl.get PosAcc.zero (s.tacc t).pos (64 * b + 32 * g + k)
  let dark := fun t b k => Tbl.get 0 s.cal.candD (256 * t + 64 * b + 32 * g + k) % 2 == 1
  let gOf := fun (num den r : Int) => if 0 < r && 0 < den then roundDiv (32768 * num) (den * r) else 0
  let gBad := fun (x : Int) => x < 16384 || 65535 < x
  let res := st.bandList.map fun b =>
    let tl := ts.map fun t =>
      let f := s.flatBand t b g
      let bad := (List.range 32).map fun k => f.bad.getD k true || (target != 0 && gBad (gOf (16 * target) 1 (f.resp.getD k 0)))
      (t, { f with bad := bad })
    let good := tl.map fun p => (p.1, ((List.range 32).filter fun k => !p.2.bad.getD k true && !dark p.1 b k).map fun k => p.2.resp.getD k 0)
    let sum := (good.map fun p => p.2.sum).sum
    let cnt := (good.map fun p => p.2.length).sum
    let num : Int := if target != 0 then 16 * target else sum
    let den : Int := if target != 0 then 1 else cnt
    (b, tl.map fun p => (p.1, { p.2 with val := p.2.resp.map (gOf num den),
                                         bad := (List.range 32).map fun k => p.2.bad.getD k true || gBad (gOf num den (p.2.resp.getD k 0)) }),
     good, sum, cnt)
  let satCols := ts.flatMap fun t => ((List.range 32).filter fun k => st.bandList.any fun b => (pos t b k).orr).map fun _ => t
  let level := res.find? fun r => r.2.2.2.1 < 2048 * 16 * (r.2.2.2.2 : Int) || 3481 * 16 * (r.2.2.2.2 : Int) < r.2.2.2.1 || r.2.2.2.2 == 0
  let nonu := res.findSome? fun r => ((r.2.2.1.zip (r.2.2.1.drop 1)).find? fun p =>
    let a := p.1.2.sum * (p.2.2.length : Int)
    let b := p.2.2.sum * (p.1.2.length : Int)
    p.1.2.length != 0 && p.2.2.length != 0 && decide (a < 20 * ((a - b).natAbs : Int))).map fun p => (r.1, p.1.1)
  let unst := res.find? fun r =>
    let h := (ts.map fun t => ((List.range 32).map fun k => (pos t r.1 k).h1).sum).sum
    let a := (ts.map fun t => ((List.range 32).map fun k => (pos t r.1 k).s1).sum).sum
    decide (h < 100 * ((2 * (h : Int) - a).natAbs))
  let defect := res.find? fun r => tooMany ((r.2.1.map fun p => (p.2.bad.filter id).length).sum) ts.length
  if 32 < satCols.length then
    .fail 2 ((st.bandList.find? fun b => (List.range 32).any fun k => (pos (satCols.headD 0) b k).orr).getD 0) g (satCols.headD 0)
  else match level, nonu, unst, defect with
    | some r, _, _, _ => .fail 1 r.1 g st.t0
    | none, some p, _, _ => .fail 3 p.1 g p.2
    | none, none, some r, _ => .fail 4 r.1 g st.t0
    | none, none, none, some r => .fail 5 r.1 g (((r.2.1.find? fun p => p.2.bad.any id).map (·.1)).getD 0)
    | none, none, none, none =>
      let s := res.foldl (fun s r => r.2.1.foldl (fun s p => (List.range 32).foldl (fun s k =>
        let i := 256 * p.1 + 64 * r.1 + 32 * g + k
        s.modCal fun c => { c with candG := Tbl.set 0 c.candG i ((p.2.val.getD k 0).toNat % 65536),
                                   candD := Tbl.set 0 c.candD i (Tbl.get 0 c.candD i % 2 + (if p.2.bad.getD k true then 2 else 0)) }) s) s) s
      .ok (s.modCal fun c => { c with
        flatOk := c.flatOk ||| flatBits st.bands g,
        flatT := ts.foldl (fun d t => st.bandList.foldl (fun d b => Tbl.set false d (8 * t + 2 * b + g) true) d) c.flatT })

/-! Apply and restore. -/

/-- Band `b` is complete in the session (05_calibration R176). -/
def Cal.complete (c : Cal) (b : Nat) : Bool := c.darkOk.getLsbD b && c.flatOk.getLsbD (2 * b) && c.flatOk.getLsbD (2 * b + 1)

/-- The coefficient word of a candidate position: defective marker, or GAIN and OFFSET (05_calibration R159, R160). -/
def Cal.candWord (c : Cal) (i : Nat) : W32 :=
  if Tbl.get 0 c.candD i != 0 then marker else pack 32 [(Tbl.get 0 c.candG i, 16), (usg 16 (Tbl.get 0 c.candO i), 0)]

/-- Word `p` of a tile's palette region and its complement are written: what stood there, and its errors, are gone (05_calibration R162, R179;
06_tile_engine_isa R196). -/
def Engine.rewritten (x : Engine) (p : Nat) : Engine :=
  let old := fun (d : Nat) => d == 0x1900 + p / 2 || d == 0x1980 + p / 2
  { x with palX := x.palX.filter (fun q => q.1 % 256 != p), dUe := x.dUe.filter (fun d => !old d), dCe := x.dCe.filter fun d => !old d }

/-- Write word `p` of a tile into the master copy and the serving engine's region (05_calibration R162, R179). -/
def State.putCoef (s : State) (t p : Nat) (w : W32) : State :=
  let s := s.modCal fun c => { c with master := Tbl.set 0x80000000 c.master (256 * t + p) w }
  match s.serving t with
  | some e => s.modEng e fun x => x.rewritten p
  | none => s

/-- Clear the drift terms of tile `t`, band `b` (05_calibration R180, R186). -/
def Cal.undrift (c : Cal) (t b : Nat) : Cal :=
  { c with drift := c.drift.filter fun p => !(p.1 / 16 == t && p.1 % 16 / 4 == b) }

/-- The session bits and the candidates are cleared (05_calibration R177, R184). -/
def Cal.clearSession (c : Cal) : Cal :=
  { c with darkOk := 0, flatOk := 0, candO := [], candG := [], candD := [], candB := [], cand := List.replicate 4 DarkCond.none,
           darkT := [], flatT := [] }

/-- Install the candidates of the complete bands, for every tile that a dark step of the session covered: baselines, drift terms, and, for each gain
whose flat step covered the tile too, coefficients. A flat step's tile without a dark step of the session gets nothing (05_calibration R177, R180;
log entry 88). -/
def State.installCand (s : State) : State :=
  let c0 := s.cal
  let s := ((List.range 4).filter c0.complete).foldl (fun s b =>
    let ts := (List.range 1024).filter fun t => Tbl.get false c0.darkT (4 * t + b)
    let s := ts.foldl (fun s t => (List.range 2).foldl (fun s g =>
      let s := s.modCal fun c => { c with base := Tbl.set 0 c.base (8 * t + 2 * b + g) (Tbl.get 0 c0.candB (8 * t + 2 * b + g)) }
      if Tbl.get false c0.flatT (8 * t + 2 * b + g) then
        (List.range 32).foldl (fun s k => s.putCoef t (64 * b + 32 * g + k) (c0.candWord (256 * t + 64 * b + 32 * g + k))) s
      else s) (s.modCal fun c => c.undrift t b)) s
    s.modCal fun c => { c with dark := c.dark.set b (c0.cand.getD b DarkCond.none) }) s
  s.modCal fun c => { c.clearSession with source := 3 }

/-! The palette section of the flash (05_calibration R182 to R185). -/

/-- Flash address of a palette copy, and of a journal entry (13_boot_security R454, 05_calibration R182). -/
def copyAddr (c : Nat) : Nat := 0x2100000 + 0x200000 * c
def journalAddr (i : Nat) : Nat := 0x2500000 + 64 * i

def State.flashRd (s : State) (a n : Nat) : List Byte := memBytes 0xFF s.boot.flash a n
def State.flashNat (s : State) (a n : Nat) : Nat := leNat (s.flashRd a n)
def State.flashPut (s : State) (a : Nat) (bs : List Byte) : State := s.modBoot fun b => { b with flash := memPut 0xFF b.flash a bs }

/-- COUNTER of a copy when it is valid: completed, and its tag verifies (05_calibration R184). -/
def State.copyCounter (s : State) (c : Nat) : Option Nat :=
  let n := s.flashNat (copyAddr c + 4) 4
  if n != 0xFFFFFFFF && s.flashRd (copyAddr c + 0x110000) 48 == Config.paletteTag (s.flashRd (copyAddr c) 0x110000) then some n else none

/-- The valid copy with the higher COUNTER (05_calibration R184). -/
def State.bestCopy (s : State) : Option (Nat × Nat) :=
  match s.copyCounter 0, s.copyCounter 1 with
  | some a, some b => if a < b then some (1, b) else some (0, a)
  | some a, none => some (0, a)
  | none, some b => some (1, b)
  | none, none => none

/-- Erase a copy (05_calibration R183). -/
def State.eraseCopy (s : State) (c : Nat) : State :=
  s.modBoot fun k => { k with flash := k.flash.filter fun p => !(copyAddr c ≤ p.1 && p.1 < copyAddr c + 0x200000) }

/-- A save that waited for a mailbox command begins when that has ended: its copy is erased (13_boot_security R455; 05_calibration R183). -/
def State.saveStart (s : State) : State :=
  match s.cal.saving with
  | some (c, _) => if s.cal.saveAfter then (s.eraseCopy c).modCal fun k => { k with saveAfter := false } else s
  | none => s

/-- The bytes of a copy before its tag: the coefficient words at 0x01_0000, what lies before them 0 (05_calibration R182). -/
def State.copyImage (s : State) (cnt : Nat) : List Byte :=
  let d := fun b => s.cal.dark.getD b DarkCond.none
  let u8 := fun n => [BitVec.ofNat 8 n]
  let u16 := fun n => bytesLE 2 (BitVec.ofNat 16 n)
  let u32 := fun n => bytesLE 4 (BitVec.ofNat 32 n)
  u32 1 ++ u32 cnt ++ (List.range 4).flatMap (fun b => u8 (d b).stage) ++
    (List.range 4).flatMap (fun b => u8 ((d b).inst.toNat + 2 * (d b).base.toNat + 4 * (d b).rev.toNat)) ++
    (List.range 4).flatMap (fun b => u32 (d b).period) ++ (List.range 4).flatMap (fun b => u16 (usg 16 (d b).temp)) ++
    u32 (s.cal.master.filter fun p => p.2 == marker).length ++ List.replicate 212 0 ++
    (List.range 1024).flatMap (fun t => u16 (s.bank t).ret.toNat) ++
    (List.range 8192).flatMap (fun i => u16 (usg 16 (Tbl.get 0 s.cal.base i))) ++ List.replicate 0xB700 0 ++
    (List.range 262144).flatMap (fun i => bytesLE 4 (Tbl.get 0x80000000 s.cal.master i))

/-- Load coefficients, baselines and conditions from a valid copy; the drift terms start unset (05_calibration R184, R186). -/
def State.loadCopy (s : State) (c cnt : Nat) : State :=
  let a := copyAddr c
  s.modCal fun k => { k with
    master := (List.range 262144).foldl (fun m i => Tbl.set 0x80000000 m i (BitVec.ofNat 32 (s.flashNat (a + 0x10000 + 4 * i) 4))) [],
    base := (List.range 8192).foldl (fun m i => Tbl.set 0 m i (sgn 16 (s.flashNat (a + 0x900 + 2 * i) 2))) [],
    drift := [], masterUe := [], masterCe := [],
    dark := (List.range 4).map fun b =>
      let f := s.flashNat (a + 0xC + b) 1
      { stage := s.flashNat (a + 8 + b) 1, period := s.flashNat (a + 0x10 + 4 * b) 4, rev := f / 4 % 2 == 1,
        temp := sgn 16 (s.flashNat (a + 0x20 + 2 * b) 2), inst := f % 2 == 1, base := f / 2 % 2 == 1 },
    source := 1 + c, counter := BitVec.ofNat 32 cnt }

/-- The palette of a device with no valid copy (05_calibration R184). -/
def State.noCopy (s : State) : State :=
  s.modCal fun k => { k with master := [], masterUe := [], masterCe := [], base := [], drift := [], dark := List.replicate 4 DarkCond.none, source := 0, counter := 0 }

/-- Every word of the palette region is written: no wrong bit and no error is left in it (05_calibration R162; 06_tile_engine_isa R196). -/
def Engine.regionWritten (x : Engine) : Engine :=
  { x with palX := [], dUe := x.dUe.filter (fun d => !(0x1900 ≤ d && d < 0x1A00)), dCe := x.dCe.filter fun d => !(0x1900 ≤ d && d < 0x1A00) }

/-- Every engine's palette region holds the master copy (05_calibration R184). -/
def State.reloadRegions (s : State) : State := s.modTe fun x => { x with eng := x.eng.map fun p => (p.1, p.2.regionWritten) }

/-- The new palette is in force: APPLY_LINE, event 0x05 with the encoder position and the time given, BUSY falls (05_calibration R179;
07_kernels_records R272). -/
def State.applyEnd (s : State) (enc : B48) (t : Time) : State :=
  let s := match s.cal.step.copy with
    | some c => (s.loadCopy c (s.flashNat (copyAddr c + 4) 4)).reloadRegions.modCal Cal.clearSession
    | none => s.installCand
  let s := s.modCal fun c => { c with applyLine := s.tick.line, step := { c.step with copy := none } }
  (s.event 0x05 s.tick.line.toNat enc t s.cal.source s.cal.counter.toNat).calIdle

/-- The bridge reads a tile of the master copy: a single-bit error is corrected and counted, an uncorrectable one starts the reload from flash
(05_calibration R164; 14_faults R473, FLT_ECC). -/
def State.readMaster (s : State) (t : Nat) : State :=
  let s := if s.cal.masterCe.contains t then
      (s.modCal fun c => { c with masterCe := c.masterCe.filter (· != t) }).modFlt fun f => { f with ce := f.ce + 1 }
    else s
  if s.cal.masterUe.contains t then
    ((s.modCal fun c => { c with masterUe := c.masterUe.filter (· != t), reload := c.reload ++ [t] }).modFlt
      fun f => { f with ue := f.ue + 1 }).logEvent 0x05 2 t 0 0
  else s

/-- The bridge reads the whole master copy (05_calibration R164, R183). -/
def State.readMasters (s : State) : State := (s.cal.masterCe ++ s.cal.masterUe).foldl State.readMaster s

/-! CAL_CMD. -/

/-- A step is accepted and pending, or fails STOPPED at once (05_calibration R166). -/
def State.stepGo (s : State) (cmd : Nat) (v : W32) : State :=
  let s := s.modCal fun c => { c with acc := [], step := { CalStep.none with
    cmd := cmd, ph := 1, goT := s.now, entry := fld v 26 21, ref := if cmd == 1 && bit v 14 then some (fld v 20 15) else none } }
  if s.tick.st == 0 then s.stepFail 8 0 0 0 else s

/-- A write to CAL_CMD (05_calibration R166, R170, R177, R178, R183, R184). -/
def State.calCmd (s : State) (w : Wr) (v : W32) : State :=
  let cmd := fld v 30 27
  let busy := s.cal.step.ph != 0
  let applying := s.cal.step.ph == 3
  if 8 ≤ cmd then s.reject 3 w.src 0x40000
  else if !bit v 31 then s.storeReg 0x40000 v
  else if (cmd == 7 && !(busy && !applying)) || (cmd == 5 && (s.cal.saveBusy || applying)) ||
      ((cmd == 1 || cmd == 2 || cmd == 3 || cmd == 4 || cmd == 6) && (busy || s.cal.saveBusy)) then s.reject 4 w.src 0x40000
  else
    let s := s.storeReg 0x40000 v
    match cmd with
    | 1 => s.stepGo 1 v
    | 2 => s.stepGo 2 v
    | 3 => s.stepGo 3 v
    | 4 =>
      if (List.range 4).any s.cal.complete then
        s.modCal fun c => { c with step := { c.step with ph := 3, goT := s.now, left := 4, copy := none } }
      else s.calFailed 12 0 0 0
    | 5 =>
      let a := (s.copyCounter 0).getD 0
      let b := (s.copyCounter 1).getD 0
      if max a b == 0xFFFFFFFE then (s.modCal fun k => { k with saved := false }).calFailed 15 0 0 0
      else
        let c := if (s.copyCounter 0).isNone then 0 else if (s.copyCounter 1).isNone then 1 else if a ≤ b then 0 else 1
        (if s.mbxFlashes then s else s.eraseCopy c).modCal fun k =>
          { k with saveBusy := true, saving := some (c, BitVec.ofNat 32 (max a b + 1)), saveAfter := s.mbxFlashes }
    | 6 =>
      match s.bestCopy with
      | some p => s.modCal fun c => { c with step := { c.step with ph := 3, goT := s.now, left := 4, copy := some p.1 } }
      | none => s.calFailed 14 0 0 0
    | 7 => s.stepStop 11 true
    | _ => s

/-- A write to CAL_TARGET (05_calibration, Registers). -/
def State.calTarget (s : State) (w : Wr) (v : W32) : State :=
  let ok := fun x => x == 0 || (2048 ≤ x && x ≤ 3481)
  if ok (fld v 31 16) && ok (fld v 15 0) then s.storeReg 0x40018 v else s.reject 3 w.src 0x40018

/-! Drift tracking (05_calibration R186 to R188). -/

def driftKey (t b g : Nat) (dir : Bool) : Nat := 16 * t + 4 * b + 2 * g + dir.toNat

/-- Drift tracking is enabled (05_calibration R186). -/
def State.track (s : State) : Bool := s.regF 0x40020 0 0 == 1

/-- The update of one drift term (05_calibration R186). A band and gain with no good column has no stated mean: it is a free value (log entry 3). -/
def State.driftOne (s : State) (t b g : Nat) (dir : Bool) (word : Nat → Nat) : State :=
  let (s, m) : State × Int := match s.m16 t b g word with
    | some m => (s, m)
    | none => (s.useFree, (((Config.freeValue s.free).toNat % 65521 : Nat) : Int))
  let d := m - Tbl.get 0 s.cal.base (8 * t + 2 * b + g)
  let sh := min 8 (s.regF 0x40020 7 4)
  s.modCal fun c =>
    let k := driftKey t b g dir
    { c with drift := Tbl.set none c.drift k (some (match Tbl.get none c.drift k with
      | some x => x + (d - x) / (2 ^ sh : Nat)
      | none => d)) }

/-- The drift routine for tile `t` at the release of a reference line; the cycles it takes, at most 120, are a free value
(05_calibration R186, 06_tile_engine_isa R219; log entry 3). -/
def State.driftRoutine (s : State) (t : Nat) (l : Line) (word : Nat → Nat) : State × Nat :=
  if !s.track then (s, 2)
  else
    let s' := (List.range 8).foldl (fun s bg =>
      let b := bg / 2
      let g := bg % 2
      if fld l.w0 27 24 / 2 ^ b % 2 == 1 && fld l.w0 23 22 != 2 - g && (s.cal.dark.getD b DarkCond.none).base
      then s.driftOne t b g (l.flags.getLsbD 6) word else s) s
    (s'.useFree, (Config.freeValue s'.free).toNat % 121)

/-- The drift term in force of tile, band and gain at direction `dir`; 0 when tracking is off or the baseline is not valid
(05_calibration R186, R187). -/
def State.delta (s : State) (t b g : Nat) (dir : Bool) : Option Int :=
  if s.track && (s.cal.dark.getD b DarkCond.none).base then Tbl.get none s.cal.drift (driftKey t b g dir) else some 0

/-- CAL_STALE for tile `t` of line `l` (05_calibration R188). -/
def State.stale (s : State) (t : Nat) (l : Line) : Bool :=
  let dt := s.regF 0x40020 31 24
  s.cal.source == 0 || ((List.range 4).filter fun b => fld l.w0 27 24 / 2 ^ b % 2 == 1).any fun b =>
    let d := s.cal.dark.getD b DarkCond.none
    let st := fld l.w1 (31 - 6 * b) (26 - 6 * b)
    !d.inst || (l.kind != 2 && (if st == 0 then 64 else st) != d.stage) ||
      (dt != 0 && decide (16 * dt < (s.th.pix - d.temp).natAbs)) ||
      ([0, 1].filter fun g => fld l.w0 23 22 != 2 - g).any fun g =>
        match s.delta t b g (l.flags.getLsbD 6) with
        | none => true
        | some x => decide ((if g == 0 then s.regF 0x40020 23 16 else s.regF 0x40020 15 8) < x.natAbs)

/-! The commands. -/

/-- DARK (05_calibration R166). -/
def execDark (t : Time) (w : Wr) (s : State) : Host.Outcome State Fault Refusal := regCmd t 0x40000 w s fun v s => s.calCmd w v

/-- FLAT_HG (05_calibration R166). -/
def execFlatHg (t : Time) (w : Wr) (s : State) : Host.Outcome State Fault Refusal := regCmd t 0x40000 w s fun v s => s.calCmd w v

/-- FLAT_LG (05_calibration R166). -/
def execFlatLg (t : Time) (w : Wr) (s : State) : Host.Outcome State Fault Refusal := regCmd t 0x40000 w s fun v s => s.calCmd w v

/-- APPLY (05_calibration R177 to R180). -/
def execApply (t : Time) (w : Wr) (s : State) : Host.Outcome State Fault Refusal := regCmd t 0x40000 w s fun v s => s.calCmd w v

/-- SAVE (05_calibration R183). -/
def execSave (t : Time) (w : Wr) (s : State) : Host.Outcome State Fault Refusal := regCmd t 0x40000 w s fun v s => s.calCmd w v

/-- RESTORE (05_calibration R184). -/
def execRestore (t : Time) (w : Wr) (s : State) : Host.Outcome State Fault Refusal := regCmd t 0x40000 w s fun v s => s.calCmd w v

/-- ABORT (05_calibration R169, R170). -/
def execAbort (t : Time) (w : Wr) (s : State) : Host.Outcome State Fault Refusal := regCmd t 0x40000 w s fun v s => s.calCmd w v

/-- The pending step starts at the execution that the latest tick began (05_calibration R166, R167). -/
def State.stepStart (s : State) (n : Nat) (l : Line) : State :=
  let st := s.cal.step
  let dual := fld l.w0 23 22 == 0
  let dark := (List.range 4).all fun b => fld l.w0 27 24 / 2 ^ b % 2 == 0 || s.cal.darkOk.getLsbD b
  if l.kind != 0 || !dual || bit l.w0 21 || s.bankLen s.seq.act ≤ st.entry || (st.cmd != 1 && !dark) then s.stepFail 12 0 0 0
  else
    (s.modCal fun c => { c with
      stepLine := BitVec.ofNat 48 n,
      step := { st with ph := 2, execs := 1, ticks := 0, t0 := l.first, t1 := l.last, bands := BitVec.ofNat 4 (fld l.w0 27 24), refN := 0,
                        tsum := s.th.pix, tn := 1, tFirst := l.t, tLast := l.t, tkLast := 0 } }).gapWhole 0x04 n

/-- CAL_STEP_START: after the tick of the first execution of the entry 1 us or more after the GO (05_calibration R166). -/
def execCalStepStart (t : Time) (s : State) : Host.Outcome State Fault Refusal :=
  inRun t s fun s =>
    let n := s.lastLine
    match s.line n with
    | some l =>
      if s.cal.step.ph == 1 && s.tick.last.isSome && l.entry == s.cal.step.entry && l.gen == s.seq.gen && (l.kind != 3 || fld l.w0 31 28 == 3) &&
          2000 ≤ since l.t s.cal.step.goT && reached l.t s.cal.step.goT then s.stepStart n l
      else s
    | none => s

/-- CAL_STEP_PENDING_TIMEOUT (05_calibration R166). -/
def execCalStepPendingTimeout (t : Time) (s : State) : Host.Outcome State Fault Refusal :=
  inRun t s fun s => if s.cal.step.ph == 1 && (2 ≤ s.cal.step.passes || 1048576 ≤ s.cal.step.ticks) then s.stepFail 6 0 0 0 else s

/-- Every tile of the window has accumulated 4,096 lines in every band of the mask (05_calibration R168). -/
def State.stepComplete (s : State) : Bool :=
  s.cal.step.tiles.all fun t => s.cal.step.bandList.all fun b => 4096 ≤ (s.tacc t).n.getD b 0

/-- CAL_STEP_END: the coefficients are computed and the step passes or fails (05_calibration R168, R172 to R175). -/
def execCalStepEnd (t : Time) (s : State) : Host.Outcome State Fault Refusal :=
  inRun t s fun s =>
    if s.cal.step.ph == 2 && s.stepComplete then
      match (if s.cal.step.cmd == 1 then s.darkEnd else s.flatEnd (s.cal.step.cmd - 2)) with
      | .fail r b g t => s.stepFail r b g t
      | .ok s => s.calIdle
    else s

/-- CAL_STEP_TIMEOUT: 8,192 executions without a complete accumulation (05_calibration R169). -/
def execCalStepTimeout (t : Time) (s : State) : Host.Outcome State Fault Refusal :=
  inRun t s fun s => if s.cal.step.ph == 2 && 8192 ≤ s.cal.step.execs && !s.stepComplete then s.stepFail 6 0 0 0 else s

/-- APPLY_LOAD_END: after the four ticks, or without ticks in STOPPED and IDLE (05_calibration R179). -/
def execApplyLoadEnd (t : Time) (s : State) : Host.Outcome State Fault Refusal :=
  inRun t s fun s => if s.cal.step.ph == 3 && (s.cal.step.left == 0 || s.tick.st == 0 || s.tick.st == 4) then s.applyEnd s.encNow s.now else s

/-- SAVE_END: the master copy is read, the copy is written and read back, or the write fails with FLASH; while a tile that could not be read is
reloaded the save goes on (05_calibration R164, R183). -/
def execSaveEnd (t : Time) (good : Bool) (s : State) : Host.Outcome State Fault Refusal :=
  inRun t s fun s =>
    match s.cal.saving with
    | some (c, cnt) =>
      let s := s.readMasters
      if !s.cal.reload.isEmpty || (s.cal.saveAfter && s.mbxFlashes) then s
      else
        let s := s.modBoot fun b => { b with mbxAfter := false }
        let img := s.copyImage cnt.toNat
        (if good then
          (s.flashPut (copyAddr c) (img ++ Config.paletteTag img)).modCal fun k =>
            { k with saveBusy := false, saving := none, saved := true, counter := cnt, source := 1 + c }
        else (s.modCal fun k => { k with saveBusy := false, saving := none, saved := false }).calFailed 13 0 0 0).raise 19
    | none => s

/-- The palette region of the engine that serves tile `t` is written whole from the master copy (05_calibration R163). -/
def State.writeRegion (s : State) (t : Nat) : State :=
  match s.serving t with
  | some e => s.modEng e Engine.regionWritten
  | none => s

/-- PALETTE_REWRITE_END (05_calibration R163, R164). -/
def execPaletteRewriteEnd (t : Time) (tile : Nat) (s : State) : Host.Outcome State Fault Refusal :=
  inRun t s fun s =>
    if s.cal.rewrite.contains tile then
      ((s.modCal fun c => { c with rewrite := c.rewrite.filter (· != tile) }).readMaster tile).writeRegion tile
    else s

/-- MASTER_RELOAD_END: the tile's coefficients are again those of the flash copy in force. With a palette
applied and not saved in force (SOURCE = 3) no copy holds it: the valid copy with the higher COUNTER is taken, or the default word where there is none
(05_calibration R164; log entry 89). -/
def execMasterReloadEnd (t : Time) (tile : Nat) (s : State) : Host.Outcome State Fault Refusal :=
  inRun t s fun s =>
    if s.cal.reload.contains tile then
      let c := if s.cal.source == 1 || s.cal.source == 2 then some (s.cal.source - 1) else s.bestCopy.map (·.1)
      let word := fun p => match c with
        | some c => BitVec.ofNat 32 (s.flashNat (copyAddr c + 0x10000 + 0x400 * tile + 4 * p) 4)
        | none => 0x80000000#32
      let s := s.modCal fun k => { k with reload := k.reload.filter (· != tile) }
      ((List.range 256).foldl (fun s p => s.putCoef tile p (word p)) s).writeRegion tile
    else s

/-- Bytes 0 to 15 of a journal entry: tile, slice, reason and line sequence; no rule gives their places (05_calibration R185; log entry 18). -/
def journalHead (t sl r line : Nat) : List Byte := bytesLE 16 (pack 128 [(t, 0), (sl, 16), (r, 24), (line, 64)])

/-- JOURNAL_APPEND: the oldest retirement without an entry is written; a failed write is tried again (05_calibration R185). -/
def execJournalAppend (t : Time) (good : Bool) (s : State) : Host.Outcome State Fault Refusal :=
  timed t s fun s =>
    match s.cal.jQueue with
    | (tile, sl, r, line) :: rest =>
      if good && s.cal.journal < 2048 then
        let h := journalHead tile sl r line
        (s.flashPut (journalAddr s.cal.journal) (h ++ Config.paletteTag h)).modCal fun c => { c with journal := c.journal + 1, jQueue := rest }
      else s
    | [] => s

end Machine
end Sys2Proof
end

