-- ==== Sys2Proof/Machine/TeCtl.lean ====
section
/-! DEFINITION. The tile engine's branches, loops, system and neighbour instructions (06_tile_engine_isa R210, R211, R222 to R224). -/

namespace Sys2Proof
namespace Machine

/-- Target of a branch: PC + 1 + sext(imm16); none outside 0x000 to 0xEFF (06_tile_engine_isa R210). -/
def target (pc : Nat) (imm : BitVec 16) : Option Nat :=
  let i : Int := (pc : Int) + 1 + imm.toInt
  if 0 ≤ i && i ≤ 0xEFF then some i.toNat else none

/-- A branch: FETCH where it would go outside the kernel image, then ILLEGAL for a field not 0, then the jump or the next instruction
(06_tile_engine_isa R210, R233; log entry 16). -/
def teBranch (t : Time) (e : Nat) (imm : BitVec 16) (ok : Bool) (take : Engine → Bool) (cyc cycNot : Nat) (f : Engine → Engine) (s : State) :
    Host.Outcome State Fault Refusal :=
  teOp t e s fun s x =>
    if take x && (target x.pc imm).isNone then s.raiseExc e 2 0 0
    else if !ok then s.raiseExc e 1 0 0
    else if take x then s.doneEng e cyc fun y => { f y with pc := (target x.pc imm).getD 0 }
    else s.doneEng e cycNot f

/-- BR: d and a must be 0 (06_tile_engine_isa R210). -/
def execTeBr (t : Time) (e : Nat) (d a : BitVec 5) (imm : BitVec 16) (s : State) : Host.Outcome State Fault Refusal :=
  teBranch t e imm (d == 0 && a == 0) (fun _ => true) 2 2 id s

/-- BF (06_tile_engine_isa R210). -/
def execTeBf (t : Time) (e : Nat) (d a : BitVec 5) (imm : BitVec 16) (s : State) : Host.Outcome State Fault Refusal :=
  teBranch t e imm (fld d 4 2 == 0 && a == 0) (fun x => x.flag (d.setWidth 2)) 2 1 id s

/-- BNF (06_tile_engine_isa R210). -/
def execTeBnf (t : Time) (e : Nat) (d a : BitVec 5) (imm : BitVec 16) (s : State) : Host.Outcome State Fault Refusal :=
  teBranch t e imm (fld d 4 2 == 0 && a == 0) (fun x => !x.flag (d.setWidth 2)) 2 1 id s

/-- Loop counter `i`. -/
def Engine.lc (x : Engine) (i : Bool) : BitVec 17 := if i then x.lc1 else x.lc0
def Engine.setLc (x : Engine) (i : Bool) (v : BitVec 17) : Engine := if i then { x with lc1 := v } else { x with lc0 := v }

/-- LOOP: decrement a counter above 0, then branch while it is not 0 (06_tile_engine_isa R210). -/
def execTeLoop (t : Time) (e : Nat) (d a : BitVec 5) (imm : BitVec 16) (s : State) : Host.Outcome State Fault Refusal :=
  teBranch t e imm (fld d 4 1 == 0 && a == 0) (fun x => decide (1 < (x.lc (bit d 0)).toNat)) 1 1
    (fun y => if y.lc (bit d 0) == 0 then y else y.setLc (bit d 0) (y.lc (bit d 0) - 1)) s

/-- CALL: w[d] = PC + 1; a must be 0 (06_tile_engine_isa R210). -/
def execTeCall (t : Time) (e : Nat) (d a : BitVec 5) (imm : BitVec 16) (s : State) : Host.Outcome State Fault Refusal :=
  teBranch t e imm (a == 0) (fun _ => true) 2 2 (fun y => y.setReg d (BitVec.ofNat 64 y.pc)) s

/-- LCSET: 0 means 65,536 (06_tile_engine_isa R210). -/
def execTeLcset (t : Time) (e : Nat) (d a : BitVec 5) (imm : BitVec 16) (s : State) : Host.Outcome State Fault Refusal :=
  teOp t e s fun s _ =>
    if fld d 4 1 == 0 && a == 0 then
      s.doneEng e 1 fun y => y.setLc (bit d 0) (if imm == 0 then 65536 else imm.setWidth 17)
    else s.raiseExc e 1 0 0

/-- NOP (06_tile_engine_isa R211). -/
def execTeNop (t : Time) (e : Nat) (_d _a _b : BitVec 5) (ln pc fl : BitVec 2) (s : State) : Host.Outcome State Fault Refusal :=
  teOp t e s fun s x => rForm s e x false ln pc fl (s.doneEng e 1 id)

/-- Free bytes of a slot's 4 KiB record queue (06_tile_engine_isa R190, R229). -/
def State.queueFree (s : State) (e : Nat) : Nat := 4096 - ((Tbl.get [] s.fab.q e).map fun q => 8 * q.ws.length - q.sent).sum

/-- Special register `i`; none where the table names none (06_tile_engine_isa R190). TIME lies within 4 ns of the fabric counter: which value is
free (log entry 3). -/
def State.special (s : State) (e : Nat) (x : Engine) (i : Nat) : Option W64 :=
  match i with
  | 0 => some (BitVec.ofNat 64 x.cyc)
  | 1 => some (x.lc0.setWidth 64)
  | 2 => some (x.lc1.setWidth 64)
  | 3 => some (x.f.setWidth 64)
  | 4 => some (BitVec.ofNat 64 x.tile)
  | 5 => some (BitVec.ofNat 64 (slotOf e))
  | 6 => some (BitVec.ofNat 64 (stripeOf e))
  | 7 => some (x.nst.setWidth 64)
  | 8 => some (s.now + BitVec.ofNat 64 ((Config.freeValue s.free).toNat % 17) - 8)
  | 9 => some (BitVec.ofNat 64 s.th.k)
  | 10 => some (BitVec.ofNat 64 (s.queueFree e))
  | _ => none

/-- MFS: d = special register number a (06_tile_engine_isa R190, R211). -/
def execTeMfs (t : Time) (e : Nat) (d a _b : BitVec 5) (ln pc fl : BitVec 2) (s : State) : Host.Outcome State Fault Refusal :=
  teOp t e s fun s x => rForm s e x false ln pc fl
    (match s.special e x a.toNat with
    | some v => (if a == 8 then s.useFree else s).doneEng e 1 fun y => y.setReg d v
    | none => s.raiseExc e 1 0 0)

/-- MTS: special register number d = w[a]; a read-only register and a loop count above 65,536 are illegal (06_tile_engine_isa R190, R211). -/
def execTeMts (t : Time) (e : Nat) (d a _b : BitVec 5) (ln pc fl : BitVec 2) (s : State) : Host.Outcome State Fault Refusal :=
  teOp t e s fun s x => rForm s e x false ln pc fl
    (let v := x.reg a
    if (d == 1 || d == 2) && v.toNat ≤ 65536 then s.doneEng e 1 fun y => y.setLc (d == 2) (v.setWidth 17)
    else if d == 3 then s.doneEng e 1 fun y => { y with f := v.setWidth 4 }
    else if d == 7 then s.doneEng e 1 fun y => { y with nst := v.setWidth 4 }
    else s.raiseExc e 1 0 0)

/-- The slot emits a heartbeat (06_tile_engine_isa R234). -/
def Engine.beat (x : Engine) (now : Time) : Engine := { x with hb := true, hbT := now }

/-- HB (06_tile_engine_isa R211, R234). -/
def execTeHb (t : Time) (e : Nat) (_d _a _b : BitVec 5) (ln pc fl : BitVec 2) (s : State) : Host.Outcome State Fault Refusal :=
  teOp t e s fun s x => rForm s e x false ln pc fl (s.doneEng e 1 fun y => y.beat s.now)

/-- Pause of KB at throttle step `k`: 8 k engine cycles, in 0.5 ns units (15_thermal R503). -/
def kbPause (k : Nat) : Nat := 16 * k

/-- KB: kernel boundary, not predicable; the pause in force is not counted (06_tile_engine_isa R211, R231). -/
def execTeKb (t : Time) (e : Nat) (_d _a _b : BitVec 5) (ln pc fl : BitVec 2) (s : State) : Host.Outcome State Fault Refusal :=
  teOp t e s fun s x =>
    if pc != 0 || fl != 0 || ln != 0 then s.raiseExc e 1 0 0
    else if kbPause s.th.k == 0 || (match x.blk with | some b => kbPause s.th.k ≤ since s.now b.t | none => false) then
      s.modEng e fun x => x.done s.now 1 false id
    else s.blockEng e 0 0

/-- BRK: raise TRAP with code b (06_tile_engine_isa R211, R233). -/
def execTeBrk (t : Time) (e : Nat) (_d _a b : BitVec 5) (ln pc fl : BitVec 2) (s : State) : Host.Outcome State Fault Refusal :=
  teOp t e s fun s x => rForm s e x false ln pc fl (s.raiseExc e 5 b.toNat 0)

/-- RET: PC = w[a]; a value above 0xEFF raises FETCH, which comes before an illegal lane mode (06_tile_engine_isa R199, R211, R233). -/
def execTeRet (t : Time) (e : Nat) (_d a _b : BitVec 5) (ln pc fl : BitVec 2) (s : State) : Host.Outcome State Fault Refusal :=
  teOp t e s fun s x =>
    if 0xEFF < (x.reg a).toNat && rTaken x pc fl then s.raiseExc e 2 0 0
    else rForm s e x false ln pc fl (s.doneEng e 2 fun y => { y with pc := (x.reg a).toNat })

/-! Neighbour ports. -/

def Engine.setNst (x : Engine) (i : Nat) : Engine := { x with nst := x.nst ||| (1#4 <<< i) }

/-- NSEND toward the east or the west: a missing neighbour discards the word, a full FIFO blocks; the word becomes available after 4 cycles, or
8 across stripes (06_tile_engine_isa R222 to R224). -/
def teSend (t : Time) (e : Nat) (east : Bool) (a : BitVec 5) (ln pc fl : BitVec 2) (s : State) : Host.Outcome State Fault Refusal :=
  teOp t e s fun s x => rForm s e x false ln pc fl
    (if x.tile == (if east then 1023 else 0) then s.doneEng e 1 fun y => y.setNst (if east then 3 else 2)
    else
      let k := fifoKey x.tile east
      let q := s.fifo k
      if 16 ≤ q.length then s.blockEng e (if east then 2 else 1) 0
      else
        let peer := if east then x.tile + 1 else x.tile - 1
        let delay : Time := if peer / 32 == x.tile / 32 then 8 else 16
        (s.setFifo k (q ++ [(s.now + delay, x.reg a)])).doneEng e 1 id)

/-- NRECV from the east or the west: a missing neighbour gives 0, an empty FIFO blocks (06_tile_engine_isa R222 to R224). -/
def teRecv (t : Time) (e : Nat) (east : Bool) (d : BitVec 5) (ln pc fl : BitVec 2) (s : State) : Host.Outcome State Fault Refusal :=
  teOp t e s fun s x => rForm s e x false ln pc fl
    (if x.tile == (if east then 1023 else 0) then s.doneEng e 1 fun y => (y.setNst (if east then 1 else 0)).setReg d 0
    else
      let k := if east then fifoKey (x.tile + 1) false else fifoKey (x.tile - 1) true
      match s.fifo k with
      | (av, v) :: r => if reached s.now av then (s.setFifo k r).doneEng e 1 fun y => y.setReg d v
                        else s.blockEng e (if east then 4 else 3) d
      | [] => s.blockEng e (if east then 4 else 3) d)

/-- NSENDW (06_tile_engine_isa R222). -/
def execTeNsendw (t : Time) (e : Nat) (_d a _b : BitVec 5) (ln pc fl : BitVec 2) (s : State) : Host.Outcome State Fault Refusal :=
  teSend t e false a ln pc fl s

/-- NSENDE (06_tile_engine_isa R222). -/
def execTeNsende (t : Time) (e : Nat) (_d a _b : BitVec 5) (ln pc fl : BitVec 2) (s : State) : Host.Outcome State Fault Refusal :=
  teSend t e true a ln pc fl s

/-- NRECVW (06_tile_engine_isa R222). -/
def execTeNrecvw (t : Time) (e : Nat) (d _a _b : BitVec 5) (ln pc fl : BitVec 2) (s : State) : Host.Outcome State Fault Refusal :=
  teRecv t e false d ln pc fl s

/-- NRECVE (06_tile_engine_isa R222). -/
def execTeNrecve (t : Time) (e : Nat) (d _a _b : BitVec 5) (ln pc fl : BitVec 2) (s : State) : Host.Outcome State Fault Refusal :=
  teRecv t e true d ln pc fl s

/-- NB_TIMEOUT: the blocked neighbour instruction has waited its timeout; an NSEND discards its word, an NRECV writes 0, and the NST bit is set
(06_tile_engine_isa R223). -/
def execNbTimeout (t : Time) (e : Nat) (s : State) : Host.Outcome State Fault Refusal :=
  inRun t s fun s =>
    match (s.eng e).blk with
    | some b =>
      if s.noTicks || (s.eng e).st != 1 || since s.now b.t < b.lim then s
      else if b.op == 1 || b.op == 2 then s.doneEng e 1 fun y => y.setNst (b.op + 1)
      else if b.op == 3 || b.op == 4 then s.doneEng e 1 fun y => (y.setNst (b.op - 3)).setReg b.d 0
      else s
    | none => s

/-- BLOCKED_HEARTBEAT: an engine blocked for 1 us emits a heartbeat (06_tile_engine_isa R234). -/
def execBlockedHeartbeat (t : Time) (e : Nat) (s : State) : Host.Outcome State Fault Refusal :=
  inRun t s fun s =>
    match (s.eng e).blk with
    | some b => if !s.noTicks && (s.eng e).st == 1 && 2000 ≤ since s.now b.t then s.modEng e fun x => x.beat s.now else s
    | none => s

/-- The opcode, and in R-form the function code, is listed (06_tile_engine_isa R198, R205 to R211, R214, R217, R221, R222, R226). -/
def legalOp (w : W32) : Bool :=
  let op := fld w 31 26
  let fn := fld w 4 0
  if op == 0x00 then fn ≤ 0x17
  else if op == 0x01 then fn ≤ 6
  else if op == 0x02 then fn ≤ 0x0B
  else if op == 0x03 || op == 0x04 then fn ≤ 6
  else if op == 0x05 || op == 0x06 then fn ≤ 3
  else (0x10 ≤ op && op ≤ 0x1C) || (0x20 ≤ op && op ≤ 0x26) || (0x28 ≤ op && op ≤ 0x2B) || (0x30 ≤ op && op ≤ 0x35)

/-- ILLEGAL_OPCODE: the word at PC is no instruction; a word that is one does not raise it (06_tile_engine_isa R198, R200, R233). -/
def execIllegalOpcode (t : Time) (e : Nat) (w : W32) (s : State) : Host.Outcome State Fault Refusal :=
  teOp t e s fun s _ => if legalOp w then s else s.raiseExc e 1 0 0

end Machine
end Sys2Proof
end

