-- ==== Sys2Proof/Machine/TeLine.lean ====
section
/-! DEFINITION. The tile engine's line and record instructions, the stripe monitor, TE_LOAD, and the combination of STAT contributions
(06_tile_engine_isa R212 to R240; 07_kernels_records R268; 08_result_fabric R288, R299, R304). -/

namespace Sys2Proof
namespace Machine

/-! Lines. -/

/-- The conversion start t_c of line `l` for tile `t` (04_converters R133). -/
def Line.tc (l : Line) (t : Nat) : Time := if l.woke.getLsbD t then l.t + 800 else l.t

/-- The slot operand: bits [49:48] (06_tile_engine_isa R214). -/
def slotOp (v : W64) : Nat := fld v 49 48

/-- The next line that LACQ returns: the lowest line sequence not yet returned whose items reach the tile and that the device has not ended
(06_tile_engine_isa R212, R213). -/
def State.nextFor (s : State) (x : Engine) : Option (Nat × Line) :=
  s.fab.lines.findSome? fun p => match p.2 with
    | some l => if x.nextLine ≤ p.1 && s.openItem p.1 x.tile then some (p.1, l) else none
    | none => none

/-- Counted cycles of the line end when the next LACQ issues: TE_CYCLES (06_tile_engine_isa R232, TE_CYCLES). -/
def State.noteCycles (s : State) (e : Nat) (x : Engine) : State :=
  let c := min x.cyc 0xFFFFF
  if x.cycOn && s.te.cycMax < c then s.modTe fun y => { y with cycMax := c, cycSlot := e } else s

/-- The palette region of the tile is being rewritten or reloaded (05_calibration R163, R164). -/
def State.palBusy (s : State) (t : Nat) : Bool := s.cal.rewrite.contains t || s.cal.reload.contains t

/-- The descriptor of R215. -/
def descriptor (n : Nat) (l : Line) (pre : Bool) : W64 :=
  pack 64 [((l.kind == 2).toNat, 63), (pre.toNat, 62), (l.chain, 56), (l.entry, 50), (n % 4, 48), (n % 2 ^ 48, 0)]

/-- LACQ and LACQE: block until the next line has ended (or, `early`, started) conversion, then hold its slot; PREFAILED says that the line has ended
FAILED for the tile. A blocked engine runs the accumulation routine (06_tile_engine_isa R213 to R216, R220, R221, R234). -/
def teAcq (t : Time) (e : Nat) (early : Bool) (d : BitVec 5) (ln pc fl : BitVec 2) (s : State) : Host.Outcome State Fault Refusal :=
  teOp t e s fun s x => rForm s e x false ln pc fl (
    let s := if x.blk.isNone then s.noteCycles e x else s
    let wait := (s.blockEng e 6 0).accumulate x.tile
    match s.nextFor x with
    | none => wait
    | some (n, l) =>
      if if early then reached s.now (l.tc x.tile) else l.conv.getLsbD x.tile then
        let s := if s.palBusy x.tile then s.cover true 0x03 0 n x.tile x.tile else s
        let pre := s.palBusy x.tile || l.fail.getLsbD x.tile
        let q : LSlot := { held := true, rev := false, line := n, pre := pre, pal := false }
        s.modEng e fun y =>
          let y := (y.done s.now 0 false fun z => z.setReg d (descriptor n l pre)).beat s.now
          { y with slots := y.slots.set (n % 4) q, nextLine := n + 1, cyc := 0, cycOn := true }
      else wait)

/-- LACQ (06_tile_engine_isa R214). -/
def execTeLacq (t : Time) (e : Nat) (d _a _b : BitVec 5) (ln pc fl : BitVec 2) (s : State) : Host.Outcome State Fault Refusal :=
  teAcq t e false d ln pc fl s

/-- LACQE (06_tile_engine_isa R214). -/
def execTeLacqe (t : Time) (e : Nat) (d _a _b : BitVec 5) (ln pc fl : BitVec 2) (s : State) : Host.Outcome State Fault Refusal :=
  teAcq t e true d ln pc fl s

/-- The slot an operand names. -/
def Engine.slot (x : Engine) (r : BitVec 5) : LSlot := x.slots.getD (slotOp (x.reg r)) LSlot.free

/-- Blocked cycles of LWAIT and LWAITF are not counted (06_tile_engine_isa, The cycle budget). -/
def State.doneWait (s : State) (e : Nat) : State := s.modEng e fun x => x.done s.now 1 false id

/-- LWAIT (06_tile_engine_isa R214, R218). -/
def execTeLwait (t : Time) (e : Nat) (_d a _b : BitVec 5) (ln pc fl : BitVec 2) (s : State) : Host.Outcome State Fault Refusal :=
  teOp t e s fun s x => rForm s e x false ln pc fl (
    let q := x.slot a
    if !q.held then s.raiseExc e 4 0 0
    else if q.rev || !s.converting x q then s.doneWait e else s.blockEng e 0 0)

/-- LWAITF: the words of the frame stand in the slot (06_tile_engine_isa R214, R218; 04_converters R133). -/
def execTeLwaitf (t : Time) (e : Nat) (_d a b : BitVec 5) (ln pc fl : BitVec 2) (s : State) : Host.Outcome State Fault Refusal :=
  teOp t e s fun s x => rForm s e x false ln pc fl (
    let q := x.slot a
    let f := (x.reg b).toNat
    if !q.held then s.raiseExc e 4 0 0
    else if q.rev || !s.converting x q then s.doneWait e
    else match s.line q.line with
      | some l => if f < l.framesIn x.tile then s.doneWait e else s.blockEng e 0 0
      | none => s.doneWait e)

/-- The word at position `p` of a line slot (04_converters R134). -/
def State.slotWord (s : State) (x : Engine) (sl p : Nat) : Nat := s.dRead x (0xC000 + 0x200 * sl + 2 * p) 2

/-- The tile has ended line `n` (06_tile_engine_isa R214). -/
def State.releaseTile (s : State) (n t : Nat) : State := s.modLine n fun l => { l with rel := l.rel ||| (1#1024 <<< t) }

/-- The slot is free again; a release emits a heartbeat (06_tile_engine_isa R214, R234). -/
def State.freeSlot (s : State) (e sl cyc : Nat) : State :=
  s.doneEng e cyc fun y => { y.beat s.now with slots := y.slots.set sl LSlot.free }

/-- LREL: the drift routine on a reference line, then the line ends for the tile (06_tile_engine_isa R214, R219, R221, R235). -/
def execTeLrel (t : Time) (e : Nat) (_d a _b : BitVec 5) (ln pc fl : BitVec 2) (s : State) : Host.Outcome State Fault Refusal :=
  teOp t e s fun s x => rForm s e x false ln pc fl (
    let sl := slotOp (x.reg a)
    let q := x.slot a
    if !q.held then s.raiseExc e 4 0 0
    else
      let s := s.modEng e fun y => { y with kcnt := 0 }
      if q.rev then s.freeSlot e sl 1
      else
        let p := match s.line q.line with
          | some l => if l.kind == 1 then s.driftRoutine x.tile l (s.slotWord x sl) else (s, 0)
          | none => (s, 0)
        let s := if q.pal then p.1.failTile 0x03 0 q.line x.tile else p.1.releaseTile q.line x.tile
        s.freeSlot e sl (1 + p.2))

/-- LTEST (06_tile_engine_isa R214). -/
def execTeLtest (t : Time) (e : Nat) (_d a _b : BitVec 5) (ln pc fl : BitVec 2) (s : State) : Host.Outcome State Fault Refusal :=
  teOp t e s fun s x =>
    if pc != 0 || ln != 0 then s.raiseExc e 1 0 0
    else s.doneEng e 1 fun y => y.setFlag fl ((x.slot a).held && !(x.slot a).rev)

/-- LKILL: the line ends FAILED with the kernel code w[b][7:0] (06_tile_engine_isa R214, R221). -/
def execTeLkill (t : Time) (e : Nat) (_d a b : BitVec 5) (ln pc fl : BitVec 2) (s : State) : Host.Outcome State Fault Refusal :=
  teOp t e s fun s x => rForm s e x false ln pc fl (
    let sl := slotOp (x.reg a)
    let q := x.slot a
    if !q.held then s.raiseExc e 4 0 0
    else if q.rev then s.freeSlot e sl 1
    else ((if q.pal then s.failTile 0x03 0 q.line x.tile else s.failTile 0x04 ((x.reg b).toNat % 256) q.line x.tile)).freeSlot e sl 1)

/-- The line state of LINFO selector 7 (06_tile_engine_isa R217). -/
def State.lineState (s : State) (x : Engine) (q : LSlot) (l : Line) : W64 :=
  pack 64 [(if l.kind == 2 then (l.frame - 192) % 64 else 0, 12), ((l.kind == 2).toNat, 11), (q.pre.toNat, 10), (q.rev.toNat, 9),
           ((s.stale x.tile l).toNat, 8), ((l.flags.getLsbD 4).toNat, 7), ((l.flags.getLsbD 6).toNat, 6), ((l.flags.getLsbD 1).toNat, 5),
           ((l.flags.getLsbD 0).toNat, 4), (l.flushed.toNat, 0)]

/-- The value of a LINFO selector 0 to 10 (06_tile_engine_isa R217). -/
def State.linfo (s : State) (x : Engine) (q : LSlot) (l : Line) (sel : Nat) : W64 :=
  match sel with
  | 0 => BitVec.ofNat 64 q.line
  | 1 => l.enc.signExtend 64
  | 2 => l.t
  | 3 => l.w0.setWidth 64
  | 4 => l.w1.setWidth 64
  | 5 => l.w2.setWidth 64
  | 6 => l.w3.setWidth 64
  | 7 => s.lineState x q l
  | 8 => l.t + BitVec.ofNat 64 (l.tmin + 125 * (16 + s.th.k))
  | 9 => BitVec.ofNat 64 l.frames
  | _ => BitVec.ofNat 64 l.tmin

/-- LINFO (06_tile_engine_isa R208, R217). -/
def execTeLinfo (t : Time) (e : Nat) (d a : BitVec 5) (imm : BitVec 16) (s : State) : Host.Outcome State Fault Refusal :=
  teOp t e s fun s x =>
    let q := x.slot a
    if 10 < imm.toNat then s.raiseExc e 1 0 0
    else if !q.held then s.raiseExc e 4 0 0
    else match s.line q.line with
      | some l => s.doneEng e 1 fun y => y.setReg d (s.linfo x q l imm.toNat)
      | none => s.doneEng e 1 id

/-! The record port. -/

/-- The record as the port completes it from the line in the slot; the reserved flags, bits 25 to 31 of word 3, are 0
(06_tile_engine_isa R228; 07_kernels_records R262, R263, R265). -/
def portRecord (ws : List W64) (n tile : Nat) (l : Line) (keep : Bool) : List W64 :=
  let w3 := ws.getD 3 0
  let tiles := if keep then fld w3 63 44 else tile * 1024 + tile
  let out := [pack 64 [(fld (ws.getD 0 0) 63 48, 48), (n % 2 ^ 48, 0)], pack 64 [(l.enc.toNat, 16), (fld (ws.getD 1 0) 15 0, 0)], l.t,
    pack 64 [(tiles, 44), (l.entry, 38), (l.chain, 32), (((BitVec.ofNat 16 (fld w3 31 16) &&& 0x1FF) ||| l.flags).toNat, 16), (fld w3 15 0, 0)]] ++ ws.drop 4
  out ++ [trailer out]

/-- The contribution a STAT record of KIND 0 carries (07_kernels_records R268). -/
def contribOf (ws : List W64) (n tile : Nat) : Contrib :=
  let mask := fld (ws.getD 4 0) 31 24
  let ps := (List.range 8).filter fun p => mask / 2 ^ p % 2 == 1
  { line := n, tile := tile, ch := recCh ws, flags := BitVec.ofNat 16 (fld (ws.getD 3 0) 31 16) &&& 0x1AC,
    pairs := (List.range ps.length).map fun i =>
      let a := ws.getD (5 + 2 * i) 0
      let b := ws.getD (6 + 2 * i) 0
      { p := ps.getD i 0, sum := fld a 63 32, cnt := fld a 31 16, ors := fld a 15 0, mn := fld b 63 48, mx := fld b 47 32, user := fld b 31 0 } }

/-- Deadline and class of a kernel record as it enters its slot queue (08_result_fabric R288). -/
def State.kernelRec (s : State) (ws : List W64) : QRec :=
  let cfg := s.chCfg (recCh ws)
  { ws := ws, dl := ((ws.getD 2 0) + BitVec.ofNat 64 (fld cfg 29 22 * s.tick.worst + 32 * fld cfg 21 8)).setWidth 32, cls := bit cfg 30, sent := 0, lb := 0,
    t := s.now, dev := false, ue := false }

/-- The port has taken the record: a DEFECT record counts as produced; the record is discarded on a channel that does not carry the line, and dropped
when an earlier record of its item was; any other record, a STAT contribution too, enters the queue
(03_sequence_table R100; 06_tile_engine_isa R228; 08_result_fabric R284, R297, R299, R304; 14_faults R482). -/
def State.acceptRec (s : State) (e : Nat) (ws : List W64) (n tile : Nat) : State :=
  let ch := recCh ws
  let s := if recType ws == 0x03 then s.modLine n fun l => { l with defects := l.defects + 1 } else s
  if !s.carries ch n then s.loseRec n tile ch
  else if s.voided n tile ch then s.modChan ch fun c => { c with drop := c.drop + 1 }
  else s.modFab fun f => { f with q := Tbl.set [] f.q e (Tbl.get [] f.q e ++ [s.kernelRec ws]) }

/-- RSEND and its kin: `keep` the staged tile fields; `trial` gives the flag of RTRY (06_tile_engine_isa R218, R226 to R229). -/
def tePort (s : State) (e : Nat) (x : Engine) (keep : Bool) (trial : Option (BitVec 2)) (a b : BitVec 5) : State :=
  let ad := (x.reg a).toNat
  let len := s.dRead x (ad + 8) 2
  let w0 := s.dRead x ad 8
  let q := x.slot b
  let cyc := 2 + len / 2
  let flag := fun (y : Engine) (v : Bool) => match trial with
    | some f => y.setFlag f v
    | none => y
  if !(0xD000 ≤ ad && ad ≤ 0xDFFF) || ad % 8 != 0 || 0xE000 < ad + 8 * (len - 1) || len < 5 || 512 < len ||
      w0 / 2 ^ 56 == 0 || 4 < w0 / 2 ^ 56 || 15 < w0 / 2 ^ 48 % 256 || !q.held then s.raiseExc e 4 0 (ad % 65536)
  else if (List.range (len - 1)).any fun i => x.dUe.contains (ad / 8 + i) then s.raiseExc e 9 0 ad
  else if trial.isSome && s.queueFree e < 8 * len then s.doneEng e 1 fun y => flag y false
  else if q.rev || q.pre then s.doneEng e cyc fun y => flag y true
  else if s.queueFree e < 8 * len then s.blockEng e (if bit (s.chCfg (w0 / 2 ^ 48 % 16)) 30 then 0 else 5) 0
  else match s.line q.line with
    | some l =>
      let ws := portRecord ((List.range (len - 1)).map fun i => BitVec.ofNat 64 (s.dRead x (ad + 8 * i) 8)) q.line x.tile l keep
      (s.acceptRec e ws q.line x.tile).doneEng e cyc fun y => flag y true
    | none => s.doneEng e cyc id

/-- RSEND (06_tile_engine_isa R226). -/
def execTeRsend (t : Time) (e : Nat) (_d a b : BitVec 5) (ln pc fl : BitVec 2) (s : State) : Host.Outcome State Fault Refusal :=
  teOp t e s fun s x => rForm s e x false ln pc fl (tePort s e x false none a b)

/-- RSENDT (06_tile_engine_isa R226). -/
def execTeRsendt (t : Time) (e : Nat) (_d a b : BitVec 5) (ln pc fl : BitVec 2) (s : State) : Host.Outcome State Fault Refusal :=
  teOp t e s fun s x => rForm s e x false ln pc fl (tePort s e x true none a b)

/-- RTRY: bits [8:7] must be 0 (06_tile_engine_isa R226). -/
def execTeRtry (t : Time) (e : Nat) (_d a b : BitVec 5) (ln pc fl : BitVec 2) (s : State) : Host.Outcome State Fault Refusal :=
  teOp t e s fun s x => if pc != 0 || ln != 0 then s.raiseExc e 1 0 0 else tePort s e x false (some fl) a b

/-- RTRYT (06_tile_engine_isa R226). -/
def execTeRtryt (t : Time) (e : Nat) (_d a b : BitVec 5) (ln pc fl : BitVec 2) (s : State) : Host.Outcome State Fault Refusal :=
  teOp t e s fun s x => if pc != 0 || ln != 0 then s.raiseExc e 1 0 0 else tePort s e x true (some fl) a b

/-! The combination of contributions (07_kernels_records R268). -/

/-- The combined values of one pair over the contributions; `none` when no contribution carries it. -/
def combinePair (cs : List Contrib) (p : Nat) : Option (List W64) :=
  let ps := cs.flatMap fun c => c.pairs.filter fun x => x.p == p
  if ps.isEmpty then none
  else
    let live := ps.filter fun x => x.cnt != 0
    let mn := if live.isEmpty then 0 else (live.map (·.mn)).foldl min 0xFFFF
    let mx := (live.map (·.mx)).foldl max 0
    some [pack 64 [((ps.map (·.sum)).sum % 2 ^ 32, 32), ((ps.map (·.cnt)).sum % 65536, 16), ((ps.map (·.ors)).sum % 65536, 0)],
          pack 64 [(mn, 48), (mx, 32), ((ps.map (·.user)).sum % 2 ^ 32, 0)]]

/-- The combined STAT record of KIND 0 (07_kernels_records R268). -/
def statRec (cs : List Contrib) (ch n : Nat) (l : Line) : List W64 :=
  let body := (List.range 8).filterMap fun p => (combinePair cs p).map fun w => (p, w)
  let kf := cs.foldl (fun a c => a ||| c.flags) (0 : BitVec 16)
  let part : BitVec 16 := if cs.length < l.last + 1 - l.first then 0x100 else 0
  recWords 0x04 ch n l.enc l.t (span l.first l.last l.entry l.chain) (l.flags ||| kf ||| part).toNat 0
    (pack 64 [(cs.length % 65536, 32), ((body.map fun b => 2 ^ b.1).sum, 24)] :: body.flatMap (·.2))

/-- Every tile of the window has released or ended the line. -/
def Line.closed (l : Line) : Bool := (List.range (l.last + 1 - l.first)).all fun i => l.rel.getLsbD (l.first + i)

/-- STAT_COMBINE: on each channel, once no contribution of the line is still in the fabric (07_kernels_records R268; 08_result_fabric R284). -/
def execStatCombine (t : Time) (line : Nat) (s : State) : Host.Outcome State Fault Refusal :=
  inRun t s fun s =>
    match s.line line with
    | some l =>
      if l.closed then
        ((List.range 16).filter fun ch => !s.statCrossing ch line).foldl (fun s ch =>
          let cs := s.fab.contrib.filter fun c => c.line == line && c.ch == ch
          if cs.isEmpty then s
          else
            let s := s.modFab fun f => { f with contrib := f.contrib.filter (fun c => !(c.line == line && c.ch == ch)), comb := f.comb ++ cs }
            if s.carries ch line then s.stage (statRec cs ch line l) else s) s
      else s
    | none => s

/-! The stripe monitor. -/

/-- SLOT_RELEASE_DEADLINE: the latest tick is n + 2; every line up to n that the tile has not released is ended FAILED and its slot revoked
(01_line_tick R34, 06_tile_engine_isa R218, 07_kernels_records R281). -/
def execSlotReleaseDeadline (t : Time) (e : Nat) (s : State) : Host.Outcome State Fault Refusal :=
  inRun t s fun s =>
    let tile := (s.eng e).tile
    if s.serving tile == some e && s.tick.last.isSome then
      let ns := (s.openLines tile).filter fun n => n + 2 ≤ s.lastLine
      let s := ns.foldl (fun s n => s.failTile 0x01 0 n tile) s
      s.modEng e fun x => { x with slots := x.slots.map fun q => { q with rev := q.rev || (q.held && ns.contains q.line) } }
    else s

/-- ENGINE_HANG: no heartbeat for 10 us (06_tile_engine_isa R233, R234). -/
def execEngineHang (t : Time) (e : Nat) (s : State) : Host.Outcome State Fault Refusal :=
  inRun t s fun s =>
    let x := s.eng e
    if !s.noTicks && x.st == 1 && x.blk.isNone && 20000 ≤ since s.now x.hbT then s.raiseExc e (if x.hb then 6 else 0xA) 0 0 else s

/-- PORT_CHECK_FAIL (06_tile_engine_isa R233). -/
def execPortCheckFail (t : Time) (e : Nat) (s : State) : Host.Outcome State Fault Refusal :=
  inRun t s fun s => if !s.noTicks && (s.eng e).st == 1 then s.raiseExc e 0xB 0 0 else s

/-- ENGINE_RESTART_END: the slot runs again, or parks at K_LIMIT restarts with no LREL between them (06_tile_engine_isa R235, R237). -/
def execEngineRestartEnd (t : Time) (e : Nat) (s : State) : Host.Outcome State Fault Refusal :=
  inRun t s fun s =>
    let x := s.eng e
    let lim := s.regF 0x50000 15 8
    if s.clk.gated || x.st != 2 then s
    else if lim != 0 && lim ≤ x.kcnt then
      (((s.modEng e fun x => { x with st := 3 }).failOpen x.tile 0x05 x.cause).logEvent 0x03 4 e x.cause x.tile).raise 21
    else (s.modEng e fun x => { x with rst := satInc 255 x.rst }).startEng e

/-- SPARE_LOAD_END: the spare serves the tile from the next tick on; its drift terms and its accumulation start anew
(14_faults R475 to R477, 05_calibration R164, R169, R186). -/
def execSpareLoadEnd (t : Time) (e : Nat) (s : State) : Host.Outcome State Fault Refusal :=
  inRun t s fun s =>
    let x := s.eng e
    if s.clk.gated || x.st != 0 || e % 33 != 32 || s.te.loadBusy || !(s.stripe (e / 33)).used then s
    else
      let s := (s.startEng e).modEng e fun y => { y with swPend := true, nextLine := s.tick.line.toNat }
      (s.modCal fun c => { c with acc := Tbl.erase c.acc x.tile, drift := c.drift.filter fun p => p.1 / 16 != x.tile }).readMaster x.tile

/-- A write to TE_CTL: NB_TIMEOUT = 0 is rejected; RESTART_ALL restarts every PARKED slot (06_tile_engine_isa R237, R240). -/
def State.teCtlWrite (s : State) (w : Wr) (v : W32) : State :=
  if fld v 30 16 == 0 then s.reject 3 w.src 0x50000
  else
    let s := s.storeReg 0x50000 v
    if bit v 31 then
      (List.range 1056).foldl (fun s e => if (s.eng e).st == 3 then (s.modEng e fun x => { x with kcnt := 0 }).startEng e else s) s
    else s

/-- RESTART_ALL (06_tile_engine_isa R237). -/
def execRestartAll (t : Time) (w : Wr) (s : State) : Host.Outcome State Fault Refusal :=
  regCmd t 0x50000 w s fun v s => s.teCtlWrite w v

/-- A write to TE_LOAD: accepted only in STOPPED and with the permission KERNEL_LOAD in force, else DENIED is set; while a load runs a GO that could be
accepted starts no other. The regions are loaded from the master copy (05_calibration R164; 06_tile_engine_isa R193, R239; 13_boot_security R462). -/
def State.teLoadWrite (s : State) (v : W32) : State :=
  let s := if bit v 29 then s.modTe fun x => { x with denied := false } else s
  if !bit v 31 then s
  else if !(s.tick.st == 0 && bit (s.boot.permO &&& s.boot.permS) 0) then s.modTe fun x => { x with denied := true }
  else if s.te.loadBusy then s
  else
    let s := s.readMasters
    let s := (List.range 1056).foldl (fun s e =>
      if (s.eng e).st == 5 then
        s.modEng e fun x => { x with own := some (x.own.getD (s.te.params, s.te.image)) }
      else s.modEng e fun x => x.load) s
    s.modTe fun x => { x with loadBusy := true, fifo := [] }

/-- TE_LOAD_GO (06_tile_engine_isa R239). -/
def execTeLoadGo (t : Time) (w : Wr) (s : State) : Host.Outcome State Fault Refusal :=
  regCmd t 0x50030 w s fun v s => s.teLoadWrite v

/-- TE_LOAD_END: every slot that is not RETIRED has the staged image and starts; a waiting takeover then begins its load
(06_tile_engine_isa R237, R239; 14_faults R477). -/
def execTeLoadEnd (t : Time) (s : State) : Host.Outcome State Fault Refusal :=
  inRun t s fun s =>
    if s.te.loadBusy then
      let wait := s.te.waitLoad
      let s := s.modTe fun x => { x with loadBusy := false, waitLoad := [], image := s.host.stImage, params := s.host.stParams }
      let s := (List.range 1056).foldl (fun s e =>
        if (s.eng e).st != 0 || wait.contains e then s
        else if e % 33 == 32 && !(s.stripe (e / 33)).used then s.modEng e fun x => { x with st := 4, kcnt := 0 }
        else (s.modEng e fun x => { x with kcnt := 0 }).startEng e) s
      s.raise 21
    else s

/-- A write to TE_CYCLES (06_tile_engine_isa TE_CYCLES). -/
def State.teCyclesWrite (s : State) (v : W32) : State :=
  if bit v 0 then s.modTe fun x => { x with cycMax := 0, cycSlot := 0 } else s

/-- TE_CYCLES_CLEAR (06_tile_engine_isa R232). -/
def execTeCyclesClear (t : Time) (w : Wr) (s : State) : Host.Outcome State Fault Refusal :=
  regCmd t 0x50028 w s fun v s => s.teCyclesWrite v

end Machine
end Sys2Proof
end

