-- ==== Sys2Proof/Machine/Conv.lean ====
section
/-! DEFINITION. The converter banks: conversion, slice correction, rotating calibration, power-down and wake, retirement (04_converters). -/

namespace Sys2Proof
namespace Machine

/-- The range of the internal value of a slice (04_converters, Slice correction). -/
def xMin : Int := -1024
def xMax : Int := 17407

/-- The raw sample word of internal value `x` with coefficients `o` and `g` (04_converters R139, R140). -/
def sampleWord (ten : Bool) (o : Int) (g : Nat) (x : Int) : Nat :=
  let y4 := ((x - o) * g + 16384) / 32768
  let y := if ten then 4 * ((y4 + 8) / 16) else (y4 + 2) / 4
  if x == xMax || 4095 < y then 0x2FFF
  else if x == xMin || y < 0 then 0x1000
  else y.toNat

/-- The position has no working slice: the bank is FAILED, no slice holds it, or its slice has left it (04_converters R544). -/
def Bank.vacant (b : Bank) (q : Nat) : Bool := b.st == 2 || b.pos.getD q 9 == 9 || b.gone.any fun p => p.1 == q

/-- The word the bank writes for sample `j` of internal value `x` as its frame ends: no working slice or a failed check, or the corrected sample
(04_converters R136, R140, R544). -/
def bankWord (b : Bank) (n : Nat) (l : Line) (j : Nat) (x : Int) : Nat :=
  if b.vacant (j % 8) || b.fails.contains (n, j) then 0x4000
  else
    let c := b.coef.getD (b.pos.getD (j % 8) 9) (0, 32768, 0)
    sampleWord (bit l.w0 21) c.1 c.2.1 x

/-- Position 64 b + 32 g + k of sample `j` (04_converters R132, R134). -/
def Line.posOf (l : Line) (j : Nat) : Nat :=
  let p := l.pairs.getD (j / 32) (0, 0)
  64 * p.1 + 32 * p.2 + j % 32

/-- The positions that the entry does not convert (04_converters R134). -/
def Line.blanks (l : Line) : List Nat := (List.range 256).filter fun p => (l.sampleOf p).isNone

/-- The line a bank converts now: the oldest whose window includes the tile and whose conversion has not ended. -/
def State.convLine (s : State) (t : Nat) : Option (Nat × Line) :=
  s.fab.lines.findSome? fun p => match p.2 with
    | some l => if l.items && l.first ≤ t && t ≤ l.last && !l.conv.getLsbD t then some (p.1, l) else none
    | none => none

/-- Write words into the slot of line `n` of an engine: position and word. Each rewrites its 64-bit word with its check bits
(04_converters R134; 06_tile_engine_isa R196). -/
def State.slotWrite (s : State) (e n : Nat) (ws : List (Nat × Nat)) : State :=
  s.modEng e fun x => ws.foldl (fun x p =>
    let a := 0xC000 + 0x200 * (n % 4) + 2 * p.1
    let y := s.dWrite x a (bytesLE 2 (BitVec.ofNat 16 p.2))
    { y with dUe := y.dUe.filter (fun d => d != a / 8), dCe := y.dCe.filter fun d => d != a / 8 }) x

/-- The conversion of line `n` in the bank of tile `t` has ended (04_converters R135, R148; 05_calibration R163, R168, R171). -/
def State.convDone (s : State) (t n : Nat) : State :=
  let s := s.modLine n fun l => { l with conv := l.conv ||| (1#1024 <<< t), frs := Tbl.erase l.frs t }
  let s := s.modBank t fun b => { b with lastConv := s.now, fails := b.fails.filter fun f => f.1 != n }
  let s := if s.palBusy t then s.cover true 0x03 0 n t t else s
  match s.serving t, s.line n with
  | some e, some l => (s.accumRef t n l fun p => s.dRead (s.eng e) (0xC000 + 0x200 * (n % 4) + 2 * p) 2).accumulate t
  | _, _ => s

/-- CONVERSION_END: the conversion frames that have ended since the bank's last one. `xs` are the internal values of their samples in the order of R132,
8 to a frame; their words are in the slot of the engine that serves the tile, and with the last frame the conversion ends
(04_converters R130, R132 to R137, R544; log entry 90). -/
def execConversionEnd (t : Time) (tile : Nat) (xs : List Int) (s : State) : Host.Outcome State Fault Refusal :=
  inRun t s fun s =>
    match s.convLine tile with
    | some (n, l) =>
      let f := Tbl.get 0 l.frs tile
      let m := f + xs.length / 8
      if s.clk.gated || l.frames < m || !reached s.now (l.tc tile + BitVec.ofNat 64 (48 * m)) then s
      else
        let b := s.bank tile
        let words := (List.range (8 * (m - f))).map fun i => (l.posOf (8 * f + i), bankWord b n l (8 * f + i) (xs.getD i 0))
        let words := if m == l.frames then words ++ l.blanks.map fun p => (p, 0x8000) else words
        let s := match s.serving tile with
          | some e => s.slotWrite e n words
          | none => s
        let ors := (words.filter fun p => p.2 == 0x2FFF).length
        let s := s.modLine n fun l => { l with frs := Tbl.set 0 l.frs tile m, ors := l.ors + ors }
        if m == l.frames then s.convDone tile n else s
    | none => s

/-! Calibration runs (04_converters R143). -/

/-- What a run gives: a reason code of R143, or the new coefficients. -/
inductive RunEnd where
  | fail (reason : Nat)
  | pass (o : Int) (g : Nat)
deriving DecidableEq, Repr

/-- The corrected value y of internal value `x`, in DN (04_converters R140). -/
def corrected (o : Int) (g : Int) (x : Int) : Int := (((x - o) * g + 16384) / 32768 + 2) / 4

/-- The arithmetic of a run against the previous coefficients; no drift bound at boot. The bounds are tried in the order of their table. m_mid is
the mean of the corrected values of R140 (04_converters R140, R143, R147). -/
def runResult (r : CalRun) (prev : Option (Int × Nat)) : RunEnd :=
  let lo := roundDiv r.lo 16384
  let hi := roundDiv r.hi 16384
  let g := roundDiv (32768 * 14336) (hi - lo)
  let o := lo - roundDiv (1024 * 32768) g
  let n : Int := ((r.mid.map (·.2)).sum : Nat)
  let sx := (r.mid.map fun p => p.1 * (p.2 : Int)).sum
  let sxx := (r.mid.map fun p => p.1 * p.1 * (p.2 : Int)).sum
  let m := (r.mid.map fun p => corrected o g p.1 * (p.2 : Int)).sum
  if hi ≤ lo || g < 31744 || 33792 < g then .fail 2
  else if o < -512 || 511 < o then .fail 1
  else if 144 * n * n < 25 * (n * sxx - sx * sx) then .fail 3
  else if m < 2045 * n || 2051 * n < m then .fail 4
  else if (match prev with | some (po, pg) => decide (32 < (o - po).natAbs) || decide (164 < (g - pg).natAbs) | none => false) then .fail 5
  else if r.chk then .fail 6
  else .pass o g.toNat

/-- A retirement or a transition to FAILED is reported (04_converters R155; 14_faults R487, R492; 09_host_link R346; 05_calibration R185). -/
def State.reportRetire (s : State) (tile sl reason : Nat) (oot : Bool) (line : Nat) : State :=
  let st := (s.bank tile).st
  let s := s.modConv fun c => { c with
    lastRet := pack 32 [(tile, 22), (sl, 18), (reason, 14), (st, 12)], lastRetLine := BitVec.ofNat 48 line,
    retOot := if oot then c.retOot + 1 else c.retOot, retRot := if oot then c.retRot else c.retRot + 1 }
  let s := (s.modCal fun c => { c with jQueue := c.jQueue ++ [(tile, sl, reason, line)] }).logEvent 0x04 1 tile sl reason
  let s := if st == 2 then s.logEvent 0x04 2 tile 0 0 else s
  (s.raise 20).health

/-- The slice is retired: NORMAL becomes FIXED, FIXED becomes FAILED. A NORMAL bank whose calibrating slice fails its run drops a replacement that was
to follow at the next tick: the slice whose check failed goes on converting, the table giving no action for the two events together
(04_converters R151, R152; log entry 91). -/
def Bank.retire (b : Bank) (sl : Nat) : Bank :=
  { b with ret := b.ret ||| (1#9 <<< sl), st := b.st + 1, cal := 15, passed := false, defer := false, swap := [], run := [], gone := [],
           resume := [], pos := b.pos.map fun x => if x == sl then 9 else x }

/-- The oldest run of a bank ends with new coefficients: the calibrating slice has passed, or a slice of a FIXED bank resumes its position at the next
tick (04_converters R141, R145, R151). -/
def Bank.pass (b : Bank) (sl : Nat) (o : Int) (g line : Nat) : Bank :=
  { b with run := b.run.drop 1, oot := b.oot && 1 < b.run.length, coef := b.coef.set sl (o, g, line), passed := b.passed || b.cal == sl,
           resume := b.resume ++ b.gone.filter fun p => p.2 == sl }

/-- CAL_RUN_END: the bank's run in progress, of several the oldest. A check that fails inside a run is the run's own bound and is not counted in
CNV_CHECK_COUNT (04_converters R141, R143, R151, R152, R154, R155; log entry 92). -/
def execCalRunEnd (t : Time) (tile : Nat) (run : CalRun) (s : State) : Host.Outcome State Fault Refusal :=
  inRun t s fun s =>
    let b := s.bank tile
    match b.run with
    | sl :: _ =>
      let c := b.coef.getD sl (0, 32768, 0)
      if s.clk.gated then s
      else match runResult run (some (c.1, c.2.1)) with
        | .pass o g => s.modBank tile fun b => b.pass sl o g s.lastLine
        | .fail r => (s.modBank tile fun b => b.retire sl).reportRetire tile sl r b.oot s.lastLine
    | [] => s

/-! Rotation (04_converters R144, R145). -/

/-- The first slice after `c`, in the order c + 1, c + 2, ... modulo 9, that is not retired. -/
def Bank.nextSlice (b : Bank) (c : Nat) : Nat :=
  (((List.range 8).map fun i => (c + 1 + i) % 9).find? fun x => !b.ret.getLsbD x).getD c

/-- A rotation of one bank (04_converters R144). -/
def Bank.rotate (b : Bank) : Bank :=
  let x := b.nextSlice b.cal
  { b with pos := b.pos.map (fun p => if p == x then b.cal else p), cal := x, passed := false, defer := false, run := [x], oot := false }

/-- ROTATION: at the tick of a line sequence that is a nonzero multiple of 4,096; a bank whose calibrating slice has not passed defers
(04_converters R144, R145). -/
def execRotation (t : Time) (s : State) : Host.Outcome State Fault Refusal :=
  inRun t s fun s =>
    let n := s.lastLine
    if s.tick.last.isSome && n != 0 && n % 4096 == 0 && s.conv.rotLine.toNat != n then
      let s := s.modConv fun c => { c with rotLine := BitVec.ofNat 48 n, rotN := c.rotN + 1 }
      (List.range 1024).foldl (fun s t =>
        let b := s.bank t
        if b.st != 0 then s
        else if b.passed && b.run.isEmpty then
          (s.modBank t Bank.rotate).modConv fun c => { c with defN := if b.defer then c.defN + 1 else c.defN }
        else s.modBank t fun b => { b with defer := true }) s
    else s

/-- The calibrating slice takes the position of a slice whose check failed, which becomes the calibrating slice and starts a run
(04_converters R151). -/
def Bank.replace (b : Bank) (sl : Nat) : Bank :=
  { b with pos := b.pos.map (fun p => if p == sl then b.cal else p), cal := sl, passed := false, run := [sl], oot := true }

/-- What a bank does at a tick: slices whose runs passed resume, the slices that failed a check are replaced one after another, each by the calibrating
slice of that moment, and a deferred rotation is made up; at a rotation tick the rotation itself does that (04_converters R145, R151; log entry 93). -/
def Bank.atTick (b : Bank) (rot : Bool) : Bank × Bool :=
  let b := b.resume.foldl (fun b p => { b with pos := b.pos.set p.1 p.2, gone := b.gone.filter fun q => q != p }) b
  let b := { b with resume := [] }
  if !b.swap.isEmpty then ({ b.swap.foldl Bank.replace b with swap := [] }, false)
  else if b.defer && b.passed && b.run.isEmpty && !rot && b.st == 0 then (b.rotate, true)
  else (b, false)

/-- Every bank at the tick of line `n` (04_converters R145, R151). -/
def State.banksTick (s : State) (n : Nat) : State :=
  s.conv.banks.foldl (fun s p =>
    let r := p.2.atTick (n != 0 && n % 4096 == 0)
    if r.1 == p.2 then s
    else (s.modBank p.1 fun _ => r.1).modConv fun c => { c with defN := if r.2 then c.defN + 1 else c.defN }) s

/-- Tiles of a line whose bank has no working slice for some position: the line ends FAILED, reason converter
(04_converters R151, R153, R544; log entry 19). -/
def State.banksFail (s : State) (n : Nat) : State :=
  s.conv.banks.foldl (fun s p =>
    if p.2.st == 2 then s.cover true 0x02 (((List.range 9).find? fun i => p.2.ret.getLsbD i).getD 0) n p.1 p.1
    else match p.2.gone, p.2.run with
      | _ :: _, sl :: _ => s.cover true 0x02 sl n p.1 p.1
      | _, _ => s) s

/-! In-service checks, power-down and wake. -/

/-- A converting slice of the bank fails its check at sample `j` of line `n`: in NORMAL it is replaced at the next tick; in FIXED it leaves its position
at once and starts a run (04_converters R151). -/
def Bank.checkFail (b : Bank) (n j : Nat) : Bank :=
  let sl := b.pos.getD (j % 8) 9
  let b := { b with fails := b.fails ++ [(n, j)] }
  if b.st == 0 then { b with swap := if b.swap.contains sl then b.swap else b.swap ++ [sl] }
  else if b.gone.any fun p => p.1 == j % 8 then b
  else { b with gone := b.gone ++ [(j % 8, sl)], run := b.run ++ [sl], oot := true }

/-- SLICE_CHECK_FAIL: sample `j` of the line in conversion, whose frame has not ended, fails its check (04_converters R151, R153, R154). -/
def execSliceCheckFail (t : Time) (tile j : Nat) (s : State) : Host.Outcome State Fault Refusal :=
  inRun t s fun s =>
    let b := s.bank tile
    match s.convLine tile with
    | some (n, l) =>
      if s.clk.gated || b.vacant (j % 8) || 8 * l.frames ≤ j || j / 8 < Tbl.get 0 l.frs tile then s
      else
        let s := s.modConv fun c => { c with chkN := c.chkN + 1 }
        (s.modBank tile fun b => b.checkFail n j).cover true 0x02 (b.pos.getD (j % 8) 9) n tile tile
    | none => s

/-- The slices of the tile are kept powered through the exposure ticks of a frame (02_pixel_array R91). -/
def State.inFrame (s : State) (tile : Nat) : Bool :=
  let w2 := s.entW s.seq.act s.seq.entry 2
  s.seq.frame != 0 && fld w2 31 22 ≤ tile && tile ≤ fld w2 21 12

/-- BANK_POWER_DOWN: 2 us after the last conversion (04_converters R148). -/
def execBankPowerDown (t : Time) (tile : Nat) (s : State) : Host.Outcome State Fault Refusal :=
  inRun t s fun s =>
    if (s.convLine tile).isNone && 4000 ≤ since s.now (s.bank tile).lastConv && !s.inFrame tile && !s.clk.gated && tile < 1024 then
      (s.modConv fun c => { c with asleep := c.asleep ||| (1#1024 <<< tile) }).minPeriod
    else s

/-- BANK_WAKE_AHEAD: with LPLL or holdover ticks, before the tick of a line that converts in the bank (04_converters R148). -/
def execBankWakeAhead (t : Time) (tile : Nat) (s : State) : Host.Outcome State Fault Refusal :=
  inRun t s fun s =>
    let a := s.nextAct
    let w2 := s.entW a.2 a.1.entry 2
    if s.regF 0x10000 31 30 == 1 && !s.clk.gated && a.1.items && fld w2 31 22 ≤ tile && tile ≤ fld w2 21 12 then
      (s.modConv fun c => { c with asleep := c.asleep &&& ~~~(1#1024 <<< tile) }).minPeriod
    else s

/-- A write to CNV_COEF_SEL (04_converters R158). -/
def State.coefSelWrite (s : State) (w : Wr) (v : W32) : State :=
  if 8 < fld v 21 18 then s.reject 3 w.src 0x30038 else s.storeReg 0x30038 v

end Machine
end Sys2Proof
end

