-- ==== Sys2Proof/Machine/Pixel.lean ====
section
/-! DEFINITION. The pixel array: drain rows, the charge shift, readout nodes, drain pulses and the exposure of a frame (02_pixel_array). -/

namespace Sys2Proof
namespace Machine

/-- A packet: the light it holds, oldest first. -/
abbrev Packet := List (Time × Nat)

/-- Row `k` of band `b` integrates with stage count `N` in a direction: the N rows nearest the active node (02_pixel_array R67). -/
def integrates (rev : Bool) (N k : Nat) : Bool := if rev then decide (k < N) else decide (64 ≤ k + N)

/-- The drain row within its band; none where N = 64, or 0 for a frame (02_pixel_array R67, R90). -/
def drainRow (rev : Bool) (N : Nat) : Option Nat :=
  if N == 0 || 64 ≤ N then none else some (if rev then N else 63 - N)

/-- Row `k` of a band is held open: it lies beyond the drain row (02_pixel_array R67). -/
def heldOpen (rev : Bool) (N k : Nat) : Bool :=
  N != 0 && N < 64 && (if rev then N < k && k < 64 else k + N < 63)

/-- Stage count in force of band `b`. -/
def Pix.stageOf (p : Pix) (b : Nat) : Nat := p.stage.getD b 64

/-- The rows of band `b`, lowest first (02_pixel_array R64). -/
def Pix.band (p : Pix) (b : Nat) : List Packet := (p.rows.drop (64 * b)).take 64

/-- Charge of a packet in column `c` of band `b`: what its rows collected, and what flows over the anti-blooming gate of a full stage is lost to the
drain, to no other packet, column or band (02_pixel_array R87). -/
def chargeOf (b c : Nat) (q : Packet) : Nat :=
  q.foldl (fun a e => min (Config.fullWell b c) (a + Config.light e.1 e.2 c)) 0

/-- One charge shift within a band: the rows after it, the one at the far end empty, and the packet that arrives at the node in force. No charge
crosses a band boundary (02_pixel_array R65, R66, R72). -/
def shiftBand (rev : Bool) (rows : List Packet) : List Packet × Packet :=
  if rev then (rows.drop 1 ++ [[]], rows.headD []) else ([] :: rows.dropLast, rows.getLastD [])

/-- The drain row and the rows held open hold no charge (02_pixel_array R67). -/
def drainBand (rev : Bool) (N : Nat) (rows : List Packet) : List Packet :=
  rows.mapIdx fun k q => if N == 0 || integrates rev N k then q else []

/-- From `t` on the integrating rows of band `b` collect light (02_pixel_array R67). -/
def exposeBand (rev : Bool) (N b : Nat) (t : Time) (rows : List Packet) : List Packet :=
  rows.mapIdx fun k q => if N == 0 || integrates rev N k then q ++ [(t, 64 * b + k)] else q

/-- Every row empty, collecting light from `t` on but for the rows that a drain row keeps empty. -/
def Pix.emptied (p : Pix) (rev : Bool) (t : Time) : Pix :=
  { p with
    rows := (List.range 4).flatMap fun b => exposeBand rev (p.stageOf b) b t (List.replicate 64 []) }

/-- The drain gates of all rows are pulsed for 2 us (01_line_tick R45; 10_clocks R359). -/
def State.drainPulse (s : State) : State :=
  let e := s.now + 4000
  { s.emit (.drain s.now) with
    pix := { s.pix.emptied s.tick.dir e with drainT := some e } }

/-- A tick at `t` cuts a drain pulse in progress short: the rows are empty (01_line_tick R46). -/
def State.drainCut (s : State) (t : Time) : State :=
  match s.pix.drainT with
  | some e =>
    if reached t e then s
    else
      { s.emit (.drainCut t) with
        pix := { s.pix with rows := s.pix.rows.map fun _ => [], drainT := some t } }
  | none => s

/-- The drain rows follow the direction in force and the stage counts at once (02_pixel_array R67, R72; 01_line_tick R51). -/
def State.placeDrains (s : State) : State :=
  { s with
    pix := { s.pix with
             rows := (List.range 4).flatMap fun b => drainBand s.tick.dir (s.pix.stageOf b) (s.pix.band b) } }

/-- Stage counts of the entry words in force, 0 meaning 64 (02_pixel_array R68). -/
def stageOf (w1 : W32) : List Nat := (List.range 4).map fun b => let v := fld w1 (31 - 6 * b) (26 - 6 * b); if v == 0 then 64 else v

/-- How a tick moves the charge: 0 a shift, 1 the first exposure tick of a frame, 2 a later one, 3 a readout shift of a frame (02_pixel_array R71, R89). -/
abbrev Motion := Nat

/-- The pixel array at a tick at `t`: the charge of the four bands shifts one row, the drain rows take the stage counts of the entry that runs, and
the packet at each output goes to the node, or to the output drain (02_pixel_array R67, R69, R71, R72, R75, R89, R90). `bands` are the bands read,
`level` says that the nodes are sampled at their reset level. -/
def State.pixTick (s : State) (t : Time) (m : Motion) (w1 : W32) (bands : BitVec 4) (level : Bool) : State × List NodeAct :=
  let s := s.drainCut t
  let rev := s.tick.dir
  if m == 1 then
    let p : Pix := { s.pix with stage := [0, 0, 0, 0] }
    ({ s.emit (.gates t) with pix := p.emptied rev (t + 400) }, [.halted, .halted, .halted, .halted])
  else if m == 2 then (s, [.halted, .halted, .halted, .halted])
  else
    let st := if m == 3 then [0, 0, 0, 0] else stageOf w1
    let moved := (List.range 4).map fun b => shiftBand rev (s.pix.band b)
    let rows := (List.range 4).flatMap fun b =>
      let N := st.getD b 64
      exposeBand rev N b t (drainBand rev N (moved.getD b ([], [])).1)
    let nodes := (List.range 4).map fun b =>
      if !bands.getLsbD b then NodeAct.drained else if level then NodeAct.level else NodeAct.packet (moved.getD b ([], [])).2
    ({ s with pix := { s.pix with rows := rows, stage := st } }, nodes)

end Machine
end Sys2Proof
end

