-- ==== Sys2Proof/Machine/RegRead.lean ====
section
/-! DEFINITION. What a read of each BAR0 register returns (16_register_index and the register tables of the owning chapters). -/

namespace Sys2Proof
namespace Machine

/-- What a register reads as: a PW register's 32 value bits, complement implied, or a plain 64-bit word (00_scope R15, R17). -/
inductive RegVal where
  | pw (v : W32)
  | w64 (v : W64)
deriving DecidableEq, Repr

def pw (l : List (Nat × Nat)) : Option RegVal := some (.pw (pack 32 l))
def w64 (l : List (Nat × Nat)) : Option RegVal := some (.w64 (pack 64 l))

/-- The n-bit two's complement of a signed value saturated to n bits. -/
def satBits (n : Nat) (i : Int) : Nat := usg n (max (-(2 ^ (n - 1) : Nat)) (min i ((2 ^ (n - 1) : Nat) - 1)))

/-! Hinge position and reach. -/

/-- This device acts as chain position 0: ROOT = 1, or its upstream port has not trained (12_hinge_array R408; log entry 21). -/
def State.isRoot (s : State) : Bool := bit (s.reg 0x1C0000) 31 || s.hng.up.st == 1 || s.hng.up.st == 4

/-- The chain position, while one is held (12_hinge_array R408). -/
def State.hpos (s : State) : Option Nat := if s.isRoot then some 0 else s.hng.pos

/-- HNG_CTL.RING. -/
def State.ringed (s : State) : Bool := bit (s.reg 0x1C0000) 30

/-- Highest chain position known. -/
def State.hTop (s : State) : Nat :=
  max ((s.hpos).getD 0) (max (max s.hng.up.high s.hng.dn.high) (s.hng.dn.pos.getD 0))

/-- The direct way from position `p` to `q` is lost: a position between them is (12_hinge_array R424, R434). -/
def Hinge.cut (h : Hinge) (p q : Nat) : Bool := (List.range 64).any fun r => h.lost.getLsbD r && ((p < r && r < q) || (q < r && r < p))

/-- The port toward position `q`, false upstream and true downstream: the direct way, or where it is lost the other way round when REROUTED
(12_hinge_array R425, R434). -/
def State.route (s : State) (q : Nat) : Option Bool :=
  match s.hpos with
  | none => none
  | some p =>
    let dn := decide (p < q)
    let st := fun (d : Bool) => if d then s.hng.dn.st == 2 else s.hng.up.st == 2
    if p == q || s.hTop < q || s.hng.lost.getLsbD q then none
    else if st dn && !(s.ringed && s.hng.rerouted && s.hng.cut p q) then some dn
    else if s.ringed && s.hng.rerouted && st (!dn) then some (!dn)
    else none

/-- HNG_STATUS.COUNT: reachable devices with a valid position, this one included (12_hinge_array, Global operations). -/
def State.hCount (s : State) : Nat :=
  if s.hpos.isNone then 0 else 1 + ((List.range 64).filter fun q => (s.route q).isSome).length

/-! Thermal conditions. -/

/-- The sensor is active: 34 to 39 from stage FIRMWARE, 0 to 33 in READOUT and RUN (15_thermal R494). -/
def State.senActive (s : State) (i : Nat) : Bool :=
  if 34 ≤ i then i < 40 && 4 ≤ s.boot.stage else s.boot.stage == 7 || s.boot.stage == 8

def State.sen (s : State) (i : Nat) : Sensor := Tbl.get Sensor.fresh s.th.sen i
def State.subMap (s : State) : List Nat := (List.range 40).filter fun i => (s.sen i).sub

/-- THERM_ALERT_N is pulled low (15_thermal R505). -/
def State.alert (s : State) : Bool :=
  1 ≤ s.th.k || !s.subMap.isEmpty || s.th.ack || s.th.warn || s.th.rearm || s.th.shut != 0

/-! The event log. -/

/-- The 64 bytes of an event-log entry (14_faults R491). -/
def logBytes (boot : Nat) (e : LogEnt) : List Byte :=
  let b := bytesLE 60 (pack 480 [(0x0006A1A0, 0), (e.seq % 2 ^ 32, 32), (e.t.toNat, 64), (e.line % 2 ^ 48, 128), (boot % 2 ^ 32, 192),
    (e.unit, 224), (e.code, 232), (e.rep, 240), (e.d1.toNat, 256), (e.d2.toNat, 320), (e.d3.toNat, 384)])
  b ++ bytesLE 4 (crc32c b)

/-! The blocks. Each function gives the fields the device composes; the stored fields of a PW register are joined to them in `State.readPW`. -/

/-- GLB_ (00_scope R21, 01_line_tick, 13_boot_security, 14_faults, R516). -/
def State.glbReg (s : State) (o : Nat) : Option RegVal :=
  let b := s.boot
  let k := s.tick
  if o == 0x00 then w64 [(0x1F5C320403C0B1A2, 0), (Config.variant.toNat, 28)]
  else if o == 0x08 then pw [(b.stage, 24), (b.err, 16), (b.slot, 14), (b.fall.toNat, 13), (b.strap, 11)]
  else if o == 0x10 then pw [(k.epoch.toNat, 0)]
  else if o == 0x18 then pw [(k.snap.toNat, 30), (s.hng.aSnap.isSome.toNat, 29), (k.tag.toNat, 0)]
  else if o == 0x20 then pw [((k.commit || s.hng.aCommit.isSome).toNat, 30), (k.busyRej.toNat, 29)]
  else if o == 0x28 then w64 [(s.arrayNow.toNat, 0)]
  else if o == 0x30 then pw [(s.flt.ready.toNat, 31), (s.flt.health, 28), (s.flt.cause, 24)]
  else if o == 0x38 then pw [(s.flt.rej.toNat, 0)]
  else none

/-- TCK_ registers that are not banked (01_line_tick). -/
def State.tckReg (s : State) (path o : Nat) : Option RegVal :=
  let k := s.tick
  if o == 0x10 then pw [(k.next, 16), (k.worst, 0)]
  else if o == 0x38 then pw [(k.st, 29), (k.dir.toNat, 28), (k.held.isSome.toNat, 27)]
  else if o == 0x40 then pw [(k.heldN.toNat, 0)]
  else if o == 0x48 then pw [(k.rejN.toNat, 0)]
  else if o == 0x50 then pw [(k.gapN.toNat, 0)]
  else if o == 0x58 then w64 [(k.lastTrig.toNat, 0)]
  else if o == 0x60 then pw [(k.lastLat.toNat, 16), (path, 0)]
  else if o == 0x70 then w64 [(k.commitLine.toNat, 0)]
  else if o == 0x78 then w64 [(k.snapLine.toNat, 0)]
  else if o == 0x80 then w64 [(k.snapTime.toNat, 0)]
  else if o == 0x88 then w64 [(k.snapEnc.toNat, 0)]
  else none

/-- SEQ_ (03_sequence_table). SEQ_LEASE.LEFT counts whole milliseconds, rounded down: the spec gives no rounding (DESIGN CHOICE, log entry 98). -/
def State.seqReg (s : State) (o : Nat) : Option RegVal :=
  let q := s.seq
  if o == 0x08 then
    pw [(q.act.toNat, 31), (q.swap.toNat, 30), (q.invalid.toNat, 29), (q.discarded.toNat, 28), (q.copy.toNat, 27), ((q.ph == 1).toNat, 26),
        (q.early.toNat, 25)]
  else if o == 0x10 then pw [(q.swap.toNat, 30)]
  else if o == 0x18 then pw [(q.held.toNat, 30), (fld q.src 6 6, 29), (fld q.src 5 0, 23), (q.token.toNat, 0)]
  else if o == 0x20 then pw [(if q.held && reached q.lease s.now then since q.lease s.now / 2000000 else 0, 16)]
  else if o == 0x28 then pw [(q.bad.toNat, 0)]
  else if o == 0x30 then pw [(q.rejBank.toNat, 16), (q.rejLock.toNat, 0)]
  else if o == 0x38 then pw []
  else if o == 0x40 then pw [(q.hAcc.toNat, 16), (q.hIgn.toNat, 0)]
  else if o == 0x48 then w64 [(q.hLine.toNat, 0)]
  else if o == 0x50 then w64 [(q.hTime.toNat, 0)]
  else if o == 0x58 then pw [(q.act.toNat, 31), (if q.ph == 1 then 1 else if q.ph == 2 then 2 else 0, 29), (q.entry, 23), (q.exec, 0)]
  else if o == 0x60 then w64 [(q.passes.toNat, 0)]
  else if 0x3000 ≤ o && o < 0x3200 then w64 [((Tbl.get 0 q.res ((o - 0x3000) / 8)).toNat, 0)]
  else none

/-- The place of a slice in its bank: 0 to 7 a position, 8 calibrating, 9 retired. A slice of a FIXED bank that has left its position for a run still
shows that position: the spec names no value for it (04_converters CNV_COEF.POS, R151; log entry 94). -/
def Bank.place (b : Bank) (i : Nat) : Nat :=
  if b.ret.getLsbD i then 9 else if b.cal == i then 8 else ((List.range 8).find? fun q => b.pos.getD q 9 == i).getD 9

/-- CNV_ (04_converters). -/
def State.cnvReg (s : State) (o : Nat) : Option RegVal :=
  let c := s.conv
  let sel := s.reg 0x30038
  let b := s.bank (fld sel 31 22)
  let k := b.coef.getD (fld sel 21 18) (0, 0, 0)
  if o == 0x00 then pw [((c.banks.filter fun p => p.2.st == 1).length, 21), ((c.banks.filter fun p => p.2.st == 2).length, 10)]
  else if o == 0x08 then w64 [(c.rotLine.toNat, 0)]
  else if o == 0x10 then pw [(c.rotN.toNat, 16), (c.defN.toNat, 0)]
  else if o == 0x18 then pw [(c.retRot.toNat, 16), (c.retOot.toNat, 0)]
  else if o == 0x20 then pw [(c.chkN.toNat, 0)]
  else if o == 0x28 then pw [(c.lastRet.toNat, 0)]
  else if o == 0x30 then w64 [(c.lastRetLine.toNat, 0)]
  else if o == 0x40 then pw [(usg 12 k.1, 20), (k.2.1, 4), (b.place (fld sel 21 18), 0)]
  else if o == 0x48 then w64 [(k.2.2, 0)]
  else if 0x1000 ≤ o && o < 0x3000 then
    let b := s.bank ((o - 0x1000) / 8)
    pw [(b.st, 30), (b.cal, 26), (b.ret.toNat, 17), ((!b.run.isEmpty).toNat, 16)]
  else none

/-- CAL_ (05_calibration). -/
def State.calReg (s : State) (o : Nat) : Option RegVal :=
  let c := s.cal
  if o == 0x08 then
    pw [((c.step.ph != 0).toNat, 31), (c.step.cmd, 27), (c.darkOk.toNat, 23), (c.flatOk.toNat, 15), (c.saveBusy.toNat, 14), (c.saved.toNat, 13),
        (c.failed.toNat, 12), (c.source, 10)]
  else if o == 0x10 then pw [(c.fail.toNat, 0)]
  else if o == 0x28 then pw [((c.master.filter fun p => p.2 == marker).length, 13)]
  else if o == 0x30 then pw [(c.counter.toNat, 0)]
  else if o == 0x38 then w64 [(c.stepLine.toNat, 0)]
  else if o == 0x40 then w64 [(c.applyLine.toNat, 0)]
  else if o == 0x48 then pw [(c.journal, 20)]
  else none

/-- TE_ (06_tile_engine_isa, 14_faults TE_SPARE). -/
def State.teReg (s : State) (o : Nat) : Option RegVal :=
  let x := s.te
  if o == 0x08 then pw [((x.eng.filter fun p => p.2.st == 3).length, 21), ((x.eng.filter fun p => p.2.st == 5).length, 10)]
  else if o == 0x10 then pw [(x.excK.toNat, 16), (x.excH.toNat, 0)]
  else if o == 0x18 then pw [(x.lastExc.toNat, 0)]
  else if o == 0x20 then w64 [(x.lastInfo.toNat, 0)]
  else if o == 0x28 then pw [(x.cycMax, 12), (x.cycSlot, 1)]
  else if o == 0x30 then pw [(x.loadBusy.toNat, 30), (x.denied.toNat, 29)]
  else if 0x800 ≤ o && o < 0x900 then
    let i := (o - 0x800) / 8
    let r := s.stripe i
    pw [(((s.eng (33 * i + 32)).st == 4).toNat, 31), (r.used.toNat, 30), (r.k, 25), (r.fslot, 19), ((!r.uns.isEmpty).toNat, 18),
        ((r.uns.map (·.1)).foldl min 31 * (!r.uns.isEmpty).toNat, 13)]
  else if 0x1000 ≤ o && o < 0x3100 then
    let e := s.eng ((o - 0x1000) / 8)
    pw [(e.st, 29), (if e.st == 4 then 0 else e.tile, 19), (e.cause, 15), (e.ce, 8), (e.rst, 0)]
  else none

/-- The ring of the channel has no posted descriptor with space: TAIL = HEAD in RUNNING or STOPPING (09_host_link R331). -/
def State.starved (s : State) (ch : Nat) : Bool :=
  ((s.ring ch).st == 1 || (s.ring ch).st == 2) && s.regF (0x101068 + 0x100 * ch) 15 0 == (s.ring ch).head

/-- A channel's registers at offset `o` in its block (08_result_fabric, 09_host_link). -/
def State.rfChReg (s : State) (ch o : Nat) : Option RegVal :=
  let c := s.chan ch
  let g := s.ring ch
  if o == 0x08 then w64 [(c.recs.toNat, 0)]
  else if o == 0x10 then w64 [(c.bytes.toNat, 0)]
  else if o == 0x18 then pw [(c.drop.toNat, 16), (c.dis.toNat, 0)]
  else if o == 0x20 then pw [(c.late.toNat, 0)]
  else if o == 0x28 then pw [(satBits 31 c.slack, 1)]
  else if o == 0x70 then pw [(g.st, 29), ((s.starved ch).toNat, 28), (g.head, 0)]
  else if o == 0x88 then w64 [(g.prod % 2 ^ 48, 0)]
  else if o == 0x90 then pw [(g.fault, 28), (g.noDesc.toNat, 0)]
  else if o == 0x98 then w64 [(g.startLine, 0)]
  else none

/-- RF_ without the channel blocks, MSI-X included (08_result_fabric, 09_host_link). -/
def State.rfReg (s : State) (o : Nat) : Option RegVal :=
  let f := s.fab
  let h := s.host
  if o == 0x18 then pw [(f.preS.toNat, 16), (f.preT.toNat, 0)]
  else if o == 0x20 then w64 [(f.spL.toNat, 0)]
  else if o == 0x28 then w64 [(f.spC.toNat, 0)]
  else if o == 0x30 then
    pw [(ceilDiv (s.fillL + s.fillC) 4096, 23), (ceilDiv s.fillC 4096, 14)]
  else if 0x1000 ≤ o && o < 0x2000 then s.rfChReg ((o - 0x1000) / 0x100) (o % 0x100)
  else if o == 0x4008 then pw [(h.dlUp.toNat, 31), (h.flit.toNat, 30), (h.speed, 27), (h.width, 22)]
  else if o == 0x4010 then pw [(h.flr.toNat, 24), (h.hot.toNat, 16), (h.down.toNat, 8), (h.perstN.toNat, 0)]
  else if o == 0x4018 then pw [(h.cause.toNat, 0)]
  else if o == 0x4038 then pw [(h.rTo.toNat, 16), (h.rRef.toNat, 0)]
  else if 0x8000 ≤ o && o < 0x8400 then
    let m := Tbl.get Msix.masked h.msix ((o - 0x8000) / 16)
    some (.w64 (if o % 16 == 0 then m.addr else pack 64 [(m.data.toNat, 0), (m.mask.toNat, 32)]))
  else if o == 0x9000 then some (.w64 h.pba)
  else none

/-- CLK_OUT[j].RUNNING: enabled, and its source is not held (10_clocks R376). -/
def State.clkRunning (s : State) (j : Nat) : Bool :=
  let v := s.reg (0x180050 + 8 * j)
  let c := s.clk
  bit v 31 &&
    (if fld v 30 29 == 0 then c.intr.isNone else if fld v 30 29 == 1 then 2 ≤ c.lpll else c.intr.isNone || c.intrCause == 1)

/-- The level of CLKOUT j in source period `k`, counted from the start of a high phase: high for ceil(DIV/2) periods, low for floor(DIV/2), and low
while it does not run. With SRC = 1 and a DIV that divides 1,024, `k` counts the sub-line phases from phase 0 of the line (10_clocks R375 to R377). -/
def State.clkOut (s : State) (j k : Nat) : Bool :=
  let div := s.regF (0x180050 + 8 * j) 28 13
  s.clkRunning j && decide (k % div < ceilDiv div 2)

/-- CLK_ (10_clocks). -/
def State.clkReg (s : State) (o : Nat) : Option RegVal :=
  let c := s.clk
  if o == 0x00 then
    pw [(c.cLock.toNat, 31), (c.aLock.toNat, 30), (c.gated.toNat, 29), (c.lpll, 26), (c.ref, 24), (c.pullin.toNat, 23), (c.foBlk.toNat, 22),
        (c.noBand.toNat, 21), (c.band, 17), (c.encSus.toNat, 16)]
  else if o == 0x10 then
    pw [(c.ppm.toNat, 16), ((bit c.absent 0).toNat, 15), ((bit c.absent 1).toNat, 14), ((bit c.absent 2).toNat, 13)]
  else if o == 0x18 then pw [(c.cN.toNat, 16), (c.aN.toNat, 8), (c.fN.toNat, 0)]
  else if o == 0x20 then pw [(c.liLen, 16), (c.liCause, 12)]
  else if o == 0x28 then w64 [(c.liTime.toNat, 0)]
  else if o == 0x30 then pw [(c.period % 2 ^ 32, 0)]
  else if o == 0x38 then pw [(c.phErr.toNat, 16), (c.acq.toNat, 0)]
  else if o == 0x40 then pw [(c.asDone.toNat, 27), (c.asIgn.toNat, 8), (c.asOff.toNat, 0)]
  else if o == 0x48 then w64 [(c.asT.toNat, 0)]
  else if o == 0x50 || o == 0x58 then pw [((s.clkRunning ((o - 0x50) / 8)).toNat, 12)]
  else if 0x100 ≤ o && o < 0x180 then some (.w64 ((s.cell (0x180004 + o)).pair.setWidth 32 ++ (s.cell (0x180000 + o)).pair.setWidth 32))
  else none

/-- PX_ of engine `e` (11_pin_engines). -/
def State.pxLive (s : State) (e o : Nat) : Option RegVal :=
  let p := s.pin e
  let mode := fun k => (p.mode.getD k (0, 0, 0, 0)).1
  if o == 0x08 then
    pw [(p.st, 30), (p.blk.isSome.toNat, 29), (p.pc, 24), (p.progRej.toNat, 23), (p.evt.toNat, 22), (p.cause, 18), (p.full.toNat, 16),
        (p.code.toNat, 8)]
  else if o == 0x38 then pw [(p.shc, 0)]
  else if o == 0x40 then some (.w64 p.sh)
  else if o == 0x58 then pw [(p.qerr.toNat, 16), (p.inRej.toNat, 0)]
  else if o == 0x60 then some (.w64 p.idx)
  else if o == 0x68 then
    pw [(mode 0, 29), (mode 1, 26), (mode 2, 23), (mode 3, 20), (p.xk, 18), (p.xen.toNat, 17), (p.down.toNat, 16)]
  else if 0x70 ≤ o && o < 0x90 then some (.w64 (((p.last.getD ((o - 0x70) / 8) none).map (·.1)).getD 0))
  else if 0x90 ≤ o && o < 0xB0 then some (.w64 ((p.c.getD ((o - 0x90) / 8) 0).signExtend 64))
  else if 0xC0 ≤ o && o < 0xE0 then some (.w64 (p.data.getD ((o - 0xC0) / 8) 0))
  else none

/-- HNG_ (12_hinge_array). -/
def State.hngReg (s : State) (o : Nat) : Option RegVal :=
  let h := s.hng
  if o == 0x08 then
    pw [(h.up.st, 29), (h.dn.st, 26), (s.hpos.isSome.toNat, 25), (s.hpos.getD 0, 19), (s.hCount, 12), (h.aligned.toNat, 11), (h.rerouted.toNat, 10)]
  else if o == 0x10 then pw [(h.up.raw % 1024, 22), (h.dn.raw % 1024, 12)]
  else if o == 0x18 then pw [(h.offset.toNat, 16), (h.trim.toNat, 0)]
  else if o == 0x20 then some (.w64 h.lost)
  else if o == 0x28 then pw [(h.lossUp.toNat, 24), (h.lossDn.toNat, 16), (h.reN.toNat, 8)]
  else if o == 0x30 then pw [(h.lane.toNat, 16), (h.frame.toNat, 8), (h.confl.toNat, 0)]
  else if o == 0x38 then pw []
  else if o == 0x40 then some (.w64 h.rx)
  else if o == 0x48 then pw [(h.bWait.toNat, 30), (h.bDone.toNat, 29), (h.bParts, 22)]
  else if o == 0x50 then
    pw [(h.aSnap.isSome.toNat, 28), (h.aCommit.isSome.toNat, 27), (h.aReset.isSome.toNat, 26), (h.refused.toNat, 25)]
  else if o == 0x58 then some (.w64 h.schedT)
  else if o == 0x60 then pw [(h.sConf.toNat, 24), (h.sLate.toNat, 16), (h.sNear.toNat, 8)]
  else if o == 0x68 then pw [(h.mnt.isSome.toNat, 29), (h.mErr.toNat, 28)]
  else if o == 0x78 then some (.w64 h.wdata)
  else if o == 0x80 then some (.w64 h.rdata)
  else none

/-- TH_ (15_thermal). -/
def State.thReg (s : State) (o : Nat) : Option RegVal :=
  let h := s.th
  if o == 0x10 then
    pw [(h.k, 28), (s.alert.toNat, 27), (h.warn.toNat, 26), (h.ack.toNat, 25), (h.rearm.toNat, 24), (h.hot, 18), (s.subMap.length, 12),
        (((List.range 40).any fun i => (s.sen i).forced).toNat, 11)]
  else if o == 0x18 || o == 0x20 then pw []
  else if o == 0x28 then pw [(usg 16 h.tc, 16), (usg 16 h.pix, 0)]
  else if o == 0x30 then pw [(usg 16 h.max, 16), (h.maxS, 10)]
  else if o == 0x38 then pw [(h.chg.toNat, 16), (h.subs.toNat, 8)]
  else if o == 0x40 then w64 (s.subMap.map fun i => (1, i))
  else if 0x100 ≤ o && o < 0x240 then
    let i := (o - 0x100) / 8
    let x := s.sen i
    w64 [(x.raw.toNat, 48), (usg 16 x.eff, 32), (if x.forced then 2 else if x.sub then 1 else 0, 30), (x.cause, 27), ((s.senActive i).toNat, 26),
         (x.good, 16)]
  else none

/-- FLT_ (14_faults). -/
def State.fltReg (s : State) (o : Nat) : Option RegVal :=
  let f := s.flt
  if o == 0x08 then pw [(f.pairs.toNat, 16)]
  else if o == 0x10 then pw [(f.ce.toNat, 16), (f.ue.toNat, 0)]
  else if o == 0x18 then pw [(f.recs.toNat, 16), (f.remade.toNat, 0)]
  else if o == 0x20 then pw [(f.sups.toNat, 24)]
  else if o == 0x28 then some (.w64 f.info)
  else if o == 0x30 then w64 [(f.boot, 32), (f.seq, 0)]
  else if o == 0x38 then pw [(f.pend.length, 23), (f.ovf.toNat, 7)]
  else if 0x4000 ≤ o && o < 0x8000 then
    let j := (o - 0x4000) / 8
    w64 [(match Tbl.get none f.log (j / 8) with | some e => leAt (logBytes f.boot e) (8 * (j % 8)) 8 | none => 0, 0)]
  else none

/-! OTP classification as the registers show it (13_boot_security R446 to R448). -/

/-- Word `j` of an OTP entry as a read gives it. -/
def otpWord (v : BitVec 256) (j : Nat) : W32 := v.extractLsb' (32 * j) 32
def State.otpState (s : State) (e : Nat) : Nat := Tbl.get 0 s.boot.otpSt e

/-- The entries of a type applied at the latest boot (13_boot_security R447, R448). -/
def State.otpOf (s : State) (ty : Nat) : List Nat :=
  (List.range 64).filter fun e => fld (otpWord (Tbl.get 0 s.boot.otpA e) 0) 31 28 == ty
def State.otpArg (s : State) (e : Nat) : Nat := fld (otpWord (Tbl.get 0 s.boot.otpA e) 0) 15 0

/-- The entry that gives a factory item: the lowest-index VALID one (13_boot_security R448). -/
def State.otpFact (s : State) (arg : Nat) : Option Nat := (s.otpOf 1).find? fun e => s.otpArg e == arg

/-- Words W1 to W6 of an entry as bytes. -/
def State.otpData (s : State) (e : Nat) : List Byte :=
  (List.range 6).flatMap fun j => bytesLE 4 (otpWord (Tbl.get 0 s.boot.otpA e) (j + 1))

/-- Key set `k` is present (13_boot_security R448). -/
def State.keyPresent (s : State) (k : Nat) : Bool := (s.otpFact (0x10 + 2 * k)).isSome && (s.otpFact (0x11 + 2 * k)).isSome

/-- Revoked key sets, and revocation entries that are not applied (13_boot_security R448). -/
def State.revoke (s : State) : List Nat × Nat :=
  (s.otpOf 4).foldl (fun a e =>
    let k := s.otpArg e
    if (List.range 2).any fun j => s.keyPresent j && j != k && !a.1.contains j then (k :: a.1, a.2) else (a.1, a.2 + 1)) ([], 0)
def State.revoked (s : State) (k : Nat) : Bool := s.revoke.1.contains k

/-- VALID entries that are not applied (13_boot_security R448). -/
def State.otpIgnored (s : State) : Nat :=
  ((s.otpOf 1).filter fun e => s.otpFact (s.otpArg e) != some e).length + s.revoke.2

/-- The minimum firmware version (13_boot_security R448). -/
def State.minFw (s : State) : Nat := ((s.otpOf 3).map fun e => leAt (s.otpData e) 0 4).foldl max 0

/-- The module's serial number; 0 when no entry gives one (13_boot_security R448). -/
def State.serial (s : State) : Nat := ((s.otpFact 1).map fun e => leAt (s.otpData e) 0 8).getD 0

def State.otpCount (s : State) (st : Nat) : Nat := ((List.range 64).filter fun e => s.otpState e == st).length

/-- TCK_LATENCY.PATH: the OTP entry's value, else the value of the module test (01_line_tick R28, 13_boot_security R448). -/
def State.pathPs (s : State) : Nat := ((s.otpFact 2).map fun e => leAt (s.otpData e) 0 2).getD Config.pathPs.toNat

/-- BT_SLOT_RESULT as a value (13_boot_security). -/
def SlotRes.val (r : SlotRes) : W32 :=
  pack 32 [(r.tried.toNat, 31), (r.passed.toNat, 30), (r.vend.toNat, 28), (r.own.toNat, 26), (r.canv.toNat, 24), (r.err.toNat, 16)]

/-- BT_, OTP_ and SEC_ (13_boot_security). -/
def State.btReg (s : State) (o : Nat) : Option RegVal :=
  let b := s.boot
  let ver := fun (v : W32) => pw [(if s.running then v.toNat else 0, 0)]
  if o == 0x00 then pw [(b.bootMs, 16), (b.tries, 8)]
  else if o == 0x08 then some (.pw b.resA.val)
  else if o == 0x10 then some (.pw b.resB.val)
  else if o == 0x18 then ver b.fw
  else if o == 0x20 then ver b.owner
  else if o == 0x28 then ver b.canvVer
  else if o == 0x1000 then
    pw [(((List.range 64).find? fun e => s.otpState e == 0).getD 64, 25), (s.otpCount 0, 18), ((s.revoked 0).toNat, 16), ((s.revoked 1).toNat, 17),
        ((s.keyPresent 0).toNat, 14), ((s.keyPresent 1).toNat, 15), (((s.otpFact 0x20).isSome && (s.otpFact 0x21).isSome).toNat, 13)]
  else if o == 0x1008 then pw [(s.otpCount 1, 25), (s.otpCount 2, 18), (s.otpCount 3, 11), (s.otpIgnored, 4)]
  else if o == 0x1010 then pw [(s.minFw, 0)]
  else if 0x1018 ≤ o && o < 0x1038 then
    pw ((List.range 16).map fun i => (s.otpState (16 * ((o - 0x1018) / 8) + i), 2 * i))
  else if o == 0x2000 then pw []
  else if o == 0x2008 then
    pw [(b.mbx.isSome.toNat, 31), (b.mTag.toNat, 23), (b.mRes, 16), (fld b.mSrc 6 6, 15), (fld b.mSrc 5 0, 9)]
  else if 0x10000 ≤ o && o < 0x20000 then some (.w64 (Tbl.get 0 b.buf ((o - 0x10000) / 8)))
  else none

/-! The whole of BAR0. -/

/-- The fields the device composes at a BAR0 offset; none where no block gives the register such fields. -/
def State.composed (s : State) (off : Nat) : Option RegVal :=
  if off % 8 != 0 then none
  else if off < 0x10000 then s.glbReg off
  else if off < 0x20000 then s.tckReg s.pathPs (off - 0x10000)
  else if off < 0x30000 then s.seqReg (off - 0x20000)
  else if off < 0x40000 then s.cnvReg (off - 0x30000)
  else if off < 0x50000 then s.calReg (off - 0x40000)
  else if off < 0x100000 then s.teReg (off - 0x50000)
  else if off < 0x180000 then s.rfReg (off - 0x100000)
  else if off < 0x1A0000 then s.clkReg (off - 0x180000)
  else if off < 0x1C0000 then if off < 0x1A2000 then s.pxLive ((off - 0x1A0000) / 0x400) (off % 0x400) else none
  else if off < 0x1E0000 then s.hngReg (off - 0x1C0000)
  else if off < 0x1F0000 then s.thReg (off - 0x1E0000)
  else if off < 0x200000 then s.fltReg (off - 0x1F0000)
  else if off < 0x300000 then s.btReg (off - 0x200000)
  else none

/-- The register at an offset, live: stored and composed fields of a PW register together (16_register_index R514, R515). -/
def State.live (s : State) (off : Nat) : Option RegVal :=
  match s.composed off, rwReg off with
  | some (.w64 v), _ => some (.w64 v)
  | some (.pw v), some _ => some (.pw (s.reg off ||| v))
  | some (.pw v), none => some (.pw v)
  | none, some _ => some (.pw (s.reg off))
  | none, none => none

/-- The offset holds a register. -/
def State.hasReg (s : State) (off : Nat) : Bool := (s.live off).isSome

/-- The snapshot registers (16_register_index, Kind S). -/
def snapRegs : List Nat :=
  [0x10, 0x10010, 0x10038, 0x10040, 0x10048, 0x10050, 0x10058, 0x10060, 0x20030, 0x20040, 0x20058, 0x20060] ++
  [0x30000, 0x30010, 0x30018, 0x30020, 0x30028, 0x40028, 0x50008, 0x50010, 0x50028, 0x100018, 0x100020, 0x100028] ++
  ((List.range 16).flatMap fun ch => [0x101008, 0x101010, 0x101018, 0x101020, 0x101090].map fun o => 0x100 * ch + o) ++
  [0x104010, 0x104038, 0x180010, 0x180018, 0x180030, 0x180038] ++ ((List.range 8).map fun e => 0x400 * e + 0x1A0058) ++
  [0x1C0018, 0x1C0028, 0x1C0030, 0x1C0060, 0x1E0038, 0x1F0008, 0x1F0010, 0x1F0018, 0x1F0020, 0x1F0038]

/-- Freeze every snapshot register at its live value (01_line_tick R61, R543). -/
def State.freeze (s : State) : State :=
  { s with snap := snapRegs.foldl (fun t off => match s.live off with
      | some (.pw v) => Tbl.set 0 t off (v.setWidth 64)
      | some (.w64 v) => Tbl.set 0 t off v
      | none => t) s.snap }

/-- The word a 64-bit read of a register returns: a snapshot register its frozen value, another its live one; a PW register's word is the pair as
stored, with the composed fields and their complement joined to it (00_scope R17, 01_line_tick R61, 14_faults R469); before RUN a snapshot register
reads its reset value, 0 (01_line_tick R543); 0 where no register is (09_host_link R312). -/
def State.readWord (s : State) (off : Nat) : W64 :=
  match s.live off with
  | none => 0
  | some (.w64 v) => if snapRegs.contains off then (if s.running then Tbl.get 0 s.snap off else 0) else v
  | some (.pw v) =>
    if snapRegs.contains off then pairOf (if s.running then (Tbl.get 0 s.snap off).setWidth 32 else 0)
    else match rwReg off with
      | none => pairOf v
      | some _ =>
        let p := (s.cell off).pair
        let ro : W32 := match s.composed off with | some (.pw c) => c | _ => 0
        (p.extractLsb' 32 32 &&& ~~~ro) ++ (p.extractLsb' 0 32 ||| ro)

/-- The bytes `lo` to `lo + nb - 1` of a word. -/
def narrow (w : W64) (lo nb : Nat) : W64 := (w >>> (8 * lo)) &&& (BitVec.allOnes 64 >>> (64 - 8 * nb))

/-- What an accepted read changes: the RC fields it covers (03_sequence_table R127, 11_pin_engines R399, 12_hinge_array R428). -/
def State.readEffect (s : State) (off lo nb : Nat) : State :=
  let covers := decide (lo ≤ 6) && decide (6 < lo + nb)
  if !covers then s
  else if 0x23000 ≤ off && off < 0x23200 then
    s.modSeq fun q =>
      let n := (off - 0x23000) / 8
      { q with res := Tbl.set 0 q.res n (Tbl.get 0 q.res n &&& ~~~(1#64 <<< 55)) }
  else if 0x1A0000 ≤ off && off < 0x1A2000 && 0xC0 ≤ off % 0x400 && off % 0x400 < 0xE0 then
    s.modPx ((off - 0x1A0000) / 0x400) fun p => { p with data := upd p.data ((off % 0x400 - 0xC0) / 8) fun w => w &&& ~~~(1#64 <<< 55) }
  else if off == 0x1C0040 then s.modHng fun h => { h with rx := h.rx &&& ~~~(1#64 <<< 55) }
  else s

/-- The data of a read of `nb` bytes at byte `lo` of the register at `off` (a multiple of 8): 0 before RUN outside the blocks that respond
(09_host_link R312, R313). -/
def State.readData (s : State) (off lo nb : Nat) : W64 :=
  if !early off && !s.running then 0 else narrow (s.readWord off) lo nb

/-- A read that reaches its register: what it returns, and what it clears. -/
def State.readReg (s : State) (off lo nb : Nat) : W64 × State :=
  if !early off && !s.running then (0, s) else (narrow (s.readWord off) lo nb, s.readEffect off lo nb)

/-- A BAR0 read of `nb` bytes at byte address `a`: longer than 8 bytes or across an 8-byte boundary it completes with Completer Abort, reported
through AER, and acts on no register; while the clocks of the block are gated it waits; with Memory Space disabled it is an Unsupported Request
(09_host_link R309, R312, R313; 10_clocks R360, R363; log entry 22). -/
def State.busRead (s : State) (a nb : Nat) : State :=
  let lo := a % 8
  if !s.host.memEn then s.aer 20
  else if 8 < lo + nb || nb == 0 then (s.emit (.rdAbort a)).aer 15
  else if s.stalls (a - lo) && (early (a - lo) || s.running) then s.modClk fun c => { c with wait := c.wait ++ [{ t := s.now, off := a, nb := nb, w := none, rem := none }] }
  else
    let r := s.readReg (a - lo) lo nb
    r.2.emit (.rdData a nb r.1)

/-- SEQ_RES_READ: the addressed bytes of SEQ_RES[n], clearing FRESH where they cover it (03_sequence_table R126, R127). -/
def execSeqResRead (t : Time) (n lo nb : Nat) (s : State) : Host.Outcome State Fault Refusal :=
  timed t s fun s => if n < 64 then s.busRead (0x23000 + 8 * n + lo) nb else s

end Machine
end Sys2Proof
end

