-- ==== Sys2Proof/Machine/Reset.lean ====
section
/-! DEFINITION. Taking a reset of the whole module, and the Hinge frames a device sends (13_boot_security R438; 12_hinge_array R410, R411). -/

namespace Sys2Proof
namespace Machine

/-! The mailbox buffer, and a command cut short. -/

/-- The first `n` bytes of the buffer. -/
def State.reqBytes (s : State) (n : Nat) : List Byte :=
  ((List.range (ceilDiv n 8)).flatMap fun i => bytesLE 8 (Tbl.get 0 s.boot.buf i)).take n

/-- The 64-bit request field at byte `o`. -/
def State.reqNat (s : State) (o : Nat) : Nat := leAt (s.reqBytes (o + 8)) o 8

/-- Flash bytes whose write was cut short or failed: free values (14_faults R490; log entry 3). -/
def State.flashFree (s : State) (a n : Nat) : State :=
  { (s.flashPut a ((List.range n).map fun i => (Config.freeValue (s.free + i)).setWidth 8)) with free := s.free + n }

/-- An OTP entry reads what has been burned. -/
def Boot.burned (b : Boot) (l : List (Nat × BitVec 256 × BitVec 256)) : Boot :=
  l.foldl (fun b x => { b with otpN := Tbl.set 0 b.otpN x.1 x.2.1, otpM := Tbl.set 0 b.otpM x.1 x.2.2 }) b

/-- A mailbox command is cut short by a reset or a loss of power: burns completed before the cut stay, the one in progress has no seal, and flash being
written holds free values (13_boot_security R452; 14_faults R490; log entry 3). -/
def State.cutMailbox (s : State) : State :=
  match s.boot.mbx with
  | none => s
  | some (op, len) =>
    let n := if op == 3 then s.reqNat 8 else len - 8
    let k := (Config.freeValue s.free).toNat % (s.boot.burn.length + 1)
    let s1 := { s.modBoot (fun b => b.burned (b.burn.take k)) with free := s.free + 5 }
    let bit := fun (i : Nat) => (Config.freeValue (s.free + 1 + i)).setWidth 256 <<< (64 * i)
    let bits : BitVec 256 := (BitVec.allOnes 224).setWidth 256 &&& (bit 0 ||| bit 1 ||| bit 2 ||| bit 3)
    let s1 := match s.boot.burn[k]? with
      | some (e, x, _) => s1.modBoot fun b => b.burned [(e, x &&& bits, x &&& bits)]
      | none => s1
    let s1 := if (op == 3 || op == 4) && (s.boot.mbxResp.map (·.2)) == some 0 then s1.flashFree (s.reqNat 0) n else s1
    s1.modBoot fun b => { b with mbx := none, mbxResp := none, burn := [] }

/-! Reset. -/

/-- The whole module is in reset: every volatile state at its reset value. OTP, flash, the SHDN_N latch, the pins and the commands that wait are
kept (13_boot_security R438; 15_thermal R508). -/
def State.cleared (s : State) : State :=
  let r := State.reset
  { r with
    pending := s.pending, out := s.out, free := s.free,
    boot := { r.boot with otpN := s.boot.otpN, otpM := s.boot.otpM, flash := s.boot.flash, power := s.boot.power, sel := s.boot.sel,
                          rst := s.boot.rst },
    host := { r.host with perst := s.host.perst },
    th := { r.th with shdn := s.th.shdn } }

/-- A reset releases READY_N, and every pin that was driven goes to high-Z (11_pin_engines R379; 14_faults R488). -/
def State.dropPins (s : State) : State :=
  let s1 := if s.flt.ready then s.emit (.ready false) else s
  { s1 with out := ((List.range 36).filter fun p => s.pinLevel p != 2).map (fun p => .pin p 2) ++ s1.out }

/-- The module enters an internal reset that acts as a 10 us assertion of MOD_RESET_N; `how` says how it boots (13_boot_security R438, R464;
12_hinge_array R431). -/
def State.intReset (s : State) (how : Nat) : State :=
  s.cutMailbox.dropPins.cleared.modBoot fun b => { b with intRst := some how }

/-- The strap selection and the slots to try (13_boot_security R439, R464). -/
def strapSlots (sel : Nat) : List Nat := if sel == 0 then [1, 2] else if sel == 1 then [2, 1] else []

/-! Hinge frames. -/

/-- The two 64-bit words of a frame, low word first (12_hinge_array R410). -/
def frame (bc : Bool) (typ src dest tag : Nat) (payload : W64) : List W64 :=
  let v : BitVec 96 := pack 96 [(payload.toNat, 0), (tag % 2 ^ 12, 64), (dest % 64, 76), (src % 64, 82), (typ, 88), (bc.toNat, 95)]
  let w : BitVec 128 := v ++ crc32c (bytesLE 12 v)
  [w.extractLsb' 0 64, w.extractLsb' 64 64]

def State.port (s : State) (p : Bool) : Port := if p then s.hng.dn else s.hng.up
def State.modPort (s : State) (p : Bool) (f : Port → Port) : State :=
  s.modHng fun h => if p then { h with dn := f h.dn } else { h with up := f h.up }

/-- The port ends the closure link of the ring: upstream of position 0, downstream of the device whose next neighbour is position 0
(12_hinge_array R407, R411). -/
def State.closure (s : State) (p : Bool) : Bool :=
  s.ringed && (if p then s.hng.dn.pos == some 0 else s.hpos == some 0)

/-- Send a frame out of a port, only if it is UP (12_hinge_array R411). -/
def State.sendFrame (s : State) (p : Bool) (typ : Nat) (ws : List W64) : State :=
  if (s.port p).st == 2 then s.emit (.hinge p.toNat typ ws) else s

/-- Send a broadcast frame out of a port: never into the closure link while it is not in use (12_hinge_array R411). -/
def State.sendBcast (s : State) (p : Bool) (typ : Nat) (ws : List W64) : State :=
  if s.closure p && !s.hng.rerouted then s else s.sendFrame p typ ws

/-- Originate a broadcast frame out of both ports (12_hinge_array R411). -/
def State.broadcast (s : State) (typ tag : Nat) (payload : W64) : State :=
  let ws := frame true typ (s.hpos.getD 0) 0 tag payload
  (s.sendBcast false typ ws).sendBcast true typ ws

/-- Send a frame toward position `q` (12_hinge_array R434). -/
def State.sendTo (s : State) (q typ tag : Nat) (payload : W64) : State :=
  match s.route q with
  | some p => s.sendFrame p typ (frame false typ (s.hpos.getD 0) q tag payload)
  | none => s

end Machine
end Sys2Proof
end

