-- ==== Sys2Proof/Machine/Tick.lean ====
section
/-! DEFINITION. The line tick: sources, the hold-and-reject gate, the states of the tick generator, commit and snapshot (01_line_tick). -/

namespace Sys2Proof
namespace Machine

/-- TCK_CTL.MODE in force: 0 stopped, 1 tracked, 2 direct. -/
def State.mode (s : State) : Nat := s.regF 0x10000 31 30

/-- TCK_STATUS.STATE changes: vector 16 is raised (09_host_link R346). -/
def State.setTck (s : State) (st : Nat) : State :=
  if s.tick.st == st then s else (s.modTick fun k => { k with st := st }).raise 16

/-- Encoder counts per object line (01_line_tick TCK_TRACK). -/
def State.epl (s : State) : Nat := max 1 (s.regF 0x10068 15 0)

/-- Object lines in `d` encoder counts, and the counts left over that do not make a line (01_line_tick R25, R53). -/
def State.linesIn (s : State) (d : Int) : Nat × Int :=
  (d.natAbs / s.epl, d.tmod s.epl)

/-- Object lines between two encoder positions (01_line_tick R25). -/
def State.linesBetween (s : State) (a b : B48) : Nat := (s.linesIn (a - b).toInt).1

/-- Array time of the latest tick, 0 before the first (log entry 12). -/
def State.lastTime (s : State) : Time := s.tick.last.getD 0

/-! Object lines not taken (01_line_tick R53; 07_kernels_records R269, R278). -/

/-- A range of object lines not taken begins now. -/
def State.openGap (s : State) (reason : Nat) : State :=
  s.modTick fun k => { k with gap := some (reason, BitVec.ofNat 48 s.lastLine, s.encNow, s.now, 0) }

/-- The range ends, or is reported PROVISIONAL and goes on with the counts that did not make a line; a range of no object line makes no record. -/
def State.endGap (s : State) (enc : B48) (prov : Bool) : State :=
  match s.tick.gap with
  | none => s
  | some (reason, line, e0, _, r) =>
    let (n, r') := s.linesIn ((enc - e0).toInt + r)
    let s := if n == 0 then s
      else (s.modTick fun k => { k with gapN := k.gapN + BitVec.ofNat 32 n }).gapLines reason line.toNat n e0 enc s.lastTime prov
    s.modTick fun k => { k with gap := if !prov then none else if n == 0 then some (reason, line, e0, s.now, r) else some (reason, line, enc, s.now, r') }

/-! Entering and leaving STOPPED. -/

/-- The LPLL is off, its reference forgotten. -/
def State.lpllOff (s : State) : State :=
  s.modClk fun c => { c with lpll := 0, pullin := false, lastRef := none, t0 := 0, prev := 0, good := 0 }

/-- The LPLL starts acquisition (10_clocks R366). -/
def State.lpllStart (s : State) : State := s.lpllOff.modClk fun c => { c with lpll := 1 }

/-- A CLOSE for line `n` falls due on every enabled channel (07_kernels_records R279). -/
def State.dueClose (s : State) (n : Nat) : State :=
  s.modFab fun f => { f with closeDue := f.closeDue ++ ((List.range 16).filter s.chanOn).map fun ch => (ch, n) }

/-- The tick generator enters STOPPED: no tick follows, a held trigger and an open range end, a calibration step fails, the last line is closed
(01_line_tick R56, R57; 05_calibration R169; 07_kernels_records R279). -/
def State.enterStopped (s : State) : State :=
  if s.tick.st == 0 then s
  else
    let s := (s.endGap s.encNow false).modTick fun k => { k with held := none, hold := false, holdN := 0, flush := 0, flushAb := false }
    let s := (s.stopSeq.setTck 0).lpllOff.stepStop 8 true
    if s.tick.last.isSome then s.dueClose s.lastLine else s

/-- Leave STOPPED in the mode in force: RUNNING with the gate armed, or LOCKING; not while REARM_REQ, a shutdown or FAULTED holds it
(01_line_tick R47, R56; 03_sequence_table R109; 15_thermal R510; 14_faults R486). -/
def State.startMode (s : State) : State :=
  if s.th.rearm || s.th.shut != 0 || s.flt.faulted || s.mode == 0 || s.tick.st != 0 then s
  else
    let s := s.startSeq.modTick fun k => { k with ticked := false, idleBase := s.now, flushed := 64 }
    if s.mode == 2 then (s.setTck 2).minPeriod else (((s.setTck 1).lpllStart.modClk fun c => { c with refQ := [] }).openGap 0x02).minPeriod

/-- The mode in force became another than the one the tick generator runs in: it stops, then starts in the new one (01_line_tick R57, R542). -/
def State.changeMode (s : State) (old : Nat) : State :=
  if s.mode == (if s.tick.st == 0 then 0 else old) then s else s.enterStopped.startMode

/-! Commit, snapshot and throttle step. -/

/-- A commit takes effect for line `n`: banks, epoch, event 0x04, vector 18 (01_line_tick R57, R60; 07_kernels_records R272). -/
def State.commitEffect (s : State) (n : Nat) (enc : B48) (t : Time) : State :=
  let eng := s.regF 0x10000 19 17
  let s := s.commitRegs.modTick fun k => { k with epoch := k.epoch + 1, commitLine := BitVec.ofNat 48 n }
  let s := if s.regF 0x10000 19 17 == eng then s else s.modTick fun k => { k with turn := s.encNow }
  (s.event 0x04 n enc t s.tick.epoch.toNat 0).raise 18

/-- A fixed direction that differs from the one in force: at a tick it acts as a confirmed reversal, without a tick the nodes and drain rows are
swapped at once. One that equals the direction in force ends what the encoder had confirmed: no rule says which wins at that tick
(01_line_tick R51; log entry 84). -/
def State.commitDir (s : State) (atTick : Bool) : State :=
  let d := s.regF 0x10000 27 26
  if d == 0 then s
  else
    let want := d == 2
    if s.tick.dir == want then s.modTick fun k => { k with conf := want, revPend := false }
    else if atTick then s.modTick fun k => { k with conf := want, revPend := true }
    else (s.modTick fun k => { k with dir := want, conf := want, revPend := false }).placeDrains.eventNow 0x06 s.tick.line.toNat want.toNat 0

/-- A snapshot (01_line_tick R61). -/
def State.snapEffect (s : State) (n : Nat) (enc : B48) (t : Time) : State :=
  (s.freeze.modTick fun k =>
    { k with tag := k.tag + 1, snap := false, snapLine := BitVec.ofNat 48 n, snapTime := t, snapEnc := enc }).raise 18

/-- A decided throttle step comes into force: event 0x08, vector 25, log entry (15_thermal R503, R512). -/
def State.throttleEffect (s : State) (n : Nat) (enc : B48) (t : Time) : State :=
  match s.th.kNew with
  | none => s
  | some k =>
    let old := s.th.k
    let s := { s with th := { s.th with k := k, kNew := none, chg := s.th.chg + 1 } }
    (((s.event 0x08 n enc t k 0).raise 25).logEvent 0x0A 1 k old (usg 64 s.th.tc)).minPeriod

/-! One tick. -/

/-- Step 1 of a tick at `t`: a local snapshot, and a scheduled one whose T has come; they merge (01_line_tick R61 to R63; 12_hinge_array R431, R432). -/
def State.tickSnap (s : State) (n : Nat) (enc : B48) (t : Time) : State :=
  let due := match s.hng.aSnap with
    | some (x, _) => reached t x
    | none => false
  if s.tick.snap || due then (s.modHng fun h => { h with aSnap := if due then none else h.aSnap }).snapEffect n enc t else s

/-- A commit GO is old enough for a tick at `t`; one accepted less than 50 ns before may wait for the next (01_line_tick R58; log entry 4). -/
def State.commitReady (s : State) (t : Time) : Bool := s.tick.commit && (100 ≤ since t s.tick.commitT || s.chooses)

/-- Step 2: the pending commits that are due (01_line_tick R57, R58; 12_hinge_array R431, R432). -/
def State.tickCommit (s : State) (n : Nat) (enc : B48) (t : Time) : State :=
  let loc := s.commitReady t
  let s := if s.tick.commit && since t s.tick.commitT < 100 then s.useFree else s
  let due := match s.hng.aCommit with
    | some (x, _) => reached t x
    | none => false
  if loc || due then
    let s := s.modTick fun k => { k with commit := k.commit && !loc }
    ((s.modHng fun h => { h with aCommit := if due then none else h.aCommit }).commitEffect n enc t).commitDir true
  else s

/-- The latest CPLL interruption spans `x` (12_hinge_array R433). -/
def State.spanned (s : State) (x : Time) : Bool := match s.clk.lastInv with
  | some (a, e) => reached x a && reached e x
  | none => false

/-- Of the armed operations: those whose T lies within 2 ns of the tick, and those whose T has come and was spanned by the latest CPLL interruption
(12_hinge_array R433). -/
def State.schedCounts (s : State) (t : Time) : Nat × Nat :=
  let ts := [s.hng.aSnap.map (·.1), s.hng.aCommit.map (·.1), s.hng.aReset.map (·.1)].filterMap id
  ((ts.filter fun x => since t x ≤ 4 || since x t ≤ 4).length, (ts.filter fun x => reached t x && s.spanned x).length)

/-- The operations counted at a tick; a snapshot of that tick holds the counts before it (12_hinge_array R433; 01_line_tick R61). -/
def State.tickCounts (s : State) (c : Nat × Nat) : State :=
  s.modHng fun h => { h with sNear := h.sNear + BitVec.ofNat 8 c.1, sLate := h.sLate + BitVec.ofNat 8 c.2 }

/-- With ALIGN_EN = 1 and the LPLL locked the tick is trimmed by at most 10 ps within 2.0 ns; what the device measures is a free value
(12_hinge_array R418; log entry 3). -/
def State.trimStep (s : State) : State :=
  if bit (s.reg 0x1C0000) 29 && s.mode == 1 && (s.clk.lpll == 2 || s.clk.lpll == 3) then
    let d : Int := ((Config.freeValue s.free).toNat % 3 : Nat) - 1
    s.useFree.modHng fun h => { h with trim := BitVec.ofInt 16 (max (-200) (min 200 (h.trim.toInt + d))) }
  else s

/-- Step 3: the confirmed reversals act (01_line_tick R49, R50, R541; 05_calibration R169). -/
def State.tickReverse (s : State) (n : Nat) (enc : B48) (t : Time) : State :=
  if !s.tick.revPend then s
  else
    let s := s.modTick fun k => { k with dir := k.conf, revPend := false, flush := 64 }
    ((s.setTck 5).event 0x06 n enc t s.tick.dir.toNat 0).stepStop 10 false

/-- Band `b` had the stage count `N` at this tick and at the N ticks before it (02_pixel_array R70). -/
def cleanBand (hist : List (Nat × Nat × Nat × Nat)) (b N : Nat) : Bool :=
  let at' := fun (h : Nat × Nat × Nat × Nat) => if b == 0 then h.1 else if b == 1 then h.2.1 else if b == 2 then h.2.2.1 else h.2.2.2
  N ≤ hist.length && (hist.take N).all fun h => at' h == N

/-- Bands of the line that are flushed (01_line_tick R46, R47; 02_pixel_array R70; 10_clocks R360). -/
def State.flushedOf (s : State) (a : SeqAct) (w1 : W32) : BitVec 4 :=
  if s.tick.flushed != 0 then 0xF
  else if a.kind == 2 then 0
  else BitVec.ofNat 4 (((List.range 4).map fun b => if cleanBand s.tick.hist b ((stageOf w1).getD b 64) then 0 else 2 ^ b).sum)

/-- Ends of line items decided at the tick itself: direction flush, calibration step, palette load, tiles without a working engine or bank
(01_line_tick R49; 05_calibration R167, R179; 06_tile_engine_isa R235 to R237; 04_converters R153). -/
def State.tickEnds (s : State) (n : Nat) (l : Line) (t : Time) (passed : Bool) : State :=
  let s := if s.tick.flush != 0 then
      (if l.items then s.cover true 0x08 0 n 0 1023 else s.failLine 0x08 0 n).modTick fun k => { k with flush := k.flush - 1 }
    else s
  let st := s.cal.step
  let s := if st.ph == 1 then
      s.modCal fun c => { c with step := { st with ticks := st.ticks + 1, passes := if passed then st.passes + 1 else st.passes } }
    else if s.stepLine n l then
      let st := { st with
        execs := st.execs + 1, tsum := st.tsum + s.th.pix, tn := st.tn + 1, tLast := l.t, ticks := st.ticks + 1, tkLast := st.ticks + 1 }
      (s.modCal fun c => { c with step := st }).gapWhole 0x04 n
    else if s.stepRef n l then s.modCal fun c => { c with step := { st with refN := st.refN + 1, ticks := st.ticks + 1 } }
    else if st.ph == 3 && st.left != 0 && 2000 ≤ since t st.goT then
      (s.cover false 0x05 0 n 0 1023).modCal fun c => { c with step := { st with left := st.left - 1 } }
    else if st.ph == 2 then s.modCal fun c => { c with step := { st with ticks := st.ticks + 1 } }
    else s
  let s := s.flt.dead.foldl (fun s p => s.failTile 0x06 p.2 n p.1) s
  let s := s.te.eng.foldl (fun s p => if p.2.st == 3 then s.failTile 0x05 p.2.cause n p.2.tile else s) s
  s.banksFail n

/-- The spares that are RUNNING since the last tick take their tiles over (14_faults R476, R492; 07_kernels_records R272). -/
def State.tickSwitch (s : State) (n : Nat) (enc : B48) (t : Time) : State :=
  s.te.eng.foldl (fun s p =>
    if p.2.swPend && p.2.st == 1 then
      let s := (s.modEng p.1 fun x => { x with swPend := false }).modFlt fun f => { f with dead := f.dead.filter fun d => d.1 != p.2.tile }
      (s.event 0x07 n enc t p.2.tile p.1).logEvent 0x03 2 p.2.tile p.1 n
    else s) s

/-- The START of a ring takes effect: lines are carried from line `n` on, and the CLOSE counts begin there. Records of earlier lines that are in the
egress buffer are discarded and counted (07_kernels_records R276; 09_host_link R334). -/
def State.startEffect (s : State) (ch n : Nat) (t : Time) : State :=
  let early := fun (r : ERec) => recCh r.r.ws == ch && recLine r.r.ws < n
  let gone := s.fab.egress.filter early
  let s := s.modRing ch fun r => { r with startT := none, startLine := n, carry := true, effT := t }
  let s := s.modChan ch fun c => { c with closed := if n == 0 then none else some (n - 1), since := [], dis := c.dis + BitVec.ofNat 16 gone.length }
  s.modFab fun f => { f with egress := f.egress.filter fun r => !early r }

/-- The rings whose START is 1 us old take effect with this tick (09_host_link R334). -/
def State.tickStarts (s : State) (n : Nat) (t : Time) : State :=
  (List.range 16).foldl (fun s ch => match (s.ring ch).startT with
    | some x => if 2000 ≤ since t x then s.startEffect ch n t else s
    | none => s) s

/-- Which way the encoder has moved since the latest tick; the direction in force where it has not (01_line_tick R25). -/
def State.encSign (s : State) (enc : B48) : Int :=
  let mv := (enc - ((s.line s.lastLine).map (·.enc)).getD s.clk.clampEnc).toInt
  if mv < 0 then -1 else if 0 < mv then 1 else if s.tick.dir then -1 else 1

/-- Object lines not taken at a tick while the LPLL is clamped, along the encoder's own sense of counting (01_line_tick R25; 10_clocks R369;
07_kernels_records R269). -/
def State.clampGap (s : State) (enc : B48) : State :=
  if s.clk.lpll != 3 then s
  else
    let d := s.encSign enc
    let e := s.epl
    let at' := s.clk.clampEnc + BitVec.ofInt 48 (d * e)
    let n := (d * (enc - at').toInt).toNat / e
    let s1 := s.modClk fun c => { c with clampEnc := at' + BitVec.ofInt 48 (d * (n * e : Nat)) }
    if n == 0 then s1
    else (s1.modTick fun k => { k with gapN := k.gapN + BitVec.ofNat 32 n }).gapLines 0x01 s.lastLine n at' enc s.lastTime false

/-- The sequencer at the tick: the walk, a trigger less than 50 ns old counting as either side, and whether the pass ends with it
(03_sequence_table R103 to R107; log entry 4). -/
def State.tickWalk (s : State) (n : Nat) (t : Time) : State × SeqAct × Bool :=
  let young := s.seq.ph == 2 && s.seq.hOrig && s.seq.waited == 0 && since t s.seq.hTime < 100
  let r := seqWalk s n (young && s.chooses)
  let s1 := if young then s.useFree else s
  ({ s1 with seq := r.1 }, r.2, r.1.passes != s.seq.passes)

/-- How the tick moves the charge: an exposure tick of a frame does not shift (02_pixel_array R89). -/
def SeqAct.motion (a : SeqAct) : Motion :=
  if a.wait || a.kind != 2 then 0 else if a.frame == 0 then 1 else if a.frame < 192 then 2 else 3

/-- The bands whose node the tick samples: those of the entry's mask, at ticks with line items (02_pixel_array R71, R75, R90). -/
def SeqAct.reads (a : SeqAct) (w0 : W32) : BitVec 4 := if a.items then BitVec.ofNat 4 (fld w0 27 24) else 0

/-- The end of a direction flush: RUNNING, or HOLDOVER while the holdover count runs (01_line_tick R56). -/
def State.flushEnd (s : State) : State :=
  if s.tick.st == 5 && s.tick.flush == 0 then s.setTck (if s.tick.hold then 3 else 2) else s

/-- A scheduled reset whose T has come, on the devices it targets (12_hinge_array R431, R432). -/
def State.tickReset (s : State) (t : Time) : State :=
  match s.hng.aReset with
  | some (x, _, dest, all) =>
    if reached t x then
      if all || s.hpos == some dest then s.intReset 0 else s.modHng fun h => { h with aReset := none }
    else s
  | none => s

/-- What takes effect at tick `n` before its line is taken, in this order: the snapshot, the commit, the throttle step, a frame cut by a reversal, the
swap, the reversal, the end of an APPLY (01_line_tick R48, R57, R61; 02_pixel_array R93; 03_sequence_table R113, R114; 05_calibration R179; 12_hinge_array
R431; 15_thermal R503). -/
def State.tickOpen (s : State) (n : Nat) (t : Time) (enc : B48) : State :=
  let s := (s.at t).flushEnd
  let cnt := s.schedCounts t
  let s := ((s.tickSnap n enc t).tickCounts cnt).trimStep
  let s := s.tickCommit n enc t
  let s := if s.tick.st == 4 then s.setTck 2 else s
  let s := s.throttleEffect n enc t
  let s := if s.tick.revPend then s.cutFrame n else s
  let s := if s.swapDue then (s.swapEffect n enc t).stepStop 7 false else s
  let s := s.tickReverse n enc t
  let s := if s.cal.step.ph == 3 && s.cal.step.left == 0 then s.applyEnd enc t else s
  s.clampGap enc

/-- The line that a tick at `t` takes with the activity `a`: `tmin` its T_min, `woke` its tiles whose slices the tick wakes, `nodes` what its packets
are (01_line_tick R33; 02_pixel_array R70). -/
def State.newLine (s : State) (t : Time) (enc : B48) (late : Bool) (a : SeqAct) (tmin : Nat) (woke : BitVec 1024) (nodes : List NodeAct) : Line :=
  let w := s.entW s.seq.act a.entry
  let flags : BitVec 16 := pack 16 [(late.toNat, 0), (s.tick.hold.toNat, 1), ((1 ≤ s.th.k : Bool).toNat, 4), (s.tick.dir.toNat, 6)]
  { t := t, enc := enc, entry := a.entry, kind := if a.wait then 3 else a.kind, frame := a.frame, w0 := w 0, w1 := w 1, w2 := w 2, w3 := w 3,
    items := a.items, chans := if a.items then s.chainChans (fld (w 0) 19 14) else 0, flags := flags,
    flushed := s.flushedOf a (w 1), tmin := tmin, nodes := nodes, rel := 0, fail := 0, gap := 0, lost := 0, frs := [], conv := 0, accd := 0, woke := woke,
    ors := 0, defects := 0, pass := s.seq.pass, gen := s.seq.gen }

/-- The slices of the tick's window are awake from it on (04_converters R148). -/
def State.tickWake (s : State) (a : SeqAct) : State :=
  let w2 := s.entW s.seq.act a.entry 2
  if a.items || (a.kind == 2 && !a.wait) then
    s.modConv fun c => { c with asleep := c.asleep &&& ~~~tileMask (fld w2 31 22) (fld w2 21 12) }
  else s

/-- The tick generator's own state after tick `n` at `t`. The intervals of the gate and the rate limit run from it, a tick without a charge shift
included (01_line_tick R37, R39; log entry 102). -/
def State.tickPast (s : State) (t : Time) (l : Line) : State :=
  let st := stageOf l.w1
  let h := if l.kind == 2 then (0, 0, 0, 0) else (st.getD 0 64, st.getD 1 64, st.getD 2 64, st.getD 3 64)
  s.modTick fun k => { k with
    line := k.line + 1, last := some t, shift := some t, shiftTmin := l.tmin, idleBase := t, ticked := true, hist := (h :: k.hist).take 64,
    flushed := k.flushed - 1, holdN := if k.hold then k.holdN + 1 else k.holdN }

/-- The charge shift and the strobes that the tick shows outside (02_pixel_array R65, R89; 03_sequence_table R108). -/
def State.tickShow (s : State) (n : Nat) (a : SeqAct) (l : Line) : State :=
  let s := if l.nodes.contains .halted then s else s.emit (.shift (BitVec.ofNat 48 n) s.tick.dir (a.reads l.w0))
  let strobe := if a.wait || a.kind == 3 || (a.kind == 2 && (a.frame == 0 || 192 ≤ a.frame)) then 0 else fld l.w0 13 6
  if strobe == 0 then s else s.emit (.strobe (BitVec.ofNat 8 strobe))

/-- The line of tick `n` with the activity `a` is taken: what the tick does from then on. `old` is the mode the line is taken under, `passed` says that
the walk ended a pass (01_line_tick R33, R38, R542; 02_pixel_array R65 to R75, R89; 03_sequence_table R108). -/
def State.takeLine (s : State) (n : Nat) (t : Time) (enc : B48) (late : Bool) (old : Nat) (a : SeqAct) (passed : Bool) : State :=
  let w := s.entW s.seq.act a.entry
  let tmin := s.actPeriod a s.seq.act s.th.k (old == 2)
  let woke := if old == 2 && a.items then s.conv.asleep &&& tileMask (fld (w 2) 31 22) (fld (w 2) 21 12) else 0
  let p := (s.tickWake a).pixTick t a.motion (w 1) (a.reads (w 0)) (a.kind == 1)
  let l := p.1.newLine t enc late a tmin woke p.2
  let s := (p.1.modFab fun f => { f with lines := Tbl.set none f.lines n (some l) }).tickStarts n t
  let s := (((s.endGap enc false).tickSwitch n enc t).tickPast t l).banksTick n
  let s := (s.tickEnds n l t passed).tickShow n a l
  let s := if n % 1024 == 1023 then s.dueClose n else s
  ((s.changeMode old).minPeriod).tickReset t

/-- A line tick at array time `t` with encoder position `enc`; `late` when its trigger was held. A commit that changes MODE takes line n under the old
mode (01_line_tick R33, R38, R57, R61, R62, R542). -/
def State.fireTick (s : State) (t : Time) (enc : B48) (late : Bool) : State :=
  let n := s.tick.line.toNat
  let r := (s.tickOpen n t enc).tickWalk n t
  r.1.takeLine n t enc late s.mode r.2.1 r.2.2

/-! The commands. -/

/-- The tick lies at sub-line phase TCK_TRACK.PHASE of the line that began with the latest reference edge, within what R368 and R371 leave: 2 phases
while a step of 2 % is tracked, 21 phases for that step, and D_TRK of at most 13 ns (01_line_tick R24; 10_clocks R371; log entry 85). -/
def State.atPhase (s : State) : Bool :=
  match s.clk.lastRef with
  | some x =>
    let T := s.clk.tickT
    let p := since s.now x * 1024 / max 1 T
    (p + 2048 + 23 - s.regF 0x10068 31 22) % 1024 ≤ 46 + ceilDiv (26 * 1024) (max 1 T)
  | none => true

/-- The shortest time from the latest tick to the next one that the LPLL or the holdover period generator makes: one line of the period in force,
less what a step of 2 % and the phase pull-in may take, and never below the limit of R25 (01_line_tick R24, R25, R37, R52; 10_clocks R368 to R370;
log entry 85). -/
def State.lineGap (s : State) : Nat :=
  let c := s.clk
  max (max 2000 s.tick.worst) (if c.lpll == 3 then c.tickT else if c.pullin then c.tickT * 986 / 1024 else c.tickT * 1002 / 1024)

/-- LINE_TICK: a tick of the LPLL at its sub-line phase, one per reference period, or of the holdover period generator. In direct mode only a trigger
edge fires a tick (01_line_tick R22, R24, R25, R33, R37, R52; 10_clocks R368 to R371; log entry 49). -/
def execLineTick (t : Time) (s : State) : Host.Outcome State Fault Refusal :=
  inRun t s fun s =>
    let k := s.tick
    let run := s.mode == 1 && (k.st == 2 || k.st == 3 || k.st == 5 || (k.st == 4 && (s.clk.lpll == 2 || s.clk.lpll == 3)))
    let far := match k.shift with
      | some x => decide (s.lineGap ≤ since s.now x)
      | none => true
    let phase := s.clk.lpll != 2 || s.clk.pullin || s.atPhase
    if run && far && phase && !s.noTicks && !(k.hold && s.regF 0x10020 15 0 ≤ k.holdN) then s.fireTick s.now s.encNow false else s

/-- A trigger edge is rejected: counted, with an OVERRUN record (01_line_tick R39, R44; 07_kernels_records R271, R277). No rule gives the tiles, entry
and chain of its header: a free value (log entry 3). -/
def State.overrun (s : State) (inp : Nat) (stamp : Time) : State :=
  let s := s.modTick fun k => { k with rejN := k.rejN + 1 }
  let sp := (Config.freeValue s.free).toNat
  s.useFree.stageOn State.chanOn fun ch =>
    recWords 0x0A ch s.lastLine s.encNow stamp sp 0 0 [pack 64 [(inp, 56), (s.tick.rejN.toNat, 0)]]

/-- A qualified trigger edge at the hold-and-reject gate. Within 0.5 ns of T_min it may fire or be held; with WINDOW = 0, which disables holding, it
fires (01_line_tick R30, R39 to R42, R54; log entry 81). -/
def State.trigger (s : State) (inp : Nat) (stamp : Time) : State :=
  let k := s.tick
  if !(k.st == 2 || k.st == 4 || k.st == 5) then s
  else if s.noTicks then (s.modTick fun k => { k with rejN := k.rejN + 1 }).modClk fun c => { c with gTrig := c.gTrig + 1 }
  else if k.held.isSome then s.overrun inp stamp
  else
    let w := 2 * s.regF 0x10008 12 0
    let d := match k.shift with
      | some x => since stamp x
      | none => k.shiftTmin + 2
    let edge := k.shiftTmin ≤ d + 1 && d ≤ k.shiftTmin + 1
    let hold := w != 0 && (if edge then s.chooses else d < k.shiftTmin && k.shiftTmin ≤ d + w)
    let s := if edge then s.useFree else s
    if hold then s.modTick fun k => { k with held := some stamp, heldEnc := s.encNow, lastTrig := stamp }
    else if k.shiftTmin ≤ d || edge then
      (s.modTick fun k => { k with lastTrig := stamp }).fireTick (stamp + BitVec.ofNat 64 ((s.pathPs + 250) / 500)) s.encNow false
    else s.overrun inp stamp

/-- The relaying neighbour is lost and TCK_FALLBACK.EN = 1: the local pins are the source (01_line_tick R55; log entry 23). -/
def State.tckSrc (s : State) : Nat :=
  let src := s.regF 0x10000 29 28
  if src != 0 && s.regF 0x10030 0 0 == 1 && (s.port (src == 2)).lost then 0 else src

/-- TRIGGER_EDGE: an edge of PX_DIP/DIN[inp] (01_line_tick R26, R29, R39). A tick source relays it (12_hinge_array, TRIG). -/
def execTriggerEdge (t : Time) (inp : BitVec 2) (falling : Bool) (s : State) : Host.Outcome State Fault Refusal :=
  inRun t s fun s =>
    if s.mode == 2 && s.tckSrc == 0 && inp.toNat == s.regF 0x10000 24 23 && falling == (s.regF 0x10000 25 25 == 1) then
      (if bit (s.reg 0x1C0000) 28 && s.hpos.isSome then s.broadcast 0x04 0 s.now else s).trigger inp.toNat s.now
    else s

/-- HOLD_GATE_OPEN: T_min after the last charge shift a held trigger fires at once (01_line_tick R30, R39, R43; 07_kernels_records R272). -/
def execHoldGateOpen (t : Time) (s : State) : Host.Outcome State Fault Refusal :=
  inRun t s fun s =>
    match s.tick.held, s.tick.shift with
    | some stamp, some x =>
      if s.tick.shiftTmin ≤ since s.now x && !s.noTicks then
        let lat := since s.now stamp
        let enc := s.tick.heldEnc
        let n := s.tick.line.toNat
        let s1 := (s.modTick fun k => { k with held := none }).fireTick s.now enc true
        if s1.alive then
          (s1.modTick fun k => { k with heldN := k.heldN + 1, lastLat := BitVec.ofNat 16 lat }).event 0x01 n enc stamp lat 0
        else s1
      else s
    | _, _ => s

/-- IDLE_FLUSH (01_line_tick R45, R46, R56). -/
def execIdleFlush (t : Time) (s : State) : Host.Outcome State Fault Refusal :=
  inRun t s fun s =>
    let w := s.regF 0x10018 15 0
    if w != 0 && s.tick.st != 0 && !s.noTicks && 200000 * w ≤ since s.now s.tick.idleBase then
      let s := s.drainPulse.modTick fun k => { k with idleBase := s.now, flushed := 64 }
      if s.tick.st == 2 then s.setTck 4 else s
    else s

/-- The encoder position moved: the turning point follows it in the confirmed direction (01_line_tick R48). -/
def State.encMoved (s : State) : State :=
  let e := s.encNow
  let past := (e - s.tick.turn).toInt
  if (if s.tick.conf then past < 0 else 0 < past) then s.modTick fun k => { k with turn := e } else s

/-- REVERSAL_CONFIRMED: TCK_DIR.HYST counts in the new direction (01_line_tick R48, R541). -/
def execReversalConfirmed (t : Time) (s : State) : Host.Outcome State Fault Refusal :=
  inRun t s fun s =>
    let back := (s.encNow - s.tick.turn).toInt * (if s.tick.conf then 1 else -1)
    if s.regF 0x10000 27 26 == 0 && ((max 1 (s.regF 0x10028 7 0) : Nat) : Int) ≤ back then
      (s.modTick fun k => { k with conf := !k.conf, revPend := true, turn := s.encNow }).minPeriod
    else s

/-- DIRECTION_FLUSH_END (01_line_tick R49, R56). -/
def execDirectionFlushEnd (t : Time) (s : State) : Host.Outcome State Fault Refusal := inRun t s State.flushEnd

/-- Ticking stops: LOCKING, with GAP accounting; a direction flush is abandoned (01_line_tick R52, R53, R56). -/
def State.toLocking (s : State) : State :=
  let s := s.modTick fun k => { k with hold := false, holdN := 0, flushAb := k.st == 5, flush := 0 }
  ((s.setTck 1).lpllStart).openGap 0x02

/-- HOLDOVER_LINES_REACHED (01_line_tick R52, R56). -/
def execHoldoverLinesReached (t : Time) (s : State) : Host.Outcome State Fault Refusal :=
  inRun t s fun s => if s.tick.hold && s.regF 0x10020 15 0 ≤ s.tick.holdN then s.toLocking else s

/-- The part of a CPLL interruption not yet reported is reported PROVISIONAL: the object lines passed in tracked mode, the triggers in direct mode
(01_line_tick R54; 07_kernels_records R278). -/
def State.clockProvisional (s : State) : State :=
  let c := s.clk
  let (n, r) := if s.mode == 2 then (c.gTrig, 0) else s.linesIn ((s.encNow - c.gEnc).toInt + c.gRem)
  if n == 0 then s.modClk fun c => { c with gapT := s.now }
  else
    let s1 := if s.mode == 2 then s else s.modTick fun k => { k with gapN := k.gapN + BitVec.ofNat 32 n }
    (s1.gapLines 0x03 s.lastLine n c.gEnc s.encNow s.lastTime true).modClk fun c =>
      { c with gEnc := s.encNow, gRem := r, gTrig := 0, gapT := s.now }

/-- GAP_PROVISIONAL: 100 us after the range began (07_kernels_records R278). A range of a CPLL interruption is reported from the position of the last
tick on (01_line_tick R54). -/
def execGapProvisional (t : Time) (s : State) : Host.Outcome State Fault Refusal :=
  inRun t s fun s =>
    match s.tick.gap with
    | some (_, _, _, x, _) => if 200000 ≤ since s.now x then s.endGap s.encNow true else s
    | none => if s.noTicks && 200000 ≤ since s.now s.clk.gapT && s.tick.st != 0 then s.clockProvisional else s

/-- A write to GLB_COMMIT: a GO while PENDING = 1, from a local GO or a scheduled commit, has no effect (01_line_tick R57, R59; 12_hinge_array R431). -/
def State.commitWrite (s : State) (v : W32) : State :=
  let s := s.modTick fun k => { k with busyRej := k.busyRej && !bit v 29 }
  if bit v 31 && !s.tick.commit && s.hng.aCommit.isNone then s.modTick fun k => { k with commit := true, commitT := s.now } else s

/-- COMMIT_GO (01_line_tick R57). -/
def execCommitGo (t : Time) (w : Wr) (s : State) : Host.Outcome State Fault Refusal := regCmd t 0x20 w s fun v s => s.commitWrite v

/-- No tick is to be waited for (01_line_tick R60). -/
def State.untimed (s : State) : Bool := s.tick.st == 0 || s.tick.st == 4 || (s.tick.st == 1 && !s.tick.ticked)

/-- A commit without a tick (01_line_tick R51, R60, R542). -/
def State.commitUntimed (s : State) : State :=
  let old := s.mode
  let n := s.tick.line.toNat
  let s := ((s.modTick fun k => { k with commit := false }).commitEffect n s.encNow s.now).commitDir false
  (if s.running then s.changeMode old else s).minPeriod

/-- COMMIT_NO_TICK, before RUN too, where no tick fires (01_line_tick R60; 09_host_link R313). -/
def execCommitNoTick (t : Time) (s : State) : Host.Outcome State Fault Refusal :=
  timed t s fun s => if s.tick.commit && s.untimed && !s.noTicks then s.commitUntimed else s

/-- A write to GLB_SNAP_CTL (01_line_tick R61). -/
def State.snapWrite (s : State) (v : W32) : State :=
  if bit v 31 && !s.tick.snap then s.modTick fun k => { k with snap := true, snapT := s.now } else s

/-- SNAPSHOT_TAKE (01_line_tick R61). -/
def execSnapshotTake (t : Time) (w : Wr) (s : State) : Host.Outcome State Fault Refusal := regCmd t 0x18 w s fun v s => s.snapWrite v

/-- No CPLL interruption is in progress, and none has ended within the last 1 us (10_clocks R360). -/
def State.settled (s : State) : Bool :=
  !s.noTicks && match s.clk.lastInv with
    | some (_, e) => decide (2000 ≤ since s.now e)
    | none => true

/-- SNAPSHOT_NO_TICK: no tick within 1 us of the request (01_line_tick R61). -/
def execSnapshotNoTick (t : Time) (s : State) : Host.Outcome State Fault Refusal :=
  timed t s fun s =>
    if s.tick.snap && 2000 ≤ since s.now s.tick.snapT && s.settled then s.snapEffect s.tick.line.toNat s.encNow s.now else s

/-- THROTTLE_CHANGE_NO_TICK: in STOPPED and IDLE (15_thermal R503). -/
def execThrottleChangeNoTick (t : Time) (s : State) : Host.Outcome State Fault Refusal :=
  inRun t s fun s =>
    if (s.tick.st == 0 || s.tick.st == 4) && !s.noTicks then s.throttleEffect s.tick.line.toNat s.encNow s.now else s

end Machine
end Sys2Proof
end

