-- ==== Sys2Proof/Machine/Clocks.lean ====
section
/-! DEFINITION. The clocks: the line PLL, the references and their failover, the CPLL and APLL interruptions, ASYNC and CLKOUT (10_clocks). -/

namespace Sys2Proof
namespace Machine

/-! The line PLL. Periods are in units of 0.5 ns, rates in Hz. -/

/-- A valid entry of the band table: index, F_LO, F_HI (10_clocks R364). -/
def State.bandList (s : State) : List (Nat × Nat × Nat) :=
  (List.range 16).filterMap fun i =>
    let w := s.bandWord i
    if bit w 63 then some (i, fld w 19 0, fld w 39 20) else none

/-- The rate of period `T` is above, or below, a rate. -/
def faster (T f : Nat) : Bool := f * T < 2000000000
def slower (T f : Nat) : Bool := 2000000000 < f * T

/-- The band contains the rate of period `T`. -/
def inBand (b : Nat × Nat × Nat) (T : Nat) : Bool := !slower T b.2.1 && !faster T b.2.2

/-- The band that acquisition selects: the lowest-indexed that contains the rate, else the highest F_HI below the rate (10_clocks R366). -/
def State.selBand (s : State) (T : Nat) : Option Nat :=
  match s.bandList.find? fun b => inBand b T with
  | some b => some b.1
  | none =>
    (s.bandList.filter fun b => faster T b.2.2).foldl (fun (a : Option (Nat × Nat)) b => match a with
      | some x => if x.2 < b.2.2 then some (b.1, b.2.2) else a
      | none => some (b.1, b.2.2)) none |>.map (·.1)

/-- F_LO and F_HI of the band in use. -/
def State.bandNow (s : State) : Nat × Nat := let w := s.bandWord s.clk.band; (fld w 19 0, fld w 39 20)

/-- The reference of period `T` leaves the band in use: below F_LO, or above F_HI inside another valid band (10_clocks R368). -/
def State.bandExit (s : State) (T : Nat) : Bool :=
  slower T s.bandNow.1 || (faster T s.bandNow.2 && s.bandList.any fun b => b.1 != s.clk.band && inBand b T)

/-- The period of f_cap (10_clocks R369). -/
def State.capT (s : State) : Nat := max s.tick.worst (ceilDiv 2000000000 (max 1 s.bandNow.2))

/-- Two periods differ by more than 2 % of the second (10_clocks R366, R368). -/
def off2 (a b : Nat) : Bool := b < 50 * (max a b - min a b)

/-- A reference edge of a locked LPLL: the phase error is a free value (log entry 3), and the pull-in ends within 2.0 ns (10_clocks R370, R371). -/
def State.phase (s : State) : State :=
  let v := (Config.freeValue s.free).setWidth 16
  s.useFree.modClk fun c => { c with phErr := v, pullin := c.pullin && 4 < v.toInt.natAbs }

/-- The LPLL runs clamped at f_cap (10_clocks R369). -/
def State.toClamp (s : State) (T : Nat) : State :=
  let p := s.capT
  let e := s.encNow
  s.modClk fun c => { c with lpll := 3, pullin := false, tickT := p, prev := T, clampEnc := e }

/-- The LPLL tracks the period, or is clamped. -/
def State.follow (s : State) (T : Nat) (pull : Bool) : State :=
  if T < s.capT then s.toClamp T
  else (s.modClk fun c => { c with lpll := 2, tickT := T, prev := T, pullin := c.pullin || pull }).phase

/-- A step beyond 2 %, a loss of the reference or a band exit: the tick generator enters HOLDOVER, LOCKING with LINES = 0, or starts the holdover
count in REVERSING; the lock is lost: vector 22 (01_line_tick R52, R56; 09_host_link R346; 10_clocks R368). -/
def State.holdEntry (s : State) : State :=
  let s := (s.modClk fun c => { c with lpll := 4, pullin := false }).raise 22
  if (s.tick.st == 2 || s.tick.st == 5) && !s.tick.hold then
    if s.regF 0x10020 15 0 == 0 then s.toLocking
    else
      let s1 := s.modTick fun k => { k with hold := true, holdN := 0 }
      if s1.tick.st == 2 then s1.setTck 3 else s1
  else s

/-- Step 1 of acquisition again (10_clocks R366). -/
def State.reacquire (s : State) : State := s.modClk fun c => { c with t0 := 0, prev := 0, good := 0 }

/-- A period while acquiring (10_clocks R366). -/
def State.acqPeriod (s : State) (T : Nat) : State :=
  let c := s.clk
  if c.t0 == 0 then
    if c.prev != 0 && !off2 T c.prev then
      match s.selBand T with
      | some b => s.modClk fun c => { c with t0 := T, prev := T, tickT := T, good := 0, band := b, noBand := false }
      | none => s.modClk fun c => { c with noBand := true, prev := 0 }
    else s.modClk fun c => { c with prev := T }
  else if off2 T c.t0 then s.reacquire
  else s.modClk fun c => { c with good := min 4 (c.good + 1), prev := T, tickT := T }

/-- A period while locked, clamped or in holdover, where a good one regains the lock; a clamped LPLL makes no 2 % check (09_host_link R346; 10_clocks R368 to R370; 01_line_tick R52; log entry 25). -/
def State.runPeriod (s : State) (T : Nat) : State :=
  let c := s.clk
  if c.lpll == 4 then
    if off2 T c.tickT || s.bandExit T then s
    else
      let s1 := ((s.modTick fun k => { k with hold := false, holdN := 0 }).follow T true).raise 22
      if s1.tick.st == 3 then s1.setTck 2 else s1
  else if (c.lpll == 2 && off2 T c.prev) || s.bandExit T then s.holdEntry
  else if c.lpll == 3 && T < s.capT then s.modClk fun c => { c with prev := T, tickT := s.capT }
  else s.follow T (c.lpll == 3)

/-- A reference edge with a valid stamp reaches the LPLL. In IDLE with the reference lost it starts an acquisition; the first edge after a CPLL
interruption measures no period, and the phase is pulled in (01_line_tick R56; 10_clocks R366, R368, R370). -/
def State.refEdge (s : State) (stamp : Time) : State :=
  let c := s.clk
  if s.tick.st == 4 && c.lpll == 4 then
    ((s.setTck 1).lpllStart.openGap 0x02).modClk fun c => { c with lastRef := some stamp }
  else
    match c.lastRef with
    | none =>
      let s1 := s.modClk fun c => { c with lastRef := some stamp, pullin := c.pullin || c.lpll == 2 }
      if c.lpll == 2 then s1.phase else s1
    | some x =>
      let T := since stamp x
      let s1 := s.modClk fun c => { c with lastRef := some stamp, period := T % 2 ^ 32 }
      if T == 0 then s1 else if c.lpll == 1 then s1.acqPeriod T else s1.runPeriod T

/-- LINE_REFERENCE: the oldest reference event; one with an invalid stamp is ignored (10_clocks R366, R368; 11_pin_engines R548). -/
def execLineReference (t : Time) (s : State) : Host.Outcome State Fault Refusal :=
  inRun t s fun s =>
    match s.clk.refQ with
    | [] => s
    | x :: r =>
      let s := s.modClk fun c => { c with refQ := r }
      match x with
      | some stamp => if s.clk.lpll == 0 || s.noTicks then s else s.refEdge stamp
      | none => s

/-- REFERENCE_LOSS: no edge within 1.25 periods since the last edge, a relayed one counted from its stamp plus 40 ns per hop, or since the end of a CPLL
interruption after it (10_clocks R366, R368; 12_hinge_array R417). -/
def execReferenceLoss (t : Time) (s : State) : Host.Outcome State Fault Refusal :=
  inRun t s fun s =>
    let c := s.clk
    let late := fun (p : Nat) => match c.lastRef.orElse (fun _ => c.lastInv.map (·.2)) with
      | some x => decide (5 * p + (if s.tckSrc == 0 then 0 else 320 * c.refHops) ≤ 4 * since s.now x)
      | none => false
    if s.noTicks then s
    else if c.lpll == 1 then if c.t0 != 0 && late c.t0 then s.reacquire else s
    else if (c.lpll == 2 || c.lpll == 3) && late (if c.prev == 0 then c.tickT else c.prev) then s.holdEntry
    else s

/-- LPLL_LOCK: RUNNING with 64 lines FLUSHED, or REVERSING with 64 flush ticks when a direction flush was abandoned
(01_line_tick R47, R56; 09_host_link R346; 10_clocks R366). -/
def execLpllLock (t : Time) (s : State) : Host.Outcome State Fault Refusal :=
  inRun t s fun s =>
    let c := s.clk
    if c.lpll != 1 || c.good < 4 || s.tick.st != 1 || s.noTicks then s
    else
      let s := if c.prev < s.capT then s.toClamp c.prev else s.modClk fun c => { c with lpll := 2, tickT := c.prev, pullin := false }
      let s := (s.modClk fun c => { c with acq := c.acq + 1 }).raise 22
      let s := s.modTick fun k => { k with idleBase := if k.ticked then k.idleBase else s.now }
      if s.tick.flushAb then (s.modTick fun k => { k with flush := 64, flushAb := false }).setTck 5
      else (s.modTick fun k => { k with flushed := 64 }).setTck 2

/-! References (10_clocks R350 to R354, R547): 0 LREF, 1 Hinge, 2 REFCLK_PCIE/4, 3 none. -/

/-- The primary. -/
def State.primary (s : State) : Nat := s.regF 0x180008 31 31

/-- The order of fallback (10_clocks R352). -/
def State.refOrder (s : State) : List Nat := if s.primary == 1 then [1, 0, 2] else [0, 2]

/-- The source may be taken: present, and REFCLK_PCIE only where failover to it is permitted (10_clocks R352). -/
def State.refOk (s : State) (r : Nat) : Bool :=
  !bit s.clk.absent r && (r != 2 || (s.regF 0x180008 30 30 == 1 && !s.clk.foBlk))

/-- The first source of the order that may be taken, after source `r`; 3 when there is none. -/
def State.refAfter (s : State) (r : Nat) : Nat := (((s.refOrder.dropWhile (· != r)).drop 1).find? s.refOk).getD 3
def State.refFirst (s : State) : Nat := (s.refOrder.find? s.refOk).getD 3

/-- The next source; after the last one the first that is present (10_clocks R352, R354; log entry 26). -/
def State.refNext (s : State) (r : Nat) : Nat := if s.refAfter r == 3 then s.refFirst else s.refAfter r

/-- A relock begins on a source; with none the domains stay gated (10_clocks R352, R354). -/
def State.relock (s : State) (r : Nat) : State :=
  let now := s.now
  s.modClk fun c => { c with ref := r, relockT := now, intrCause := if r == 3 then 4 else c.intrCause }

/-- A failover is counted (10_clocks R352). -/
def State.countFailover (s : State) : State := (s.modClk fun c => { c with fN := c.fN + 1 }).raise 22

/-! CPLL interruptions. -/

/-- Tiles of a line that have a record for the channel on its way to the bridge. -/
def State.onWayTiles (s : State) (n ch : Nat) : BitVec 1024 :=
  let hit := fun (r : QRec) => !r.dev && recLine r.ws == n && recCh r.ws == ch
  let srcs := ((s.fab.q.filter fun p => p.2.any hit).map (·.1)) ++ ((s.fab.spine.filter fun p => hit p.2.2).map (·.1))
  srcs.foldl (fun m e => m ||| (1#1024 <<< (s.eng e).tile)) 0

/-- Line items not complete at the gating, and every line that ticked after the last window that passed, end FAILED, reason clock
(01_line_tick R54; 10_clocks R360; 07_kernels_records R275, R277). -/
def State.clockFail (s : State) (lastPass : Time) : State :=
  s.fab.lines.foldl (fun s p => match p.2 with
    | none => s
    | some l =>
      let n := p.1
      if !reached lastPass l.t then (s.failLine 0x07 0 n).modLine n fun l => { l with rel := BitVec.allOnes 1024, conv := BitVec.allOnes 1024 }
      else if !l.items then s
      else
        let s := (List.range 16).foldl (fun s ch =>
          let way := s.onWayTiles n ch
          (runsOf ((List.range 1024).filter fun t => l.first ≤ t && t ≤ l.last && (!l.rel.getLsbD t || way.getLsbD t))).foldl
            (fun s r => s.coverCh true 0x07 0 n r.1 r.2 ch l) s) s
        s.modLine n fun l => { l with rel := BitVec.allOnes 1024, conv := BitVec.allOnes 1024 }) s

/-- The CPLL domains are gated: array time goes on, a held trigger is discarded, lines end FAILED, the slots held are revoked, and the LPLL runs on. The
interruption begins at `start`; gated again before its end, it goes on, with the cause of the new loss
(01_line_tick R54, R56; 10_clocks R353, R357, R359, R360; 12_hinge_array R420; log entries 24, 27, 99). -/
def State.gateCpll (s : State) (cause : Nat) (start lastPass : Time) (target : Nat) : State :=
  let s := if s.tick.st == 1 then s.endGap s.encNow false else s
  let base := if s.tick.st == 1 then s.encNow else ((s.line s.lastLine).map (·.enc)).getD s.encNow
  let held := s.tick.held.isSome
  let now := s.now
  let new := s.clk.intr.isNone
  let s := s.modTick fun k => { k with held := none, rejN := if held then k.rejN + 1 else k.rejN }
  let s := s.clockFail lastPass
  let s := s.modTe fun x => { x with eng := x.eng.map fun p => (p.1, { p.2 with slots := p.2.slots.map fun q => { q with rev := q.rev || q.held } }) }
  let s := s.modHng fun h => { h with aligned := false, alGood := 0 }
  let s := s.modClk fun c =>
    { c with gated := true, cLock := false, cN := c.cN + 1, intr := some (c.intr.getD start), intrCause := cause, gateT := now, again := false,
             liTime := c.intr.getD start, stopT := if new then now else c.stopT, t0 := if c.lpll == 1 then 0 else c.t0,
             prev := if c.lpll == 1 then 0 else c.prev, good := if c.lpll == 1 then 0 else c.good }
  let s := s.modClk fun c =>
    if new then { c with gEnc := base, gTrig := held.toNat, gRem := 0, gapT := now } else { c with gTrig := c.gTrig + held.toNat }
  (s.raise 22).relock target

/-- The end of the last lock-monitor window that passed, for an interruption that the device itself begins: no rule places the windows of 1 us, so
it is a free value within the last microsecond before `t` (10_clocks R356; log entry 3). -/
def State.window (s : State) (t : Time) : Time := t - BitVec.ofNat 64 ((Config.freeValue s.free).toNat % 2000)

/-- CPLL_LOSS_OF_LOCK: `loss.left` is the moment at which the VCO left 500 ppm, at most 2 us before; the interruption begins there
(10_clocks R356, R357, R359). -/
def execCpllLossOfLock (t : Time) (loss : LockLoss) (s : State) : Host.Outcome State Fault Refusal :=
  timed t s fun s =>
    if s.clk.cLock then s.gateCpll 1 (if since s.now loss.left ≤ 4000 then loss.left else s.now) loss.lastPass s.clk.ref else s

/-- A failover of a locked CPLL away from an absent source (10_clocks R352). -/
def State.failover (s : State) : State :=
  let nxt := s.refNext s.clk.ref
  let s := if nxt == 3 then s else s.countFailover
  s.useFree.gateCpll 2 s.now (s.window (s.now - 400)) nxt

/-- Reference `r` (0 to 2) is absent (10_clocks R351, R352, R354). -/
def State.refLost (s : State) (r : Nat) : State :=
  if bit s.clk.absent r then s
  else
    let s := s.modClk fun c => { c with absent := c.absent ||| (1#3 <<< r) }
    if s.clk.ref != r then s
    else if s.clk.cLock then s.failover
    else if s.clk.intr.isNone then s
    else
      let nxt := s.refNext r
      ((if nxt == 3 || s.clk.again then s else s.countFailover).modClk fun c => { c with intrCause := 2 }).relock nxt

/-- REF_ABSENT (10_clocks R351, R352, R354). -/
def execRefAbsent (t : Time) (r : BitVec 2) (s : State) : Host.Outcome State Fault Refusal :=
  timed t s fun s => if r == 3#2 then s else s.refLost r.toNat

/-- REF_PRESENT: with no source in use the device relocks (10_clocks R351, R354). -/
def execRefPresent (t : Time) (r : BitVec 2) (s : State) : Host.Outcome State Fault Refusal :=
  timed t s fun s =>
    if r == 3#2 || !bit s.clk.absent r.toNat then s
    else
      let s := s.modClk fun c => { c with absent := c.absent &&& ~~~(1#3 <<< r.toNat) }
      if s.clk.gated && s.clk.ref == 3 then s.relock s.refFirst else s

/-- REF_MONITOR_MEASURE: LREF against REFCLK_PCIE/4, both present (10_clocks R351). -/
def execRefMonitorMeasure (t : Time) (ppm : Int) (s : State) : Host.Outcome State Fault Refusal :=
  timed t s fun s =>
    if bit s.clk.absent 0 || bit s.clk.absent 2 then s
    else s.modClk fun c => { c with ppm := BitVec.ofInt 16 (max (-32768) (min 32767 ppm)), foBlk := 300 < ppm.natAbs }

/-- RELOCK_TIMEOUT: 20 us without lock; the next source, and after the last one the first present, which is no further failover
(10_clocks R352, R547). -/
def execRelockTimeout (t : Time) (s : State) : Host.Outcome State Fault Refusal :=
  timed t s fun s =>
    let c := s.clk
    if !c.gated || c.ref == 3 || since s.now c.relockT < 40000 then s
    else
      let nxt := s.refAfter c.ref
      if nxt == 3 then (s.modClk fun c => { c with again := true }).relock s.refFirst
      else if c.again then s.relock nxt
      else (s.countFailover.modClk fun c => { c with intrCause := 2 }).relock nxt

/-- The length of an interruption in ns. -/
def State.intrNs (s : State) (t0 : Time) : Nat := since s.now t0 / 2

/-- The CPLL is locked and its domains run again: the drain gates are pulsed (10_clocks R359). -/
def State.ungateCpll (s : State) : State := ((s.modClk fun c => { c with cLock := true, gated := false }).drainPulse).raise 22

/-- The engines resume where they stopped: what they wait for, and their heartbeats, do not count the time in between
(06_tile_engine_isa R223, R234; 10_clocks R359, R360). -/
def State.resumeEngs (s : State) : State :=
  let d : Time := BitVec.ofNat 64 (since s.now s.clk.stopT)
  let now := s.now
  s.modTe fun x => { x with eng := x.eng.map fun p => (p.1, { p.2 with
    blk := p.2.blk.map (fun b => { b with t := b.t + d }), hbT := if p.2.st == 1 then now else p.2.hbT }) }

/-- The GAP record of the interruption: the object lines passed in tracked mode, the triggers in direct mode; a clamped LPLL counts on from there
(01_line_tick R54; 10_clocks R369). -/
def State.clockGap (s : State) : State :=
  let c := s.clk
  if s.tick.st == 0 then s
  else if s.mode == 2 then s.gapLines 0x03 s.lastLine c.gTrig c.gEnc s.encNow s.lastTime false
  else
    let (n, r) := s.linesIn ((s.encNow - c.gEnc).toInt + c.gRem)
    let s := s.modClk fun c => { c with clampEnc := s.encNow - BitVec.ofInt 48 r }
    if n == 0 then s
    else (s.modTick fun k => { k with gapN := k.gapN + BitVec.ofNat 32 n }).gapLines 0x03 s.lastLine n c.gEnc s.encNow s.lastTime false

/-- INTERRUPTION_END: the tick generator is armed and the engines resume; 64 lines carry FLUSHED and the idle-flush time begins again
(10_clocks R359, R360; 01_line_tick R54, R56; 14_faults R487, R492). -/
def execInterruptionEnd (t : Time) (s : State) : Host.Outcome State Fault Refusal :=
  timed t s fun s =>
    match s.clk.intr with
    | none => s
    | some x =>
      if s.clk.gated then s
      else
        let ns := s.intrNs x
        let cause := s.clk.intrCause
        let now := s.now
        let s := s.clockGap.resumeEngs.modTick fun k => { k with flushed := 64, idleBase := now }
        let s := s.modClk fun c =>
          { c with intr := none, lastInv := some (x, now), lastRef := none, liLen := min 65535 (ns / 100), liCause := cause }
        let s := (if s.tick.st == 1 then s.openGap 0x02 else s).logEvent 0x06 1 cause ns 0
        if s.clk.aGated.isNone then (s.modFlt fun f => { f with long := false }).health else s

/-- INTERRUPTION_LONG: 40 us after the beginning HEALTH becomes 2 (10_clocks R360, R363; 14_faults R487). -/
def execInterruptionLong (t : Time) (s : State) : Host.Outcome State Fault Refusal :=
  timed t s fun s =>
    let old := fun (o : Option Time) => match o with
      | some x => decide (80000 < since s.now x)
      | none => false
    if old s.clk.intr || old s.clk.aGated then (s.modFlt fun f => { f with long := true }).health else s

/-- GATED_ACCESS_TIMEOUT: an access that has waited 45 us: a read returns 0, a write is discarded and counted (10_clocks R360, R363). -/
def execGatedAccessTimeout (t : Time) (s : State) : Host.Outcome State Fault Refusal :=
  timed t s fun s =>
    match s.clk.wait with
    | x :: r =>
      if since s.now x.t < 90000 then s
      else
        let s := s.modClk fun c => { c with wait := r }
        match x.w, x.rem with
        | some w, _ => s.reject 4 w.src x.off
        | none, some (q, n) => s.sendTo q 0x0A n 0
        | none, none => s.emit (if x.bar2 then .rdBar2 x.off (List.replicate x.nb 0) false else .rdData x.off x.nb 0)
    | [] => s

/-! CLK_REF, ASYNC and CLKOUT. -/

/-- A write to CLK_REF (10_clocks R353): SRC = 1 with no upstream port cabled is rejected, and a REVERT while the primary is absent. The port counts as
not cabled while it is down or training (log entry 28). -/
def State.clkRefWrite (s : State) (w : Wr) (v : W32) : State :=
  let src := fld v 31 31
  if src == 1 && (s.hng.up.st == 0 || s.hng.up.st == 1) then s.reject 3 w.src 0x180008
  else if bit v 29 && bit s.clk.absent src then s.reject 4 w.src 0x180008
  else
    let changed := src != s.primary
    let s := s.storeReg 0x180008 v
    if !(bit v 29 || changed) || s.clk.ref == src || bit s.clk.absent src then
      if s.clk.gated && s.clk.ref == 3 then s.relock s.refFirst else s
    else if s.clk.cLock then s.useFree.gateCpll 3 s.now (s.window s.now) src
    else if s.clk.intr.isNone then s
    else (s.modClk fun c => { c with intrCause := 3 }).relock src

/-- REVERT (10_clocks R353). -/
def execRevert (t : Time) (w : Wr) (s : State) : Host.Outcome State Fault Refusal := regCmd t 0x180008 w s fun v s => s.clkRefWrite w v

/-- CLK_REF_SRC_WRITE (10_clocks R353). -/
def execClkRefSrcWrite (t : Time) (w : Wr) (s : State) : Host.Outcome State Fault Refusal :=
  regCmd t 0x180008 w s fun v s => s.clkRefWrite w v

/-- A write to CLK_STATUS: ENC_SUSPECT is cleared by writing one (10_clocks CLK_STATUS). -/
def State.clkStatusWrite (s : State) (v : W32) : State := s.modClk fun c => { c with encSus := c.encSus && !bit v 16 }

/-- APLL_LOSS_OF_LOCK (10_clocks R363). -/
def execApllLossOfLock (t : Time) (s : State) : Host.Outcome State Fault Refusal :=
  timed t s fun s =>
    if s.clk.aLock && s.clk.aGated.isNone then
      let now := s.now
      (s.modClk fun c => { c with aLock := false, aGated := some now, aN := c.aN + 1, liTime := now }).raise 22
    else s

/-- The APLL is locked again: ENC_SUSPECT is set and the interruption is logged (10_clocks R363; 14_faults R487, R492). -/
def State.ungateApll (s : State) (x : Time) : State :=
  let ns := s.intrNs x
  let s := s.modClk fun c => { c with aLock := true, aGated := none, encSus := true, liLen := min 65535 (ns / 100), liCause := 5 }
  let s := (s.logEvent 0x06 2 0 ns 0).raise 22
  if s.clk.intr.isNone then (s.modFlt fun f => { f with long := false }).health else s

/-- An ASYNC edge at `now`: accepted in STOPPED and IDLE with ARM = 1 and no CPLL interruption. The reset falls on the first VCO edge after the edge
arrival + 8 ns + COMP: which of the edges of 0.25 ns that is, is a free value (10_clocks R372, R373; log entry 3). -/
def State.asyncEdge (s : State) : State :=
  if s.regF 0x180040 31 31 == 1 && (s.tick.st == 0 || s.tick.st == 4) && !s.noTicks then
    let d := (Config.freeValue s.free).toNat % 3
    let x := s.now + BitVec.ofNat 64 (16 + s.regF 0x180040 26 16)
    (s.useFree.setFld 0x180040 31 31 0).modClk fun c =>
      { c with asDone := true, asT := x + BitVec.ofNat 64 (d / 2), asOff := BitVec.ofNat 3 (2 * x.toNat + d) }
  else s.modClk fun c => { c with asIgn := c.asIgn + 1 }

/-- ASYNC_EDGE: repeated on ASYNC_OUT in OUT_MODE 1 (10_clocks R373, R374). -/
def execAsyncEdge (t : Time) (s : State) : Host.Outcome State Fault Refusal :=
  inRun t s fun s => (if s.regF 0x180040 29 28 == 1 then s.emit (.async s.now) else s).asyncEdge

/-- A write to CLK_ASYNC: OUT_MODE = 3 is rejected; FIRE in OUT_MODE 2 drives a pulse that also acts as an edge (10_clocks R374, CLK_ASYNC). -/
def State.asyncWrite (s : State) (w : Wr) (v : W32) : State :=
  if fld v 29 28 == 3 then s.reject 3 w.src 0x180040
  else
    let s := (s.storeReg 0x180040 v).modClk fun c => { c with asDone := c.asDone && !bit v 27 }
    if bit v 30 && fld v 29 28 == 2 then (s.emit (.async s.now)).asyncEdge else s

/-- FIRE (10_clocks R374). -/
def execFire (t : Time) (w : Wr) (s : State) : Host.Outcome State Fault Refusal := regCmd t 0x180040 w s fun v s => s.asyncWrite w v

/-- The frequency of a CLKOUT source in Hz, as R375 counts it: CPLL 4 GHz, the LPLL at 1,024 times the highest F_HI, the reference 25 MHz. -/
def State.clkSrcHz (s : State) (src : Nat) : Nat :=
  if src == 0 then 4000000000 else if src == 1 then 1024 * (s.bandList.map fun b => b.2.2).foldl max 0 else 25000000

/-- A write to CLK_OUT[j] (10_clocks R375, R376). -/
def State.clkOutWrite (s : State) (j : Nat) (w : Wr) (v : W32) : State :=
  let off := 0x180050 + 8 * j
  let div := fld v 28 13
  if fld v 30 29 == 3 || div == 0 || 250000000 * div < s.clkSrcHz (fld v 30 29) then s.reject 3 w.src off
  else (s.storeReg off v).emit (.clkout j v)

/-- CLK_OUT_WRITE (10_clocks R375, R376). -/
def execClkOutWrite (t : Time) (j : Nat) (w : Wr) (s : State) : Host.Outcome State Fault Refusal :=
  if j < 2 then regCmd t (0x180050 + 8 * j) w s fun v s => s.clkOutWrite j w v else timed t s id

end Machine
end Sys2Proof
end

