-- ==== Sys2Proof/Machine/Fabric.lean ====
section
/-! DEFINITION. The result fabric: requests, contests, backoff, preemption, credits, drops, reassembly, and CLOSE (08_result_fabric;
07_kernels_records R279; 14_faults R482, R483). -/

namespace Sys2Proof
namespace Machine

/-- Sources of the supervisor stream and of the capture stream (08_result_fabric R284). -/
def supSrc : Nat := 1056
def capSrc : Nat := 1057

/-- The records of a source that are not wholly sent. -/
def State.queue (s : State) (src : Nat) : List QRec := Tbl.get [] s.fab.q src
def State.setQueue (s : State) (src : Nat) (l : List QRec) : State := s.modFab fun f => { f with q := Tbl.set [] f.q src l }

/-- Deadline minus now as a signed 32-bit difference, in 0.5 ns units (00_scope R10, 08_result_fabric R290). -/
def State.left (s : State) (dl : W32) : Int := (dl - s.now.setWidth 32).toInt

/-- The request of a source (08_result_fabric R290, R291). -/
structure Req where
  /-- input of the arbiter -/
  inp : Nat
  /-- source whose flit would be sent next -/
  src : Nat
  /-- nearest deadline, from now -/
  d : Int
  urgent : Bool
deriving DecidableEq, Repr

/-- A class L record of the source waits in a blocked RSEND (08_result_fabric R291). -/
def State.blockedL (s : State) (src : Nat) : Bool :=
  src < 1056 && match (s.eng src).blk with
    | some b => b.op == 5
    | none => false

/-- The request is urgent (08_result_fabric R291). -/
def State.urgentSrc (s : State) (src : Nat) : Bool :=
  let ls := (s.queue src).filter fun r => !r.cls
  s.blockedL src || ls.any fun r => s.left r.dl < 8 * (s.regF 0x100000 19 8 : Int)

/-- The request of a source for an input; none when it holds no complete record (08_result_fabric R290). -/
def State.request (s : State) (inp src : Nat) : Option Req :=
  match s.queue src with
  | [] => none
  | r :: rs => some { inp := inp, src := src, d := rs.foldl (fun a q => min a (s.left q.dl)) (s.left r.dl), urgent := s.urgentSrc src }

/-- Rank of R292: urgent first, nearer deadline, then the order of inputs. -/
def Req.before (a b : Req) : Bool :=
  if a.urgent != b.urgent then a.urgent else if a.d != b.d then a.d < b.d else a.inp < b.inp

/-- First of the requests in the rank of R292. -/
def firstReq : List Req → Option Req
  | [] => none
  | r :: rs => match firstReq rs with
    | some q => if q.before r then some q else some r
    | none => some r

/-- A contest in cycle `c`: the winner owns the grant, with the burst count it kept; the losers back off (08_result_fabric R292, R293, R296). -/
def Arb.contest (a : Arb) (c : Nat) (el : List Req) : Arb :=
  match firstReq el with
  | none => a
  | some w =>
    let a := { a with owner := some w.inp, burst := Tbl.get 0 a.kept w.inp, kept := Tbl.set 0 a.kept w.inp 0, m := Tbl.set 0 a.m w.inp 0 }
    (el.filter fun r => r.inp != w.inp).foldl (fun a r =>
      let m := Tbl.get 0 a.m r.inp + 1
      { a with m := Tbl.set 0 a.m r.inp m, back := Tbl.set 0 a.back r.inp (c + min 64 (2 ^ (m - 1))) }) a

/-- One arbitration cycle of an arbiter up to the grant; true when the owner was preempted (08_result_fabric R292 to R296). `limit` is the burst
limit, `margin` 8 x PREEMPT, `credit` whether the request's next flit has credit. -/
def Arb.cycle (a : Arb) (c limit margin : Nat) (reqs : List Req) (credit : Req → Bool) : Arb × Bool :=
  let el := reqs.filter fun r => a.formed.contains r.inp && credit r && (r.urgent || Tbl.get 0 a.back r.inp ≤ c)
  let none' := { a with owner := none, burst := 0 }
  match a.owner with
  | none => (a.contest c el, false)
  | some o =>
    match reqs.find? fun r => r.inp == o with
    | none => (none'.contest c el, false)
    | some r =>
      if limit ≤ a.burst then (none'.contest c el, false)
      else if !credit r then ({ none' with kept := Tbl.set 0 a.kept o a.burst }.contest c el, false)
      else match firstReq (el.filter fun q => q.inp != o) with
        | some q =>
          if (q.urgent && !r.urgent) || ((q.urgent || !r.urgent) && (margin : Int) < r.d - q.d) then
            ({ a with owner := some q.inp, burst := Tbl.get 0 a.kept q.inp,
                      kept := Tbl.set 0 (Tbl.set 0 a.kept q.inp 0) o a.burst }, true)
          else (a, false)
        | none => (a, false)

/-- The next flit of a source: what stays in the queue, the records wholly sent with it, and whether it holds a byte of a class L record
(08_result_fabric R285, R301). `room` is what is left of the 64 bytes. -/
def flit : Nat → List QRec → List QRec × List QRec × Bool
  | _, [] => ([], [], false)
  | room, r :: rs =>
    if room == 0 then (r :: rs, [], false)
    else if r.bytes - r.sent ≤ room then
      let f := flit (room - (r.bytes - r.sent)) rs
      (f.1, { r with sent := r.bytes } :: f.2.1, f.2.2 || !r.cls)
    else ({ r with sent := r.sent + room } :: rs, [], !r.cls)

/-- The flit with its class: in a class L flit every byte counts as class L (08_result_fabric R301). -/
def flitOf (q : List QRec) : List QRec × List QRec × Bool :=
  let f := flit 64 q
  let mark := fun (p : QRec × QRec) => if f.2.2 then { p.1 with lb := p.2.lb + (p.1.sent - p.2.sent) } else p.1
  let all := ((f.2.1 ++ f.1).zip q).map mark
  (all.drop f.2.1.length, all.take f.2.1.length, f.2.2)

/-- The bridge grants a credit of the class of the flit the source would send next: class L while any byte is free, class C below C_LIMIT
(08_result_fabric R301). -/
def State.credit (s : State) (r : Req) : Bool :=
  if (flitOf (s.queue r.src)).2.2 then s.fillL + s.fillC < 0x100000 else s.fillC < s.regF 0x100010 31 24 * 4096

/-- The line item of a dropped or lost kernel record ends: tile of the slot that sent it. -/
def State.endItem (s : State) (failed : Bool) (reason src : Nat) (ws : List W64) : State :=
  let n := recLine ws
  let tile := (s.eng src).tile
  match s.line n with
  | some l => s.coverCh failed reason 0 n tile tile (recCh ws) l
  | none => s

/-- Drop the class C records of a slot queue whose deadline has passed, or that stand before a class L record of an urgent queue, one that waits in a
blocked RSEND included (08_result_fabric R298, R299, R302). -/
def State.dropC (s : State) (e : Nat) : State :=
  let q := s.queue e
  let urgent := s.urgentSrc e
  let marked := (List.range q.length).zip q |>.map fun p =>
    (p.2, p.2.cls && p.2.sent == 0 && (s.left p.2.dl ≤ 0 || (urgent && (s.blockedL e || (q.drop (p.1 + 1)).any fun r => !r.cls))))
  let gone := (marked.filter (·.2)).map (·.1)
  gone.foldl (fun s r => (s.endItem false 0x06 e r.ws).modChan (recCh r.ws) fun c => { c with drop := c.drop + 1 })
    (if gone.isEmpty then s else s.setQueue e ((marked.filter fun p => !p.2).map (·.1)))

/-- A source sends one flit into the spine (08_result_fabric R285, R286, R301). -/
def State.sendFlit (s : State) (src : Nat) : State :=
  let old := s.queue src
  let f := flitOf old
  let n := fun (l : List QRec) => (l.map (·.sent)).sum
  let moved := n f.1 + n f.2.1 - n old
  (s.setQueue src f.1).modFab fun x => { x with
    spine := x.spine ++ f.2.1.map (fun r => (src, s.now, r)),
    fillL := if f.2.2 then x.fillL + moved else x.fillL, fillC := if f.2.2 then x.fillC else x.fillC + moved,
    spL := if f.2.2 then x.spL + 1 else x.spL, spC := if f.2.2 then x.spC else x.spC + 1 }

def State.arb (s : State) (i : Nat) : Arb := Tbl.get Arb.fresh s.fab.arb i
def State.setArb (s : State) (i : Nat) (a : Arb) : State := s.modFab fun f => { f with arb := Tbl.set Arb.fresh f.arb i a }

/-- Burst limit of a level: 0 means 64 (08_result_fabric RF_BURST). -/
def State.burstLimit (s : State) (top : Bool) : Nat :=
  let v := if top then s.regF 0x100008 25 20 else s.regF 0x100008 31 26
  if v == 0 then 64 else v

/-- Requests at a stripe arbiter, and at the top arbiter: supervisor, capture, then the stripes, each with the request of input `owner k`
(08_result_fabric R284, R290). -/
def State.stripeReqs (s : State) (k : Nat) : List Req := (List.range 33).filterMap fun i => s.request i (33 * k + i)
def State.topReqs (s : State) (owner : Nat → Option Nat) : List Req :=
  (s.request 0 supSrc).toList ++ (s.request 1 capSrc).toList ++
    (List.range 32).filterMap fun k => match owner k with
      | some i => s.request (k + 2) (33 * k + i)
      | none => none

/-- One cycle of stripe arbiter `k` (08_result_fabric R292 to R296). -/
def State.stripeCycle (s : State) (k c : Nat) : Arb × Bool :=
  (s.arb k).cycle c (s.burstLimit false) (8 * s.regF 0x100000 31 20) (s.stripeReqs k) fun _ => true

/-- The input that stripe arbiter `k` would serve in cycle `c`: its owner, or the winner of the contest it would hold (08_result_fabric R290). -/
def State.serves (s : State) (c k : Nat) : Option Nat := (s.stripeCycle k c).1.owner

/-- ARBITRATION_CYCLE (08_result_fabric R286, R290 to R296, R298). -/
def execArbitrationCycle (t : Time) (s : State) : Host.Outcome State Fault Refusal :=
  inRun t s fun s =>
    if s.clk.gated then s
    else
      let c := s.fab.cyc
      let s := s.fab.q.foldl (fun s p => if p.1 < 1056 then s.dropC p.1 else s) s
      let margin := 8 * s.regF 0x100000 31 20
      let s := (List.range 32).foldl (fun s k =>
        let r := s.stripeCycle k c
        (s.setArb k r.1).modFab fun f => { f with preS := if r.2 then f.preS + 1 else f.preS }) s
      let top := s.topReqs fun k => (s.arb k).owner
      let r := (s.arb 32).cycle c (s.burstLimit true) margin top s.credit
      let s := (s.setArb 32 r.1).modFab fun f => { f with preT := if r.2 then f.preT + 1 else f.preT }
      let s := match r.1.owner.bind fun o => top.find? fun q : Req => q.inp == o with
        | some q =>
          let s := (s.sendFlit q.src).setArb 32 { r.1 with burst := r.1.burst + 1 }
          if q.inp < 2 then s
          else
            let a := s.arb (q.inp - 2)
            s.setArb (q.inp - 2) { a with burst := a.burst + 1 }
        | none => s
      let s := (List.range 32).foldl (fun s k =>
        let a := s.arb k
        s.setArb k { a with formed := (s.stripeReqs k).map Req.inp }) s
      let s := s.setArb 32 { s.arb 32 with formed := (s.topReqs (s.serves (c + 1))).map Req.inp }
      s.modFab fun f => { f with cyc := c + 1 }

/-- CLASS_C_DROP (08_result_fabric R298, R299). -/
def execClassCDrop (t : Time) (e : Nat) (s : State) : Host.Outcome State Fault Refusal :=
  inRun t s fun s => if e < 1056 && !s.clk.gated then s.dropC e else s

/-! Reassembly at the bridge. -/

/-- The channel takes the record: a kernel record of a line that its ring takes; a device record staged since its START took effect, or, from before,
of the start line or a later one. EN was tested as the record entered its queue (07_kernels_records R276; 08_result_fabric R304, R306;
09_host_link R318, R334). -/
def State.takes (s : State) (r : QRec) : Bool :=
  let ch := recCh r.ws
  let g := s.ring ch
  if r.dev then (g.st == 1 || g.st == 2) &&
    (if g.carry then reached r.t g.effT || g.startLine ≤ recLine r.ws else s.tick.line.toNat ≤ recLine r.ws)
  else s.ringTakes ch (recLine r.ws)

/-- A kernel record fails its integrity check (14_faults R482). -/
def State.lostKernel (s : State) (src : Nat) (ws : List W64) : State :=
  (s.modFlt fun f => { f with recs := f.recs + 1 }).endItem true 0x09 src ws

/-- A device record fails its check: it is made once more; a second failure is logged (14_faults R483). -/
def State.lostDevice (s : State) (r : QRec) : State :=
  let ws := r.ws.dropLast ++ [trailer r.ws.dropLast]
  if s.flt.remadeOf.contains ws then
    (s.modFlt fun f => { f with remadeOf := f.remadeOf.erase ws }).logEvent 0x02 3 (recCh ws) (recType ws) (recLine ws)
  else (s.modFlt fun f => { f with remade := f.remade + 1, remadeOf := f.remadeOf ++ [ws] }).stage ws

/-- A whole record reaches the bridge: LATE and its count, slack, and the channel's counts. A STAT contribution waits there for its line's other ones and
is not delivered; it counts as a record all the same (07_kernels_records R268; 08_result_fabric R284, R300, RF_CH; log entry 97). -/
def State.enterEgress (s : State) (src : Nat) (sent : Time) (r : QRec) : State :=
  let ch := recCh r.ws
  let d := (r.dl - sent.setWidth 32).toInt
  let late := !r.cls && d < 0
  let ws := if late then recLate r.ws else r.ws
  let s := s.modChan ch fun c => { c with
    recs := c.recs + 1, bytes := c.bytes + BitVec.ofNat 64 r.bytes, late := if late then c.late + 1 else c.late,
    slack := if r.cls then c.slack else min c.slack (max (-0x40000000) (d / 2)) }
  s.modFab fun f =>
    if r.contrib then { f with contrib := f.contrib ++ [contribOf r.ws (recLine r.ws) (s.eng src).tile] }
    else { f with egress := f.egress ++ [{ r := { r with ws := ws }, src := src, t := s.now }] }

/-- RECORD_REASSEMBLED: the oldest record of the source that has left the spine, while the fabric clock runs (08_result_fabric R287, R300, R304;
10_clocks R348, R360; 14_faults R473, R482, R483; 09_host_link R334). `ue`: an uncorrectable error struck it on the way; `bad`: its trailer fails as received. -/
def execRecordReassembled (t : Time) (src : Nat) (ue bad : Bool) (s : State) : Host.Outcome State Fault Refusal :=
  inRun t s fun s =>
    match (if s.clk.gated then none else s.fab.spine.find? fun p => p.1 == src) with
    | none => s
    | some p =>
      let r := p.2.2
      let s := s.modFab fun f => { f with spine := f.spine.erase p, fillL := f.fillL - r.lb, fillC := f.fillC - (r.bytes - r.lb) }
      let ch := recCh r.ws
      let hitUe := ue || r.ue
      let s := if hitUe then
          (s.modFlt fun f => { f with ue := f.ue + 1 }).logEvent 0x08 3 (if r.ue then 0 else 2) (if r.ue then src else 0) ch
        else s
      let s := if r.dev then s.modFlt fun f => if hitUe || bad || !recOk r.ws then f else { f with remadeOf := f.remadeOf.erase r.ws } else s
      if hitUe || bad || !recOk r.ws then
        if r.dev then s.lostDevice r
        else
          let s := if hitUe then s else s.logEvent 0x08 4 ch (recLine r.ws) (s.eng src).tile
          s.lostKernel src r.ws
      else if !s.takes r then (if r.dev then s.modChan ch fun c => { c with dis := c.dis + 1 } else s.loseRec (recLine r.ws) (s.eng src).tile ch)
      else s.enterEgress src p.2.1 r

/-- A write to RF_CH_SLACK (08_result_fabric RF_CH_SLACK). -/
def State.slackWrite (s : State) (ch : Nat) (v : W32) : State :=
  if bit v 0 then s.modChan ch fun c => { c with slack := 0x3FFFFFFF } else s

/-- SLACK_CLEAR (08_result_fabric RF_CH_SLACK). -/
def execSlackClear (t : Time) (ch : Nat) (w : Wr) (s : State) : Host.Outcome State Fault Refusal :=
  if ch < 16 then regCmd t (0x101028 + 0x100 * ch) w s fun v s => s.slackWrite ch v else timed t s id

/-! CLOSE (07_kernels_records R279). -/

/-- Some record of the channel for a line up to `c` is still on its way. -/
def State.onWay (s : State) (ch c : Nat) : Bool :=
  let hit := fun (r : QRec) => recCh r.ws == ch && recLine r.ws ≤ c
  s.fab.q.any (fun p => p.2.any hit) || s.fab.spine.any (fun p => hit p.2.2) || s.fab.egress.any (fun r => hit r.r) ||
    s.fab.paused.any hit || s.fab.contrib.any fun x => x.ch == ch && x.line ≤ c

/-- Some line item of the channel for a line up to `c` has not ended. -/
def State.openUpTo (s : State) (ch c : Nat) : Bool :=
  s.fab.lines.any fun p => match p.2 with
    | some l => p.1 ≤ c && l.items && l.chans.getLsbD ch && s.carries ch p.1 && !l.closed
    | none => false

/-- Line items of the channel ended FAILED or GAP over lines after the previous CLOSE up to `c`. -/
def State.hurtItems (s : State) (ch c : Nat) : Nat :=
  ((s.fab.covers.filter fun x => x.chans.getLsbD ch && x.line ≤ c && (match (s.chan ch).closed with | some p => decide (p < x.line) | none => true)).map
    fun x => x.t1 + 1 - x.t0).sum

/-- The CLOSE record for line `c`: it counts the records with LINE after the previous CLOSE, up to `c` (07_kernels_records R272, R279). No rule gives the tiles, entry and chain of its header: a free value (log entry 3). -/
def State.closeRec (s : State) (ch c : Nat) : List W64 :=
  let n := ((s.chan ch).since.filter fun x => x ≤ c && (match (s.chan ch).closed with | some p => decide (p < x) | none => true)).length
  let enc := ((s.line c).map (·.enc)).getD 0
  recWords 0x0C ch c enc s.arrayNow (Config.freeValue s.free).toNat 0 0 [pack 64 [(2, 56), (ch, 0)], pack 64 [(n, 32), (s.hurtItems ch c % 2 ^ 32, 0)]]

/-- The counts begin again after line `c`. -/
def State.closed (s : State) (ch c : Nat) : State :=
  s.modChan ch fun x => { x with closed := some c, since := x.since.filter fun n => c < n }

/-- CLOSE: the due CLOSE of the channel, once every record and item up to its line is accounted for and the lock-monitor window of its tick has
passed (07_kernels_records R279, 10_clocks R356). -/
def execClose (t : Time) (ch : Nat) (s : State) : Host.Outcome State Fault Refusal :=
  inRun t s fun s =>
    match s.fab.closeDue.find? fun p => p.1 == ch with
    | some p =>
      let c := p.2
      let old := match s.line c with
        | some l => 2000 ≤ since s.now l.t
        | none => true
      if s.onWay ch c || s.openUpTo ch c || s.clk.gated || s.clk.intr.isSome || !old || s.flt.faulted then s
      else
        let s := s.modFab fun f => { f with closeDue := f.closeDue.erase p }
        if s.chanOn ch then ((s.stage (s.closeRec ch c)).closed ch c).useFree else s
    | none => s

end Machine
end Sys2Proof
end

