-- ==== Sys2Proof/Machine/HostLink.lean ====
section
/-! DEFINITION. The host link: host rings, descriptors, placement, FILL and padding, the completion word, starvation, configuration requests, BAR2
and the resets of the function (09_host_link). -/

namespace Sys2Proof
namespace Machine

/-- Offset of a register of channel `ch`. -/
def chOff (ch o : Nat) : Nat := 0x101000 + 0x100 * ch + o

/-! The stream (09_host_link R323 to R325). -/

/-- A FILL record of `p` bytes (07_kernels_records R273). -/
def fillRec (ch p : Nat) : List W64 := recWords 0x0F ch 0 0 0 0 0 0 (List.replicate (p / 8 - 5) 0)

/-- Space left in the current buffer; none with no descriptor. -/
def Ring.space (r : Ring) : Option Nat := r.desc.head?.map fun d => d.2 - r.used

/-- A record of `b` bytes may go into the current buffer (09_host_link R324). -/
def Ring.fits (r : Ring) (b : Nat) : Bool :=
  match r.space with
  | some S => b == S || b + 40 ≤ S || (r.used == 0 && S < b + 40 && b < S)
  | none => false

/-- The ring has space for a record of `b` bytes: in the current buffer or in the next one. -/
def Ring.room (r : Ring) (b : Nat) : Bool := r.fits b || 1 < r.desc.length

/-- Max Payload Size in force, in bytes: 128, 256 or 512 (09_host_link R307). -/
def State.maxPayload (s : State) : Nat := 128 * 2 ^ min 2 (fld s.host.devCtl 7 5)

/-- Write bytes to host memory: in TLPs of at most Max Payload Size that cross no 4 KiB boundary (09_host_link R323). -/
def State.memWrite (s : State) (ro : Bool) (a : W64) (bs : List Byte) : Nat → State
  | 0 => s
  | fuel + 1 =>
    if bs.isEmpty then s
    else
      let n := min s.maxPayload (4096 - a.toNat % 4096)
      (s.emit (.memWr a (bs.take n) ro)).memWrite ro (a + BitVec.ofNat 64 n) (bs.drop n) fuel

/-- Words as bytes in host memory, little-endian (00_scope R8). -/
def wordsLE (ws : List W64) : List Byte := ws.flatMap fun w => bytesLE 8 w

/-- Record data of a channel may be written with relaxed ordering: Device Control and RO_EN permit it (09_host_link R307). -/
def State.relaxed (s : State) (ch : Nat) : Bool := bit s.host.devCtl 4 && bit (s.reg (chOff ch 0x40)) 24

/-- Append words to the stream: whole 64-byte blocks are written, and a buffer filled to its end is closed (09_host_link R320, R323, R327). -/
def State.put (s : State) (ch : Nat) (ws : List W64) : State :=
  let r := s.ring ch
  match r.desc with
  | [] => s
  | (a, len) :: ds =>
    let all := r.part ++ ws
    let k := all.length / 8 * 8
    let addr := a + BitVec.ofNat 64 (r.used - 8 * r.part.length)
    let s := s.memWrite (s.relaxed ch) addr (wordsLE (all.take k)) (k / 8)
    let used := r.used + 8 * ws.length
    let now := s.now
    s.modRing ch fun r =>
      let r := { r with part := all.drop k, used := used, prod := r.prod + 8 * ws.length, oldest := some (r.oldest.getD now) }
      if len ≤ used then { r with used := 0, head := (r.head + 1) % 65536, desc := ds, wbDue := true } else r

/-- Place a record: in the current buffer, with a tail where fewer than 40 bytes would be left of an empty one, else after a FILL record in the
next; a record longer than the buffers it is offered fills each of them (09_host_link R324). The Bool says that it was placed. -/
def State.place (s : State) (ch : Nat) (ws : List W64) : Nat → State × Bool
  | 0 => (s, false)
  | fuel + 1 =>
    let r := s.ring ch
    let b := 8 * ws.length
    match r.space with
    | none => (s, false)
    | some S =>
      if b == S || b + 40 ≤ S then (s.put ch ws, true)
      else if r.used == 0 && S < b + 40 && b < S then (s.put ch (ws ++ List.replicate ((S - b) / 8) 0), true)
      else (s.put ch (fillRec ch S)).place ch ws fuel

/-- Pad the stream to a 64-byte boundary, or to the end of the buffer (09_host_link R325). -/
def State.padStream (s : State) (ch : Nat) : State :=
  let r := s.ring ch
  let g := 64 - r.prod % 64
  match r.space with
  | some S =>
    if g == 64 then s
    else
      let p := if 40 ≤ g then g else g + 64
      s.put ch (fillRec ch (if S == p || p + 40 ≤ S then p else S))
  | none => s

/-! The completion word (09_host_link R326 to R329). -/

def State.cwb (s : State) (ch : Nat) : W64 := s.reg (chOff ch 0x60) ++ s.reg (chOff ch 0x58)

/-- HOLDOFF of a channel in units of 0.5 ns. -/
def State.holdoff (s : State) (ch : Nat) : Nat := 2000 * s.regF (chOff ch 0x80) 15 0

/-- The message of a channel's vector after a completion word, unless the holdoff withholds it (09_host_link R329). -/
def State.chanIrq (s : State) (ch : Nat) : State :=
  if !bit (s.reg (chOff ch 0x40)) 25 then s
  else
    let r := s.ring ch
    let early := match r.irqT with
      | some x => decide (since s.now x < s.holdoff ch)
      | none => false
    if early then s.modRing ch fun r => { r with irqHeld := true }
    else (s.modRing ch fun r => { r with irqHeld := false }).msix ch

/-- Pad, and write the completion word (09_host_link R325, R326). -/
def State.writeback (s : State) (ch : Nat) : State :=
  let s := (s.padStream ch).modRing ch fun r => { r with tag := r.tag + 1, rep := r.prod, oldest := none, wbDue := false }
  let r := s.ring ch
  (s.emit (.memWr (s.cwb ch) (bytesLE 8 (pack 64 [(r.tag.toNat, 56), (3, 54), (r.st, 51), (r.prod % 2 ^ 48, 0)])) false)).chanIrq ch

/-- A writeback is due (09_host_link R327). -/
def State.wbReady (s : State) (ch : Nat) : Bool :=
  let r := s.ring ch
  let new := r.prod - r.rep
  let b := s.regF (chOff ch 0x78) 31 16
  r.wbDue || (new != 0 && (b == 0 || 4096 * b ≤ new)) ||
    match r.oldest with
    | some x => decide (200 * s.regF (chOff ch 0x78) 15 0 ≤ since s.now x)
    | none => false

/-- WRITEBACK (09_host_link R327). -/
def execWriteback (t : Time) (ch : Nat) (s : State) : Host.Outcome State Fault Refusal :=
  timed t s fun s =>
    let r := s.ring ch
    if ch < 16 && (r.st == 1 || r.st == 2) && s.host.bme && s.wbReady ch then s.writeback ch else s

/-- IRQ_HOLDOFF_END (09_host_link R329). -/
def execIrqHoldoffEnd (t : Time) (ch : Nat) (s : State) : Host.Outcome State Fault Refusal :=
  timed t s fun s =>
    match (s.ring ch).irqT with
    | some x =>
      if ch < 16 && (s.ring ch).irqHeld && s.holdoff ch ≤ since s.now x then
        (s.modRing ch fun r => { r with irqHeld := false }).msix ch
      else s
    | none => s

/-! Descriptors (09_host_link R319 to R322). -/

/-- Entries of the ring. -/
def State.entries (s : State) (ch : Nat) : Nat := 2 ^ (s.regF (chOff ch 0x40) 29 26 + 6)

def State.tail (s : State) (ch : Nat) : Nat := s.regF (chOff ch 0x68) 15 0

/-- Address of a descriptor. -/
def State.descAddr (s : State) (ch x : Nat) : W64 :=
  (s.reg (chOff ch 0x50) ++ s.reg (chOff ch 0x48)) + BitVec.ofNat 64 (16 * (x % s.entries ch))

/-- Fetch posted descriptors: at most 256 B in a request, at most 16 descriptors ahead of HEAD (09_host_link R322). -/
def State.fetchDesc (s : State) (ch : Nat) : State :=
  let r := s.ring ch
  let ahead := (r.fetch + 65536 - r.head) % 65536
  let n := min (min ((s.tail ch + 65536 - r.fetch) % 65536) (16 - ahead)) (s.entries ch - r.fetch % s.entries ch)
  if (r.st == 1 || r.st == 2) && r.inFl.isNone && n != 0 && s.host.bme then
    (s.modRing ch fun r => { r with inFl := some (r.fetch, n, false) }).emit (.memRd (s.descAddr ch r.fetch) (16 * n))
  else s

/-- The channel's records in the egress buffer are discarded and counted; no CLOSE of the channel is due any more (09_host_link R333, R345). -/
def State.discardEgress (s : State) (ch : Nat) : State :=
  let gone := s.fab.egress.filter fun r => recCh r.r.ws == ch
  (s.modChan ch fun c => { c with dis := c.dis + BitVec.ofNat 16 gone.length }).modFab fun f =>
    { f with egress := f.egress.filter fun r => recCh r.r.ws != ch, closeDue := f.closeDue.filter fun p => p.1 != ch }

/-- The ring leaves RUNNING and STOPPING: nothing is carried or fetched any more. -/
def Ring.halt (r : Ring) (st : Nat) : Ring :=
  { r with st := st, desc := [], fetch := r.head, inFl := none, part := [], used := 0, oldest := none, wbDue := false, startT := none, carry := false,
           stop := none }

/-- A completion word that carries `st`, written while the ring leaves RUNNING or STOPPING, only with Bus Master Enable. -/
def State.lastWord (s : State) (ch st : Nat) : State :=
  if s.host.bme then (s.modRing ch fun r => { r with st := st }).writeback ch else s

/-- The ring of a RUNNING channel enters FAULT (09_host_link R322, R333; 14_faults R492). -/
def State.ringFault (s : State) (ch code : Nat) : State :=
  if (s.ring ch).st != 1 then s
  else
    let s := (s.discardEgress ch).modRing ch fun r => { r with fault := code }
    ((s.lastWord ch 3).modRing ch fun r => r.halt 3).logEvent 0x08 2 ch code 0

/-- The first descriptor of a fetch that breaks R319: its fault code; else the descriptors. -/
def checkDescs : List (W64 × W64) → Sum Nat (List (W64 × Nat))
  | [] => .inr []
  | (w0, w1) :: r =>
    let len := fld w1 31 0
    if fld w0 11 0 != 0 then .inl 3
    else if fld w1 63 32 != 0 || len % 4096 != 0 || len < 4096 || 16777216 < len then .inl 4
    else match checkDescs r with
      | .inl c => .inl c
      | .inr ds => .inr ((w0, len) :: ds)

/-- DESCRIPTOR_FETCH_DONE: a Completion Timeout and a poisoned completion are reported through AER (09_host_link R311, R322). -/
def execDescriptorFetchDone (t : Time) (ch : Nat) (r : FetchEnd) (s : State) : Host.Outcome State Fault Refusal :=
  timed t s fun s =>
    match (s.ring ch).inFl with
    | none => s
    | some (x, n, again) =>
      match r with
      | .error poison => (if poison then s.aer 12 else s).ringFault ch 2
      | .timeout =>
        let s := s.aer 14
        if again then s.ringFault ch 1
        else (s.modRing ch fun r => { r with inFl := some (x, n, true) }).emit (.memRd (s.descAddr ch x) (16 * n))
      | .data ws =>
        match checkDescs (ws.take n) with
        | .inl code => s.ringFault ch code
        | .inr ds =>
          (s.modRing ch fun r => { r with inFl := none, desc := r.desc ++ ds, fetch := (r.fetch + ds.length) % 65536 }).fetchDesc ch

/-! Serving the egress buffer (09_host_link R330, R331). -/

/-- The record that the channel writes next, with the space for it. -/
def State.nextOut (s : State) (ch : Nat) : Option ERec :=
  match s.fab.egress.find? fun r => recCh r.r.ws == ch with
  | some r => if ((s.ring ch).st == 1 || (s.ring ch).st == 2) && (s.ring ch).room (8 * r.r.ws.length) then some r else none
  | none => none

/-- Record `a` goes before record `b`: device and class L records before class C ones, then the nearer deadline (09_host_link R330). -/
def State.before (s : State) (a b : ERec) : Bool :=
  if a.r.cls != b.r.cls then b.r.cls else s.left a.r.dl < s.left b.r.dl

/-- The header line of a record counts toward the channel's next CLOSE: every record but CLOSE and FILL (07_kernels_records R279). -/
def countsLine (ws : List W64) : Bool := !(recType ws == 0x0C && fld (ws.getD 4 0) 63 56 == 2)

/-- EGRESS_WRITE: the channel's oldest record goes into its ring, in the order of R330; `ue`: an uncorrectable error strikes it in the egress buffer,
whose offset no rule gives, a free value (09_host_link R330; 14_faults R482, R483, R492; log entry 3). -/
def execEgressWrite (t : Time) (ch : Nat) (ue : Bool) (s : State) : Host.Outcome State Fault Refusal :=
  timed t s fun s =>
    match s.nextOut ch with
    | none => s
    | some r =>
      let first := (List.range 16).all fun c => match s.nextOut c with
        | some q => !s.before q r
        | none => true
      if !first || !s.host.bme || ch ≥ 16 || s.clk.gated then s
      else
        let out := s.modFab fun f => { f with egress := f.egress.erase r }
        if ue then
          let off := (Config.freeValue s.free).toNat % 2 ^ 20
          let s1 := (out.useFree.modFlt fun f => { f with ue := f.ue + 1 }).logEvent 0x08 1 off 0 0
          if r.r.dev then s1.lostDevice r.r else s1.lostKernel r.src r.r.ws
        else
          let p := out.place ch r.r.ws ((s.ring ch).desc.length + 1)
          if p.2 then
            (p.1.modChan ch fun c => { c with since := if countsLine r.r.ws then c.since ++ [recLine r.r.ws] else c.since }).fetchDesc ch
          else (p.1.modFab fun _ => s.fab).fetchDesc ch

/-- STARVED_DROP: the channel's oldest class C record that has waited C_GRACE on a starved ring (09_host_link R331; 07_kernels_records R269). -/
def execStarvedDrop (t : Time) (ch : Nat) (s : State) : Host.Outcome State Fault Refusal :=
  timed t s fun s =>
    match s.fab.egress.find? fun r => recCh r.r.ws == ch && r.r.cls && !r.r.dev with
    | some r =>
      if ch < 16 && ((s.ring ch).st == 1 || (s.ring ch).st == 2) && s.starved ch && 2000 * s.regF 0x104000 31 24 ≤ since s.now r.t then
        ((s.modFab fun f => { f with egress := f.egress.erase r }).modRing ch fun g => { g with noDesc := g.noDesc + 1 }).endItem
          false 0x07 r.src r.r.ws
      else s
    | none => s

/-! Ring states (09_host_link R333, R334, R546). -/

/-- START of an IDLE ring: PRODUCED and HEAD are 0, and the first completion word is written. -/
def State.ringStart (s : State) (ch : Nat) : State :=
  let now := s.now
  let s := s.modRing ch fun r =>
    { Ring.fresh with st := 1, tag := r.tag, irqT := r.irqT, irqHeld := r.irqHeld, startLine := r.startLine, startT := some now, fault := r.fault,
                      noDesc := r.noDesc }
  (if s.host.bme then s.writeback ch else s).fetchDesc ch

/-- STOP of a RUNNING ring: no line is carried from the next tick on. -/
def State.ringStop (s : State) (ch : Nat) : State :=
  let now := s.now
  let next := s.tick.line.toNat
  let s := s.modRing ch fun r => { r with st := 2, stop := some (now, next), startT := none }
  if s.host.bme then s.writeback ch else s

/-- A write to RF_CH_RING_CTL (09_host_link R333, R347, R546). -/
def State.ringCtlWrite (s : State) (ch : Nat) (w : Wr) (v : W32) : State :=
  let off := chOff ch 0x40
  let st := (s.ring ch).st
  let addrs := (s.reg (chOff ch 0x48) != 0 || s.reg (chOff ch 0x50) != 0) && (s.reg (chOff ch 0x58) != 0 || s.reg (chOff ch 0x60) != 0)
  if 10 < fld v 29 26 then s.reject 3 w.src off
  else if st != 0 && fld v 29 26 != s.regF off 29 26 then s.reject 4 w.src off
  else if bit v 31 && st == 0 && !addrs then s.reject 3 w.src off
  else
    let s := s.storeReg off v
    if bit v 31 && st == 0 then s.ringStart ch
    else if bit v 30 && st == 1 then s.ringStop ch
    else if bit v 30 && st == 3 then s.modRing ch fun r => { r with st := 0 }
    else s

/-- RING_START (09_host_link R333, R546). -/
def execRingStart (t : Time) (ch : Nat) (w : Wr) (s : State) : Host.Outcome State Fault Refusal :=
  if ch < 16 then regCmd t (chOff ch 0x40) w s fun v s => s.ringCtlWrite ch w v else timed t s id

/-- RING_STOP (09_host_link R333). -/
def execRingStop (t : Time) (ch : Nat) (w : Wr) (s : State) : Host.Outcome State Fault Refusal :=
  if ch < 16 then regCmd t (chOff ch 0x40) w s fun v s => s.ringCtlWrite ch w v else timed t s id

/-- RING_START_EFFECT: no tick within 1 us of the START; the next tick is the start tick (09_host_link R334; 10_clocks R360). -/
def execRingStartEffect (t : Time) (ch : Nat) (s : State) : Host.Outcome State Fault Refusal :=
  timed t s fun s =>
    match (s.ring ch).startT with
    | some x => if ch < 16 && 2000 ≤ since s.now x && s.settled then s.startEffect ch s.tick.line.toNat s.now else s
    | none => s

/-- The ring goes IDLE after STOPPING, with a completion word. -/
def State.ringIdle (s : State) (ch : Nat) : State := (s.lastWord ch 0).modRing ch fun r => r.halt 0

/-- STOPPING_DRAINED: every record of the carried lines is written; the CLOSE of the last carried line goes into the ring, unless it has been sent
(09_host_link R333; 07_kernels_records R279). -/
def execStoppingDrained (t : Time) (ch : Nat) (s : State) : Host.Outcome State Fault Refusal :=
  timed t s fun s =>
    match (s.ring ch).stop with
    | some (_, l) =>
      let c := l - 1
      let any := (s.ring ch).carry && (s.ring ch).startLine < l
      let old := match s.line c with
        | some x => decide (2000 ≤ since s.now x.t)
        | none => true
      if (s.ring ch).st != 2 || ch ≥ 16 || s.noTicks then s
      else if !any then s.ringIdle ch
      else if s.onWay ch c || s.openUpTo ch c || !old || s.fab.closeDue.any (fun p => p.1 == ch && p.2 != c) then s
      else if (s.chan ch).closed == some c then s.ringIdle ch
      else
        let ws := s.closeRec ch c
        if s.host.bme && (s.ring ch).room (8 * ws.length) then
          let s1 := (s.useFree.place ch ws ((s.ring ch).desc.length + 1)).1
          let s2 := (s1.closed ch c).modChan ch fun x => { x with recs := x.recs + 1, bytes := x.bytes + BitVec.ofNat 64 (8 * ws.length) }
          (s2.modFab fun f => { f with closeDue := f.closeDue.filter fun p => p.1 != ch }).ringIdle ch
        else s
    | none => s

/-- STOPPING_TIMEOUT: 1 ms after STOP (09_host_link R333). -/
def execStoppingTimeout (t : Time) (ch : Nat) (s : State) : Host.Outcome State Fault Refusal :=
  timed t s fun s =>
    match (s.ring ch).stop with
    | some (x, _) => if ch < 16 && (s.ring ch).st == 2 && 2000000 ≤ since s.now x then (s.discardEgress ch).ringIdle ch else s
    | none => s

/-- A write to RF_CH_TAIL (09_host_link R321). -/
def State.tailWrite (s : State) (ch : Nat) (w : Wr) (v : W32) : State :=
  let off := chOff ch 0x68
  if s.entries ch - 1 < (fld v 15 0 + 65536 - (s.ring ch).head) % 65536 then s.reject 3 w.src off else (s.storeReg off v).fetchDesc ch

/-- TAIL_WRITE (09_host_link R321). -/
def execTailWrite (t : Time) (ch : Nat) (w : Wr) (s : State) : Host.Outcome State Fault Refusal :=
  if ch < 16 then regCmd t (chOff ch 0x68) w s fun v s => s.tailWrite ch w v else timed t s id

/-- A write to an address register of a ring: only in IDLE (09_host_link R333). -/
def State.ringAddrWrite (s : State) (ch o : Nat) (w : Wr) (v : W32) : State :=
  if (s.ring ch).st != 0 then s.reject 4 w.src (chOff ch o) else s.storeReg (chOff ch o) v

/-! Configuration requests (09_host_link R308 to R310). -/

/-- Bus Master Enable is cleared: every RUNNING ring enters FAULT (09_host_link R333). -/
def State.busOff (s : State) : State :=
  let s := s.modHost fun h => { h with bme := false }
  (List.range 16).foldl (fun s ch => s.ringFault ch 5) s

/-- BUS_MASTER_DISABLE (09_host_link R333). -/
def execBusMasterDisable (t : Time) (s : State) : Host.Outcome State Fault Refusal := timed t s State.busOff

/-- The ring is stopped as an FLR stops it: no completion word; the registers other than the state stay (09_host_link R342, R344). -/
def State.ringKill (s : State) (ch : Nat) : State := (s.discardEgress ch).modRing ch fun r => r.halt 0

def State.killRings (s : State) : State := (List.range 16).foldl State.ringKill s

/-- D3HOT_ENTRY: the rings stop (09_host_link R344). -/
def State.d3Enter (s : State) : State := if s.host.d3 then s else s.killRings.modHost fun h => { h with d3 := true }

def execD3hotEntry (t : Time) (s : State) : Host.Outcome State Fault Refusal := timed t s State.d3Enter

/-! Configuration space (09_host_link R307 to R311). -/

/-- The capability headers: offset, ID, next offset (09_host_link R310; that they are chained in the order of their offsets: log entry 100). -/
def capHeaders : List (Nat × Nat × Nat) :=
  [(0x100, 0x0001, 0x148), (0x148, 0x0003, 0x158), (0x158, 0x0019, 0x184), (0x184, 0x0025, 0x190), (0x190, 0x0026, 0x1C0), (0x1C0, 0x002A, 0x1F0),
   (0x1F0, 0x0031, 0x210), (0x210, 0x0027, 0x258), (0x258, 0x000B, 0x000)]

/-- A non-posted request of the function is outstanding (09_host_link R343). -/
def State.transPending (s : State) : Bool := (List.range 16).any fun ch => (s.ring ch).inFl.isSome

/-- The identification and the standard capabilities: what a dword reads as, and which of its bits are given (09_host_link R307, R308, R310; log entry
100). -/
def State.cfgLow (s : State) (off : Nat) : W32 × W32 :=
  let h := s.host
  if off == 0x00 then (0x32041F5C, 0xFFFFFFFF)
  else if off == 0x04 then (pack 32 [(h.memEn.toNat, 1), (h.bme.toNat, 2), (1, 20)], 0x00100006)
  else if off == 0x08 then (0x04800003, 0xFFFFFFFF)
  else if off == 0x10 || off == 0x18 then (4, 7)
  else if off == 0x2C then (BitVec.ofNat 32 ((0x3200 + Config.variant.toNat) * 65536 + 0x1F5C), 0xFFFFFFFF)
  else if off == 0x34 then (0x40, 0xFF)
  else if off == 0x3C then (0, 0xFF00)
  else if off == 0x40 then (0x5001, 0xFFFF)
  else if off == 0x44 then (if h.d3 then 0xB else 0x8, 0xB)
  else if off == 0x50 then (pack 32 [(0x7011, 0), (63, 16), (h.fnMask.toNat, 30), (h.msixEn.toNat, 31)], 0xFFFFFFFF)
  else if off == 0x54 then (0x00108000, 0xFFFFFFFF)
  else if off == 0x58 then (0x00109000, 0xFFFFFFFF)
  else if off == 0x70 then (0x00020010, 0x00FFFFFF)
  else if off == 0x74 then (0x10000022, 0x10000027)
  else if off == 0x78 then (pack 32 [(h.devCtl.toNat, 0), (s.transPending.toNat, 21)], 0x0020FFFF)
  else if off == 0x7C then (pack 32 [(6, 0), (16, 4), (2, 10)], 0xFFF)
  else if off == 0x80 then (pack 32 [(h.linkCtl.toNat, 0), (h.speed, 16), (h.width, 20)], 0x03FFFFFF)
  else (0, 0)

/-- The extended capabilities, as `State.cfgLow` (09_host_link R308, R310, R311; log entry 100). -/
def State.cfgHigh (s : State) (off : Nat) : W32 × W32 :=
  let h := s.host
  match capHeaders.find? fun c => c.1 == off with
  | some c => (pack 32 [(c.2.1, 0), (c.2.2, 20)], 0xFFF0FFFF)
  | none =>
    if off == 0x104 then (h.aerU, 0xFFFFFFFF)
    else if off == 0x108 then (h.aerUM, 0xFFFFFFFF)
    else if off == 0x10C then (h.aerUS, 0xFFFFFFFF)
    else if off == 0x110 then (h.aerC, 0xFFFFFFFF)
    else if off == 0x114 then (h.aerCM, 0xFFFFFFFF)
    else if off == 0x14C then (BitVec.ofNat 32 s.serial, 0xFFFFFFFF)
    else if off == 0x150 then (BitVec.ofNat 32 (s.serial / 2 ^ 32), 0xFFFFFFFF)
    else if off == 0x25C then (0x01010001, 0xFFFFFFFF)
    else if off == 0x260 then ((s.readWord 0x00).setWidth 32, 0xFFFFFFFF)
    else if off == 0x264 then ((s.readWord 0x08).setWidth 32, 0xFFFFFFFF)
    else (0, 0)

/-- The dword at an offset, and which of its bits are given; the rest follows the PCI Express base specification and is a free value here
(09_host_link R310; log entries 3 and 100). -/
def State.cfgWord (s : State) (off : Nat) : W32 × W32 := if off < 0x100 then s.cfgLow off else s.cfgHigh off

/-- The bits that the byte enables of a request cover. -/
def beMask (be : BitVec 4) : W32 :=
  pack 32 ((List.range 4).map fun i => (if be.getLsbD i then 0xFF else 0, 8 * i))

/-- Bus Master Enable is set: posted descriptors are fetched (09_host_link R322). -/
def State.busOn (s : State) : State :=
  (List.range 16).foldl State.fetchDesc (s.modHost fun h => { h with bme := true })

/-- A write to the Command register (09_host_link R309, R333). -/
def State.cmdWrite (s : State) (mem bme : Bool) : State :=
  let s := s.modHost fun h => { h with memEn := mem }
  if bme == s.host.bme then s else if bme then s.busOn else s.busOff

/-- A write to the Message Control of MSI-X: messages withheld by the masks are sent (09_host_link R329). -/
def State.msixCtl (s : State) (en mask : Bool) : State :=
  (List.range 64).foldl State.msixFree (s.modHost fun h => { h with msixEn := en, fnMask := mask })

/-! Resets of the function and link loss (09_host_link R342, R343). -/

/-- Offsets of the registers that a reset of the function resets: the rings', RF_B2_SEL and RF_RWIN_SEL. -/
def fnRegs : List Nat :=
  [0x104028, 0x104030] ++ (List.range 16).flatMap fun ch => [0x40, 0x48, 0x50, 0x58, 0x60, 0x68, 0x78, 0x80].map fun o => chOff ch o

/-- What every reset of the function does: configuration space at its defaults but for the sticky bits and link control, rings IDLE and their registers reset, fetches and remote reads discarded, a lock of the local function
released, and the event reported over Hinge (09_host_link R342; 03_sequence_table R121; 12_hinge_array PCIE_EVT). -/
def State.fnReset (s : State) (kind : Nat) : State :=
  let s := fnRegs.foldl (fun s off => s.putReg off (regReset off)) s.killRings
  let s := s.modHost fun h =>
    { h with ring := [], msix := [], pba := 0, cause := 0, memEn := false, bme := false, msixEn := false, fnMask := false, devCtl := 0x2010,
             d3 := false, rwin := [], rwait := [] }
  let s := if s.seq.held && !bit s.seq.src 6 then s.unlock else s
  if s.hpos.isSome then s.broadcast 0x0C 0 (BitVec.ofNat 64 kind) else s

/-- A function-level reset begins: link control and the sticky bits are kept (09_host_link R342, R343). -/
def State.flrStart (s : State) : State := (s.fnReset 1).modHost fun h => { h with flr := h.flr + 1, flrBusy := true }

/-- FLR (09_host_link R342, R343). -/
def execFlr (t : Time) (s : State) : Host.Outcome State Fault Refusal := timed t s State.flrStart

/-- FLR_COMPLETE (09_host_link R343). -/
def execFlrComplete (t : Time) (s : State) : Host.Outcome State Fault Refusal :=
  timed t s fun s => s.modHost fun h => { h with flrBusy := false }

/-- HOT_RESET (09_host_link R342). -/
def execHotReset (t : Time) (s : State) : Host.Outcome State Fault Refusal :=
  timed t s fun s => (s.fnReset 2).modHost fun h => { h with hot := h.hot + 1, flrBusy := false, linkCtl := 0 }

/-- LINK_DOWN (09_host_link R342). -/
def execLinkDown (t : Time) (s : State) : Host.Outcome State Fault Refusal :=
  timed t s fun s =>
    (s.fnReset 3).modHost fun h =>
      { h with down := h.down + 1, flrBusy := false, linkCtl := 0, dlUp := false, flit := false, speed := 0, width := 0 }

/-- PCIE_PERST_N: assertion; it is reported over Hinge as a link-down, the frame having no code of its own for it (09_host_link R342; log entry 31). -/
def execPciePerstN (t : Time) (s : State) : Host.Outcome State Fault Refusal :=
  timed t s fun s =>
    if s.host.perst then s
    else
      (s.fnReset 3).modHost fun h =>
        { h with perstN := h.perstN + 1, perst := true, ready := false, flrBusy := false, linkCtl := 0, dlUp := false, flit := false, speed := 0,
                 width := 0, aerU := 0, aerUM := HostLink.reset.aerUM, aerUS := HostLink.reset.aerUS, aerC := 0, aerCM := HostLink.reset.aerCM }

/-- What a configuration write does: `v` is the merged dword of the bytes that the request enables, `m` the bits it covers (09_host_link R307 to R311,
R342, R344). Initiating an FLR is a bit of Device Control. -/
def State.cfgWrite (s : State) (off : Nat) (m v : W32) : State :=
  let h := s.host
  let mix := fun (old : W32) => (old &&& ~~~m) ||| (v &&& m)
  if off == 0x04 then
    let x := mix (s.cfgLow 0x04).1
    s.cmdWrite (bit x 1) (bit x 2)
  else if off == 0x44 then
    let x := mix (s.cfgLow 0x44).1
    if fld x 1 0 == 3 then s.d3Enter else if fld x 1 0 == 0 then s.modHost fun h => { h with d3 := false } else s
  else if off == 0x50 then
    let x := mix (s.cfgLow 0x50).1
    s.msixCtl (bit x 31) (bit x 30)
  else if off == 0x78 then
    let x := mix (h.devCtl.setWidth 32)
    let s := s.modHost fun h => { h with devCtl := x.setWidth 16 &&& 0x7FFF }
    if bit x 15 then s.flrStart else s
  else if off == 0x80 then s.modHost fun h => { h with linkCtl := (mix (h.linkCtl.setWidth 32)).setWidth 16 }
  else if off == 0x104 then s.modHost fun h => { h with aerU := h.aerU &&& ~~~(v &&& m) }
  else if off == 0x108 then s.modHost fun h => { h with aerUM := mix h.aerUM }
  else if off == 0x10C then s.modHost fun h => { h with aerUS := mix h.aerUS }
  else if off == 0x110 then s.modHost fun h => { h with aerC := h.aerC &&& ~~~(v &&& m) }
  else if off == 0x114 then s.modHost fun h => { h with aerCM := mix h.aerCM }
  else s

/-- A configuration request that completes successfully. -/
def State.cfgDone (s : State) (req : CfgReq) : State :=
  match req with
  | .read off =>
    let r := s.cfgWord off
    s.useFree.emit (.cfg 0 (r.1 &&& r.2 ||| ((Config.freeValue s.free).setWidth 32 &&& ~~~r.2)))
  | .write off be v => (s.cfgWrite off (beMask be) v).emit (.cfg 0 0)

/-- CONFIG_REQUEST: Request Retry Status until the device is ready, which it is at the latest 100 ms after the later release and at a moment not
fixed before, and while an FLR runs (09_host_link R309, R343; log entry 4). -/
def execConfigRequest (t : Time) (req : CfgReq) (s : State) : Host.Outcome State Fault Refusal :=
  timed t s fun s =>
    if s.host.perst then s
    else if s.host.flrBusy then s.emit (.cfg 1 0)
    else if s.host.ready then s.cfgDone req
    else if 200000000 ≤ since s.now s.host.relT || s.chooses then
      ((if 200000000 ≤ since s.now s.host.relT then s else s.useFree).modHost fun h => { h with ready := true }).cfgDone req
    else s.useFree.emit (.cfg 1 0)

/-- BAR0_OVERLONG_READ (09_host_link R312). -/
def execBar0OverlongRead (t : Time) (off nb : Nat) (s : State) : Host.Outcome State Fault Refusal :=
  timed t s fun s => if 8 < off % 8 + nb then s.busRead off nb else s

/-! BAR2 (09_host_link R314 to R317). -/

/-- Write a byte of a staging region. -/
def HostLink.stage (h : HostLink) (off : Nat) (b : Byte) : HostLink :=
  if off < 0x2104000 then
    let k := (off - 0x2100000) / 4
    let sh := 8 * (off % 4)
    let w := Tbl.get 0 h.stImage k
    { h with stImage := Tbl.set 0 h.stImage k ((w &&& ~~~(0xFF#32 <<< sh)) ||| (b.setWidth 32 <<< sh)) }
  else { h with stParams := Tbl.set 0 h.stParams (off - 0x2104000) b }

/-- The bytes lie in a staging region (09_host_link R314). -/
def inStaging (off nb : Nat) : Bool :=
  (0x2100000 ≤ off && off + nb ≤ 0x2103C00) || (0x2104000 ≤ off && off + nb ≤ 0x2105000)

/-- BAR2_WRITE: into a staging region, not while TE_LOAD is busy, and under the rule of R313 only in RUN (09_host_link R309, R313, R315; log entry
30). -/
def execBar2Write (t : Time) (off nb : Nat) (v : W64) (s : State) : Host.Outcome State Fault Refusal :=
  timed t s fun s =>
    if !s.host.memEn then s.aer 20
    else if !s.running || s.te.loadBusy then s.reject 4 0 off
    else if nb ≤ 8 && inStaging off nb then
      (List.range nb).foldl (fun s i => s.modHost fun h => h.stage (off + i) (v.extractLsb' (8 * i) 8)) s
    else s.reject 6 0 off

/-- The engine that BAR2 names by index: by slot, or the one that serves the tile (09_host_link R314, R315). -/
def State.b2Engine (s : State) (i : Nat) (byTile : Bool) : Option Nat :=
  if byTile then (if i < 1024 then s.serving i else none) else if i < 1056 then some i else none

/-- A byte of data memory as BAR2 shows it, and whether its word has an uncorrectable error. The palette region shows the palette in force; the
calibration workspace shows what the supervisor's layout of it gives, free values here (05_calibration R165; 09_host_link R315; log entry 101). -/
def State.b2Data (s : State) (e a : Nat) : Byte × Bool :=
  let x := s.eng e
  let bad := x.dUe.contains (a / 8)
  if 0xC800 ≤ a && a < 0xD000 then ((s.palWord x ((a - 0xC800) / 4)).extractLsb' (8 * (a % 4)) 8, bad)
  else if 0xE000 ≤ a && a < 0xF000 then ((Config.freeValue (s.free + a)).setWidth 8, bad)
  else (s.dByte x a, bad)

/-- A byte that a BAR2 read returns, and whether it makes the completion poisoned (09_host_link R314, R315). -/
def State.bar2Byte (s : State) (off : Nat) : Byte × Bool :=
  let sel := s.reg 0x104028
  if !s.running then (0, false)
  else if off < 0x1000000 then
    match s.b2Engine (fld sel 31 21 + off / 0x10000) (bit sel 20) with
    | some e => s.b2Data e (off % 0x10000)
    | none => (0, false)
  else if off < 0x2000000 then
    let o := off - 0x1000000
    match s.b2Engine (fld sel 19 9 + o / 0x4000) (bit sel 8) with
    | some e =>
      let img := ((s.eng e).own.map (·.2)).getD s.te.image
      let k := o % 0x4000 / 4
      if k < 0xF00 then ((Tbl.get 0xFFFFFFFF img k).extractLsb' (8 * (off % 4)) 8, (s.eng e).iUe.contains k) else (0, false)
    | none => (0, false)
  else if off < 0x2100000 then
    let k := (off - 0x2000000) / 4
    ((Tbl.get 0x80000000 s.cal.master k).extractLsb' (8 * (off % 4)) 8, s.cal.masterUe.contains (k / 256))
  else if inStaging off 1 then
    if off < 0x2104000 then ((Tbl.get 0 s.host.stImage ((off - 0x2100000) / 4)).extractLsb' (8 * (off % 4)) 8, false)
    else (Tbl.get 0 s.host.stParams (off - 0x2104000), false)
  else (0, false)

/-- A BAR2 read waits: of the engines and the palette while the CPLL domains are gated, any during an APLL interruption (10_clocks R360, R363). -/
def State.stalls2 (s : State) (off : Nat) : Bool := (off < 0x2100000 && s.clk.gated) || s.clk.aGated.isSome

/-- The completion of a BAR2 read of `nb` bytes, poisoned where one of them has an uncorrectable error (09_host_link R315). -/
def State.bar2Data (s : State) (off nb : Nat) : State :=
  let bs := (List.range nb).map fun i => s.bar2Byte (off + i)
  { s.emit (.rdBar2 off (bs.map (·.1)) (bs.any (·.2))) with free := s.free + 0x10000 }

/-- A BAR2 read of `nb` bytes (09_host_link R309, R314, R315; 10_clocks R360, R363). -/
def State.bar2Read (s : State) (off nb : Nat) : State :=
  if !s.host.memEn then s.aer 20
  else if s.stalls2 off && s.running then
    s.modClk fun c => { c with wait := c.wait ++ [{ t := s.now, off := off, nb := nb, w := none, rem := none, bar2 := true }] }
  else s.bar2Data off nb

/-- PCIE_PERST_N_RELEASE: the 100 ms of R309 begin. -/
def execPciePerstNRelease (t : Time) (s : State) : Host.Outcome State Fault Refusal :=
  timed t s fun s => if s.host.perst then s.modHost fun h => { h with perst := false, ready := false, relT := s.now } else s

/-- LINK_UP (09_host_link RF_HOST_LINK). -/
def execLinkUp (t : Time) (speed width : Nat) (flit : Bool) (s : State) : Host.Outcome State Fault Refusal :=
  timed t s fun s =>
    if s.host.perst || speed == 0 || 6 < speed || !([1, 2, 4, 8, 16].contains width) || (speed == 6 && !flit) then s
    else s.modHost fun h => { h with dlUp := true, flit := flit, speed := speed, width := width }

end Machine
end Sys2Proof
end

