-- ==== Sys2Proof/Machine/Pins.lean ====
section
/-! DEFINITION. The pin engines: input edges, counters, the twenty instructions, START and STOP, and host access (11_pin_engines). -/

namespace Sys2Proof
namespace Machine

/-- A stamp that does not fall within a CPLL interruption (11_pin_engines R384). -/
def State.stampOk (s : State) (x : Time) : Bool :=
  (match s.clk.intr with
    | some b => !reached x b
    | none => true) &&
  (match s.clk.lastInv with
    | some (b, e) => !reached x b || reached x e
    | none => true)

/-! Counters. -/

def Px.ctr (p : Px) (k : Nat) : B48 := p.c.getD k 0
def Px.modeOf (p : Px) (k : Nat) : Nat := (p.mode.getD k (0, 0, 0, 0)).1

/-- Mirrors take the value, and the latest count edge, of c0 of their engine (11_pin_engines R388, R389). -/
def State.mirrorOne (s : State) (e : Nat) : State :=
  let p := s.pin e
  if p.mode.any fun m => m.1 == 6 then
    let src := fun (k : Nat) => s.pin (p.mode.getD k (0, 0, 0, 0)).2.2.2
    let c := (List.range 4).map fun k => if p.modeOf k == 6 then (src k).ctr 0 else p.ctr k
    let cnt := (List.range 4).map fun k => if p.modeOf k == 6 then (src k).cnt.getD 0 none else p.cnt.getD k none
    let down := if p.modeOf 0 == 6 then (src 0).down else p.down
    s.modPx e fun p => { p with c := c, cnt := cnt, down := down }
  else s

/-- Mirrors of mirrors take the final value (11_pin_engines R389). -/
def State.mirrors (s : State) : State :=
  (List.range 64).foldl (fun s i => s.mirrorOne (i % 8)) s

/-- A counter is written by the program or the host: a mirrored counter ignores it; the turning point of the encoder moves with the value, since
R48 measures counts (11_pin_engines R389, R392; 01_line_tick R48). -/
def State.writeCtr (s : State) (e k : Nat) (v : B48) : State :=
  let old := s.encNow
  let s1 := (s.modPx e fun p => if p.modeOf k == 6 then p else { p with c := upd p.c k fun _ => v }).mirrors
  s1.modTick fun x => { x with turn := x.turn + (s1.encNow - old) }

/-- Place of the levels (A, B) along the state order 00, 10, 11, 01 (11_pin_engines R388). -/
def quad (a b : Bool) : Nat := if a then (if b then 2 else 1) else (if b then 3 else 0)

/-- What an edge does to a counter (11_pin_engines R388, R389): the change, or none for a quadrature error. `ca`, `cb`: A, B changed; `a`, `b`: the
levels after it. -/
def countOf (mode : Nat) (ca cb a b : Bool) : Option Int :=
  if 3 ≤ mode && mode ≤ 5 && ca && cb then none
  else if mode == 1 then some (if ca && a then 1 else 0)
  else if mode == 2 || mode == 3 then some (if ca && a then (if b then -1 else 1) else 0)
  else if mode == 4 then some (if ca then (if a != b then 1 else -1) else 0)
  else if mode == 5 then
    let d := (quad a b + 4 - quad (a != ca) (b != cb)) % 4
    some (if d == 1 then 1 else if d == 3 then -1 else 0)
  else some 0

/-- An update of PX_DATA[m]: TAG + 1, FRESH, VALID, SRC and VALUE in one write (11_pin_engines R399). -/
def Px.putData (p : Px) (m code val : Nat) : Px :=
  { p with data := upd p.data m fun w => pack 64 [((fld w 63 56 + 1) % 256, 56), (3, 54), (code % 64, 48), (val % 2 ^ 48, 0)] }

/-- One counter at the edges of one pin clock: `chg` the accepted edges by input. -/
def Px.countAt (p : Px) (chg : Nat → Option (Time × Bool)) (k : Nat) : Px :=
  let m := p.mode.getD k (0, 0, 0, 0)
  let ea := chg m.2.1
  let eb := chg m.2.2.1
  match countOf m.1 ea.isSome eb.isSome (p.lev.getLsbD m.2.1) (p.lev.getLsbD m.2.2.1) with
  | none => { p with qerr := p.qerr + 1 }
  | some d =>
    if d == 0 then p
    else
      { p with
        c := upd p.c k fun v => v + BitVec.ofInt 48 d, cnt := upd p.cnt k fun _ => ea.orElse fun _ => eb,
        down := if k == 0 then decide (d < 0) else p.down }

/-- The level of an input after an edge of its source, inverted where PX_INFILT.INV says so; source 63 is constant low (11_pin_engines R381, R382). -/
def State.inLevel (s : State) (e : Nat) (x : PinEdge) : Bool := (x.lev && x.src != 63) != bit (s.reg (pxBase e + 0x20)) (12 + x.i)

/-- The edge comes from the source that PX_INSEL selects for its input, and its level holds for FILT + 1 pin clocks (11_pin_engines R381, R382). -/
def State.inPasses (s : State) (e : Nat) (x : PinEdge) : Bool :=
  fld (s.reg (pxBase e + 0x18)) (31 - 6 * x.i) (26 - 6 * x.i) == x.src && fld (s.reg (pxBase e + 0x20)) (31 - 4 * x.i) (28 - 4 * x.i) < x.held

/-- The accepted edges of one pin clock, lowest input first: input, rising, stamp, valid. A level that does not change, or an edge less than 8 ns
after the previous one of its input, is none (11_pin_engines R382, R383, R384). -/
def State.accepted (s : State) (e : Nat) (es : List PinEdge) : List (Nat × Bool × Time × Bool) :=
  let p := s.pin e
  (List.range 4).filterMap fun i =>
    match es.find? fun x => x.i == i with
    | some x =>
      let r := s.inLevel e x
      let far := match p.last.getD i none with
        | some (y, _) => decide (16 ≤ since x.stamp y)
        | none => true
      if s.inPasses e x && r != p.lev.getLsbD i && far then some (i, r, x.stamp, s.stampOk x.stamp) else none
    | none => none

/-- INPUT_EDGE: the edges of one pin clock at the inputs of engine `e`: of those accepted the levels, stamps, counters, index latch, and the edges a
blocked instruction sees (11_pin_engines R381 to R384, R388 to R391, R393, R399). Pins, strobe lines and event pulses alike reach an input this way
(log entry 29), at the place of their stamps among the commands (log entry 103). -/
def execInputEdge (t : Time) (e : Nat) (es : List PinEdge) (s : State) : Host.Outcome State Fault Refusal :=
  inRun t s fun s =>
    if 8 ≤ e || s.clk.aGated.isSome then s
    else
      let acc := s.accepted e es
      let chg := fun (i : Nat) => (acc.find? fun x => x.1 == i).map fun x => (x.2.2.1, x.2.2.2)
      let old := s.encNow
      let s1 := s.modPx e fun p =>
        let lev := acc.foldl (fun (l : BitVec 4) x => l ^^^ (1#4 <<< x.1)) p.lev
        let last := acc.foldl (fun l x => upd l x.1 fun _ => some (x.2.2.1, x.2.2.2)) p.last
        let seen := if p.st == 1 && p.blk.isSome then p.seen ++ acc else p.seen
        (List.range 4).foldl (fun p k => p.countAt chg k) { p with lev := lev, last := last, seen := seen }
      let s2 := s1.mirrors
      let hit := acc.find? fun x => x.1 == (s2.pin e).xi && x.2.1
      let s3 := match hit with
        | some x =>
          if (s2.pin e).xen then
            s2.modPx e fun p => { p.putData 3 (0x08 + p.xk) (p.ctr p.xk).toNat with idx := x.2.2.1 }
          else s2
        | none => s2
      if s3.encNow == old then s3 else s3.encMoved

/-! Outputs (11_pin_engines R380, R402, R404). -/

/-- Show the level of an output on its pin. -/
def State.showOut (s : State) (e o : Nat) : State :=
  if s.outSel e o < 36 then s.emit (.pin (s.outSel e o) (s.outLevel e o)) else s

def State.showOuts (s : State) (e : Nat) : State := (List.range 4).foldl (fun s o => s.showOut e o) s

/-- The engine drives an output. -/
def State.driveOut (s : State) (e o lev : Nat) : State :=
  (s.modPx e fun p => { p with outs := upd p.outs o fun _ => some lev }).showOut e o

/-- Every output at its idle level. -/
def State.idleOuts (s : State) (e : Nat) : State :=
  (s.modPx e fun p => { p with outs := List.replicate 4 none }).showOuts e

/-- Entry into STOPPED or FAULT: the outputs keep their levels, or take their idle levels with STOP_ACT = 1. -/
def State.stopOuts (s : State) (e : Nat) : State := if bit (s.reg (pxBase e + 0x30)) 23 then s.idleOuts e else s

/-! The engine clock and the frame of an instruction. -/

/-- Engine cycles that have begun by `now` since the START: cycle k begins at pin clock k * INT + floor (k * FRAC / 256) (11_pin_engines R386). -/
def State.pxCycles (s : State) (e : Nat) (now : Time) : Nat :=
  let d := max 256 (fld (s.reg (pxBase e + 0x10)) 31 8)
  ((since now (s.pin e).startT / 8 + 1) * 256 - 1) / d

/-- An instruction of engine `e`: it executes while the engine is RUNNING and the pin clock runs (11_pin_engines R387, R402; 10_clocks R363). -/
def pxOp (t : Time) (e : Nat) (s : State) (k : State → Px → State) : Host.Outcome State Fault Refusal :=
  inRun t s fun s => if e < 8 && (s.pin e).st == 1 && s.clk.aGated.isNone then k s (s.pin e) else s

/-- The instruction completes and the engine goes on at `pc`, after 31 at 0 (11_pin_engines R387). -/
def State.pxGo (s : State) (e pc : Nat) (f : Px → Px) : State :=
  s.modPx e fun p => { f p with pc := pc % 32, blk := none, seen := [], resume := false }

def State.pxNext (s : State) (e : Nat) (f : Px → Px) : State := s.pxGo e ((s.pin e).pc + 1) f

/-- The instruction blocks; it sees the edges that become visible from now on. -/
def State.pxBlock (s : State) (e : Nat) : State :=
  s.modPx e fun p => if p.blk.isSome then p else { p with blk := some s.now, seen := [] }

/-- Entry into FAULT, before the instruction has any effect (11_pin_engines R393, R398, R402). -/
def State.pxFault (s : State) (e : Nat) : State :=
  ((s.modPx e fun p => { p with st := 2, cause := 1, evt := true, blk := none, seen := [], stopReq := false, resume := false }).stopOuts e).raise 23

/-! The instructions (11_pin_engines R393). An instruction that breaks its row puts the engine into FAULT. -/

/-- PX_NOP. -/
def execPxNop (t : Time) (e : Nat) (s : State) : Host.Outcome State Fault Refusal := pxOp t e s fun s _ => s.pxNext e id

/-- PX_WAITE: the edge that completes it becomes the causing edge (11_pin_engines R394). -/
def execPxWaite (t : Time) (e : Nat) (mask : BitVec 4) (edge : BitVec 2) (s : State) : Host.Outcome State Fault Refusal :=
  pxOp t e s fun s p =>
    if mask == 0 || edge == 0 then s.pxFault e
    else if p.blk.isNone then s.pxBlock e
    else match p.seen.find? fun x => mask.getLsbD x.1 && edge.getLsbD (if x.2.1 then 0 else 1) with
      | some x => s.pxNext e fun p => { p with edge := some (x.2.2.1, x.2.2.2), wIn := some x.1 }
      | none => s

/-- PX_WAITL. -/
def execPxWaitl (t : Time) (e : Nat) (i : BitVec 2) (level : Bool) (s : State) : Host.Outcome State Fault Refusal :=
  pxOp t e s fun s p => if p.lev.getLsbD i.toNat == level then s.pxNext e id else s.pxBlock e

/-- The condition of a WAITC: differences are signed, modulo 2^48. -/
def waitCond (ca cb cc : B48) (cond : BitVec 2) : Bool :=
  let d := (ca - cb).toInt
  if cond == 0 then 0 ≤ d else if cond == 1 then d ≤ 0 else if cond == 2 then d == 0 else cc.toInt ≤ d.natAbs

/-- PX_WAITC: the count edge of the latest count of counter a becomes the causing edge (11_pin_engines R394). -/
def execPxWaitc (t : Time) (e : Nat) (a b c cond : BitVec 2) (s : State) : Host.Outcome State Fault Refusal :=
  pxOp t e s fun s p =>
    if waitCond (p.ctr a.toNat) (p.ctr b.toNat) (p.ctr c.toNat) cond then
      s.pxNext e fun p => { p with edge := p.cnt.getD a.toNat none }
    else s.pxBlock e

/-- PX_CNT: the counting of ck; XEN = 1 clears XEN for the other counters (11_pin_engines R388 to R390). -/
def execPxCnt (t : Time) (e : Nat) (k : BitVec 2) (mode : BitVec 3) (a b x : BitVec 2) (xen : Bool) (eng : BitVec 3) (s : State) :
    Host.Outcome State Fault Refusal :=
  pxOp t e s fun s _ =>
    if mode == 7 || (mode == 6 && eng.toNat == e && k == 0) then s.pxFault e
    else
      (s.pxNext e fun p =>
        { p with
          mode := upd p.mode k.toNat fun _ => (mode.toNat, a.toNat, b.toNat, eng.toNat)
          xen := xen || (p.xen && p.xk != k.toNat)
          xk := if xen then k.toNat else p.xk
          xi := if xen then x.toNat else p.xi }).mirrors

/-- PX_LDI. -/
def execPxLdi (t : Time) (e : Nat) (k : BitVec 2) (imm : BitVec 24) (s : State) : Host.Outcome State Fault Refusal :=
  pxOp t e s fun s _ => (s.writeCtr e k.toNat (imm.signExtend 48)).pxNext e id

/-- PX_ADDI. -/
def execPxAddi (t : Time) (e : Nat) (k : BitVec 2) (imm : BitVec 24) (s : State) : Host.Outcome State Fault Refusal :=
  pxOp t e s fun s p => (s.writeCtr e k.toNat (p.ctr k.toNat + imm.signExtend 48)).pxNext e id

/-- The value of a CALC: MOV, ADD, SUB, ADV, NEG. -/
def calcVal (op : BitVec 3) (cd ca cb : B48) : B48 :=
  if op == 0 then ca
  else if op == 1 then ca + cb
  else if op == 2 then ca - cb
  else if op == 3 then (if cd.toInt < ca.toInt then cd + cb else if ca.toInt < cd.toInt then cd - cb else cd)
  else -ca

/-- PX_CALC. -/
def execPxCalc (t : Time) (e : Nat) (d a b : BitVec 2) (op : BitVec 3) (s : State) : Host.Outcome State Fault Refusal :=
  pxOp t e s fun s p =>
    if 5 ≤ op.toNat then s.pxFault e
    else (s.writeCtr e d.toNat (calcVal op (p.ctr d.toNat) (p.ctr a.toNat) (p.ctr b.toNat))).pxNext e id

/-- The condition of a JMP. -/
def Px.jumps (p : Px) (cond : BitVec 3) (n : BitVec 2) : Bool :=
  let v := p.ctr n.toNat
  match cond.toNat with
  | 0 => true
  | 1 => p.lev.getLsbD n.toNat
  | 2 => !p.lev.getLsbD n.toNat
  | 3 => v == 0
  | 4 => v != 0
  | 5 => v.msb
  | 6 => p.full.getLsbD (n.toNat % 2)
  | _ => p.wIn == some n.toNat

/-- PX_JMP: COND 4 also decrements cN. -/
def execPxJmp (t : Time) (e : Nat) (cond : BitVec 3) (n : BitVec 2) (target : BitVec 5) (s : State) : Host.Outcome State Fault Refusal :=
  pxOp t e s fun s p =>
    if cond == 0 && n != 0 then s.pxFault e
    else if p.jumps cond n then
      (if cond == 4 then s.writeCtr e n.toNat (p.ctr n.toNat - 1) else s).pxGo e target.toNat id
    else s.pxNext e id

/-- PX_OUT: a toggle leaves an output at high-Z at high-Z. -/
def execPxOut (t : Time) (e : Nat) (o act : BitVec 2) (s : State) : Host.Outcome State Fault Refusal :=
  pxOp t e s fun s _ =>
    let old := s.outLevel e o.toNat
    let lev := if act == 0 then 0 else if act == 1 then 1 else if act == 3 then 2 else if old == 0 then 1 else if old == 1 then 0 else 2
    (s.pxNext e id).driveOut e o.toNat lev

/-- PX_DLY: it completes once the engine cycles it names have passed; N = 0 completes at once (11_pin_engines R387). -/
def execPxDly (t : Time) (e : Nat) (src : Bool) (k : BitVec 2) (n : BitVec 24) (s : State) : Host.Outcome State Fault Refusal :=
  pxOp t e s fun s p =>
    let c := if src then min (max (p.ctr k.toNat).toInt 0).toNat 16777215 else n.toNat
    match p.blk with
    | none => if c == 0 then s.pxNext e id else s.pxBlock e
    | some x => if s.pxCycles e x + c ≤ s.pxCycles e s.now then s.pxNext e id else s

/-- The number of bits of a shift, 0 meaning 64. -/
def shiftN (n : BitVec 6) : Nat := if n == 0 then 64 else n.toNat

/-- The first visible rising edge of an input among those seen, and what is left after it. -/
def takeRise (seen : List (Nat × Bool × Time × Bool)) (ci : Nat) : Option (List (Nat × Bool × Time × Bool)) :=
  match seen.dropWhile fun x => !(x.1 == ci && x.2.1) with
  | [] => none
  | _ :: r => some r

/-- One bit of a shift has moved: the instruction ends at n bits, else it goes on (11_pin_engines R395). -/
def State.shiftBit (s : State) (e n : Nat) (rest : List (Nat × Bool × Time × Bool)) (wait : Bool) (f : Px → Px) : State :=
  let c := (s.pin e).shc + 1
  if n ≤ c then s.pxNext e fun p => { f p with shc := c }
  else s.modPx e fun p => { f p with shc := c, resume := true, seen := rest, blk := if wait then some (p.blk.getD s.now) else none }

/-- A shift instruction starts anew, or is resumed under R404 (11_pin_engines R395). -/
def State.shiftStart (s : State) (e : Nat) : State :=
  if (s.pin e).resume then s else s.modPx e fun p => { p with shc := 0, resume := true }

/-- PX_SHIN: one bit per engine cycle, a command each, or one at each visible rising edge of CI (11_pin_engines R393, R395, R404). -/
def execPxShin (t : Time) (e : Nat) (i : BitVec 2) (clk : Bool) (ci : BitVec 2) (n : BitVec 6) (s : State) : Host.Outcome State Fault Refusal :=
  pxOp t e s fun s _ =>
    let s := s.shiftStart e
    let p := s.pin e
    let shift := fun (p : Px) => { p with sh := (p.sh <<< 1) ||| (p.lev.getLsbD i.toNat).toNat }
    if shiftN n ≤ p.shc then s.pxNext e id
    else if !clk then s.shiftBit e (shiftN n) [] false shift
    else if p.blk.isNone then s.pxBlock e
    else match takeRise p.seen ci.toNat with
      | some r => s.shiftBit e (shiftN n) r true shift
      | none => s

/-- PX_SHOUT: bits n - 1 down to 0, the first at once, each further one an engine cycle, or a visible rising edge of CI, later; SH unchanged
(11_pin_engines R393, R395, R404). -/
def execPxShout (t : Time) (e : Nat) (o : BitVec 2) (clk : Bool) (ci : BitVec 2) (n : BitVec 6) (s : State) : Host.Outcome State Fault Refusal :=
  pxOp t e s fun s _ =>
    let s := s.shiftStart e
    let p := s.pin e
    let lev := (p.sh.getLsbD (shiftN n - 1 - p.shc)).toNat
    if shiftN n ≤ p.shc then s.pxNext e id
    else if !clk || p.blk.isNone then (s.shiftBit e (shiftN n) [] clk id).driveOut e o.toNat lev
    else match takeRise p.seen ci.toNat with
      | some r => (s.shiftBit e (shiftN n) r true id).driveOut e o.toNat lev
      | none => s

/-- PX_XSH. -/
def execPxXsh (t : Time) (e : Nat) (op k : BitVec 2) (s : State) : Host.Outcome State Fault Refusal :=
  pxOp t e s fun s p =>
    if op == 3 then s.pxFault e
    else if op == 0 then s.pxNext e fun p => { p with sh := 0 }
    else if op == 1 then s.pxNext e fun p => { p with sh := (p.ctr k.toNat).signExtend 64 }
    else (s.writeCtr e k.toNat (p.sh.setWidth 48)).pxNext e id

/-- The 48-bit value of both input registers (11_pin_engines R400). -/
def State.pxWide (s : State) (e : Nat) : B48 := ((s.reg (pxBase e + 0x50)).setWidth 16 ++ s.reg (pxBase e + 0x48))

/-- PX_GET: it blocks until the register, or both with W = 1, hold a value; it takes the value and clears the flags (11_pin_engines R400). -/
def execPxGet (t : Time) (e : Nat) (dst : Bool) (k : BitVec 2) (w j : Bool) (s : State) : Host.Outcome State Fault Refusal :=
  pxOp t e s fun s p =>
    let need : BitVec 2 := if w then 3 else if j then 2 else 1
    if w && j then s.pxFault e
    else if p.full &&& need != need then s.pxBlock e
    else
      let v := s.reg (pxBase e + (if j then 0x50 else 0x48))
      let s := s.modPx e fun p => { p with full := p.full &&& ~~~need }
      if dst then s.pxNext e fun p => { p with sh := if w then (s.pxWide e).setWidth 64 else v.setWidth 64 }
      else (s.writeCtr e k.toNat (if w then s.pxWide e else v.signExtend 48)).pxNext e id

/-- A value and its source code; an invalid stamp has the code + 0x10, and an input with no accepted edge the value 0 (11_pin_engines R399). -/
def Px.source (p : Px) (src : BitVec 3) (i : BitVec 2) : Nat × Nat :=
  let st := fun (code : Nat) (x : Option (Time × Bool)) => match x with
    | some (y, ok) => (if ok then code else code + 0x10, y.toNat % 2 ^ 48)
    | none => (code + 0x10, 0)
  match src.toNat with
  | 4 => (4, p.sh.toNat % 2 ^ 48)
  | 5 => st 5 p.edge
  | 6 => st (0x0C + i.toNat) (p.last.getD i.toNat none)
  | k => (k, (p.ctr k).toNat)

/-- PX_PUT (11_pin_engines R399). -/
def execPxPut (t : Time) (e : Nat) (m : BitVec 2) (src : BitVec 3) (i : BitVec 2) (s : State) : Host.Outcome State Fault Refusal :=
  pxOp t e s fun s p =>
    if src == 7 then s.pxFault e
    else s.pxNext e fun q => q.putData m.toNat (p.source src i).1 (p.source src i).2

/-- A line reference event of this device: it goes to the LPLL, and a tick source relays it (11_pin_engines R396, R548; 12_hinge_array R417). -/
def State.lineRefEvent (s : State) (stamp : Option Time) : State :=
  let s1 := s.modClk fun c => { c with refQ := c.refQ ++ [stamp] }
  match stamp with
  | some x => if bit (s.reg 0x1C0000) 28 && s.hpos.isSome then s1.broadcast 0x03 0 x else s1
  | none => s1

/-- PX_EVT: 16 ns after the previous one; to the tick generator as line reference, to the sequencer as hold trigger, and out as a pulse to the inputs
that select it (log entry 29). A cleared or invalid causing edge gives an event with no valid stamp (11_pin_engines R396, R548). -/
def execPxEvt (t : Time) (e : Nat) (imm : Bool) (s : State) : Host.Outcome State Fault Refusal :=
  pxOp t e s fun s p =>
    let early := match p.evtT with
      | some x => decide (since s.now x < 32)
      | none => false
    if early then s.pxBlock e
    else
      let stamp := if imm then some s.now else match p.edge with
        | some (x, true) => some x
        | _ => none
      let s := (s.pxNext e fun p => { p with evtT := some s.now }).emit (.event e s.now)
      let s := if s.mode == 1 && s.tckSrc == 0 && s.regF 0x10000 22 20 == e then s.lineRefEvent stamp else s
      if s.regF 0x20000 30 27 == e then s.holdTrigger else s

/-- Capture records of an engine that have not left their queue, counted on the channel that has most (11_pin_engines R397). -/
def State.capLen (s : State) (e : Nat) : Nat :=
  let q := (Tbl.get [] s.fab.q 1057).filter fun r => fld (r.ws.getD 4 0) 55 53 == e
  ((List.range 16).map fun ch => (q.filter fun r => recCh r.ws == ch).length).foldl max 0

/-- The capture record: header of the most recent tick, ENC at the CAP; no rule gives the tiles, entry and chain of its header, a free value
(11_pin_engines R397; 07_kernels_records R272; log entry 3). -/
def State.capRec (s : State) (e code val : Nat) (edge : Option (Time × Bool)) (ch : Nat) : List W64 :=
  let l := s.line s.lastLine
  recWords 0x0C ch s.lastLine s.encNow s.lastTime (Config.freeValue s.free).toNat ((l.map fun x => x.flags.toNat).getD 0) 0
    [pack 64 [(0x10, 56), (e, 53), (code, 48), (val, 0)], (edge.map (·.1)).getD 0]

/-- Put a record at the end of the capture stream, class L, with the deadline of R289 (08_result_fabric R284, R289). -/
def State.stageCap (s : State) (ws : List W64) : State :=
  let q : QRec := { ws := ws, dl := (s.now + BitVec.ofNat 64 (32 * s.regF 0x100000 7 0)).setWidth 32, cls := false, sent := 0, lb := 0, t := s.now,
                    dev := true, ue := false }
  s.modFab fun f => { f with q := Tbl.set [] f.q 1057 (Tbl.get [] f.q 1057 ++ [q]) }

/-- PX_CAP: it blocks while the capture queue of 16 is full (11_pin_engines R397). -/
def execPxCap (t : Time) (e : Nat) (src : BitVec 3) (i : BitVec 2) (s : State) : Host.Outcome State Fault Refusal :=
  pxOp t e s fun s p =>
    if src == 7 then s.pxFault e
    else if 16 ≤ s.capLen e then s.pxBlock e
    else
      let v := p.source src i
      let s1 := (List.range 16).foldl (fun a ch => if a.chanOn ch then a.stageCap (s.capRec e v.1 v.2 p.edge ch) else a) s
      s1.useFree.pxNext e id

/-- PX_IRQ (11_pin_engines R398). -/
def execPxIrq (t : Time) (e : Nat) (code : Byte) (s : State) : Host.Outcome State Fault Refusal :=
  pxOp t e s fun s _ => (s.pxNext e fun p => { p with code := code, evt := true }).raise 23

/-- The engine stops; PC keeps its index (11_pin_engines R402). -/
def State.pxHalt (s : State) (e : Nat) : State :=
  (s.modPx e fun p => { p with st := 0, blk := none, seen := [], stopReq := false }).stopOuts e

/-- PX_HALT. -/
def execPxHalt (t : Time) (e : Nat) (s : State) : Host.Outcome State Fault Refusal := pxOp t e s fun s _ => s.pxHalt e

/-- The bits below the opcode that a row lists (11_pin_engines R393). -/
def pxFields (w : W32) : W32 :=
  match fld w 31 27 with
  | 0x00 => 0
  | 0x01 => 0x07E00000
  | 0x02 => 0x07000000
  | 0x03 => 0x07F80000
  | 0x04 => 0x07FFF000
  | 0x05 => 0x06FFFFFF
  | 0x06 => 0x06FFFFFF
  | 0x07 => 0x07FC0000
  | 0x08 => 0x07C0001F
  | 0x09 => 0x07800000
  | 0x0A => if bit w 26 then 0x07000000 else 0x04FFFFFF
  | 0x0B => 0x07FF0000
  | 0x0C => 0x07FF0000
  | 0x0D => 0x07800000
  | 0x0E => 0x07C00000
  | 0x0F => 0x07F00000
  | 0x10 => 0x04000000
  | 0x11 => 0x07C00000
  | 0x12 => 0x07F80000
  | _ => 0

/-- The word is no instruction of engine `e`: opcode 0x14 to 0x1F, a reserved field set, or a row broken (11_pin_engines R389, R393). -/
def pxIllegal (e : Nat) (w : W32) : Bool :=
  let op := fld w 31 27
  0x14 ≤ op || (w &&& 0x07FFFFFF &&& ~~~pxFields w) != 0 || (op == 0x01 && (fld w 26 23 == 0 || fld w 22 21 == 0)) ||
    (op == 0x04 && (fld w 24 22 == 7 || (fld w 24 22 == 6 && fld w 14 12 == e && fld w 26 25 == 0))) ||
    (op == 0x07 && 5 ≤ fld w 20 18) || (op == 0x08 && fld w 26 24 == 0 && fld w 23 22 != 0) || (op == 0x0D && fld w 26 25 == 3) ||
    (op == 0x0E && fld w 23 22 == 3) || (op == 0x0F && fld w 24 22 == 7) || (op == 0x11 && fld w 26 24 == 7)

/-- PX_ILLEGAL_INSTRUCTION: the engine executes a word that is no instruction (11_pin_engines R393). -/
def execPxIllegalInstruction (t : Time) (e : Nat) (w : W32) (s : State) : Host.Outcome State Fault Refusal :=
  pxOp t e s fun s _ => if pxIllegal e w then s.pxFault e else s

/-! Start, stop and host access. -/

/-- The engine starts at `pc` (11_pin_engines R392, R404). -/
def State.pxRun (s : State) (e pc : Nat) (keep clear : Bool) : State :=
  let s1 := s.modPx e fun p =>
    let p := if clear then { p with c := List.replicate 4 0, mode := List.replicate 4 (0, 0, 0, 0), xen := false } else p
    { p with st := 1, cause := 0, pc := pc % 32, sh := if keep then p.sh else 0, shc := if keep then p.shc else 0, resume := keep, edge := none,
             startT := s.now, blk := none, seen := [], stopReq := false }
  let s2 := if clear then s1.mirrors.modTick fun k => { k with turn := k.turn + (s1.mirrors.encNow - s.encNow) } else s1
  s2.idleOuts e

/-- PROG_REJECT with a rejected write (11_pin_engines R380, R403). -/
def State.progReject (s : State) (e cause : Nat) (src : BitVec 7) (off : Nat) : State :=
  (s.modPx e fun p => { p with progRej := true }).reject cause src off

/-- A write to PX_CTL (11_pin_engines R402, R404). -/
def State.pxCtlWrite (s : State) (e : Nat) (w : Wr) (v : W32) : State :=
  if bit v 31 && bit v 30 then s.progReject e 3 w.src (pxBase e)
  else
    let s := s.storeReg (pxBase e) v
    let p := s.pin e
    if bit v 31 && p.st != 1 then s.pxRun e (if bit v 29 then p.pc else fld v 27 23) (bit v 29) (bit v 28)
    else if bit v 30 && p.st == 1 then s.modPx e fun p => { p with stopReq := true }
    else s

/-- PX_START (11_pin_engines R404). -/
def execPxStart (t : Time) (e : Nat) (w : Wr) (s : State) : Host.Outcome State Fault Refusal :=
  if e < 8 then regCmd t (pxBase e) w s fun v s => s.pxCtlWrite e w v else timed t s id

/-- PX_STOP (11_pin_engines R402). -/
def execPxStop (t : Time) (e : Nat) (w : Wr) (s : State) : Host.Outcome State Fault Refusal :=
  if e < 8 then regCmd t (pxBase e) w s fun v s => s.pxCtlWrite e w v else timed t s id

/-- PX_STOP_EFFECT: at the engine cycle boundary (11_pin_engines R402). -/
def execPxStopEffect (t : Time) (e : Nat) (s : State) : Host.Outcome State Fault Refusal :=
  pxOp t e s fun s p => if p.stopReq then s.pxHalt e else s

/-- A write to PX_STATUS: PROG_REJECT and HOST_EVT are cleared by writing one. -/
def State.pxStatusWrite (s : State) (e : Nat) (v : W32) : State :=
  s.modPx e fun p => { p with progRej := p.progRej && !bit v 23, evt := p.evt && !bit v 22 }

/-- A write to PX_IN[j]: rejected while the flag is set (11_pin_engines R400). -/
def State.pxInWrite (s : State) (e j : Nat) (w : Wr) (v : W32) : State :=
  let off := pxBase e + 0x48 + 8 * j
  if (s.pin e).full.getLsbD j then (s.modPx e fun p => { p with inRej := p.inRej + 1 }).reject 4 w.src off
  else (s.storeReg off v).modPx e fun p => { p with full := p.full ||| (1#2 <<< j) }

/-- PX_IN_WRITE (11_pin_engines R400). -/
def execPxInWrite (t : Time) (e j : Nat) (w : Wr) (s : State) : Host.Outcome State Fault Refusal :=
  if e < 8 && j < 2 then regCmd t (pxBase e + 0x48 + 8 * j) w s fun v s => s.pxInWrite e j w v else timed t s id

/-- The fields of a selection register. -/
def sels (v : W32) : List Nat := (List.range 4).map fun o => fld v (31 - 6 * o) (26 - 6 * o)

/-- The value breaks its register's rule: an illegal input code, INT = 0, an illegal pin or one that another output of any engine has, an idle code
of 0b11 (11_pin_engines R380, R381, R386, PX_OUTCFG). -/
def State.pxBad (s : State) (e o : Nat) (v : W32) : Bool :=
  if o == 0x10 then fld v 31 16 == 0
  else if o == 0x18 then (sels v).any fun x => 52 ≤ x && x ≤ 62
  else if o == 0x28 then
    let mine := (sels v).filter (· != 63)
    let others := ((List.range 8).filter (· != e)).flatMap fun f => (sels (s.reg (pxBase f + 0x28))).filter (· != 63)
    mine.any (fun x => 36 ≤ x || others.contains x) || !mine.Nodup
  else if o == 0x30 then (List.range 4).any fun i => fld v (31 - 2 * i) (30 - 2 * i) == 3
  else false

/-- A write to a configuration register or program word of an engine at offset `o` of its block (11_pin_engines R380, R381, R386, R403). A pin that no
output names any more is released. -/
def State.pxConfigWrite (s : State) (e o : Nat) (w : Wr) (v : W32) : State :=
  let off := pxBase e + o
  if (s.pin e).st == 1 then s.progReject e 4 w.src off
  else if s.pxBad e o v then s.progReject e 3 w.src off
  else
    let old := sels (s.reg off)
    let s := s.storeReg off v
    if o == 0x28 && s.running then
      ((old.filter fun x => x < 36 && !(sels v).contains x).foldl (fun s x => s.emit (.pin x 2)) s).showOuts e
    else if o == 0x30 && s.running then s.showOuts e
    else s

/-- A write to PX_CNT[k], not PW: one 64-bit write while the engine is not RUNNING (11_pin_engines R392, R403; 00_scope R16). -/
def State.pxCntWrite (s : State) (e k : Nat) (w : Wr) : State :=
  let off := pxBase e + 0x90 + 8 * k
  if w.nb != 8 then s.reject 2 w.src off
  else if (s.pin e).st == 1 then s.progReject e 4 w.src off
  else s.writeCtr e k (w.v.setWidth 48)

/-- The offset within the pin engine block is written under R403. -/
def pxConfigOff (o : Nat) : Bool :=
  o % 8 == 0 && (o == 0x10 || o == 0x18 || o == 0x20 || o == 0x28 || o == 0x30 || (0x100 ≤ o && o < 0x200))

/-- PX_CONFIG_WRITE (09_host_link R309; 11_pin_engines R403). -/
def execPxConfigWrite (t : Time) (off : Nat) (w : Wr) (s : State) : Host.Outcome State Fault Refusal :=
  let e := (off - 0x1A0000) / 0x400
  let o := off % 0x400
  if 0x1A0000 ≤ off && off < 0x1A2000 && pxConfigOff o then regCmd t off w s fun v s => s.pxConfigWrite e o w v
  else if 0x1A0000 ≤ off && off < 0x1A2000 && 0x90 ≤ o && o < 0xB0 && o % 8 == 0 then
    timed t s fun s =>
      if isLocal w && !s.host.memEn then s.aer 20
      else if !s.running || s.th.shut != 0 then s.reject 4 w.src off
      else if s.stalls off then s.modClk fun c => { c with wait := c.wait ++ [{ t := s.now, off := off, nb := w.nb, w := some w, rem := none }] }
      else s.pxCntWrite e ((o - 0x90) / 8) w
  else timed t s id

/-- PX_DATA_READ (11_pin_engines R399; 03_sequence_table R126). -/
def execPxDataRead (t : Time) (e m lo nb : Nat) (s : State) : Host.Outcome State Fault Refusal :=
  timed t s fun s => if e < 8 && m < 4 && lo < 8 then s.busRead (pxBase e + 0xC0 + 8 * m + lo) nb else s

end Machine
end Sys2Proof
end

