-- ==== Sys2Proof/Machine/Hinge.lean ====
section
/-! DEFINITION. Hinge: ports, position and alignment, relayed references and triggers, broadcasts, barriers, scheduled operations, partner loss, and
remote access (12_hinge_array; 09_host_link R338 to R341). -/

namespace Sys2Proof
namespace Machine

/-! Frames that arrive. -/

/-- A frame is received: the port is UP and the APLL runs (12_hinge_array R411, R426; 10_clocks R363). -/
def State.hears (s : State) (p : Bool) : Bool := (s.port p).st == 2 && s.clk.aGated.isNone

/-- A broadcast frame that arrives on port `p` is forwarded out of the other port unchanged, and taken while a position is held. On a closure link that
is not in use it is discarded (12_hinge_array R411, R427). -/
def takeBcast (t : Time) (p : Bool) (src : BitVec 6) (typ tag : Nat) (payload : W64) (s : State) (f : State → State) :
    Host.Outcome State Fault Refusal :=
  timed t s fun s =>
    if !s.hears p || (s.closure p && !s.hng.rerouted) then s
    else
      let go := s.hpos.isSome
      let s := s.sendBcast (!p) typ (frame true typ src.toNat 0 tag payload)
      if go then f s else s

/-- A frame to one position: forwarded out of the other port unless it is for this device (12_hinge_array R411). -/
def takeFrame (t : Time) (p : Bool) (src dest : BitVec 6) (typ tag : Nat) (payload : W64) (s : State) (f : State → State) :
    Host.Outcome State Fault Refusal :=
  timed t s fun s =>
    if !s.hears p then s
    else if s.hpos == some dest.toNat then f s
    else s.sendFrame (!p) typ (frame false typ src.toNat dest.toNat tag payload)

/-- FRAME_DISCARD: both copies failed or a reserved type, else one failed lane copy (12_hinge_array R410, R411). -/
def execFrameDiscard (t : Time) (port : Bool) (lanes : BitVec 2) (s : State) : Host.Outcome State Fault Refusal :=
  timed t s fun s =>
    if !s.hears port then s
    else if lanes == 1#2 || lanes == 2#2 then s.modHng fun h => { h with lane := h.lane + 1 }
    else s.modHng fun h => { h with frame := h.frame + 1 }

/-! Training, position and alignment. -/

/-- MARK: a frame of the neighbour is returned; one of this port's own gives a round trip, of which 16 are kept (12_hinge_array R413). -/
def execMark (t : Time) (port : Bool) (returned : Bool) (echo : W64) (rtt : Nat) (s : State) : Host.Outcome State Fault Refusal :=
  timed t s fun s =>
    let st := (s.port port).st
    if st == 0 || st == 4 || s.clk.aGated.isSome then s
    else if !returned then s.emit (.hinge port.toNat 0x02 (frame false 0x02 (s.hpos.getD 0) 0 1 echo))
    else s.modPort port fun p => if p.marks < 16 then { p with marks := p.marks + 1, markSum := p.markSum + rtt } else p

/-- PORT_UP: 16 round trips are measured and the receive path is padded; a raw latency above 38.0 ns makes the port LONG
(12_hinge_array R413, R414). -/
def execPortUp (t : Time) (port : Bool) (s : State) : Host.Outcome State Fault Refusal :=
  timed t s fun s =>
    let p := s.port port
    if (p.st == 1 || p.st == 3) && p.marks == 16 && s.clk.aGated.isNone then
      let raw := p.markSum / 32
      s.modPort port fun p =>
        { p with raw := raw, marks := 0, markSum := 0, st := if 380 * 32 < p.markSum then 4 else 2, hbT := s.now, runT := none }
    else s

/-- HEARTBEAT_SEND (12_hinge_array R410, R415; 10_clocks R363). -/
def execHeartbeatSend (t : Time) (s : State) : Host.Outcome State Fault Refusal :=
  timed t s fun s =>
    if s.clk.aGated.isSome then s
    else
      let high := max (s.hpos.getD 0) (max s.hng.dn.high (s.hng.dn.pos.getD 0))
      let tag := 64 * high + 2 * s.hng.aligned.toNat + s.hpos.isSome.toNat
      let ws := frame false 0x01 (s.hpos.getD 0) 0 tag s.now
      (s.sendFrame false 0x01 ws).sendFrame true 0x01 ws

/-- The upstream path to the root is lost: the upstream partner, or a position between this device and the root, which is included
(12_hinge_array R416, R424). -/
def State.upCut (s : State) : Bool := s.hng.up.lost || (List.range ((s.hpos).getD 0)).any fun r => s.hng.lost.getLsbD r

/-- The port whose heartbeats array time is compared with: upstream, or downstream in a ring whose upstream path is lost
(12_hinge_array R415, R416). -/
def State.alignPort (s : State) : Bool := s.ringed && s.hng.rerouted && s.upCut

/-- Array time runs free: the root's does, and in a chain that of a device cut off from the root (12_hinge_array R409, R425). -/
def State.freeTime (s : State) : Bool := s.isRoot || (!s.ringed && s.upCut)

/-- One comparison of array time, `diff` in 10 ps: the slew is at most 50 ps, never backward, and ALIGNED follows 64 comparisons within 10 ps and the
first beyond 200 ps (12_hinge_array R415; log entry 32). -/
def State.compareTime (s : State) (diff : Int) : State :=
  let sl := s.hng.slew + max (-5) (min 5 diff)
  let good := if diff.natAbs ≤ 1 then min 64 (s.hng.alGood + 1) else 0
  let s := if 50 ≤ sl then { s with now := s.now + 1 } else s
  s.modHng fun h =>
    { h with offset := BitVec.ofInt 16 (max (-32768) (min 32767 diff)), alGood := good,
             slew := if 50 ≤ sl then sl - 50 else if sl ≤ -50 then sl + 50 else sl,
             aligned := (h.aligned || good == 64) && diff.natAbs ≤ 20 }

/-- The comparison of R415 in 10 ps: the neighbour's time at the frame start plus 40.0 ns, less the own time at receipt; `fine` is what of it lies
below the 0.5 ns unit of array time. -/
def State.timeDiff (s : State) (sent : W64) (fine : Int) : Int := 50 * (sent + 80 - s.now).toInt + fine

/-- HEARTBEAT (12_hinge_array R408, R415, R416, R423, R425). -/
def execHeartbeat (t : Time) (port : Bool) (high : BitVec 6) (_ posValid : Bool) (src : BitVec 6) (sent : W64) (fine : Int) (s : State) :
    Host.Outcome State Fault Refusal :=
  timed t s fun s =>
    if !s.hears port then s
    else
      let now := s.now
      let s := s.modPort port fun p =>
        { p with high := high.toNat, pos := if posValid then some src.toNat else none, hbT := now,
                 runT := if p.runT.isNone || 4000 < since now p.hbT then some now else p.runT }
      let s := if port || s.isRoot then s
        else s.modHng fun h => { h with pos := if posValid && src.toNat < 63 then some (src.toNat + 1) else none }
      if s.freeTime || port != s.alignPort then s else s.compareTime (s.timeDiff sent fine)

/-! Barriers. -/

/-- Every reachable device has entered: WAITING clears and DONE is set (12_hinge_array R429). -/
def State.barrierDone (s : State) (id n : Nat) : State :=
  s.modHng fun h =>
    let mine := h.bWait
    { h with bParts := n, bWait := h.bWait && !mine, bDone := h.bDone || mine, bGath := h.bGath.filter fun g => g.2.1 != id }

/-- The device has entered: once every port away from the root that leads to reachable devices has brought its gather, it adds itself and passes the
gather on; the root releases (12_hinge_array R429; log entry 33). -/
def State.barrierTry (s : State) : State :=
  match s.hpos with
  | none => s
  | some p =>
    if !s.hng.bWait then s
    else
      let id := s.regF 0x1C0048 7 0
      let far := [false, true].filter fun d => (p == 0 || s.route 0 != some d) && (List.range 64).any fun q => s.route q == some d
      let gs := far.map fun d => s.hng.bGath.find? fun g => g.1 == d && g.2.1 == id
      if gs.any Option.isNone then s
      else
        let n := 1 + (gs.map fun g => (g.map fun g => g.2.2).getD 0).foldl (· + ·) 0
        if p == 0 then (s.broadcast 0x06 id (BitVec.ofNat 64 (2 ^ 63 + n % 128))).barrierDone id n
        else s.sendTo 0 0x06 id (BitVec.ofNat 64 (n % 128))

/-- A write to HNG_BARRIER: ENTER enters the ID, replacing an earlier entry; DONE reports the barrier entered last (12_hinge_array R429; log entry
34). -/
def State.barrierWrite (s : State) (v : W32) : State :=
  let s := (s.storeReg 0x1C0048 v).modHng fun h => { h with bDone := h.bDone && !bit v 29 }
  if bit v 31 then (s.modHng fun h => { h with bWait := true, bDone := false }).barrierTry else s

/-- BARRIER_ENTER (12_hinge_array R429). -/
def execBarrierEnter (t : Time) (w : Wr) (s : State) : Host.Outcome State Fault Refusal :=
  regCmd t 0x1C0048 w s fun v s => s.barrierWrite v

/-- BARRIER_GATHER: kept until this device has entered the same ID (12_hinge_array R429). -/
def execBarrierGather (t : Time) (port : Bool) (src : BitVec 6) (id : Byte) (n : BitVec 7) (s : State) : Host.Outcome State Fault Refusal :=
  timed t s fun s =>
    if !s.hears port || s.hpos.isNone || s.hpos == some src.toNat then s
    else
      (s.modHng fun h =>
        { h with bGath := (h.bGath.filter fun g => !(g.1 == port && g.2.1 == id.toNat)) ++ [(port, id.toNat, n.toNat)] }).barrierTry

/-- BARRIER_RELEASE (12_hinge_array R429). -/
def execBarrierRelease (t : Time) (port : Bool) (src : BitVec 6) (id : Byte) (n : BitVec 7) (s : State) : Host.Outcome State Fault Refusal :=
  takeBcast t port src 0x06 id.toNat (BitVec.ofNat 64 (2 ^ 63 + n.toNat)) s fun s =>
    if s.regF 0x1C0048 7 0 == id.toNat then s.barrierDone id.toNat n.toNat
    else s.modHng fun h => { h with bParts := n.toNat, bGath := h.bGath.filter fun g => g.2.1 != id.toNat }

/-! Partner loss. -/

/-- The positions that a loss of `q` cuts off from this device: in a chain also those beyond it (12_hinge_array R424). -/
def State.cutOff (s : State) (q : Nat) : W64 :=
  let p := s.hpos.getD 0
  (List.range 64).foldl (fun m r =>
    if r == q || (!s.ringed && ((p < q && q < r && r ≤ s.hTop) || (q < p && r < q))) then m ||| (1#64 <<< r) else m) 0

/-- Traffic of a ring begins or ceases to use the closure link: vector 24 (12_hinge_array R425; 09_host_link R346; 14_faults, event log). -/
def State.setReroute (s : State) (on : Bool) : State :=
  if !s.ringed || s.hng.rerouted == on then s
  else ((s.modHng fun h => { h with rerouted := on, reN := h.reN + 1 }).raise 24).logEvent 0x07 3 on.toNat 0 0

/-- The positions in `m` are lost: HNG_LOST, vector 24, in a chain ALIGNED of a device cut off from the root ends, and a sequence lock that one of them
owns is released (12_hinge_array R424, R425; 03_sequence_table R121). -/
def State.markLost (s : State) (m : W64) : State :=
  let s := (s.modHng fun h => { h with lost := h.lost ||| m }).raise 24
  let s := if s.freeTime && !s.isRoot then s.modHng fun h => { h with aligned := false, alGood := 0 } else s
  if s.seq.held && bit s.seq.src 6 && m.getLsbD (fld s.seq.src 5 0) then s.unlock else s

/-- Position `q` and what only it reached are lost; traffic of a ring goes round the other way, and a barrier goes on without them
(12_hinge_array R424, R425, R429). -/
def State.loseAt (s : State) (q : Nat) : State := ((s.markLost (s.cutOff q)).setReroute true).barrierTry

/-- Position `q` has rejoined. -/
def State.regain (s : State) (q : Nat) : State :=
  let s := s.modHng fun h => { h with lost := h.lost &&& ~~~s.cutOff q }
  if s.hng.lost == 0 then s.setReroute false else s

/-- PARTNER_LOST: no valid heartbeat for 4 us. The port retrains; a LOSS frame leaves by the other port (12_hinge_array R423 to R425; 01_line_tick R55;
10_clocks R352). -/
def execPartnerLost (t : Time) (port : Bool) (s : State) : Host.Outcome State Fault Refusal :=
  timed t s fun s =>
    let p := s.port port
    if p.st != 2 || p.lost || since s.now p.hbT < 8000 || s.clk.aGated.isSome then s
    else
      let align := s.alignPort == port && !s.isRoot
      let clos := s.closure port && !s.hng.rerouted
      let s := s.modPort port fun p => { p with st := 3, lost := true, runT := none, marks := 0, markSum := 0 }
      let s := s.modHng fun h =>
        { h with lossUp := if port then h.lossUp else h.lossUp + 1, lossDn := if port then h.lossDn + 1 else h.lossDn,
                 aligned := h.aligned && !align, alGood := if align then 0 else h.alGood,
                 bGath := h.bGath.filter fun g => g.1 != port }
      let q := p.pos.getD 0
      let s := s.logEvent 0x07 1 port.toNat q 0
      let s := if p.pos.isSome && s.hpos.isSome then
          let s := s.sendBcast (!port) 0x0B (frame true 0x0B (s.hpos.getD 0) 0 1 (BitVec.ofNat 64 q))
          if clos then s.markLost (1#64 <<< q) else s.loseAt q
        else s.raise 24
      let s := if s.regF 0x10000 29 28 == (if port then 2 else 1) && s.regF 0x10030 0 0 == 0 then s.enterStopped else s
      if port then s else s.refLost 1

/-- PARTNER_REJOIN: the port is UP and heartbeats have come for 100 us without a gap of 2 us (12_hinge_array R423, R424). -/
def execPartnerRejoin (t : Time) (port : Bool) (s : State) : Host.Outcome State Fault Refusal :=
  timed t s fun s =>
    let p := s.port port
    let long := match p.runT with
      | some x => decide (200000 ≤ since s.now x)
      | none => false
    if p.st == 2 && p.lost && long then
      let q := p.pos.getD 0
      let s := (s.modPort port fun p => { p with lost := false }).logEvent 0x07 2 port.toNat q 0
      if p.pos.isSome && s.hpos.isSome then
        (s.sendBcast (!port) 0x0B (frame true 0x0B (s.hpos.getD 0) 0 0 (BitVec.ofNat 64 q))).regain q
      else s
    else s

/-- LOSS (12_hinge_array R424). -/
def execLoss (t : Time) (port : Bool) (src : BitVec 6) (lost : Bool) (pos : BitVec 6) (s : State) : Host.Outcome State Fault Refusal :=
  takeBcast t port src 0x0B lost.toNat (pos.setWidth 64) s fun s =>
    if lost then s.loseAt pos.toNat else s.regain pos.toNat

/-! Relayed references and triggers. -/

/-- A tick source counts a REF or TRIG frame and does not forward it (12_hinge_array R417). -/
def State.conflict (s : State) (p : Bool) : State :=
  if s.hears p then s.modHng fun h => { h with confl := h.confl + 1 } else s

/-- Hops from position `src` to this device by port `p`: along the chain, else round the closure link (12_hinge_array R411, R417). -/
def State.hopsFrom (s : State) (p : Bool) (src : Nat) : Nat :=
  let q := s.hpos.getD 0
  if p then (if q < src then src - q else s.hTop + 1 - q + src) else if src < q then q - src else q + 1 + s.hTop - src

/-- REF: the stamp goes to the LPLL of a member whose source is the relay of this port (12_hinge_array R417). -/
def execRef (t : Time) (port : Bool) (src : BitVec 6) (stamp : W64) (s : State) : Host.Outcome State Fault Refusal :=
  if bit (s.reg 0x1C0000) 28 then timed t s fun s => s.conflict port
  else takeBcast t port src 0x03 0 stamp s fun s =>
    if s.running && s.mode == 1 && s.tckSrc == (if port then 2 else 1) then s.modClk fun c => { c with refQ := c.refQ ++ [some stamp], refHops := s.hopsFrom port src.toNat } else s

/-- TRIG: its arrival is a trigger edge at the receiver of a direct-mode member whose source is the relay of this port (12_hinge_array R421). An OVERRUN
record of it names an input, which no rule gives: a free value (log entry 3). -/
def execTrig (t : Time) (port : Bool) (src : BitVec 6) (stamp : W64) (s : State) : Host.Outcome State Fault Refusal :=
  if bit (s.reg 0x1C0000) 28 then timed t s fun s => s.conflict port
  else takeBcast t port src 0x04 0 stamp s fun s =>
    if s.running && s.mode == 2 && s.tckSrc == (if port then 2 else 1) then
      s.useFree.trigger ((Config.freeValue s.free).toNat % 4) s.now
    else s

/-! Broadcast values. -/

/-- HNG_BCAST_TX (12_hinge_array R427, R428). -/
def State.bcastTx (s : State) (v : W32) : State := if s.hpos.isSome then s.broadcast 0x05 0 (v.setWidth 64) else s

/-- HNG_BCAST_TX write. -/
def execHngBcastTx (t : Time) (w : Wr) (s : State) : Host.Outcome State Fault Refusal := regCmd t 0x1C0038 w s fun v s => s.bcastTx v

/-- BCAST: one update of HNG_BCAST_RX (12_hinge_array R428). -/
def execBcast (t : Time) (port : Bool) (src : BitVec 6) (v : W32) (s : State) : Host.Outcome State Fault Refusal :=
  takeBcast t port src 0x05 0 (v.setWidth 64) s fun s =>
    s.modHng fun h =>
      { h with rx := pack 64 [((fld h.rx 63 56 + 1) % 256, 56), (1, 55), (1, 54), (src.toNat, 48), (v.toNat, 0)] }

/-- BCAST_RX_READ: the addressed bytes, clearing FRESH where they cover it (12_hinge_array R428). -/
def execBcastRxRead (t : Time) (lo nb : Nat) (s : State) : Host.Outcome State Fault Refusal :=
  timed t s fun s => s.busRead (0x1C0040 + lo) nb

/-! Scheduled operations. -/

/-- The time armed for operation `op`, and its issuer. -/
def State.armed (s : State) (op : Nat) : Option (Time × Nat) :=
  if op == 0 then s.hng.aSnap else if op == 1 then s.hng.aCommit else s.hng.aReset.map fun r => (r.1, r.2.1)

/-- Arm an operation at `x`; a commit is pending from now on (12_hinge_array R430, R431). -/
def State.arm (s : State) (op : Nat) (x : Time) (src dest : Nat) (all : Bool) : State :=
  s.modHng fun h =>
    { h with schedT := x, aSnap := if op == 0 then some (x, src) else h.aSnap, aCommit := if op == 1 then some (x, src) else h.aCommit,
             aReset := if op == 2 then some (x, src, dest, all) else h.aReset }

/-- SCHED: late after T; of two of a kind the earlier T is kept, at equal T the lower issuer, and the issuer of the other is told
(12_hinge_array R433; log entry 35). -/
def execSched (t : Time) (port : Bool) (src : BitVec 6) (op : BitVec 2) (dest : BitVec 6) (all : Bool) (at' : W64) (s : State) :
    Host.Outcome State Fault Refusal :=
  takeBcast t port src 0x07 (op.toNat + 4 * dest.toNat + 256 * all.toNat) at' s fun s =>
    if op == 3#2 then s
    else if !reached at' s.now then s.modHng fun h => { h with sLate := h.sLate + 1 }
    else match s.armed op.toNat with
      | none => s.arm op.toNat at' src.toNat dest.toNat all
      | some (x, q) =>
        let new := !reached at' x || (at' == x && src.toNat < q)
        let s := s.modHng fun h => { h with sConf := h.sConf + 1, refused := h.refused || (new && s.hpos == some q) }
        if new then s.arm op.toNat at' src.toNat dest.toNat all else s

/-- T of an operation issued now: L later, in tracked mode and HOLDOVER the midpoint of the two predicted ticks that enclose it
(12_hinge_array R430). -/
def State.schedTime (s : State) (lead : Nat) : Time :=
  let x := s.now + BitVec.ofNat 64 ((s.hCount - 1) * 80 + 120 + lead * 2000)
  match s.tick.last with
  | some l =>
    if (s.tick.st == 3 || (s.mode == 1 && (s.clk.lpll == 2 || s.clk.lpll == 3))) && s.clk.tickT != 0 then
      l + BitVec.ofNat 64 (since x l / s.clk.tickT * s.clk.tickT + s.clk.tickT / 2)
    else x
  | none => x

/-- A write to HNG_SCHED_CTL: OP = 3 is rejected; a GO while one of the kind is armed, or without a position, is refused
(12_hinge_array R427, R430, R437; log entry 34). -/
def State.schedWrite (s : State) (w : Wr) (v : W32) : State :=
  let op := fld v 30 29
  if op == 3 then s.reject 3 w.src 0x1C0050
  else
    let s := (s.storeReg 0x1C0050 v).modHng fun h => { h with refused := h.refused && !bit v 25 }
    if !bit v 31 then s
    else match s.hpos, s.armed op with
      | some p, none =>
        let x := s.schedTime (fld v 15 0)
        let dest := fld v 24 19
        let all := bit v 18
        let s := s.modHng fun h => { h with refused := false }
        (s.broadcast 0x07 (op + 4 * dest + 256 * all.toNat) x).arm op x p dest all
      | _, _ => s.modHng fun h => { h with refused := true }

/-- SCHED_GO (12_hinge_array R430). -/
def execSchedGo (t : Time) (w : Wr) (s : State) : Host.Outcome State Fault Refusal :=
  regCmd t 0x1C0050 w s fun v s => s.schedWrite w v

/-- An operation armed for `x` executes without a tick: 1 us after T, or at once in STOPPED; after an interruption, 1 us after its end
(12_hinge_array R431, R433; 10_clocks R360). -/
def State.schedDue (s : State) (x : Time) : Bool :=
  reached s.now x && !s.noTicks && (s.tick.st == 0 || (2000 ≤ since s.now x && s.settled))

/-- A scheduled commit without a tick; its change of direction waits for a tick where ticks run (01_line_tick R51; 12_hinge_array R431; log entry 36). -/
def State.schedCommit (s : State) : State :=
  let old := s.mode
  let s := (s.commitEffect s.tick.line.toNat s.encNow s.now).commitDir (!s.untimed)
  (if s.running then s.changeMode old else s).minPeriod

/-- SCHED_DEADLINE: the snapshot, then the commit, then the reset (12_hinge_array R431, R432). -/
def execSchedDeadline (t : Time) (s : State) : Host.Outcome State Fault Refusal :=
  timed t s fun s =>
    let due : Option Time → Bool := fun o => (o.map s.schedDue).getD false
    let d0 := due (s.hng.aSnap.map (·.1))
    let d1 := due (s.hng.aCommit.map (·.1))
    let d2 := due (s.hng.aReset.map (·.1))
    let late := ([(d0, s.hng.aSnap.map (·.1)), (d1, s.hng.aCommit.map (·.1)), (d2, s.hng.aReset.map (·.1))].filter fun p =>
      p.1 && (p.2.map s.spanned).getD false).length
    let s := s.modHng fun h => { h with sLate := h.sLate + BitVec.ofNat 8 late }
    let s := if d0 then (s.modHng fun h => { h with aSnap := none }).snapEffect s.tick.line.toNat s.encNow s.now else s
    let s := if d1 then (s.modHng fun h => { h with aCommit := none }).schedCommit else s
    if d2 then s.tickReset s.now else s

/-! Remote access. -/

/-- The next request number (12_hinge_array R410; log entry 9). -/
def State.nextReq (s : State) : State := s.modHng fun h => { h with req := (h.req + 1) % 2048 }

/-- The payload of a read or write frame: the BAR0 offset, and above it how many bytes fewer than eight the access has, which no rule gives
(12_hinge_array R410; DESIGN CHOICE, log entry 37). -/
def mntAddr (off nb : Nat) : W64 := pack 64 [(off % 2 ^ 22, 0), ((8 - nb) % 8, 22)]

/-- Send a remote write: MNT_WR followed at once by MNT_DATA (12_hinge_array R410). -/
def State.sendWrite (s : State) (q off nb : Nat) (v : W64) : State :=
  ((s.sendTo q 0x09 s.hng.req (mntAddr off nb)).sendTo q 0x0A s.hng.req v).nextReq

/-- Send a remote read. -/
def State.sendRead (s : State) (q off nb : Nat) : State := (s.sendTo q 0x08 s.hng.req (mntAddr off nb)).nextReq

/-- A maintenance access ends with ERR: all ones for a read, vector 24 (12_hinge_array R435; 09_host_link R346). -/
def State.mntFail (s : State) (rd : Bool) : State :=
  (s.modHng fun h => { h with mErr := true, mnt := none, rdata := if rd then BitVec.allOnes 64 else h.rdata }).raise 24

/-- A write to HNG_MNT_CTL (12_hinge_array R435, R437; 09_host_link R340; log entry 34). -/
def State.mntCtlWrite (s : State) (w : Wr) (v : W32) : State :=
  if bit v 31 && s.hng.mnt.isSome then s.reject 4 w.src 0x1C0068
  else
    let s := (s.storeReg 0x1C0068 v).modHng fun h => { h with mErr := h.mErr && !bit v 28 && !bit v 31 }
    if !bit v 31 then s
    else
      let q := s.regF 0x1C0070 31 26
      let off := s.regF 0x1C0070 21 0
      if (s.route q).isNone then s.mntFail (!bit v 30)
      else if bit v 30 then s.sendWrite q off 8 s.hng.wdata
      else (s.modHng fun h => { h with mnt := some (h.req, s.now) }).sendRead q off 8

/-- MNT_READ: HNG_MNT_CTL with GO = 1 and WRITE = 0 (12_hinge_array R435). -/
def execMntRead (t : Time) (w : Wr) (s : State) : Host.Outcome State Fault Refusal := regCmd t 0x1C0068 w s fun v s => s.mntCtlWrite w v

/-- MNT_WRITE: HNG_MNT_CTL with GO = 1 and WRITE = 1 (12_hinge_array R435). -/
def execMntWrite (t : Time) (w : Wr) (s : State) : Host.Outcome State Fault Refusal := regCmd t 0x1C0068 w s fun v s => s.mntCtlWrite w v

/-- MNT_TIMEOUT: no answer within 20 us (12_hinge_array R435). -/
def execMntTimeout (t : Time) (s : State) : Host.Outcome State Fault Refusal :=
  timed t s fun s =>
    match s.hng.mnt with
    | some (_, x) => if 40000 ≤ since s.now x then s.mntFail true else s
    | none => s

/-- The host's read of `nb` bytes at `x` of the remote window completes with `v`. -/
def State.winData (s : State) (x nb : Nat) (v : W64) : State := s.emit (.rdData (0x300000 + x) nb (narrow v 0 nb))

/-- Issue a read of the remote window (09_host_link R338 to R340). -/
def State.winIssue (s : State) (q x nb : Nat) : State :=
  if (s.route q).isNone then (s.modHost fun h => { h with rRef := h.rRef + 1 }).winData x nb (BitVec.allOnes 64)
  else (s.modHost fun h => { h with rwin := h.rwin ++ [(s.hng.req, x, nb, s.now)] }).sendRead q x nb

/-- Reads that waited for a place are issued in order (09_host_link R339). -/
def State.winNext (s : State) : List (Nat × Nat × Nat) → State
  | [] => s.modHost fun h => { h with rwait := [] }
  | (q, x, nb) :: r =>
    if s.host.rwin.length < 8 then (s.winIssue q x nb).winNext r else s.modHost fun h => { h with rwait := (q, x, nb) :: r }

/-- A read of `nb` bytes at `x` of the remote window (09_host_link R312, R338 to R341). -/
def State.winRead (s : State) (x nb : Nat) : State :=
  if 8 < x % 8 + nb || nb == 0 then (s.emit (.rdAbort (0x300000 + x))).aer 15
  else if !bit (s.reg 0x104030) 31 then (s.modHost fun h => { h with rRef := h.rRef + 1 }).winData x nb (BitVec.allOnes 64)
  else
    let q := s.regF 0x104030 30 25
    if s.host.rwin.length < 8 && s.host.rwait.isEmpty then s.winIssue q x nb
    else s.modHost fun h => { h with rwait := h.rwait ++ [(q, x, nb)] }

/-- A write at `x` of the remote window: posted, with the width it has (09_host_link R338 to R340; log entry 37). -/
def State.winWrite (s : State) (x : Nat) (w : Wr) : State :=
  let q := s.regF 0x104030 30 25
  if bit (s.reg 0x104030) 31 && (s.route q).isSome then s.sendWrite q x w.nb w.v
  else s.modHost fun h => { h with rRef := h.rRef + 1 }

/-- REMOTE_WINDOW_READ (09_host_link R309, R339). -/
def execRemoteWindowRead (t : Time) (x nb : Nat) (s : State) : Host.Outcome State Fault Refusal :=
  timed t s fun s =>
    if 0x100000 ≤ x then s
    else if !s.host.memEn then s.aer 20
    else if s.stalls (0x300000 + x) then
      s.modClk fun c => { c with wait := c.wait ++ [{ t := s.now, off := 0x300000 + x, nb := nb, w := none, rem := none }] }
    else s.winRead x nb

/-- REMOTE_WINDOW_WRITE (09_host_link R309, R338). -/
def execRemoteWindowWrite (t : Time) (x : Nat) (w : Wr) (s : State) : Host.Outcome State Fault Refusal :=
  timed t s fun s =>
    if 0x100000 ≤ x then s
    else if isLocal w && !s.host.memEn then s.aer 20
    else if s.stalls (0x300000 + x) then
      s.modClk fun c => { c with wait := c.wait ++ [{ t := s.now, off := 0x300000 + x, nb := w.nb, w := some w, rem := none }] }
    else s.winWrite x w

/-- REMOTE_READ_TIMEOUT: the oldest read has had no answer for 20 us (09_host_link R340). -/
def execRemoteReadTimeout (t : Time) (s : State) : Host.Outcome State Fault Refusal :=
  timed t s fun s =>
    match s.host.rwin with
    | (_, x, nb, t0) :: r =>
      if since s.now t0 < 40000 then s
      else ((s.modHost fun h => { h with rTo := h.rTo + 1, rwin := r }).winData x nb (BitVec.allOnes 64)).winNext s.host.rwait
    | [] => s

/-- A write to RF_RWIN_SEL, rejected while a remote read is outstanding (09_host_link R341, RF_RWIN_SEL). -/
def State.rwinSelWrite (s : State) (w : Wr) (v : W32) : State :=
  if !s.host.rwin.isEmpty || !s.host.rwait.isEmpty then s.reject 4 w.src 0x104030 else s.storeReg 0x104030 v

/-- RWIN_SEL_WRITE (09_host_link R341). -/
def execRwinSelWrite (t : Time) (w : Wr) (s : State) : Host.Outcome State Fault Refusal := regCmd t 0x104030 w s fun v s => s.rwinSelWrite w v

/-- MNT_RD of `nb` bytes: this device answers, clearing what such a read clears, or the read waits with the clocks of its block
(12_hinge_array R410, R435, R436; 09_host_link R312, R338; 10_clocks R360). -/
def execMntRd (t : Time) (port : Bool) (src dest : BitVec 6) (req : BitVec 11) (acc : Access) (s : State) :
    Host.Outcome State Fault Refusal :=
  takeFrame t port src dest 0x08 req.toNat (mntAddr acc.off.toNat acc.nb) s fun s =>
    let a := acc.off.toNat
    let r0 := a - a % 8
    if s.stalls r0 && (early r0 || s.running) then
      s.modClk fun c => { c with wait := c.wait ++ [{ t := s.now, off := a, nb := acc.nb, w := none, rem := some (src.toNat, req.toNat) }] }
    else
      let r := s.readReg r0 (a % 8) acc.nb
      r.2.sendTo src.toNat 0x0A req.toNat r.1

/-- MNT_DATA: the answer to a read of HNG_MNT or of the remote window (12_hinge_array R435; 09_host_link R339). -/
def execMntData (t : Time) (port : Bool) (src dest : BitVec 6) (req : BitVec 11) (err : Bool) (v : W64) (s : State) :
    Host.Outcome State Fault Refusal :=
  takeFrame t port src dest 0x0A (req.toNat + 2048 * err.toNat) v s fun s =>
    let v := if err then BitVec.allOnes 64 else v
    match s.host.rwin.find? fun r => r.1 == req.toNat with
    | some (_, x, nb, _) =>
      ((s.modHost fun h => { h with rwin := h.rwin.filter fun r => r.1 != req.toNat }).winData x nb v).winNext s.host.rwait
    | none =>
      if s.hng.mnt.map (·.1) == some req.toNat then
        if err then s.mntFail true else s.modHng fun h => { h with mnt := none, rdata := v }
      else s

/-- PCIE_EVT: a sequence lock owned by the issuer is released (12_hinge_array R436; 03_sequence_table R121). -/
def execPcieEvt (t : Time) (port : Bool) (src : BitVec 6) (kind : BitVec 2) (s : State) : Host.Outcome State Fault Refusal :=
  takeBcast t port src 0x0C 0 (kind.setWidth 64) s fun s =>
    if s.seq.held && bit s.seq.src 6 && fld s.seq.src 5 0 == src.toNat && kind != 0#2 then s.unlock else s

end Machine
end Sys2Proof
end

