-- ==== Sys2Proof/Machine/Ward.lean ====
section
/-! DEFINITION. Ward verification of an image slot, and the rules of the canvas (13_boot_security R456 to R460; 07_kernels_records R242 to R244, R260;
10_clocks R365). -/

namespace Sys2Proof
namespace Machine

/-! OTP entries (13_boot_security R446 to R448). -/

/-- The seal of an entry: bits 30 to 0 of the CRC over W0 to W6. -/
def otpSeal (v : BitVec 256) : Nat := (crc32c (bytesLE 28 v)).toNat % 2 ^ 31

/-- Every field of the entry meets R446 and R448. -/
def otpFields (e : Nat) (v : BitVec 256) : Bool :=
  let w := fun j => (otpWord v j).toNat
  let zero := fun (l : List Nat) => l.all fun j => w j == 0
  let arg := w 0 % 65536
  fld (otpWord v 0) 27 22 == e && fld (otpWord v 0) 21 16 == 0 && w 7 == 2 ^ 31 + otpSeal v &&
  match fld (otpWord v 0) 31 28 with
  | 1 =>
    if arg == 1 then zero [3, 4, 5, 6]
    else if arg == 2 then w 1 < 65536 && zero [2, 3, 4, 5, 6]
    else (0x10 ≤ arg && arg ≤ 0x13) || arg == 0x20 || arg == 0x21
  | 2 => arg ≤ 16378
  | 3 => arg == 0 && zero [2, 3, 4, 5, 6]
  | 4 => arg ≤ 1 && zero [1, 2, 3, 4, 5, 6]
  | _ => false

/-- The class of entry `e` that reads `n` with the normal and `m` with the margin reference: 0 EMPTY, 1 VALID, 2 VOID, 3 WEAK
(13_boot_security R447). -/
def otpClass (e : Nat) (n m : BitVec 256) : Nat :=
  if n == 0 && m == 0 then 0
  else if n != m then if m &&& ~~~n == 0 then 3 else 2
  else if otpFields e n then 1 else 2

/-! The canvas (13_boot_security R459, R460). -/

/-- The sections of the body at flash address `a`: type, offset, length. -/
def State.sections (s : State) (a : Nat) : List (Nat × Nat × Nat) :=
  (List.range (min 32 (s.flashNat (a + 8) 4))).map fun i =>
    (s.flashNat (a + 0x10 + 16 * i) 4, s.flashNat (a + 0x18 + 16 * i) 4, s.flashNat (a + 0x1C + 16 * i) 4)

/-- Flash address and length of the section of a type. -/
def secAt (l : List (Nat × Nat × Nat)) (a ty : Nat) : Option (Nat × Nat) := (l.find? fun x => x.1 == ty).map fun x => (a + x.2.1, x.2.2)

/-- Two extents have no byte in common. -/
def disjoint (x y : Nat × Nat) : Bool := x.1 + x.2 ≤ y.1 || y.1 + y.2 ≤ x.1

/-- Every extent lies within `size` at a multiple of 8, and none overlaps another. -/
def placedOk (size : Nat) : List (Nat × Nat) → Bool
  | [] => true
  | x :: r => x.1 % 8 == 0 && x.1 + x.2 ≤ size && r.all (disjoint x) && placedOk size r

/-- The directory: header, types, placement, the required sections, lengths. -/
def State.dirOk (s : State) (a len : Nat) : Bool :=
  let n := s.flashNat (a + 8) 4
  let l := s.sections a
  s.flashNat a 4 == 0x0004A1A0 && s.flashNat (a + 4) 4 == 1 && 1 ≤ n && n ≤ 32 && s.flashNat (a + 12) 4 == 0 &&
  ((List.range n).all fun i => s.flashNat (a + 0x14 + 16 * i) 4 == 0) &&
  l.all (fun x => 1 ≤ x.1 && x.1 ≤ 8) && (l.map fun x => x.1).Nodup &&
  [1, 2, 3, 4, 5, 6].all (fun ty => (secAt l a ty).isSome) &&
  placedOk len ((0, 0x10 + 16 * n) :: l.map fun x => (x.2.1, x.2.2)) &&
  l.all fun x =>
    let c := s.flashNat (a + x.2.1) 4
    match x.1 with
    | 1 => x.2.2 == 1028
    | 2 => x.2.2 == 2048
    | 3 => let k := s.flashNat (a + x.2.1 + 4) 4; 1 ≤ k && k ≤ 3840 && x.2.2 == 8 + 4 * k
    | 4 => x.2.2 == 4096
    | 5 => x.2.2 == 128
    | 6 => x.2.2 == 8
    | 7 => x.2.2 == 1216
    | _ => c ≤ 512 && x.2.2 == 4 + 16 * c

/-- The fields of the standard kernels in a parameter set: kernel, offset, bytes, least and greatest legal value (07_kernels_records R260). -/
def kernelFields : List (Nat × Nat × Nat × Nat × Nat) :=
  [(1, 0, 1, 0, 1), (2, 0, 2, 1, 65535), (2, 2, 4, 655360, 950272), (2, 6, 2, 1024, 4000), (2, 8, 1, 0, 1), (3, 0, 1, 0, 1), (4, 0, 1, 0, 8)] ++
  ((List.range 4).map fun b => (4, 2 + 2 * b, 2, 0, 65535)) ++ ((List.range 8).map fun b => (5, 2 * b, 2, 1, 65535)) ++
  [(5, 0x10, 1, 1, 32), (5, 0x11, 1, 1, 128), (5, 0x12, 1, 0, 15)] ++ ((List.range 4).map fun b => (5, 0x14 + 2 * b, 2, 0, 65535)) ++
  [(6, 0, 1, 0, 7), (6, 1, 1, 0, 15), (6, 2, 2, 1, 65535), (8, 0, 1, 0, 4), (8, 1, 1, 0, 2), (8, 2, 1, 0, 7), (8, 3, 1, 0, 15), (8, 4, 1, 1, 15),
   (8, 6, 2, 1, 65535), (9, 0, 1, 0, 1), (9, 1, 1, 0, 15)]

/-- The set at flash address `p` is legal for a standard kernel: its fields hold legal values and every other byte is 0; BIN has no
fields (07_kernels_records R260; log entry 41). -/
def State.psetOk (s : State) (p code : Nat) : Bool :=
  let fs := kernelFields.filter fun f => f.1 == code
  (fs.all fun f => let v := s.flashNat (p + f.2.1) f.2.2.1; f.2.2.2.1 ≤ v && v ≤ f.2.2.2.2) &&
  ((List.range 64).all fun o => (fs.any fun f => f.2.1 ≤ o && o < f.2.1 + f.2.2.1) || s.flashNat (p + o) 1 == 0)

/-- Offset of the CHANNEL parameter of a kernel. -/
def channelAt (code : Nat) : Option Nat := if code == 5 then some 0x12 else if code == 6 || code == 9 then some 1 else if code == 8 then some 3 else none

/-- The chain whose entry is at flash address `c` is legal, with the parameter sets at `p` (07_kernels_records R243, R244). -/
def State.chainOk (s : State) (c p : Nat) : Bool :=
  let codes := (List.range 8).map fun i => s.flashNat (c + 2 * i) 1
  let n := (codes.takeWhile (· != 0)).length
  let steps := codes.take n
  let std := steps.filter (· < 0x20)
  let had := fun (i k : Nat) => (codes.take i).contains k
  let pset := fun i => p + 0x40 * (s.flashNat (c + 2 * i + 1) 1 % 16)
  0 < n && (codes.drop n).all (· == 0) && steps.all (fun k => (1 ≤ k && k ≤ 9) || (0x20 ≤ k && k ≤ 0x3F)) && std.Nodup &&
  (List.range n).all fun i =>
    let k := codes.getD i 0
    (k == 1 || k == 9 || 0x20 ≤ k || (k == 6 && had i 5) || (k != 6 && had i 1) || (k == 8 && s.flashNat (pset i) 1 == 0)) &&
    (0x20 ≤ k || s.psetOk (pset i) k) &&
    match channelAt k with
    | some o => s.flashNat (c + 0x10) 2 / 2 ^ s.flashNat (pset i + o) 1 % 2 == 1
    | none => true

/-- A band table entry breaks R365. -/
def bandBad (v : Nat) : Bool :=
  let lo := v % 2 ^ 20
  let hi := v / 2 ^ 20 % 2 ^ 20
  let m := v / 2 ^ 44 % 16
  v / 2 ^ 63 == 1 && (lo < 100 || hi ≤ lo || 1000000 < hi || lo * 1024 * 2 ^ m < 2000000000 || 4200000000 < hi * 1024 * 2 ^ m || m < 2 ||
    v / 2 ^ 40 % 16 != 0 || v / 2 ^ 50 % 2 ^ 13 != 0)

/-- A preset may write the offset (13_boot_security R460). -/
def presetAt (off : Nat) : Bool :=
  ((0x10000 ≤ off && off < 0x20000) || (0x30000 ≤ off && off < 0x104000) || (0x180000 ≤ off && off < 0x1A0000) || (0x1E0000 ≤ off && off < 0x1F0000)) &&
  off != 0x180008 && !(0x101000 ≤ off && off < 0x102000 && 0x40 ≤ off % 0x100 && off % 0x100 < 0xA0)

/-- The rules of R460 on the body at flash address `a`, stage CANVAS. -/
def State.canvasOk (s : State) (a len : Nat) : Bool :=
  let l := s.sections a
  let at' := fun ty => ((secAt l a ty).map (·.1)).getD 0
  let seq := at' 1
  let chains := memPut 0 [] 0 (s.flashRd (at' 2) 2048)
  let par := at' 4
  let pin := fun e i => BitVec.ofNat 32 (s.flashNat (at' 7 + 152 * e + 4 * i) 4)
  let outs := (List.range 8).flatMap fun e => (sels (pin e 3)).filter (· != 63)
  s.dirOk a len &&
  (tableBad chains (s.flashNat seq 4) fun n w => BitVec.ofNat 32 (s.flashNat (seq + 4 + 16 * n + 4 * w) 4)).isNone &&
  ((List.range 64).all fun n => !chainDef chains n || s.chainOk (at' 2 + 0x20 * n) (par + 0x800)) &&
  (s.flashNat (at' 3) 4 % 2 == 0 || s.flashRd par 2048 == s.flashRd (at' 2) 2048) &&
  ((List.range 16).all fun i => !bandBad (s.flashNat (at' 5 + 8 * i) 8)) &&
  ((List.range 16).any fun i => s.flashNat (at' 5 + 8 * i) 8 / 2 ^ 63 == 1) &&
  (BitVec.ofNat 64 (s.flashNat (at' 6) 8) &&& ~~~(0x30F#64) == 0) &&
  ((secAt l a 7).isNone ||
    ((List.range 8).all fun e =>
      fld (pin e 0) 31 16 != 0 && !(sels (pin e 1)).any (fun x => 52 ≤ x && x ≤ 62) &&
      !(List.range 4).any fun i => fld (pin e 4) (31 - 2 * i) (30 - 2 * i) == 3) && outs.all (· < 36) && outs.Nodup) &&
  ((secAt l a 8).isNone || (List.range (s.flashNat (at' 8) 4)).all fun i => presetAt (s.flashNat (at' 8 + 4 + 16 * i) 8))

/-! The ward. -/

/-- What the ward finds in a slot. -/
structure Ward where
  err : Nat
  vend : BitVec 2
  own : BitVec 2
  canv : BitVec 2
  fw : W32
  owner : W32
  perm : BitVec 2
  canvVer : W32
  body : Nat
  bodyLen : Nat
  digs : List (List Byte)
deriving DecidableEq, Repr

/-- Both verifications of one object: bit 1 RSA, bit 0 SLH-DSA (13_boot_security R457, R458). -/
def signed (key : List Byte) (msg sig : List Byte) : BitVec 2 :=
  (if Config.rsaOk (key.take 384) msg (sig.take 384) then 2#2 else 0#2) ||| (if Config.slhOk (key.drop 384) msg (sig.drop 384) then 1#2 else 0#2)

/-- Length of a signature pair. -/
def sigLen : Nat := 384 + 16224

/-- The SHA-384 digest that the OTP gives for key set `k` (13_boot_security R448). -/
def State.keyDigest (s : State) (k : Nat) : List Byte :=
  [0x10 + 2 * k, 0x11 + 2 * k].flatMap fun a => ((s.otpFact a).map s.otpData).getD []

/-- Key set `k` may be used. -/
def State.keyGood (s : State) (k : Nat) : Bool := k ≤ 1 && s.keyPresent k && !s.revoked k

/-- Flash address of a slot: 1 A, 2 B (13_boot_security R454). -/
def slotBase (slot : Nat) : Nat := if slot == 2 then 0x01100000 else 0x00100000

/-- The ward on a slot: the steps of R458 in order, ended by the first that fails (13_boot_security R456 to R458; log entry 42). -/
def State.ward (s : State) (slot : Nat) : Ward :=
  let a := slotBase slot
  let n := fun o k => s.flashNat (a + o) k
  let rd := fun o k => s.flashRd (a + o) k
  let vm := n 0x08 8
  let oc := n 0x10 8
  let cm := n 0x18 8
  let nser := n (oc + 0x18) 4
  let pay := (n (vm + 0x18) 8, n (vm + 0x20) 8)
  let bod := (n (cm + 0x18) 8, n (cm + 0x20) 8)
  let ks := n (vm + 8) 4
  let vkey := rd (vm + 0x58) 432
  let vend := signed vkey (rd vm 0x208) (rd (vm + 0x208) sigLen)
  let oks := n (oc + 8) 4
  let osig := 0x1D0 + 8 * nser
  let own := signed (Config.romKeys oks) (rd oc osig) (rd (oc + osig) sigLen)
  let okey := rd (oc + 0x20) 432
  let canv := signed okey (rd cm 0x58) (rd (cm + 0x58) sigLen)
  let w : Ward :=
    { err := 0, vend := 0, own := 0, canv := 0, fw := BitVec.ofNat 32 (n (vm + 0xC) 4), owner := BitVec.ofNat 32 (n (oc + 0xC) 4),
      perm := BitVec.ofNat 2 (n (oc + 0x10) 4), canvVer := BitVec.ofNat 32 (n (cm + 0xC) 4), body := a + bod.1, bodyLen := bod.2,
      digs := [Config.sha384 (rd vm 0x208), Config.sha384 (rd oc osig), Config.sha384 (rd cm 0x58)] }
  if !(n 0 4 == 0x32545648 && n 4 4 == 1 && BitVec.ofNat 32 (n 0x3C 4) == crc32c (rd 0 0x3C) &&
      placedOk 0x01000000 [(0, 0x40), (vm, 0x208 + sigLen), pay, (oc, osig + sigLen), (cm, 0x58 + sigLen), bod]) then { w with err := 1 }
  else if !(n vm 4 == 0x0001A1A0 && n (vm + 4) 4 == 1 && ks ≤ 1 && n (vm + 0x10) 4 / 8 % 2 == 1 && 1 ≤ pay.2 && pay.2 ≤ 0x00C00000) then
    { w with err := 1 }
  else if !(s.keyGood ks && Config.sha384 vkey == s.keyDigest ks) then { w with err := 2 }
  else
    let w := { w with vend := vend }
    if vend == 1#2 then { w with err := 3 }
    else if vend == 2#2 then { w with err := 4 }
    else if vend == 0#2 then { w with err := 5 }
    else if Config.sha384 (rd pay.1 pay.2) != rd (vm + 0x28) 48 then { w with err := 6 }
    else if w.fw.toNat < s.minFw then { w with err := 7 }
    else if !(n oc 4 == 0x0002A1A0 && n (oc + 4) 4 == 1 && w.owner != 0 && n (oc + 0x10) 4 < 4 && nser ≤ 64 && s.keyGood oks) then { w with err := 8 }
    else
      let w := { w with own := own }
      if own != 3#2 then { w with err := 8 }
      else if nser != 0 && !((List.range nser).any fun i => n (oc + 0x1D0 + 8 * i) 8 == s.serial) then { w with err := 9 }
      else if !(n cm 4 == 0x0003A1A0 && n (cm + 4) 4 == 1 && 16 ≤ bod.2 && bod.2 ≤ 0x00200000 && BitVec.ofNat 32 (n (cm + 8) 4) == w.owner) then
        { w with err := 0xA }
      else
        let w := { w with canv := canv }
        if canv != 3#2 || Config.sha384 (rd bod.1 bod.2) != rd (cm + 0x28) 48 || w.canvVer.toNat < n (oc + 0x14) 4 ||
            n (cm + 0x10) 4 / 2 ^ Config.variant.toNat % 2 == 0 then { w with err := 0xA }
        else w

end Machine
end Sys2Proof
end

