-- ==== Sys2Proof/Machine/Mailbox.lean ====
section
/-! DEFINITION. The security mailbox: requests, responses, and what each command does (13_boot_security R450 to R453, R463 to R466). -/

namespace Sys2Proof
namespace Machine

/-! The buffer. -/

/-- Write the response: its length into word 0, its data from word 1 (13_boot_security R463). -/
def State.putResp (s : State) (bs : List Byte) : State :=
  s.modBoot fun b =>
    let m := Tbl.set 0 b.buf 0 (BitVec.ofNat 64 bs.length)
    { b with buf := (List.range (ceilDiv bs.length 8)).foldl (fun m i => Tbl.set 0 m (i + 1) (BitVec.ofNat 64 (leAt bs (8 * i) 8))) m }

/-- A response of 64-bit words (log entry 43). -/
def respWords (l : List Nat) : List Byte := l.flatMap fun n => bytesLE 8 (BitVec.ofNat 64 n)

/-! Commands. -/

/-- The attestation report (13_boot_security R466). -/
def State.report (s : State) : List Byte :=
  let b := s.boot
  let w4 := fun (v : W32) => bytesLE 4 (if s.running then v else 0)
  let dig := fun (i : Nat) => if s.running then b.digs.getD i [] else List.replicate 48 0
  let rev := (s.revoked 0).toNat + 2 * (s.revoked 1).toNat
  let body :=
    bytesLE 8 (1#64) ++ bytesLE 8 (s.readWord 0) ++ bytesLE 8 (BitVec.ofNat 64 s.serial) ++
    bytesLE 8 ((s.readWord 8) &&& 0xFFFFFFFF#64) ++ w4 b.fw ++ w4 b.canvVer ++ w4 b.owner ++
    bytesLE 4 (pack 32 [(s.otpCount 1, 24), (s.otpCount 2, 16), (s.otpCount 3, 8), (rev, 0)]) ++
    bytesLE 4 (BitVec.ofNat 32 s.minFw) ++ w4 s.cal.counter ++ bytesLE 8 s.now ++ dig 0 ++ dig 1 ++ dig 2 ++
    Config.sha384 ((List.range 64).flatMap fun e => bytesLE 32 (Tbl.get 0 b.otpN e)) ++ s.reqBytes 32 ++ Config.attestPub
  body ++ Config.attestSign body

/-- Every byte of the request lies in a region that mailbox writes may reach (13_boot_security R462, R465). -/
def State.flashAllowed (s : State) (a n : Nat) : Bool :=
  let within := fun (base size : Nat) => base ≤ a && a + n ≤ base + size
  if s.running then
    (s.boot.permO &&& s.boot.permS).getLsbD 1 && (if s.boot.slot == 1 then within 0x01100000 0x01000000 else within 0x00100000 0x01000000)
  else within 0x00100000 0x01000000 || within 0x01100000 0x01000000 || within 0x00100000 0x02000000 || within 0 0x10000

/-- BT_SLOT_RESULT as VERIFY_SLOT finds it (13_boot_security R464; log entry 43). -/
def State.verify (s : State) (slot : Nat) : SlotRes :=
  let w := s.ward slot
  let err := if w.err == 0 && !s.canvasOk w.body w.bodyLen then 0xB else w.err
  { tried := true, passed := err == 0, vend := w.vend, own := w.own, canv := w.canv, err := BitVec.ofNat 8 err }

/-- W0 to W6 of the entry that a package carries at index `i`, with its SLOT set to `e`. -/
def State.pkgEntry (s : State) (i e : Nat) : BitVec 256 :=
  BitVec.ofNat 256 (leAt (s.reqBytes (0x34 + 28 * i)) (0x18 + 28 * i) 28 + e * 2 ^ 22)

/-- The checks of a patch package: its result code, 0 when it may be burned (13_boot_security R450, R451). -/
def State.pkgCheck (s : State) (len : Nat) : Nat :=
  let bs := s.reqBytes len
  let k := leAt bs 8 4
  let n := leAt bs 12 4
  let sg := (0x18 + 28 * n + 7) / 8 * 8
  let ok := signed (Config.romKeys k) (bs.take sg) (bs.drop sg)
  if !(leAt bs 0 4 == 0x0005A1A0 && leAt bs 4 4 == 1 && k ≤ 1 && 1 ≤ n && n ≤ 8 && sg + sigLen ≤ len &&
      (List.range n).all fun i => leAt bs (0x18 + 28 * i) 4 / 2 ^ 22 % 64 == 0) then 2
  else if !s.keyGood k || ok != 3#2 then 5
  else if leAt bs 16 8 != s.serial then 8
  else if s.otpCount 0 < n then 7
  else 0

/-- One try at entry `e` with the words `v`: what the entry reads after it, and whether it was sealed (13_boot_security R452 steps 2 to 4). -/
def burnOne (fail : List (Nat × BitVec 256 × BitVec 256)) (e : Nat) (v : BitVec 256) : (BitVec 256 × BitVec 256) × Bool :=
  let sealed := v ||| BitVec.ofNat 256 ((2 ^ 31 + otpSeal v) * 2 ^ 224)
  match fail.find? fun f => f.1 == e with
  | none => ((sealed, sealed), true)
  | some (_, n, m) =>
    if n != m || n &&& ~~~v != 0 then ((n, m), false)
    else
      let x := n ||| BitVec.ofNat 256 ((2 ^ 31 + otpSeal v) * 2 ^ 224)
      ((x, x), true)

/-- Burn one package entry: the lowest EMPTY entries in turn, at most three; the burns made, and the entry that was sealed. -/
def State.burnTry (s : State) (fail : List (Nat × BitVec 256 × BitVec 256)) (i : Nat) :
    Nat → List (Nat × BitVec 256 × BitVec 256) → List (Nat × BitVec 256 × BitVec 256) × Option Nat
  | 0, b => (b, none)
  | k + 1, b =>
    match (List.range 64).find? fun e => s.otpState e == 0 && !b.any fun x => x.1 == e with
    | none => (b, none)
    | some e =>
      let r := burnOne fail e (s.pkgEntry i e)
      let b := b ++ [(e, r.1.1, r.1.2)]
      if r.2 then (b, some e) else s.burnTry fail i k b

/-- Burn the package entries in order until one fails: burns, response words, result (13_boot_security R452). -/
def State.burnAll (s : State) (fail : List (Nat × BitVec 256 × BitVec 256)) (n : Nat) :
    Nat → List (Nat × BitVec 256 × BitVec 256) → List Nat → List (Nat × BitVec 256 × BitVec 256) × List Nat × Nat
  | 0, b, r => (b, r, 0)
  | k + 1, b, r =>
    match s.burnTry fail (n - (k + 1)) 3 b with
    | (b, none) => (b, r, 7)
    | (b, some e) =>
      let st := match b.find? fun x => x.1 == e with
        | some x => otpClass e x.2.1 x.2.2
        | none => 0
      s.burnAll fail n k b (r ++ [e, st])

/-- The response and result of a command at this moment, and the OTP burns it makes (13_boot_security R464, R465). -/
def State.mbxRun (s : State) (op len : Nat) (fail : List (Nat × BitVec 256 × BitVec 256)) (re : Option (BitVec 256 × BitVec 256)) :
    List Byte × Nat × List (Nat × BitVec 256 × BitVec 256) :=
  let st := s.boot.stage
  let maint := st == 0x10 || st == 0x11
  let a := s.reqNat 0
  let n := s.reqNat 8
  if op == 1 then if st == 0x11 then ([], 3, []) else if len < 32 then ([], 2, []) else (s.report, 0, [])
  else if op == 2 then
    if len < 16 || 65528 < n || 0x04000000 < a + n then ([], 2, []) else (s.flashRd a n, 0, [])
  else if op == 3 then
    if len < 16 || a % 0x10000 != 0 || n % 0x10000 != 0 then ([], 2, []) else if s.flashAllowed a n then ([], 0, []) else ([], 4, [])
  else if op == 4 then
    let n := len - 8
    if len < 8 || a % 256 != 0 || n % 256 != 0 || 65280 < n then ([], 2, []) else if s.flashAllowed a n then ([], 0, []) else ([], 4, [])
  else if op == 5 then
    if st == 0x11 then ([], 3, []) else if len < 8 || 1 < a then ([], 2, []) else (respWords [(s.verify (a + 1)).val.toNat], 0, [])
  else if op == 6 then
    if !maint then ([], 3, [])
    else
      let c := s.pkgCheck len
      if c != 0 then ([], c, [])
      else
        let k := leAt (s.reqBytes 16) 12 4
        let r := s.burnAll fail k k [] []
        (respWords r.2.1, r.2.2, r.1)
  else if op == 7 then
    if len < 8 || 63 < a then ([], 2, []) else (bytesLE 32 (Tbl.get 0 s.boot.otpN a) ++ bytesLE 32 (Tbl.get 0 s.boot.otpM a), 0, [])
  else if op == 8 then
    if !maint then ([], 3, [])
    else if len < 8 || 63 < a || s.otpState a != 3 then ([], 2, [])
    else
      let old := Tbl.get 0 s.boot.otpN a
      let (x, y) := re.getD (old, old)
      let x := x ||| old
      (respWords [otpClass a x y], 0, [(a, x, y)])
  else if op == 9 then if len < 8 || 3 < a then ([], 2, []) else ([], 0, [])
  else ([], 1, [])

/-- The entries read what has been burned, and are classified again (13_boot_security R447, R452, R453). -/
def State.applyBurns (s : State) (l : List (Nat × BitVec 256 × BitVec 256)) : State :=
  s.modBoot fun b =>
    let b := b.burned l
    { b with otpSt := l.foldl (fun m x => Tbl.set 0 m x.1 (otpClass x.1 x.2.1 x.2.2)) b.otpSt }

/-- A write to SEC_MBX_CMD (13_boot_security R463). REBOOT acts at once (R464). -/
def State.mbxWrite (s : State) (w : Wr) (v : W32) (fail : List (Nat × BitVec 256 × BitVec 256)) (re : Option (BitVec 256 × BitVec 256)) : State :=
  let st := s.boot.stage
  if bit v 31 && (s.boot.mbx.isSome || !(st == 8 || st == 0x10 || st == 0x11)) then s.reject 4 w.src 0x202000
  else
    let s := s.storeReg 0x202000 v
    if !bit v 31 then s
    else
      let op := fld v 30 25
      let len := fld v 24 8
      let r := s.mbxRun op len fail re
      if op == 9 && r.2.1 == 0 then s.intReset (s.reqNat 0)
      else s.modBoot fun b => { b with mbx := some (op, len), mbxAfter := s.cal.saving.isSome, mbxResp := some (r.1, r.2.1), burn := r.2.2, mSrc := w.src }

/-- The mailbox commands that read no outcome from outside. -/
def mbxCmd (t : Time) (w : Wr) (s : State) : Host.Outcome State Fault Refusal := regCmd t 0x202000 w s fun v s => s.mbxWrite w v [] none

/-- ATTEST (13_boot_security R466). -/
def execAttest (t : Time) (w : Wr) (s : State) : Host.Outcome State Fault Refusal := mbxCmd t w s
/-- FLASH_READ (13_boot_security R464). -/
def execFlashRead (t : Time) (w : Wr) (s : State) : Host.Outcome State Fault Refusal := mbxCmd t w s
/-- FLASH_ERASE (13_boot_security R465). -/
def execFlashErase (t : Time) (w : Wr) (s : State) : Host.Outcome State Fault Refusal := mbxCmd t w s
/-- FLASH_WRITE (13_boot_security R465). -/
def execFlashWrite (t : Time) (w : Wr) (s : State) : Host.Outcome State Fault Refusal := mbxCmd t w s
/-- VERIFY_SLOT (13_boot_security R464). -/
def execVerifySlot (t : Time) (w : Wr) (s : State) : Host.Outcome State Fault Refusal := mbxCmd t w s
/-- OTP_READ (13_boot_security R464). -/
def execOtpRead (t : Time) (w : Wr) (s : State) : Host.Outcome State Fault Refusal := mbxCmd t w s
/-- REBOOT (13_boot_security R464). -/
def execReboot (t : Time) (w : Wr) (s : State) : Host.Outcome State Fault Refusal := mbxCmd t w s

/-- OTP_BURN: `fail` names entries that do not read back as burned, with what W0 to W6 read (13_boot_security R450 to R452). -/
def execOtpBurn (t : Time) (w : Wr) (fail : List (Nat × BitVec 256 × BitVec 256)) (s : State) : Host.Outcome State Fault Refusal :=
  regCmd t 0x202000 w s fun v s => s.mbxWrite w v fail none

/-- OTP_REBURN: the entry then reads `n` and `m` (13_boot_security R453). -/
def execOtpReburn (t : Time) (w : Wr) (n m : BitVec 256) (s : State) : Host.Outcome State Fault Refusal :=
  regCmd t 0x202000 w s fun v s => s.mbxWrite w v [] (some (n, m))

/-- What a flash command does to the flash: erase, or program, which only clears bits; a page that does not read back as written ends with result 6
(13_boot_security R464, R465; log entry 44). -/
def State.mbxFlash (s : State) (op len : Nat) : State × Nat :=
  let a := s.reqNat 0
  if op == 3 then
    let n := s.reqNat 8
    (s.modBoot fun b => { b with flash := b.flash.filter fun p => !(a ≤ p.1 && p.1 < a + n) }, 0)
  else
    let d := (s.reqBytes len).drop 8
    let old := s.flashRd a d.length
    let new := (d.zip old).map fun p => p.1 &&& p.2
    (s.flashPut a new, if new == d then 0 else 6)

/-- MAILBOX_COMMAND_END: the response, RESULT and TAG, vector 27; what is read from flash is read now, and a failing flash leaves free values where it
was written. A command that uses flash waits for a palette save that began before it (13_boot_security R455, R463). -/
def execMailboxCommandEnd (t : Time) (flashOk : Bool) (s : State) : Host.Outcome State Fault Refusal :=
  timed t s fun s =>
    match s.boot.mbx, s.boot.mbxResp with
    | some (op, len), some (bs, res) =>
      if s.boot.mbxAfter && s.mbxFlashes && s.cal.saving.isSome then s
      else
      let bs := if (op == 2 || op == 5) && res == 0 then (s.mbxRun op len [] none).1 else bs
      let wr := (op == 3 || op == 4) && res == 0
      let r : State × Nat :=
        if wr && flashOk then s.mbxFlash op len
        else if wr then (s.flashFree (s.reqNat 0) (if op == 3 then s.reqNat 8 else len - 8), 6)
        else (s.applyBurns s.boot.burn, if (op == 2 || op == 5) && res == 0 && !flashOk then 6 else res)
      let s := r.1.putResp (if r.2 == 0 || op == 6 then bs else [])
      (s.modBoot fun b => { b with mbx := none, mbxResp := none, burn := [], mRes := r.2, mTag := b.mTag + 1 }).saveStart.raise 27
    | _, _ => s

end Machine
end Sys2Proof
end

