-- ==== Sys2Proof/Machine/Thermal.lean ====
section
/-! DEFINITION. Thermal management: samples, plausibility and substitution, throttle steps, shutdown and rearm (15_thermal). -/

namespace Sys2Proof
namespace Machine

/-! One sample. -/

/-- The neighbours of a sensor (15_thermal R493). -/
def senNbrs (i : Nat) : List Nat :=
  if i < 32 then (if i == 0 then [] else [i - 1]) ++ (if i == 31 then [] else [i + 1])
  else if i == 32 then [0]
  else if i == 33 then [31]
  else (if i == 34 then [] else [i - 1]) ++ (if i == 39 then [] else [i + 1])

/-- Value of a reading, 1/16 C. -/
def rval (r : Reading) : Int := r.v.toInt

/-- The own checks at `now`: cause 4 pair, 1 range, 2 rate, 0 none (15_thermal R497). -/
def ownCheck (x : Sensor) (r : Reading) (now : Time) : Nat :=
  if r.c != ~~~r.v then 4
  else if rval r < -320 || 2080 < rval r then 1
  else match x.ref with
    | some (v, t) => if since now t < 12500 * (rval r - v).natAbs then 2 else 0
    | none => 0

/-- The causes of all sensors, neighbour check included; an inactive sensor has none (15_thermal R497). -/
def State.senCauses (s : State) (rs : Nat → Reading) : List Nat :=
  let own := (List.range 40).map fun i => if s.senActive i then ownCheck (s.sen i) (rs i) s.now else 0
  (List.range 40).map fun i =>
    let c := own.getD i 0
    let nb := (senNbrs i).filter fun j => s.senActive j && own.getD j 0 == 0
    if c != 0 || !s.senActive i then c
    else if !nb.isEmpty && nb.all fun j => 192 < (rval (rs i) - rval (rs j)).natAbs then 3
    else 0

/-- One sensor after its checks: reference, run of plausible samples, substitution (15_thermal R497 to R499). -/
def Sensor.take (x : Sensor) (r : Reading) (cause : Nat) (now : Time) : Sensor :=
  let raw := if r.c != ~~~r.v then 0x8000#16 else r.v
  if cause != 0 then { x with raw := raw, cause := cause, good := 0, sub := true }
  else
    let g := satInc 400 x.good
    { x with raw := raw, good := g, sub := x.sub && g < 400, ref := some (rval r, now) }

/-- One round of substitutes: from the sensors whose effective reading is known, first to those that pass their checks, from neighbours that do not
fail, else to all that remain (15_thermal R498; log entry 38). -/
def State.subRound (s : State) (fail : List Nat) (eff : List (Option Int)) : List (Option Int) :=
  let hot := fun (i : Nat) (ok : Nat → Bool) =>
    ((senNbrs i).filter fun j => s.senActive j && ok j).foldl (fun (m : Option Int) j => match eff.getD j none with
      | some e => some (match m with | some x => max x (e + 64) | none => e + 64)
      | none => m) none
  let a := (List.range 40).map fun i =>
    if (eff.getD i none).isNone && s.senActive i && fail.getD i 0 == 0 then hot i fun j => fail.getD j 0 == 0 else none
  let new := if a.any Option.isSome then a
    else (List.range 40).map fun i => if (eff.getD i none).isNone && s.senActive i then hot i fun _ => true else none
  (List.range 40).map fun i => (eff.getD i none).or (new.getD i none)

/-- The effective readings (15_thermal R496, R498). Where the rules name no reading a substitute could start from, it is a free value (log entry
38). -/
def State.effective (s : State) (rs : Nat → Reading) (fail : List Nat) (sub forced : List Bool) : List Int :=
  let lim : Int := 16 * s.regF 0x1E0000 15 8 - 32
  let known := (List.range 40).map fun i =>
    if !s.senActive i then none
    else if forced.getD i false then some lim
    else if sub.getD i false then none
    else some (rval (rs i))
  let eff := (List.range 40).foldl (fun e _ => s.subRound fail e) known
  (List.range 40).map fun i => (eff.getD i none).getD (sgn 16 (Config.freeValue (s.free + i)).toNat)

/-- Sensors and readings of a sample, with the log entries and counts of R498 to R500. -/
def State.senseAll (s : State) (rs : Nat → Reading) : State :=
  let fail := s.senCauses rs
  let now := s.now
  let xs := (List.range 40).map fun i => if s.senActive i then (s.sen i).take (rs i) (fail.getD i 0) now else s.sen i
  let sub := xs.map (·.sub)
  let bad := fun i => fail.getD i 0 != 0
  let forced := (List.range 40).map fun i =>
    bad i && (List.range 40).any fun j => bad j && ((senNbrs i).contains j || (senNbrs j).contains i)
  let eff := s.effective rs fail sub forced
  let xs := (List.range 40).map fun i =>
    let x := xs.getD i Sensor.fresh
    if s.senActive i then { x with eff := eff.getD i 0, forced := forced.getD i false } else x
  let s1 := { s with th := { s.th with sen := (List.range 40).foldl (fun t i => Tbl.set Sensor.fresh t i (xs.getD i Sensor.fresh)) s.th.sen } }
  let s1 := { s1 with free := s1.free + 40 }
  (List.range 40).foldl (fun z i =>
    let was := s.sen i
    let x := xs.getD i Sensor.fresh
    let z := if x.sub && !was.sub then
        let z := { z with th := { z.th with ack := true, subs := z.th.subs + 1 } }
        (z.raise 25).logEvent 0x0A 2 i x.cause (usg 64 x.raw.toInt)
      else if was.sub && !x.sub then z.logEvent 0x0A 3 i 0 0
      else z
    if x.forced then
      ((List.range 40).filter fun j => i < j && (xs.getD j Sensor.fresh).forced && ((senNbrs i).contains j || (senNbrs j).contains i) &&
        !(was.forced && (s.sen j).forced)).foldl (fun z j => z.logEvent 0x0A 4 i j 0) z
    else z) s1

/-! Temperatures and decisions. -/

/-- T_c, the sensor that gives it, the highest since the last clear, and the pixel die temperature (15_thermal R496; TH_MAX; log entry 39). -/
def State.temps (s : State) : State :=
  let act := (List.range 40).filter s.senActive
  match act with
  | [] => s
  | i :: r =>
    let (h, tc) := r.foldl (fun (m : Nat × Int) j => if m.2 < (s.sen j).eff then (j, (s.sen j).eff) else m) (i, (s.sen i).eff)
    let pix := if s.senActive 32 then Int.fdiv ((s.sen 32).eff + (s.sen 33).eff) 2 else s.th.pix
    { s with th := { s.th with tc := tc, hot := h, pix := pix, max := max s.th.max tc, maxS := if s.th.max < tc then h else s.th.maxS } }

/-- Entry threshold of step `j`, 1/16 C. -/
def State.stepAt (s : State) (j : Nat) : Int := 16 * ((s.regF 0x1E0000 31 24 + (j - 1) * s.regF 0x1E0000 23 21 : Nat) : Int)

/-- The shutdown warning (15_thermal R506). -/
def State.warning (s : State) : State :=
  let lim : Int := 16 * s.regF 0x1E0000 15 8 - 32
  let hyst : Int := 16 * s.regF 0x1E0000 20 16
  if !s.th.warn && lim ≤ s.th.tc then (({ s with th := { s.th with warn := true } }.raise 25).logEvent 0x0A 5 s.th.hot (usg 64 s.th.tc) 0)
  else if s.th.warn && s.th.tc < lim - hyst then { s with th := { s.th with warn := false } }
  else s

/-- A mailbox command that writes flash is abandoned, and a palette save (15_thermal R507; 14_faults R490). -/
def State.abandonFlash (s : State) : State :=
  let s := if s.cal.saveBusy then (s.modCal fun c => { c with saveBusy := false, saving := none }).raise 19 else s
  match s.boot.mbx with
  | some (op, _) => if op == 3 || op == 4 then s.modBoot fun b => { b with mbx := none, mbxResp := none } else s
  | none => s

/-- The device shuts down: HEALTH 5, STOPPED, pin engines idle, rings STOPPING (15_thermal R507). -/
def State.shutDown (s : State) : State :=
  let now := s.now
  let h := if s.running then s.flt.health else 0
  let s := ({ s with th := { s.th with shut := 1, shutT := now, shutH := h } }).health.enterStopped
  let s := (List.range 8).foldl (fun s e => (s.modPx e fun p => { p with st := 0, blk := none, seen := [], stopReq := false }).idleOuts e) s
  let s := ((List.range 16).filter fun ch => (s.ring ch).st == 1).foldl State.ringStop s
  s.abandonFlash

/-- The step due now: the highest step both latest samples reach, else one lower after the dwell (15_thermal R501, R502). -/
def State.stepDue (s : State) (prev : Option Int) : Option Nat :=
  let k := s.th.kNew.getD s.th.k
  let up := match prev with
    | some p => ((List.range 9).filter fun j => k < j && s.stepAt j ≤ min p s.th.tc).getLast?
    | none => none
  up.or (if 1 ≤ k && !s.th.ack && 4 * s.regF 0x1E0008 31 16 ≤ s.th.low.getD (k - 1) 0 then some (k - 1) else none)

/-- Throttle decision at a sample: at most one change in 20 ms; the next line's T_min follows the step decided (15_thermal R501 to R503; 01_line_tick
R38). -/
def State.decideStep (s : State) : State :=
  let prev := s.th.prev
  let hyst : Int := 16 * s.regF 0x1E0000 20 16
  let low := (List.range 8).map fun j => if s.th.tc < s.stepAt (j + 1) - hyst then s.th.low.getD j 0 + 1 else 0
  let s := { s with th := { s.th with prev := some s.th.tc, low := low } }
  let free := match s.th.chT with
    | some x => decide (40000000 ≤ since s.now x)
    | none => true
  match s.stepDue prev with
  | some k => if free then State.minPeriod { s with th := { s.th with kNew := some k, chT := some s.now } } else s
  | none => s

/-- THERMAL_SAMPLE: not during an APLL interruption, and none after a shutdown has begun (15_thermal R494, R507; log entry 40). -/
def execThermalSample (t : Time) (rs : List Reading) (s : State) : Host.Outcome State Fault Refusal :=
  timed t s fun s =>
    if s.clk.aGated.isSome || s.th.shut != 0 || !s.senActive 34 then s
    else
      let s := (s.senseAll fun i => rs.getD i { v := 0, c := 0 }).temps.warning
      let n := if 16 * (s.regF 0x1E0000 15 8 : Int) ≤ s.th.tc then s.th.hotN + 1 else 0
      let s := { s with th := { s.th with hotN := n } }
      if 2 ≤ n then s.shutDown else s.decideStep

/-! Shutdown and rearm records. -/

/-- Address of record position `p` (13_boot_security R454; 15_thermal R509). -/
def recAddr (p : Nat) : Nat := 0x03900000 + 128 * (p % 8192)

/-- The 128 bytes of a record (15_thermal R509). -/
def State.shutRecord (s : State) (kind health : Nat) (t : Time) : List Byte :=
  let b := bytesLE 32 (pack 256 [(0x0007A1A0, 0), ((s.th.recSeq + 1) % 2 ^ 32, 32), (t.toNat, 64), (s.lastLine % 2 ^ 48, 128), (s.flt.boot % 2 ^ 32, 192),
      (kind, 224), (s.th.hot, 232), (s.th.k, 240), (health, 248)]) ++
    bytesLE 80 (pack 640 ((List.range 40).map fun i => (usg 16 (s.sen i).eff, 16 * i))) ++
    bytesLE 8 (pack 64 (s.subMap.map fun i => (1, i))) ++ bytesLE 4 (BitVec.ofNat 32 (s.regF 0x1E0000 15 8))
  b ++ bytesLE 4 (crc32c b)

/-- The next sector is erased ahead of time (15_thermal R509). -/
def State.eraseAhead (s : State) : State :=
  if s.th.recPos % 512 != 0 then s
  else
    let a := recAddr s.th.recPos
    s.modBoot fun b => { b with flash := b.flash.filter fun p => !(a ≤ p.1 && p.1 < a + 0x10000) }

/-- Append a record; one whose read-back fails is written once more at the next position (15_thermal R507, R509). -/
def State.appendRecord (s : State) (kind health : Nat) (t : Time) (good : Bool) : State :=
  let bs := s.shutRecord kind health t
  let s := if good then s else { s with th := { s.th with recPos := (s.th.recPos + 1) % 8192 } }.eraseAhead
  let s := s.flashPut (recAddr s.th.recPos) bs
  { s with th := { s.th with recPos := (s.th.recPos + 1) % 8192, recSeq := s.th.recSeq + 1, recKind := kind,
                             recShut := if kind == 1 then s.th.recSeq + 1 else s.th.recShut } }.eraseAhead

/-- SHUTDOWN_DRAIN_END: 1 ms after the deciding sample (15_thermal R507). -/
def execShutdownDrainEnd (t : Time) (s : State) : Host.Outcome State Fault Refusal :=
  timed t s fun s =>
    if s.th.shut == 1 && 2000000 ≤ since s.now s.th.shutT then
      let s := ((List.range 16).filter fun ch => (s.ring ch).st == 2).foldl (fun s ch => (s.discardEgress ch).ringIdle ch) s
      (s.modClk fun c => { c with gated := true, cLock := false }).modTh fun h => { h with shut := 2 }
    else s

/-- SHUTDOWN_RECORD_WRITTEN: the device power-gates; the ports stop and SHDN_N is pulled low (15_thermal R507, R508). -/
def execShutdownRecordWritten (t : Time) (good : Bool) (s : State) : Host.Outcome State Fault Refusal :=
  timed t s fun s =>
    if s.th.shut != 2 then s
    else
      let s := s.appendRecord 1 s.th.shutH s.th.shutT good
      let s := (s.modHost fun h => { h with dlUp := false, speed := 0, width := 0, flit := false }).modHng fun h =>
        { h with up := { h.up with st := 0 }, dn := { h.dn with st := 0 } }
      (s.modTh fun h => { h with shut := 3, shdn := true }).emit (.shdn true)

/-! Registers. -/

/-- A write to TH_ACK (15_thermal R500, R512). -/
def State.thAckWrite (s : State) (v : W32) : State :=
  if bit v 31 then
    (s.modTh fun h => { h with ack := false }).logEvent 0x0A 8 ((s.subMap.map fun i => 2 ^ i).foldl (· + ·) 0) 0 0
  else s

/-- TH_ACK (15_thermal R500). -/
def execThAck (t : Time) (w : Wr) (s : State) : Host.Outcome State Fault Refusal := regCmd t 0x1E0018 w s fun v s => s.thAckWrite v

/-- A write to TH_REARM (15_thermal R511). -/
def State.rearmWrite (s : State) (w : Wr) (v : W32) : State :=
  if !bit v 31 then s
  else if s.th.rearm && s.subMap.isEmpty && s.th.tc < 16 * ((s.regF 0x1E0000 31 24 : Int) - s.regF 0x1E0000 20 16) then
    s.modTh fun h => { h with rearming := true }
  else s.reject 4 w.src 0x1E0020

/-- REARM (15_thermal R511). -/
def execRearm (t : Time) (w : Wr) (s : State) : Host.Outcome State Fault Refusal := regCmd t 0x1E0020 w s fun v s => s.rearmWrite w v

/-- REARM_RECORD_WRITTEN: the record of KIND 2 is appended, REARM_REQ clears, and the MODE in force takes effect (15_thermal R511, R512). -/
def execRearmRecordWritten (t : Time) (s : State) : Host.Outcome State Fault Refusal :=
  timed t s fun s =>
    if s.th.rearming && s.th.shut == 0 then
      let old := s.th.recShut
      let s := s.appendRecord 2 1 s.now true
      ((s.logEvent 0x0A 7 s.th.recSeq old 0).modTh fun h => { h with rearm := false, rearming := false }).startMode
    else s

/-- A write to TH_MAX (15_thermal TH_MAX). -/
def State.thMaxWrite (s : State) (v : W32) : State :=
  if bit v 0 then s.modTh fun h => { h with max := -32768, maxS := 0 } else s

/-- TH_MAX_CLEAR. -/
def execThMaxClear (t : Time) (w : Wr) (s : State) : Host.Outcome State Fault Refusal := regCmd t 0x1E0030 w s fun v s => s.thMaxWrite v

/-- A write to TH_CTL or TH_TIME: accepted, it restarts the sample counts (15_thermal R502, R513). -/
def State.thWrite (s : State) (off : Nat) (w : Wr) (v : W32) : State :=
  let on := fld v 31 24
  let bad :=
    if off == 0x1E0000 then
      on < 60 || 100 < on || fld v 23 21 == 0 || fld v 20 16 == 0 || fld v 15 8 < 90 || 105 < fld v 15 8 || fld v 15 8 - 2 < on + 7 * fld v 23 21
    else fld v 31 16 == 0
  if bad then s.reject 3 w.src off
  else (s.storeReg off v).modTh fun h => { h with prev := none, low := List.replicate 8 0 }

/-- TH_CTL_WRITE (15_thermal R502, R513). -/
def execThCtlWrite (t : Time) (off : Nat) (w : Wr) (s : State) : Host.Outcome State Fault Refusal :=
  if off == 0x1E0000 || off == 0x1E0008 then regCmd t off w s fun v s => s.thWrite off w v else timed t s id

end Machine
end Sys2Proof
end

