-- ==== Sys2Proof/Machine/Regs.lean ====
section
/-! DEFINITION. A BAR0 write to any register, accesses that waited for a clock, and a maintenance write from another device (00_scope R12 to R19;
09_host_link R312, R313; 10_clocks R360, R363; 16_register_index). -/

namespace Sys2Proof
namespace Machine

/-! Registers without an operation of their own. -/

/-- The value breaks a reject rule of its register (01_line_tick TCK_CTL; 03_sequence_table R128, SEQ_LEASE; 08_result_fabric R306; 09_host_link R347;
12_hinge_array R437). -/
def valueBad (off : Nat) (v : W32) : Bool :=
  if off == 0x10000 then fld v 31 30 == 3 || fld v 29 28 == 3 || fld v 27 26 == 3
  else if off == 0x20000 then 8 ≤ fld v 30 27 && fld v 30 27 ≤ 14
  else if off == 0x20020 then fld v 15 0 == 0
  else if off == 0x100000 then fld v 7 0 == 0
  else if off == 0x1C0070 then fld v 2 0 != 0
  else if 0x101000 ≤ off && off < 0x102000 then (off % 0x100 == 0 && fld v 29 22 == 0) || (off % 0x100 == 0x78 && fld v 15 0 == 0)
  else false

/-- A commit is pending: banked writes are rejected (01_line_tick R59; 12_hinge_array R431). -/
def State.commitPending (s : State) : Bool := s.tick.commit || s.hng.aCommit.isSome

/-- Store a write to a register that only holds it; a banked one is rejected first of all while a commit is pending (00_scope R12, R14, R18, R19;
01_line_tick R59). FLT_CTL acts on HEALTH (14_faults R487). -/
def State.plainWrite (s : State) (off : Nat) (w : Wr) (v : W32) : State :=
  match rwReg off with
  | none => s
  | some (_, _, banked) =>
    if banked && s.commitPending then (s.modTick fun k => { k with busyRej := true }).reject 4 w.src off
    else if valueBad off v then s.reject 3 w.src off
    else
      let s := s.storeReg off v
      if off == 0x1F0000 then s.health else s

/-- A write to SEQ_STATUS (03_sequence_table SEQ_STATUS). -/
def State.seqStatusWrite (s : State) (v : W32) : State :=
  s.modSeq fun q => { q with invalid := q.invalid && !bit v 29, discarded := q.discarded && !bit v 28 }

/-- A write to CAL_STATUS (05_calibration CAL_STATUS). -/
def State.calStatusWrite (s : State) (v : W32) : State :=
  s.modCal fun c => { c with saved := c.saved && !bit v 13, failed := c.failed && !bit v 12 }

/-- A write to RF_HOST_CAUSE (09_host_link R346). -/
def State.causeWrite (s : State) (v : W32) : State := s.modHost fun h => { h with cause := h.cause &&& ~~~(v.setWidth 12) }

/-! All PW registers. -/

/-- A channel block register (08_result_fabric; 09_host_link). -/
def State.chanWrite (s : State) (off : Nat) (w : Wr) (v : W32) : State :=
  let ch := (off - 0x101000) / 0x100
  let o := off % 0x100
  if o == 0x28 then s.slackWrite ch v
  else if o == 0x40 then s.ringCtlWrite ch w v
  else if 0x48 ≤ o && o ≤ 0x60 then s.ringAddrWrite ch o w v
  else if o == 0x68 then s.tailWrite ch w v
  else s.plainWrite off w v

/-- A pin engine register (11_pin_engines). -/
def State.pxWrite (s : State) (off : Nat) (w : Wr) (v : W32) : State :=
  let e := (off - 0x1A0000) / 0x400
  let o := off % 0x400
  if o == 0 then s.pxCtlWrite e w v
  else if o == 0x08 then s.pxStatusWrite e v
  else if o == 0x48 || o == 0x50 then s.pxInWrite e ((o - 0x48) / 8) w v
  else if pxConfigOff o then s.pxConfigWrite e o w v
  else s.plainWrite off w v

/-- A clock or Hinge register (10_clocks; 12_hinge_array). -/
def State.linkWrite (s : State) (off : Nat) (w : Wr) (v : W32) : State :=
  if off == 0x180000 then s.clkStatusWrite v
  else if off == 0x180008 then s.clkRefWrite w v
  else if off == 0x180040 then s.asyncWrite w v
  else if off == 0x180050 || off == 0x180058 then s.clkOutWrite ((off - 0x180050) / 8) w v
  else if off == 0x1C0038 then s.bcastTx v
  else if off == 0x1C0048 then s.barrierWrite v
  else if off == 0x1C0050 then s.schedWrite w v
  else if off == 0x1C0068 then s.mntCtlWrite w v
  else s.plainWrite off w v

/-- A global, tick, sequence, converter, calibration or engine register. -/
def State.lineWrite (s : State) (off : Nat) (w : Wr) (v : W32) : State :=
  if off == 0x18 then s.snapWrite v
  else if off == 0x20 then s.commitWrite v
  else if off == 0x20008 then s.seqStatusWrite v
  else if off == 0x20010 then s.swapWrite w v
  else if off == 0x20018 then s.lockWrite w v
  else if off == 0x20038 then if bit v 31 then s.holdTrigger else s
  else if 0x21000 ≤ off && off < 0x23000 then if (rwReg off).isSome then s.bankWrite off w v else s
  else if off == 0x30038 then s.coefSelWrite w v
  else if off == 0x40000 then s.calCmd w v
  else if off == 0x40008 then s.calStatusWrite v
  else if off == 0x40018 then s.calTarget w v
  else if off == 0x50000 then s.teCtlWrite w v
  else if off == 0x50028 then s.teCyclesWrite v
  else if off == 0x50030 then s.teLoadWrite v
  else s.plainWrite off w v

/-- An accepted paired word reaches its register: read-only fields ignore it, W1S and W1C fields act (00_scope R12, R19). -/
def State.pwWrite (s : State) (off : Nat) (w : Wr) (v : W32) : State :=
  if off < 0x100000 then s.lineWrite off w v
  else if 0x101000 ≤ off && off < 0x102000 then s.chanWrite off w v
  else if off == 0x104018 then s.causeWrite v
  else if off == 0x104030 then s.rwinSelWrite w v
  else if 0x1A0000 ≤ off && off < 0x1A2000 then s.pxWrite off w v
  else if 0x180000 ≤ off && off < 0x1E0000 then s.linkWrite off w v
  else if off == 0x1E0000 || off == 0x1E0008 then s.thWrite off w v
  else if off == 0x1E0018 then s.thAckWrite v
  else if off == 0x1E0020 then s.rearmWrite w v
  else if off == 0x1E0030 then s.thMaxWrite v
  else if off == 0x202000 then s.mbxWrite w v [] none
  else s.plainWrite off w v

/-! Registers that are not PW. -/

/-- A plain 64-bit register: one 64-bit write; read-only registers ignore it (09_host_link R312; 11_pin_engines R403; 12_hinge_array R435;
13_boot_security R463). -/
def State.w64Write (s : State) (off : Nat) (w : Wr) : State :=
  if w.nb != 8 then s.reject 2 w.src off
  else if 0x1A0000 ≤ off && off < 0x1A2000 && 0x90 ≤ off % 0x400 && off % 0x400 < 0xB0 then
    s.pxCntWrite ((off - 0x1A0000) / 0x400) ((off % 0x400 - 0x90) / 8) w
  else if off == 0x1C0078 then s.modHng fun h => { h with wdata := w.v }
  else if 0x210000 ≤ off && off < 0x220000 then
    if s.boot.mbx.isSome then s.reject 4 w.src off else s.modBoot fun b => { b with buf := Tbl.set 0 b.buf ((off - 0x210000) / 8) w.v }
  else s

/-- Write one 32-bit lane of the MSI-X table; a vector unmasked with its PBA bit set sends its message (09_host_link R312, R329). -/
def State.msixLane (s : State) (a : Nat) (v : W32) : State :=
  let i := (a - 0x108000) / 16
  let l := a % 16
  let m := Tbl.get Msix.masked s.host.msix i
  let m := if l == 0 then { m with addr := m.addr.extractLsb' 32 32 ++ v }
    else if l == 4 then { m with addr := v ++ m.addr.setWidth 32 }
    else if l == 8 then { m with data := v }
    else { m with mask := bit v 0 }
  let s := s.modHost fun h => { h with msix := Tbl.set Msix.masked h.msix i m }
  s.msixFree i

/-- A write to the MSI-X table: 32 or 64 bits, aligned (09_host_link R312). -/
def State.msixWrite (s : State) (a : Nat) (w : Wr) : State :=
  if w.nb == 4 && a % 4 == 0 then s.msixLane a (w.v.setWidth 32)
  else if w.nb == 8 && a % 8 == 0 then (s.msixLane a (w.v.setWidth 32)).msixLane (a + 4) (w.v.extractLsb' 32 32)
  else s.reject 2 w.src a

/-! Any BAR0 write. -/

/-- A write that finds its block responding and its clocks running: the MSI-X table and PBA take 32 and 64 bits, the PBA being read-only
(09_host_link R312). -/
def State.regWrite (s : State) (off : Nat) (w : Wr) : State :=
  if 0x108000 ≤ off && off < 0x108400 then s.msixWrite off w
  else if 0x109000 ≤ off && off < 0x109008 && ((w.nb == 4 && off % 4 == 0) || (w.nb == 8 && off % 8 == 0)) then s
  else match s.live (off - off % 8) with
    | none => s.reject 6 w.src off
    | some (.w64 _) => if off % 8 != 0 then s.reject 2 w.src off else s.w64Write off w
    | some (.pw _) => if off % 8 != 0 then s.reject 2 w.src off else s.acceptPW off w fun v => s.pwWrite off w v

/-- A write at BAR0 offset `off`: into the remote window, or to a register that may not respond yet or whose clocks are gated
(09_host_link R309, R312, R313, R338; 10_clocks R360, R363; 15_thermal R507). -/
def State.busWrite (s : State) (off : Nat) (w : Wr) : State :=
  if isLocal w && !s.host.memEn then s.aer 20
  else if 0x400000 ≤ off then s
  else if 0x300000 ≤ off then
    if s.stalls off then s.modClk fun c => { c with wait := c.wait ++ [{ t := s.now, off := off, nb := w.nb, w := some w, rem := none }] }
    else s.winWrite (off - 0x300000) w
  else if !early off && (!s.running || s.th.shut != 0) then s.reject 4 w.src off
  else if s.stalls off then s.modClk fun c => { c with wait := c.wait ++ [{ t := s.now, off := off, nb := w.nb, w := some w, rem := none }] }
  else s.regWrite off w

/-- REGISTER_WRITE: a BAR0 write to any register (00_scope R16; 09_host_link R312). -/
def execRegisterWrite (t : Time) (off : Nat) (w : Wr) (s : State) : Host.Outcome State Fault Refusal := timed t s fun s => s.busWrite off w

/-! Accesses that waited. -/

/-- One access that waited: it is made now unless its clocks are still gated (10_clocks R360, R363). -/
def State.replayOne (s : State) (x : Wait) : State :=
  if if x.bar2 then s.stalls2 x.off else s.stalls x.off then s.modClk fun c => { c with wait := c.wait ++ [x] }
  else match x.w, x.rem with
    | some w, _ => s.busWrite x.off w
    | none, some (q, n) =>
      let r := s.readReg (x.off - x.off % 8) (x.off % 8) x.nb
      r.2.sendTo q 0x0A n r.1
    | none, none => if x.bar2 then s.bar2Read x.off x.nb else if 0x300000 ≤ x.off then s.winRead (x.off - 0x300000) x.nb else s.busRead x.off x.nb

/-- The accesses that waited are made in order. -/
def State.replay (s : State) : State := s.clk.wait.foldl State.replayOne (s.modClk fun c => { c with wait := [] })

/-- CPLL_LOCK: the domains are ungated and the accesses that waited for them are made (10_clocks R356, R359, R360). -/
def execCpllLock (t : Time) (s : State) : Host.Outcome State Fault Refusal :=
  timed t s fun s => if s.clk.gated && s.clk.ref != 3 && s.th.shut == 0 then s.ungateCpll.replay else s

/-- APLL_LOCK (10_clocks R363). -/
def execApllLock (t : Time) (s : State) : Host.Outcome State Fault Refusal :=
  timed t s fun s =>
    match s.clk.aGated with
    | some x => (s.ungateApll x).replay
    | none => s

/-- MNT_WR with the MNT_DATA that follows it: a write of `acc.nb` bytes whose source is the issuer's chain position (12_hinge_array R410, R435;
09_host_link R338; 03_sequence_table R119; log entry 37). -/
def execMntWr (t : Time) (port : Bool) (src dest : BitVec 6) (req : BitVec 11) (acc : Access) (v : W64) (s : State) :
    Host.Outcome State Fault Refusal :=
  timed t s fun s =>
    if !s.hears port then s
    else if s.hpos == some dest.toNat then s.busWrite acc.off.toNat { v := v, nb := acc.nb, src := (1#1 ++ src) }
    else (s.sendFrame (!port) 0x09 (frame false 0x09 src.toNat dest.toNat req.toNat (mntAddr acc.off.toNat acc.nb))).sendFrame (!port) 0x0A
      (frame false 0x0A src.toNat dest.toNat req.toNat v)

end Machine
end Sys2Proof
end

