-- ==== Sys2Proof/Machine/Faults.lean ====
section
/-! DEFINITION. Pair watch, supervisor faults and the event log in flash (14_faults R469 to R472, R485, R486, R491, R492). -/

namespace Sys2Proof
namespace Machine

/-! Paired words in service. -/

/-- The stored pairs whose halves do not complement: in force, and in the shadow banks with bit 31 set. -/
def State.badPairs (s : State) : List Nat :=
  ((s.regs.filter fun p => !pairOk p.2.pair).map fun p => p.1) ++ ((s.shadow.filter fun p => !pairOk p.2.pair).map fun p => p.1 + 2 ^ 31)

/-- PAIR_SCRUB: every mismatch found is signalled to the supervisor (14_faults R470). -/
def execPairScrub (t : Time) (s : State) : Host.Outcome State Fault Refusal :=
  timed t s fun s => s.modFlt fun f => { f with repair := f.repair ++ s.badPairs.filter fun o => !f.repair.contains o }

/-- A pair rewritten from the supervisor's copy. -/
def RegCell.repaired (c : RegCell) : RegCell := cellOf c.copy

/-- PAIR_REPAIR: unless an accepted write has taken its place, the pair is rewritten, counted and logged (14_faults R469, R471). -/
def execPairRepair (t : Time) (off : Nat) (shadow : Bool) (s : State) : Host.Outcome State Fault Refusal :=
  timed t s fun s =>
    let key := if shadow then off + 2 ^ 31 else off
    if !s.flt.repair.contains key || s.flt.sup.isSome then s
    else
      let c := if shadow then s.shadowCell off else s.cell off
      let s := s.modFlt fun f => { f with repair := f.repair.filter (· != key), pairs := f.pairs + 1 }
      let s := if shadow then { s with shadow := s.shadow.map fun p => if p.1 == off then (off, p.2.repaired) else p }
        else { s with regs := Tbl.set (cellOf (regReset off)) s.regs off c.repaired }
      s.logEvent 0x01 1 off c.pair.toNat 0

/-! The supervisor. -/

/-- FAULTED: READY_N released, the tick generator stopped, the pin engines stopped at their idle levels, and no further device record
(14_faults R486). -/
def State.enterFaulted (s : State) (cause : Nat) : State :=
  let s := (s.modFlt fun f => { f with faulted := true, sup := none }).modFab fun f => { f with paused := [] }
  let s := s.health.enterStopped
  let s := (List.range 8).foldl (fun s e => (s.modPx e fun p => { p with st := 0, blk := none, seen := [], stopReq := false }).idleOuts e) s
  s.logEvent 0x02 2 cause 0 0

/-- LOCKSTEP_MISMATCH: the firmware restarts; a second mismatch within 1 s puts the device into FAULTED (14_faults R485, R486). -/
def execLockstepMismatch (t : Time) (s : State) : Host.Outcome State Fault Refusal :=
  timed t s fun s =>
    if s.flt.faulted then s
    else
      let again := match s.flt.lastMis with
        | some x => decide (since s.now x < 2000000000)
        | none => false
      let s := s.modFlt fun f => { f with lastMis := some s.now }
      if again then s.enterFaulted 1 else s.modFlt fun f => { f with sup := some s.now, sups := f.sups + 1 }

/-- SUPERVISOR_RESTART_END: the device records that fell due are staged now, with the deadlines of this moment, and the requests that waited are made
(08_result_fabric R289; 14_faults R485; log entry 104). -/
def execSupervisorRestartEnd (t : Time) (s : State) : Host.Outcome State Fault Refusal :=
  timed t s fun s =>
    match s.flt.sup with
    | some x =>
      let s := s.modFlt fun f => { f with sup := none }
      let due := s.fab.paused
      let s := due.foldl (fun s r => s.stage r.ws) (s.modFab fun f => { f with paused := [] })
      (s.logEvent 0x02 1 (since s.now x / 2) 0 0).replay
    | none => s

/-- SUPERVISOR_RESTART_TIMEOUT (14_faults R486). -/
def execSupervisorRestartTimeout (t : Time) (s : State) : Host.Outcome State Fault Refusal :=
  timed t s fun s =>
    match s.flt.sup with
    | some x => if 60000 ≤ since s.now x then s.enterFaulted 3 else s
    | none => s

/-- STATE_MEMORY_UE (14_faults R486). -/
def execStateMemoryUe (t : Time) (s : State) : Host.Outcome State Fault Refusal :=
  timed t s fun s =>
    let s := s.modFlt fun f => { f with ue := f.ue + 1 }
    if s.flt.faulted then s else s.enterFaulted 2

/-! The event log in flash. -/

/-- Address of entry `p` of the log region (13_boot_security R454). -/
def logAddr (p : Nat) : Nat := 0x02900000 + 64 * (p % 262144)

/-- Erase the sector after the one of entry `p`. -/
def State.eraseLog (s : State) (p : Nat) : State :=
  let a := logAddr (p / 1024 * 1024 + 1024)
  s.modBoot fun b => { b with flash := b.flash.filter fun q => !(a ≤ q.1 && q.1 < a + 0x10000) }

/-- LOG_ENTRY_WRITE: the oldest staged entry reaches flash, or its page fails the read-back and it is retried in the next sector
(14_faults R473, R491, R492). -/
def execLogEntryWrite (t : Time) (good : Bool) (s : State) : Host.Outcome State Fault Refusal :=
  timed t s fun s =>
    match s.flt.pend with
    | [] => s
    | q :: r =>
      let p := s.flt.lpos
      if !good then
        (s.eraseLog p).modFlt fun f => { f with lpos := (p / 1024 * 1024 + 1024) % 262144 }
      else
        let bs := match Tbl.get none s.flt.log (q % 256) with
          | some e => logBytes s.flt.boot e
          | none => []
        let s := (s.flashPut (logAddr p) bs).modFlt fun f => { f with pend := r, lpos := (p + 1) % 262144 }
        let s := if (p + 1) % 1024 == 768 then s.eraseLog p else s
        let n := s.flt.overN
        if n == 0 then s else (s.modFlt fun f => { f with overN := 0 }).logEvent 0x0F 1 n 0 0

end Machine
end Sys2Proof
end

