-- ==== Sys2Proof/Machine/BootSec.lean ====
section
/-! DEFINITION. Resets and the boot stages, up to the change to RUN (13_boot_security R438 to R461; 17_electrical_mechanical R525). -/

namespace Sys2Proof
namespace Machine

/-! Resets. -/

/-- MOD_RESET_N_ASSERT: the whole module is held in reset; array time starts again at the release (13_boot_security R438). -/
def execModResetNAssert (_t : Time) (s : State) : Host.Outcome State Fault Refusal :=
  .next (if s.boot.rst then s else s.cutMailbox.dropPins.cleared.modBoot fun b => { b with rst := true })

/-- The 100 ms of R309 count from now, unless PCIE_PERST_N is low (13_boot_security R440; 09_host_link R309). -/
def State.relFrom (s : State) : State := if s.host.perst then s else s.modHost fun h => { h with relT := s.now }

/-- MOD_RESET_N_RELEASE: the straps are sampled and the boot begins; SHDN_N is released (13_boot_security R438, R439; 15_thermal R508). -/
def execModResetNRelease (_t : Time) (sel : BitVec 2) (s : State) : Host.Outcome State Fault Refusal :=
  .next (if !s.boot.rst then s
  else
    let n := sel.toNat
    let s := s.modBoot fun b => { b with rst := false, power := true, sel := n, strap := n, reb := false, todo := strapSlots n, relT := s.now }
    let s := s.relFrom
    if s.th.shdn then (s.modTh fun h => { h with shdn := false }).emit (.shdn false) else s)

/-- INTERNAL_RESET_RELEASE: the boot starts with the straps, the REBOOT selection, or the slots that remain (13_boot_security R438, R444, R464). -/
def execInternalResetRelease (_t : Time) (s : State) : Host.Outcome State Fault Refusal :=
  .next (match s.boot.intRst with
  | none => s
  | some how =>
    if s.boot.rst || !s.boot.power then s
    else
      let s := (s.modBoot fun b => { b with intRst := none }).relFrom
      if how == 4 then s
      else if how == 0 then
        s.modBoot fun b => { b with strap := b.sel, reb := false, todo := strapSlots b.sel, relT := s.now }
      else s.modBoot fun b => { b with strap := how, reb := true, todo := if how == 3 then [] else [how], relT := s.now })

/-- POWER_LOSS: the logic fails at once; flash and OTP keep what they hold, and with VDDIO the SHDN_N latch is lost
(14_faults R489, R490; 15_thermal R508; log entry 45). -/
def execPowerLoss (_t : Time) (vddio : Bool) (s : State) : Host.Outcome State Fault Refusal :=
  .next (
    let s := s.cutMailbox.dropPins.cleared.modBoot fun b => { b with power := false }
    if vddio && s.th.shdn then (s.modTh fun h => { h with shdn := false }).emit (.shdn false) else s)

/-! Slots. -/

def State.modRes (s : State) (f : SlotRes → SlotRes) : State :=
  s.modBoot fun b => if b.slot == 2 then { b with resB := f b.resB } else { b with resA := f b.resA }

/-- MAINT_WAIT (13_boot_security R444, R445). -/
def State.maintWait (s : State) (err : Nat) : State := s.modBoot fun b => { b with stage := 0x10, err := err }

/-- The slot attempt ends with an error: the next slot after an internal reset that keeps the strap sample, or MAINT_WAIT
(13_boot_security R444). -/
def State.failSlot (s : State) (err : Nat) : State :=
  let s := (s.modRes fun r => { r with err := BitVec.ofNat 8 err }).modBoot fun b => { b with todo := b.todo.drop 1, err := err }
  if s.boot.todo.isEmpty then s.maintWait err
  else
    let k := s.boot
    let el := k.relT - s.now
    (s.intReset 4).modBoot fun b =>
      { b with strap := k.strap, reb := k.reb, todo := k.todo, resA := k.resA, resB := k.resB, tries := k.tries, err := err, slot := k.slot, relT := el }

/-- A command of a boot stage: nothing happens in another stage, or once a shutdown has begun (13_boot_security R441; 15_thermal R507). -/
def inStage (t : Time) (st : Nat) (s : State) (f : State → State) : Host.Outcome State Fault Refusal :=
  timed t s fun s => if s.boot.stage == st && s.th.shut == 0 then f s else s

/-- RESET_STAGE_END: the APLL is locked on a reference that is present (13_boot_security R441; 10_clocks R352). -/
def execResetStageEnd (t : Time) (s : State) : Host.Outcome State Fault Refusal :=
  inStage t 0 s fun s =>
    if s.refFirst == 3 then s
    else (s.modClk fun c => { c with aLock := true, ref := s.refFirst }).modBoot fun b => { b with stage := 1 }

/-- ROM_STAGE_END: the entries are classified and the VALID ones applied; the Hinge ports start training (13_boot_security R441, R447, R448;
12_hinge_array R412). -/
def execRomStageEnd (t : Time) (s : State) : Host.Outcome State Fault Refusal :=
  inStage t 1 s fun s =>
    let cls := fun (b : Boot) (e : Nat) => otpClass e (Tbl.get 0 b.otpN e) (Tbl.get 0 b.otpM e)
    let s := s.modBoot fun b =>
      { b with stage := 2, otpSt := (List.range 64).foldl (fun m e => Tbl.set 0 m e (cls b e)) [],
               otpA := (List.range 64).foldl (fun m e => if cls b e == 1 then Tbl.set 0 m e (Tbl.get 0 b.otpN e) else m) [] }
    s.modHng fun h => { h with up := { h.up with st := 1 }, dn := { h.dn with st := 1 } }

/-- The entry of the log region at position `p`: SEQ and BOOT, when it is valid (14_faults R491). -/
def State.logAt (s : State) (p : Nat) : Option (Nat × Nat) :=
  let a := logAddr p
  if s.flashNat a 4 == 0x0006A1A0 && BitVec.ofNat 32 (s.flashNat (a + 0x3C) 4) == crc32c (s.flashRd a 0x3C) then
    some (s.flashNat (a + 4) 4, s.flashNat (a + 0x18) 4)
  else none

/-- The log goes on after the valid entry with the highest SEQ; BOOT is 1 plus the highest found (14_faults R491). -/
def State.findLog (s : State) : State :=
  let r := (List.range 262144).foldl (fun (m : Nat × Nat × Nat) p => match s.logAt p with
    | some (q, b) => if m.1 < q then (q, p + 1, max m.2.2 b) else (m.1, m.2.1, max m.2.2 b)
    | none => m) (0, 0, 0)
  s.modFlt fun f => { f with seq := r.1, lpos := r.2.1 % 262144, boot := r.2.2 + 1 }

/-- FLASH_STAGE_END: the flash is readable; the log is found, with the entries that had to wait for it; the ward begins on the first slot left, or
without one the device waits (13_boot_security R439, R441, R444, R447; log entry 46). -/
def execFlashStageEnd (t : Time) (readOk : Bool) (s : State) : Host.Outcome State Fault Refusal :=
  inStage t 2 s fun s =>
    let s := s.findLog
    let s := (List.range 64).foldl (fun s e =>
      if s.otpState e == 3 then s.logEvent 0x09 1 e 0 0 else if s.otpState e == 2 then s.logEvent 0x09 2 e 0 0 else s) s
    let s := if s.boot.err != 0 then s.logEvent 0x09 3 (s.boot.slot - 1) s.boot.err 0 else s
    match s.boot.todo with
    | [] =>
      if s.boot.strap == 3 && !s.boot.reb then
        if s.keyPresent 0 || s.keyPresent 1 then s.maintWait 0x0F else s.modBoot fun b => { b with stage := 0x11, err := 0 }
      else s.maintWait 0
    | sl :: _ =>
      let s := (s.modBoot fun b => { b with slot := sl, fall := decide (0 < b.tries), tries := b.tries + 1 }).modRes fun r => { r with tried := true }
      if readOk then s.modBoot fun b => { b with stage := 3 } else s.failSlot 0x0C

/-- WARD_END (13_boot_security R458). -/
def execWardEnd (t : Time) (readOk : Bool) (s : State) : Host.Outcome State Fault Refusal :=
  inStage t 3 s fun s =>
    if !readOk then s.failSlot 0x0C
    else
      let w := s.ward s.boot.slot
      let s := s.modRes fun r => { r with vend := w.vend, own := w.own, canv := w.canv }
      if w.err != 0 then s.failSlot w.err
      else s.modBoot fun b =>
        { b with stage := 4, fw := w.fw, owner := w.owner, canvVer := w.canvVer, permO := w.perm, body := w.body, bodyLen := w.bodyLen, digs := w.digs }

/-- FIRMWARE_STAGE_END (13_boot_security R441, R444). -/
def execFirmwareStageEnd (t : Time) (readOk testOk : Bool) (s : State) : Host.Outcome State Fault Refusal :=
  inStage t 4 s fun s =>
    if !readOk then s.failSlot 0x0C else if !testOk then s.maintWait 0x0E else s.modBoot fun b => { b with stage := 5 }

/-- Flash address of a canvas section; 0 without one. -/
def State.sec (s : State) (ty : Nat) : Nat := ((secAt s.boot.secs s.boot.body ty).map (·.1)).getD 0

/-- CANVAS_STAGE_END: the canvas is valid; HNG_CTL, CLK_REF.SRC, the band table, the chains and the parameter sets take its values
(13_boot_security R459, R460; 12_hinge_array R412). -/
def execCanvasStageEnd (t : Time) (readOk : Bool) (s : State) : Host.Outcome State Fault Refusal :=
  inStage t 5 s fun s =>
    if !readOk then s.failSlot 0x0C
    else if !s.canvasOk s.boot.body s.boot.bodyLen then s.failSlot 0x0B
    else
      let s := s.modBoot fun b => { b with stage := 6, secs := s.sections b.body }
      let sys : BitVec 32 := BitVec.ofNat 32 (s.flashNat (s.sec 6) 4)
      let s := s.modBoot fun b =>
        { b with chains := memPut 0 [] 0 (s.flashRd (s.sec 2) 2048), psets := memPut 0 [] 0 (s.flashRd (s.sec 4 + 0x800) 1024),
                 permS := sys.extractLsb' 8 2,
                 auto := if s.sec 7 == 0 then [] else (List.range 8).filter fun e => s.flashNat (s.sec 7 + 152 * e + 20) 4 % 2 == 1 }
      let s := (List.range 32).foldl (fun s i => s.putReg (0x180100 + 4 * i) (BitVec.ofNat 32 (s.flashNat (s.sec 5 + 4 * i) 4))) s
      (((s.setFld 0x1C0000 31 31 (fld sys 0 0)).setFld 0x1C0000 30 30 (fld sys 1 1)).setFld 0x1C0000 28 28 (fld sys 2 2)).setFld 0x180008 31 31
        (fld sys 3 3)

/-! Stage PALETTE. -/

/-- The tile of a journal entry's header (05_calibration R182). -/
def jTile (h : List Byte) : Nat := leAt h 0 2

/-- The slice of a journal entry's header (05_calibration R182). -/
def jSlice (h : List Byte) : Nat := leAt h 2 1

/-- The retired slices of every bank: those of the copy loaded, and those of the journal entries whose tag verifies (05_calibration R182, R185). -/
def State.restoreRetired (s : State) (copy : Option Nat) : State :=
  let s := match copy with
    | some c => (List.range 1024).foldl (fun s t => s.modBank t fun b => { b with ret := BitVec.ofNat 9 (s.flashNat (copyAddr c + 0x100 + 2 * t) 2) }) s
    | none => s
  let s := (List.range 2048).foldl (fun (s : State) i =>
    let a := journalAddr i
    let h := s.flashRd a 16
    if s.flashRd (a + 16) 48 == Config.paletteTag h then s.modBank (jTile h % 1024) fun b => { b with ret := b.ret ||| (1#9 <<< jSlice h) } else s) s
  let used := (List.range 2048).foldl (fun m i => if (s.flashRd (journalAddr i) 64).all (· == 0xFF) then m else i + 1) 0
  s.modCal fun c => { c with journal := used }

/-- The shutdown record at position `p`: SEQ, KIND, SENSOR, BOOT, when it is valid (15_thermal R509). -/
def State.recAt (s : State) (p : Nat) : Option (Nat × Nat × Nat × Nat) :=
  let a := recAddr p
  if s.flashNat a 4 == 0x0007A1A0 && BitVec.ofNat 32 (s.flashNat (a + 0x7C) 4) == crc32c (s.flashRd a 0x7C) then
    some (s.flashNat (a + 4) 4, s.flashNat (a + 0x1C) 1, s.flashNat (a + 0x1D) 1, s.flashNat (a + 0x18) 4)
  else none

/-- The latest valid shutdown record is found, and logged when it is of KIND 1 (15_thermal R509, R510, R512). -/
def State.findRecord (s : State) : State :=
  let r := (List.range 8192).foldl (fun (m : Option (Nat × Nat × Nat × Nat × Nat)) p => match s.recAt p with
    | some (q, k, i, b) => if (m.map (·.1)).getD 0 < q then some (q, p, k, i, b) else m
    | none => m) none
  match r with
  | none => s.eraseAhead
  | some (q, p, k, i, b) =>
    let s := (s.modTh fun h => { h with recSeq := q, recPos := (p + 1) % 8192, recKind := k, recShut := if k == 1 then q else 0 }).eraseAhead
    if k == 1 then s.logEvent 0x0A 6 q i b else s

/-- PALETTE_STAGE_END: palette, journal and shutdown record (13_boot_security R441; 05_calibration R184, R185; 15_thermal R510). -/
def execPaletteStageEnd (t : Time) (readOk : Bool) (s : State) : Host.Outcome State Fault Refusal :=
  inStage t 6 s fun s =>
    if !readOk then s.failSlot 0x0C
    else
      let s := match s.bestCopy with
        | some (c, n) => (s.loadCopy c n).restoreRetired (some c)
        | none => (s.noCopy.logEvent 0x05 3 0 0 0).restoreRetired none
      s.findRecord.modBoot fun b => { b with stage := 7 }

/-! Stage READOUT. -/

/-- A bank after the boot calibration, from the slices that are not retired. In a bank that boots FAILED, for which the spec gives no positions, they
have ascending ones, shown in CNV_COEF.POS and used by nothing (04_converters R147; log entry 96). -/
def Bank.boot (b : Bank) : Bank :=
  let ok := (List.range 9).filter fun i => !b.ret.getLsbD i
  let pos := (List.range 8).map fun i => ok.getD i 9
  let st := if ok.length == 9 then 0 else if ok.length == 8 then 1 else 2
  { Bank.fresh with st := st, pos := pos, cal := if st == 0 then ok.getD 8 8 else 15, ret := b.ret, coef := b.coef, passed := st == 0 }

/-- The boot calibration of a bank: every slice not retired runs once; a slice the command lists no run for passes with nominal coefficients. A slice
that fails is retired and reported, of several in ascending order, each report with the state the bank has by then, and each beyond the second with the
bank FAILED again; a bank FAILED by restored slices alone is only logged (04_converters R147, R155, R545; log entries 47, 95). -/
def State.bootBank (s : State) (t : Nat) (runs : List (Nat × CalRun)) : State :=
  let b0 := s.bank t
  let res := ((List.range 9).filter fun i => !b0.ret.getLsbD i).map fun i => (i, match runs.find? fun r => r.1 == i with
    | some r => runResult r.2 none
    | none => .pass 0 32768)
  let s := res.foldl (fun s r => match r.2 with
    | .pass o g => s.modBank t fun b => { b with coef := b.coef.set r.1 (o, g, 0) }
    | .fail c => (s.modBank t fun b => { b with ret := b.ret ||| (1#9 <<< r.1) }.boot).reportRetire t r.1 c true 0) s
  let s := s.modBank t Bank.boot
  if (s.bank t).st == 2 && (s.bank t).ret == b0.ret then s.logEvent 0x04 2 t 0 0 else s

/-- Sequence table, pin engines, kernel image and parameters of the canvas (03_sequence_table R98; 11_pin_engines R405; 06_tile_engine_isa R193). -/
def State.loadCanvas (s : State) : State :=
  let sq := s.sec 1
  let word := fun n w => BitVec.ofNat 32 (s.flashNat (sq + 4 + 16 * n + 4 * w) 4) &&& entryMask w
  let len := BitVec.ofNat 32 (s.flashNat sq 4 % 128)
  let s := [0x21000, 0x22000].foldl (fun s base =>
    ((List.range 256).foldl (fun s i => s.putReg (base + 0x20 * (i / 4) + 8 * (i % 4)) (word (i / 4) (i % 4))) s).putReg (base + 0x800) len) s
  let pins := s.sec 7
  let s := if pins == 0 then s
    else (List.range 8).foldl (fun s e => (List.range 38).foldl (fun s i =>
      let v := BitVec.ofNat 32 (s.flashNat (pins + 152 * e + 4 * i) 4)
      if i < 5 then s.storeReg (pxBase e + 0x10 + 8 * i) v
      else if i == 5 then s
      else s.storeReg (pxBase e + 0x100 + 8 * (i - 6)) v) s) s
  let k := s.sec 3
  let img := (List.range (s.flashNat (k + 4) 4)).foldl (fun m i => Tbl.set 0xFFFFFFFF m i (BitVec.ofNat 32 (s.flashNat (k + 8 + 4 * i) 4))) []
  s.modTe fun x => { x with image := img, params := memPut 0 [] 0 (s.flashRd (s.sec 4) 4096) }

/-- The engine slots: each serves its tile, slot 32 of a stripe is its spare, and a slot that failed its self-test is RETIRED and replaced before RUN
(14_faults R474, R479; 06_tile_engine_isa R193). -/
def State.loadSlots (s : State) (bad : List Nat) : State :=
  let s := (List.range 1056).foldl (fun s e =>
    let fail := bad.contains e
    if e % 33 == 32 then s.modEng e fun x => { x.load with st := if fail then 5 else 4 }
    else
      let s := s.modEng e fun x => { x.load with tile := 32 * (e / 33) + e % 33 }
      if fail then s.modEng e fun x => { x with st := 5, own := some ([], []) } else s.startEng e) s
  let s := ((List.range 1056).filter fun e => bad.contains e && e % 33 != 32).foldl (fun s e => s.takeover e (s.eng e).tile 0) s
  (List.range 32).foldl (fun s k => let e := 33 * k + 32; if (s.eng e).st == 0 then s.startEng e else s) s

/-- The presets of the canvas, in order, as 64-bit writes of the local function; whether one was rejected. A REARM has no effect
(13_boot_security R461; 15_thermal R511). -/
def State.presets (s : State) : State × Bool :=
  let a := s.sec 8
  if a == 0 then (s, false)
  else (List.range (s.flashNat a 4)).foldl (fun (r : State × Bool) i =>
    let off := r.1.flashNat (a + 4 + 16 * i) 8
    let n := r.1.regWrite off { v := BitVec.ofNat 64 (r.1.flashNat (a + 12 + 16 * i) 8), nb := 8, src := 0 }
    if off == 0x1E0020 then r else (n, r.2 || n.flt.rej != r.1.flt.rej)) (s, false)

/-- The change to RUN: pin engines, REARM_REQ, HEALTH and READY_N, the frozen snapshot registers, then the MODE in force (13_boot_security R443, R461;
14_faults R487; 01_line_tick R543; 11_pin_engines R380, R405). -/
def State.enterRun (s : State) : State :=
  let ms := min 65535 (since s.now s.boot.relT / 2000000)
  let s := (s.modRes fun r => { r with passed := true, err := 0 }).modBoot fun b => { b with stage := 8, err := 0, bootMs := ms }
  let s := (List.range 8).foldl (fun s e => if s.boot.auto.contains e then s.pxRun e 0 false false else s.idleOuts e) s
  let s := s.modTh fun h => { h with rearm := h.recKind == 1 }
  let s := (s.modFlt fun f => { f with ready := true }).health
  let s := if s.flt.ready then s.emit (.ready true) else s
  s.minPeriod.freeze.startMode

/-- READOUT_STAGE_END: the CPLL is locked, the loads, the boot calibration and the presets end, and the device changes to RUN. `runs` are the runs
of slices that are not nominal: tile, slice, run; `badSlots` the engine slots that fail their self-test (13_boot_security R441, R461). -/
def execReadoutStageEnd (t : Time) (runs : List (Nat × Nat × CalRun)) (badSlots : List Nat) (s : State) : Host.Outcome State Fault Refusal :=
  inStage t 7 s fun s =>
    if s.refFirst == 3 then s
    else
      let s := s.modClk fun c => { c with cLock := true, gated := false, ref := s.refFirst }
      let s := s.loadCanvas.loadSlots badSlots
      let s := (List.range 1024).foldl (fun s t => s.bootBank t ((runs.filter fun r => r.1 == t).map fun r => r.2)) s
      let p := s.presets
      if p.2 then p.1.failSlot 0x0B
      else (if s.sec 8 == 0 then p.1 else p.1.commitUntimed).enterRun

/-- READOUT_BRINGUP_TIMEOUT (13_boot_security R444). -/
def execReadoutBringupTimeout (t : Time) (s : State) : Host.Outcome State Fault Refusal := inStage t 7 s fun s => s.maintWait 0x0D

end Machine
end Sys2Proof
end

