-- ==== Sys2Proof/Machine/TeAlu.lean ====
section
/-! DEFINITION. The tile engine's ALU, compare, reshaping and immediate instructions (06_tile_engine_isa R205 to R208). -/

namespace Sys2Proof
namespace Machine

/-! The values. -/

/-- ADD: d = a + b, lanes (06_tile_engine_isa R205). Arguments: lane width, d, a, b. -/
def aluAdd (w : Nat) (_d a b : W64) : W64 := lanes2 w (fun x y => x + y) a b
/-- SUB: d = a - b, lanes (06_tile_engine_isa R205). Arguments: lane width, d, a, b. -/
def aluSub (w : Nat) (_d a b : W64) : W64 := lanes2 w (fun x y => x + 2 ^ w - y) a b
/-- ADDS: signed saturating add, lanes (06_tile_engine_isa R205). Arguments: lane width, d, a, b. -/
def aluAdds (w : Nat) (_d a b : W64) : W64 := lanes2 w (fun x y => usg w (clampS w (sgn w x + sgn w y))) a b
/-- ADDUS: unsigned saturating add, lanes (06_tile_engine_isa R205). Arguments: lane width, d, a, b. -/
def aluAddus (w : Nat) (_d a b : W64) : W64 := lanes2 w (fun x y => min (2 ^ w - 1) (x + y)) a b
/-- SUBS: signed saturating subtract, lanes (06_tile_engine_isa R205). Arguments: lane width, d, a, b. -/
def aluSubs (w : Nat) (_d a b : W64) : W64 := lanes2 w (fun x y => usg w (clampS w (sgn w x - sgn w y))) a b
/-- SUBUS: unsigned saturating subtract, lanes (06_tile_engine_isa R205). Arguments: lane width, d, a, b. -/
def aluSubus (w : Nat) (_d a b : W64) : W64 := lanes2 w (fun x y => x - y) a b
/-- AND: d = a AND b (06_tile_engine_isa R205). Arguments: lane width, d, a, b. -/
def aluAnd (_w : Nat) (_d a b : W64) : W64 := a &&& b
/-- OR: d = a OR b (06_tile_engine_isa R205). Arguments: lane width, d, a, b. -/
def aluOr (_w : Nat) (_d a b : W64) : W64 := a ||| b
/-- XOR: d = a XOR b (06_tile_engine_isa R205). Arguments: lane width, d, a, b. -/
def aluXor (_w : Nat) (_d a b : W64) : W64 := a ^^^ b
/-- ANDN: d = a AND NOT b (06_tile_engine_isa R205). Arguments: lane width, d, a, b. -/
def aluAndn (_w : Nat) (_d a b : W64) : W64 := a &&& ~~~b
/-- SHL: shift left by the low log2(W) bits of the lane of b (06_tile_engine_isa R205). Arguments: lane width, d, a, b. -/
def aluShl (w : Nat) (_d a b : W64) : W64 := lanes2 w (fun x y => x * 2 ^ (y % w)) a b
/-- SHR: shift right, zero fill (06_tile_engine_isa R205). Arguments: lane width, d, a, b. -/
def aluShr (w : Nat) (_d a b : W64) : W64 := lanes2 w (fun x y => x / 2 ^ (y % w)) a b
/-- SAR: shift right, sign fill (06_tile_engine_isa R205). Arguments: lane width, d, a, b. -/
def aluSar (w : Nat) (_d a b : W64) : W64 := lanes2 w (fun x y => usg w (sgn w x / 2 ^ (y % w))) a b
/-- MIN: signed minimum, lanes (06_tile_engine_isa R205). Arguments: lane width, d, a, b. -/
def aluMin (w : Nat) (_d a b : W64) : W64 := lanes2 w (fun x y => if sgn w x ≤ sgn w y then x else y) a b
/-- MAX: signed maximum, lanes (06_tile_engine_isa R205). Arguments: lane width, d, a, b. -/
def aluMax (w : Nat) (_d a b : W64) : W64 := lanes2 w (fun x y => if sgn w x ≤ sgn w y then y else x) a b
/-- MINU: unsigned minimum, lanes (06_tile_engine_isa R205). Arguments: lane width, d, a, b. -/
def aluMinu (w : Nat) (_d a b : W64) : W64 := lanes2 w min a b
/-- MAXU: unsigned maximum, lanes (06_tile_engine_isa R205). Arguments: lane width, d, a, b. -/
def aluMaxu (w : Nat) (_d a b : W64) : W64 := lanes2 w max a b
/-- ABSD: |a - b| of signed lanes, as an unsigned lane (06_tile_engine_isa R205). Arguments: lane width, d, a, b. -/
def aluAbsd (w : Nat) (_d a b : W64) : W64 := lanes2 w (fun x y => (sgn w x - sgn w y).natAbs) a b
/-- AVGU: (a + b + 1) >> 1, unsigned, exact (06_tile_engine_isa R205). Arguments: lane width, d, a, b. -/
def aluAvgu (w : Nat) (_d a b : W64) : W64 := lanes2 w (fun x y => (x + y + 1) / 2) a b
/-- BSEL: d = (a AND d) OR (b AND NOT d) (06_tile_engine_isa R205). Arguments: lane width, d, a, b. -/
def aluBsel (_w : Nat) (d a b : W64) : W64 := (a &&& d) ||| (b &&& ~~~d)
/-- MUL: low W bits of a x b (06_tile_engine_isa R205). Arguments: lane width, d, a, b. -/
def aluMul (w : Nat) (_d a b : W64) : W64 := lanes2 w (fun x y => x * y) a b
/-- MULHS: high W bits of the signed product (06_tile_engine_isa R205). Arguments: lane width, d, a, b. -/
def aluMulhs (w : Nat) (_d a b : W64) : W64 := lanes2 w (fun x y => usg w (sgn w x * sgn w y / 2 ^ w)) a b
/-- MULHU: high W bits of the unsigned product (06_tile_engine_isa R205). Arguments: lane width, d, a, b. -/
def aluMulhu (w : Nat) (_d a b : W64) : W64 := lanes2 w (fun x y => x * y / 2 ^ w) a b
/-- MAC: d = d + low W bits of a x b, lanes (06_tile_engine_isa R205). Arguments: lane width, d, a, b. -/
def aluMac (w : Nat) (d a b : W64) : W64 := lanes2 w (fun x y => x + y) d (lanes2 w (fun x y => x * y) a b)

/-- Lanes 0 to N/2 - 1 from the 2W-bit lanes of a, lanes N/2 to N - 1 from those of b (06_tile_engine_isa R207). -/
def packLanes (w : Nat) (f : Nat → Nat) (a b : W64) : W64 :=
  ofLanes w (64 / w) fun j => if j < 32 / w then f (lane (2 * w) a j) else f (lane (2 * w) b (j - 32 / w))

/-- UNPKLU: lanes 0 to N/2 - 1 of a, zero-extended (06_tile_engine_isa R207). -/
def aluUnpklu (w : Nat) (a _b : W64) : W64 := ofLanes (2 * w) (32 / w) fun j => lane w a j
/-- UNPKHU: lanes N/2 to N - 1 of a, zero-extended (06_tile_engine_isa R207). -/
def aluUnpkhu (w : Nat) (a _b : W64) : W64 := ofLanes (2 * w) (32 / w) fun j => lane w a (j + 32 / w)
/-- UNPKLS: as UNPKLU, sign-extended (06_tile_engine_isa R207). -/
def aluUnpkls (w : Nat) (a _b : W64) : W64 := ofLanes (2 * w) (32 / w) fun j => usg (2 * w) (sgn w (lane w a j))
/-- UNPKHS: as UNPKHU, sign-extended (06_tile_engine_isa R207). -/
def aluUnpkhs (w : Nat) (a _b : W64) : W64 := ofLanes (2 * w) (32 / w) fun j => usg (2 * w) (sgn w (lane w a (j + 32 / w)))
/-- PACKUS: signed 2W-bit lanes clamped to 0 to 2^W - 1 (06_tile_engine_isa R207). -/
def aluPackus (w : Nat) (a b : W64) : W64 := packLanes w (fun x => usg w (clampU w (sgn (2 * w) x))) a b
/-- PACKSS: signed 2W-bit lanes clamped to the signed W-bit range (06_tile_engine_isa R207). -/
def aluPackss (w : Nat) (a b : W64) : W64 := packLanes w (fun x => usg w (clampS w (sgn (2 * w) x))) a b
/-- PACKT: low W bits kept (06_tile_engine_isa R207). -/
def aluPackt (w : Nat) (a b : W64) : W64 := packLanes w (fun x => x) a b
/-- HADDU: sum of all lanes, zero-extended (06_tile_engine_isa R207). -/
def aluHaddu (w : Nat) (a _b : W64) : W64 := BitVec.ofNat 64 ((List.range (64 / w)).map (lane w a)).sum
/-- HADDS: sum of all lanes, sign-extended (06_tile_engine_isa R207). -/
def aluHadds (w : Nat) (a _b : W64) : W64 := BitVec.ofInt 64 ((List.range (64 / w)).map fun j => sgn w (lane w a j)).sum
/-- SPLAT: every lane of d = lane 0 of a (06_tile_engine_isa R207). -/
def aluSplat (w : Nat) (a _b : W64) : W64 := ofLanes w (64 / w) fun _ => lane w a 0
/-- CLZ: leading zeros of each lane (06_tile_engine_isa R207). -/
def aluClz (w : Nat) (a _b : W64) : W64 := lanes2 w (fun x _ => ((List.range w).takeWhile fun i => !x.testBit (w - 1 - i)).length) a 0
/-- POPC: set bits of each lane (06_tile_engine_isa R207). -/
def aluPopc (w : Nat) (a _b : W64) : W64 := lanes2 w (fun x _ => ((List.range w).filter fun i => x.testBit i).length) a 0

/-- The condition of CMP and CMPI in a lane of width `w` (06_tile_engine_isa R206, R208). -/
def cmpCond (fn w x y : Nat) : Option Bool :=
  match fn with
  | 0 => some (x == y)
  | 1 => some (x != y)
  | 2 => some (decide (sgn w x < sgn w y))
  | 3 => some (decide (sgn w x ≤ sgn w y))
  | 4 => some (decide (x < y))
  | 5 => some (decide (x ≤ y))
  | 6 => some (x &&& y != 0)
  | _ => none

/-! The instructions. -/

/-- An ALU instruction of opcode 0x00 (06_tile_engine_isa R199 to R205). -/
def teAlu (t : Time) (e : Nat) (d a b : BitVec 5) (ln pc fl : BitVec 2) (lanes : Bool) (cyc : Nat) (f : Nat → W64 → W64 → W64 → W64)
    (s : State) : Host.Outcome State Fault Refusal :=
  teOp t e s fun s x => rForm s e x lanes ln pc fl
    (s.doneEng e cyc fun y => y.setReg d (f (laneW ln) (x.reg d) (x.reg a) (x.reg b)))

/-- A reshaping instruction of opcode 0x02; `any` is false where lane mode 0b00 is illegal (06_tile_engine_isa R207). -/
def teReshape (t : Time) (e : Nat) (d a b : BitVec 5) (ln pc fl : BitVec 2) (any : Bool) (f : Nat → W64 → W64 → W64)
    (s : State) : Host.Outcome State Fault Refusal :=
  teOp t e s fun s x => rForm s e x true ln pc fl
    (if !any && ln == 0 then s.raiseExc e 1 0 0 else s.doneEng e 1 fun y => y.setReg d (f (laneW ln) (x.reg a) (x.reg b)))

/-- An immediate instruction of one cycle (06_tile_engine_isa R208). -/
def teImm (t : Time) (e : Nat) (d : BitVec 5) (ok : Bool) (f : Engine → W64) (s : State) : Host.Outcome State Fault Refusal :=
  teOp t e s fun s x => if ok then s.doneEng e 1 fun y => y.setReg d (f x) else s.raiseExc e 1 0 0

/-- The fields of an immediate shift are legal: lane mode in [9:8], count in [5:0] below W, the rest 0 (06_tile_engine_isa R208). -/
def shiftOk (imm : BitVec 16) : Bool :=
  fld imm 15 10 == 0 && fld imm 7 6 == 0 && decide (fld imm 5 0 < laneW (imm.extractLsb' 8 2))

/-- The fields of EXTU and EXTS are legal (06_tile_engine_isa R208). -/
def extOk (imm : BitVec 16) : Bool := fld imm 15 12 == 0 && decide (fld imm 5 0 + fld imm 11 6 + 1 ≤ 64)

/-- ADD (06_tile_engine_isa R205). -/
def execTeAdd (t : Time) (e : Nat) (d a b : BitVec 5) (ln pc fl : BitVec 2) (s : State) : Host.Outcome State Fault Refusal :=
  teAlu t e d a b ln pc fl true 1 aluAdd s

/-- SUB (06_tile_engine_isa R205). -/
def execTeSub (t : Time) (e : Nat) (d a b : BitVec 5) (ln pc fl : BitVec 2) (s : State) : Host.Outcome State Fault Refusal :=
  teAlu t e d a b ln pc fl true 1 aluSub s

/-- ADDS (06_tile_engine_isa R205). -/
def execTeAdds (t : Time) (e : Nat) (d a b : BitVec 5) (ln pc fl : BitVec 2) (s : State) : Host.Outcome State Fault Refusal :=
  teAlu t e d a b ln pc fl true 1 aluAdds s

/-- ADDUS (06_tile_engine_isa R205). -/
def execTeAddus (t : Time) (e : Nat) (d a b : BitVec 5) (ln pc fl : BitVec 2) (s : State) : Host.Outcome State Fault Refusal :=
  teAlu t e d a b ln pc fl true 1 aluAddus s

/-- SUBS (06_tile_engine_isa R205). -/
def execTeSubs (t : Time) (e : Nat) (d a b : BitVec 5) (ln pc fl : BitVec 2) (s : State) : Host.Outcome State Fault Refusal :=
  teAlu t e d a b ln pc fl true 1 aluSubs s

/-- SUBUS (06_tile_engine_isa R205). -/
def execTeSubus (t : Time) (e : Nat) (d a b : BitVec 5) (ln pc fl : BitVec 2) (s : State) : Host.Outcome State Fault Refusal :=
  teAlu t e d a b ln pc fl true 1 aluSubus s

/-- AND (06_tile_engine_isa R205). -/
def execTeAnd (t : Time) (e : Nat) (d a b : BitVec 5) (ln pc fl : BitVec 2) (s : State) : Host.Outcome State Fault Refusal :=
  teAlu t e d a b ln pc fl false 1 aluAnd s

/-- OR (06_tile_engine_isa R205). -/
def execTeOr (t : Time) (e : Nat) (d a b : BitVec 5) (ln pc fl : BitVec 2) (s : State) : Host.Outcome State Fault Refusal :=
  teAlu t e d a b ln pc fl false 1 aluOr s

/-- XOR (06_tile_engine_isa R205). -/
def execTeXor (t : Time) (e : Nat) (d a b : BitVec 5) (ln pc fl : BitVec 2) (s : State) : Host.Outcome State Fault Refusal :=
  teAlu t e d a b ln pc fl false 1 aluXor s

/-- ANDN (06_tile_engine_isa R205). -/
def execTeAndn (t : Time) (e : Nat) (d a b : BitVec 5) (ln pc fl : BitVec 2) (s : State) : Host.Outcome State Fault Refusal :=
  teAlu t e d a b ln pc fl false 1 aluAndn s

/-- SHL (06_tile_engine_isa R205). -/
def execTeShl (t : Time) (e : Nat) (d a b : BitVec 5) (ln pc fl : BitVec 2) (s : State) : Host.Outcome State Fault Refusal :=
  teAlu t e d a b ln pc fl true 1 aluShl s

/-- SHR (06_tile_engine_isa R205). -/
def execTeShr (t : Time) (e : Nat) (d a b : BitVec 5) (ln pc fl : BitVec 2) (s : State) : Host.Outcome State Fault Refusal :=
  teAlu t e d a b ln pc fl true 1 aluShr s

/-- SAR (06_tile_engine_isa R205). -/
def execTeSar (t : Time) (e : Nat) (d a b : BitVec 5) (ln pc fl : BitVec 2) (s : State) : Host.Outcome State Fault Refusal :=
  teAlu t e d a b ln pc fl true 1 aluSar s

/-- MIN (06_tile_engine_isa R205). -/
def execTeMin (t : Time) (e : Nat) (d a b : BitVec 5) (ln pc fl : BitVec 2) (s : State) : Host.Outcome State Fault Refusal :=
  teAlu t e d a b ln pc fl true 1 aluMin s

/-- MAX (06_tile_engine_isa R205). -/
def execTeMax (t : Time) (e : Nat) (d a b : BitVec 5) (ln pc fl : BitVec 2) (s : State) : Host.Outcome State Fault Refusal :=
  teAlu t e d a b ln pc fl true 1 aluMax s

/-- MINU (06_tile_engine_isa R205). -/
def execTeMinu (t : Time) (e : Nat) (d a b : BitVec 5) (ln pc fl : BitVec 2) (s : State) : Host.Outcome State Fault Refusal :=
  teAlu t e d a b ln pc fl true 1 aluMinu s

/-- MAXU (06_tile_engine_isa R205). -/
def execTeMaxu (t : Time) (e : Nat) (d a b : BitVec 5) (ln pc fl : BitVec 2) (s : State) : Host.Outcome State Fault Refusal :=
  teAlu t e d a b ln pc fl true 1 aluMaxu s

/-- ABSD (06_tile_engine_isa R205). -/
def execTeAbsd (t : Time) (e : Nat) (d a b : BitVec 5) (ln pc fl : BitVec 2) (s : State) : Host.Outcome State Fault Refusal :=
  teAlu t e d a b ln pc fl true 1 aluAbsd s

/-- AVGU (06_tile_engine_isa R205). -/
def execTeAvgu (t : Time) (e : Nat) (d a b : BitVec 5) (ln pc fl : BitVec 2) (s : State) : Host.Outcome State Fault Refusal :=
  teAlu t e d a b ln pc fl true 1 aluAvgu s

/-- BSEL (06_tile_engine_isa R205). -/
def execTeBsel (t : Time) (e : Nat) (d a b : BitVec 5) (ln pc fl : BitVec 2) (s : State) : Host.Outcome State Fault Refusal :=
  teAlu t e d a b ln pc fl false 1 aluBsel s

/-- MUL (06_tile_engine_isa R205). -/
def execTeMul (t : Time) (e : Nat) (d a b : BitVec 5) (ln pc fl : BitVec 2) (s : State) : Host.Outcome State Fault Refusal :=
  teAlu t e d a b ln pc fl true 2 aluMul s

/-- MULHS (06_tile_engine_isa R205). -/
def execTeMulhs (t : Time) (e : Nat) (d a b : BitVec 5) (ln pc fl : BitVec 2) (s : State) : Host.Outcome State Fault Refusal :=
  teAlu t e d a b ln pc fl true 2 aluMulhs s

/-- MULHU (06_tile_engine_isa R205). -/
def execTeMulhu (t : Time) (e : Nat) (d a b : BitVec 5) (ln pc fl : BitVec 2) (s : State) : Host.Outcome State Fault Refusal :=
  teAlu t e d a b ln pc fl true 2 aluMulhu s

/-- MAC (06_tile_engine_isa R205). -/
def execTeMac (t : Time) (e : Nat) (d a b : BitVec 5) (ln pc fl : BitVec 2) (s : State) : Host.Outcome State Fault Refusal :=
  teAlu t e d a b ln pc fl true 2 aluMac s

/-- CMP: the mask to d, and the flag from any lane, every lane or lane 0; it cannot be predicated (06_tile_engine_isa R199, R203, R206). -/
def execTeCmp (t : Time) (e : Nat) (fn d a b : BitVec 5) (ln pc fl : BitVec 2) (s : State) : Host.Outcome State Fault Refusal :=
  teOp t e s fun s x =>
    let w := laneW ln
    let c := fun j => cmpCond fn.toNat w (lane w (x.reg a) j) (lane w (x.reg b) j)
    if pc == 3 || (c 0).isNone then s.raiseExc e 1 0 0
    else
      let js := List.range (64 / w)
      let hit := if pc == 0 then js.any fun j => c j == some true else if pc == 1 then js.all fun j => c j == some true else c 0 == some true
      s.doneEng e 1 fun y => (y.setReg d (ofLanes w (64 / w) fun j => if c j == some true then 2 ^ w - 1 else 0)).setFlag fl hit

/-- UNPKLU (06_tile_engine_isa R207). -/
def execTeUnpklu (t : Time) (e : Nat) (d a b : BitVec 5) (ln pc fl : BitVec 2) (s : State) : Host.Outcome State Fault Refusal :=
  teReshape t e d a b ln pc fl false aluUnpklu s

/-- UNPKHU (06_tile_engine_isa R207). -/
def execTeUnpkhu (t : Time) (e : Nat) (d a b : BitVec 5) (ln pc fl : BitVec 2) (s : State) : Host.Outcome State Fault Refusal :=
  teReshape t e d a b ln pc fl false aluUnpkhu s

/-- UNPKLS (06_tile_engine_isa R207). -/
def execTeUnpkls (t : Time) (e : Nat) (d a b : BitVec 5) (ln pc fl : BitVec 2) (s : State) : Host.Outcome State Fault Refusal :=
  teReshape t e d a b ln pc fl false aluUnpkls s

/-- UNPKHS (06_tile_engine_isa R207). -/
def execTeUnpkhs (t : Time) (e : Nat) (d a b : BitVec 5) (ln pc fl : BitVec 2) (s : State) : Host.Outcome State Fault Refusal :=
  teReshape t e d a b ln pc fl false aluUnpkhs s

/-- PACKUS (06_tile_engine_isa R207). -/
def execTePackus (t : Time) (e : Nat) (d a b : BitVec 5) (ln pc fl : BitVec 2) (s : State) : Host.Outcome State Fault Refusal :=
  teReshape t e d a b ln pc fl false aluPackus s

/-- PACKSS (06_tile_engine_isa R207). -/
def execTePackss (t : Time) (e : Nat) (d a b : BitVec 5) (ln pc fl : BitVec 2) (s : State) : Host.Outcome State Fault Refusal :=
  teReshape t e d a b ln pc fl false aluPackss s

/-- PACKT (06_tile_engine_isa R207). -/
def execTePackt (t : Time) (e : Nat) (d a b : BitVec 5) (ln pc fl : BitVec 2) (s : State) : Host.Outcome State Fault Refusal :=
  teReshape t e d a b ln pc fl false aluPackt s

/-- HADDU (06_tile_engine_isa R207). -/
def execTeHaddu (t : Time) (e : Nat) (d a b : BitVec 5) (ln pc fl : BitVec 2) (s : State) : Host.Outcome State Fault Refusal :=
  teReshape t e d a b ln pc fl true aluHaddu s

/-- HADDS (06_tile_engine_isa R207). -/
def execTeHadds (t : Time) (e : Nat) (d a b : BitVec 5) (ln pc fl : BitVec 2) (s : State) : Host.Outcome State Fault Refusal :=
  teReshape t e d a b ln pc fl true aluHadds s

/-- SPLAT (06_tile_engine_isa R207). -/
def execTeSplat (t : Time) (e : Nat) (d a b : BitVec 5) (ln pc fl : BitVec 2) (s : State) : Host.Outcome State Fault Refusal :=
  teReshape t e d a b ln pc fl true aluSplat s

/-- CLZ (06_tile_engine_isa R207). -/
def execTeClz (t : Time) (e : Nat) (d a b : BitVec 5) (ln pc fl : BitVec 2) (s : State) : Host.Outcome State Fault Refusal :=
  teReshape t e d a b ln pc fl true aluClz s

/-- POPC (06_tile_engine_isa R207). -/
def execTePopc (t : Time) (e : Nat) (d a b : BitVec 5) (ln pc fl : BitVec 2) (s : State) : Host.Outcome State Fault Refusal :=
  teReshape t e d a b ln pc fl true aluPopc s

/-- ADDI: d = a + sext(imm16) (06_tile_engine_isa R208). -/
def execTeAddi (t : Time) (e : Nat) (d a : BitVec 5) (imm : BitVec 16) (s : State) : Host.Outcome State Fault Refusal :=
  teImm t e d true (fun x => x.reg a + imm.signExtend 64) s

/-- ANDI: d = a AND zext(imm16) (06_tile_engine_isa R208). -/
def execTeAndi (t : Time) (e : Nat) (d a : BitVec 5) (imm : BitVec 16) (s : State) : Host.Outcome State Fault Refusal :=
  teImm t e d true (fun x => x.reg a &&& imm.setWidth 64) s

/-- ORI: d = a OR zext(imm16) (06_tile_engine_isa R208). -/
def execTeOri (t : Time) (e : Nat) (d a : BitVec 5) (imm : BitVec 16) (s : State) : Host.Outcome State Fault Refusal :=
  teImm t e d true (fun x => x.reg a ||| imm.setWidth 64) s

/-- XORI: d = a XOR zext(imm16) (06_tile_engine_isa R208). -/
def execTeXori (t : Time) (e : Nat) (d a : BitVec 5) (imm : BitVec 16) (s : State) : Host.Outcome State Fault Refusal :=
  teImm t e d true (fun x => x.reg a ^^^ imm.setWidth 64) s

/-- LUI: d = sext(imm16) << 16; a must be 0 (06_tile_engine_isa R208). -/
def execTeLui (t : Time) (e : Nat) (d a : BitVec 5) (imm : BitVec 16) (s : State) : Host.Outcome State Fault Refusal :=
  teImm t e d (a == 0) (fun _ => imm.signExtend 64 <<< 16) s

/-- SHLI: shift left, lanes (06_tile_engine_isa R208). -/
def execTeShli (t : Time) (e : Nat) (d a : BitVec 5) (imm : BitVec 16) (s : State) : Host.Outcome State Fault Refusal :=
  teImm t e d (shiftOk imm) (fun x => aluShl (laneW (imm.extractLsb' 8 2)) 0 (x.reg a) (aluSplat (laneW (imm.extractLsb' 8 2)) (imm.setWidth 64 &&& 63) 0)) s

/-- SHRI: shift right, zero fill, lanes (06_tile_engine_isa R208). -/
def execTeShri (t : Time) (e : Nat) (d a : BitVec 5) (imm : BitVec 16) (s : State) : Host.Outcome State Fault Refusal :=
  teImm t e d (shiftOk imm) (fun x => aluShr (laneW (imm.extractLsb' 8 2)) 0 (x.reg a) (aluSplat (laneW (imm.extractLsb' 8 2)) (imm.setWidth 64 &&& 63) 0)) s

/-- SARI: shift right, sign fill, lanes (06_tile_engine_isa R208). -/
def execTeSari (t : Time) (e : Nat) (d a : BitVec 5) (imm : BitVec 16) (s : State) : Host.Outcome State Fault Refusal :=
  teImm t e d (shiftOk imm) (fun x => aluSar (laneW (imm.extractLsb' 8 2)) 0 (x.reg a) (aluSplat (laneW (imm.extractLsb' 8 2)) (imm.setWidth 64 &&& 63) 0)) s

/-- EXTU: d = bits [p + L - 1 : p] of a, zero-extended (06_tile_engine_isa R208). -/
def execTeExtu (t : Time) (e : Nat) (d a : BitVec 5) (imm : BitVec 16) (s : State) : Host.Outcome State Fault Refusal :=
  teImm t e d (extOk imm) (fun x => BitVec.ofNat 64 (((x.reg a).toNat / 2 ^ fld imm 5 0) % 2 ^ (fld imm 11 6 + 1))) s

/-- EXTS: as EXTU, sign-extended (06_tile_engine_isa R208). -/
def execTeExts (t : Time) (e : Nat) (d a : BitVec 5) (imm : BitVec 16) (s : State) : Host.Outcome State Fault Refusal :=
  teImm t e d (extOk imm) (fun x => BitVec.ofInt 64 (sgn (fld imm 11 6 + 1) ((x.reg a).toNat / 2 ^ fld imm 5 0))) s

/-- CMPI: compare a with sext(imm16); d[4:2] selects the condition, d[1:0] names the flag; no mask is written (06_tile_engine_isa R208). -/
def execTeCmpi (t : Time) (e : Nat) (d a : BitVec 5) (imm : BitVec 16) (s : State) : Host.Outcome State Fault Refusal :=
  teOp t e s fun s x =>
    if 6 ≤ fld d 4 2 then s.raiseExc e 1 0 0
    else s.doneEng e 1 fun y =>
      y.setFlag (d.setWidth 2) (cmpCond (fld d 4 2) 64 (x.reg a).toNat (imm.signExtend 64).toNat == some true)

end Machine
end Sys2Proof
end

