-- ==== Sys2Proof/Machine/Dispatch.lean ====
section
/-! DEFINITION. The meaning of every command: one arm per constructor, one call of its own meaning. -/

namespace Sys2Proof
namespace Machine

def exec (i : Instr) (s : State) : Host.Outcome State Fault Refusal :=
  match i with
  | .lineTick t => Sys2Proof.Machine.execLineTick t s
  | .triggerEdge t inp falling => Sys2Proof.Machine.execTriggerEdge t inp falling s
  | .holdGateOpen t => Sys2Proof.Machine.execHoldGateOpen t s
  | .slotReleaseDeadline t e => Sys2Proof.Machine.execSlotReleaseDeadline t e s
  | .idleFlush t => Sys2Proof.Machine.execIdleFlush t s
  | .reversalConfirmed t => Sys2Proof.Machine.execReversalConfirmed t s
  | .directionFlushEnd t => Sys2Proof.Machine.execDirectionFlushEnd t s
  | .lineReference t => Sys2Proof.Machine.execLineReference t s
  | .referenceLoss t => Sys2Proof.Machine.execReferenceLoss t s
  | .lpllLock t => Sys2Proof.Machine.execLpllLock t s
  | .holdoverLinesReached t => Sys2Proof.Machine.execHoldoverLinesReached t s
  | .gapProvisional t => Sys2Proof.Machine.execGapProvisional t s
  | .commitGo t w => Sys2Proof.Machine.execCommitGo t w s
  | .commitNoTick t => Sys2Proof.Machine.execCommitNoTick t s
  | .snapshotTake t w => Sys2Proof.Machine.execSnapshotTake t w s
  | .snapshotNoTick t => Sys2Proof.Machine.execSnapshotNoTick t s
  | .bankWrite t off w => Sys2Proof.Machine.execBankWrite t off w s
  | .seqSwapGo t w => Sys2Proof.Machine.execSeqSwapGo t w s
  | .swapValidated t => Sys2Proof.Machine.execSwapValidated t s
  | .swapNoTick t => Sys2Proof.Machine.execSwapNoTick t s
  | .copyComplete t => Sys2Proof.Machine.execCopyComplete t s
  | .lockAcquire t w => Sys2Proof.Machine.execLockAcquire t w s
  | .lockRenew t w => Sys2Proof.Machine.execLockRenew t w s
  | .lockRelease t w => Sys2Proof.Machine.execLockRelease t w s
  | .leaseExpiry t => Sys2Proof.Machine.execLeaseExpiry t s
  | .holdTrigFire t w => Sys2Proof.Machine.execHoldTrigFire t w s
  | .delayExpiry t => Sys2Proof.Machine.execDelayExpiry t s
  | .seqResUpdate t => Sys2Proof.Machine.execSeqResUpdate t s
  | .seqResRead t n lo nb => Sys2Proof.Machine.execSeqResRead t n lo nb s
  | .conversionEnd t tile xs => Sys2Proof.Machine.execConversionEnd t tile xs s
  | .sliceCheckFail t tile j => Sys2Proof.Machine.execSliceCheckFail t tile j s
  | .rotation t => Sys2Proof.Machine.execRotation t s
  | .calRunEnd t tile run => Sys2Proof.Machine.execCalRunEnd t tile run s
  | .bankPowerDown t tile => Sys2Proof.Machine.execBankPowerDown t tile s
  | .bankWakeAhead t tile => Sys2Proof.Machine.execBankWakeAhead t tile s
  | .dark t w => Sys2Proof.Machine.execDark t w s
  | .flatHg t w => Sys2Proof.Machine.execFlatHg t w s
  | .flatLg t w => Sys2Proof.Machine.execFlatLg t w s
  | .apply t w => Sys2Proof.Machine.execApply t w s
  | .save t w => Sys2Proof.Machine.execSave t w s
  | .restore t w => Sys2Proof.Machine.execRestore t w s
  | .abort t w => Sys2Proof.Machine.execAbort t w s
  | .calStepStart t => Sys2Proof.Machine.execCalStepStart t s
  | .calStepPendingTimeout t => Sys2Proof.Machine.execCalStepPendingTimeout t s
  | .calStepEnd t => Sys2Proof.Machine.execCalStepEnd t s
  | .calStepTimeout t => Sys2Proof.Machine.execCalStepTimeout t s
  | .applyLoadEnd t => Sys2Proof.Machine.execApplyLoadEnd t s
  | .saveEnd t good => Sys2Proof.Machine.execSaveEnd t good s
  | .paletteRewriteEnd t tile => Sys2Proof.Machine.execPaletteRewriteEnd t tile s
  | .masterReloadEnd t tile => Sys2Proof.Machine.execMasterReloadEnd t tile s
  | .journalAppend t good => Sys2Proof.Machine.execJournalAppend t good s
  | .teAdd t e d a b ln pc fl => Sys2Proof.Machine.execTeAdd t e d a b ln pc fl s
  | .teSub t e d a b ln pc fl => Sys2Proof.Machine.execTeSub t e d a b ln pc fl s
  | .teAdds t e d a b ln pc fl => Sys2Proof.Machine.execTeAdds t e d a b ln pc fl s
  | .teAddus t e d a b ln pc fl => Sys2Proof.Machine.execTeAddus t e d a b ln pc fl s
  | .teSubs t e d a b ln pc fl => Sys2Proof.Machine.execTeSubs t e d a b ln pc fl s
  | .teSubus t e d a b ln pc fl => Sys2Proof.Machine.execTeSubus t e d a b ln pc fl s
  | .teAnd t e d a b ln pc fl => Sys2Proof.Machine.execTeAnd t e d a b ln pc fl s
  | .teOr t e d a b ln pc fl => Sys2Proof.Machine.execTeOr t e d a b ln pc fl s
  | .teXor t e d a b ln pc fl => Sys2Proof.Machine.execTeXor t e d a b ln pc fl s
  | .teAndn t e d a b ln pc fl => Sys2Proof.Machine.execTeAndn t e d a b ln pc fl s
  | .teShl t e d a b ln pc fl => Sys2Proof.Machine.execTeShl t e d a b ln pc fl s
  | .teShr t e d a b ln pc fl => Sys2Proof.Machine.execTeShr t e d a b ln pc fl s
  | .teSar t e d a b ln pc fl => Sys2Proof.Machine.execTeSar t e d a b ln pc fl s
  | .teMin t e d a b ln pc fl => Sys2Proof.Machine.execTeMin t e d a b ln pc fl s
  | .teMax t e d a b ln pc fl => Sys2Proof.Machine.execTeMax t e d a b ln pc fl s
  | .teMinu t e d a b ln pc fl => Sys2Proof.Machine.execTeMinu t e d a b ln pc fl s
  | .teMaxu t e d a b ln pc fl => Sys2Proof.Machine.execTeMaxu t e d a b ln pc fl s
  | .teAbsd t e d a b ln pc fl => Sys2Proof.Machine.execTeAbsd t e d a b ln pc fl s
  | .teAvgu t e d a b ln pc fl => Sys2Proof.Machine.execTeAvgu t e d a b ln pc fl s
  | .teBsel t e d a b ln pc fl => Sys2Proof.Machine.execTeBsel t e d a b ln pc fl s
  | .teMul t e d a b ln pc fl => Sys2Proof.Machine.execTeMul t e d a b ln pc fl s
  | .teMulhs t e d a b ln pc fl => Sys2Proof.Machine.execTeMulhs t e d a b ln pc fl s
  | .teMulhu t e d a b ln pc fl => Sys2Proof.Machine.execTeMulhu t e d a b ln pc fl s
  | .teMac t e d a b ln pc fl => Sys2Proof.Machine.execTeMac t e d a b ln pc fl s
  | .teCmp t e fn d a b ln pc fl => Sys2Proof.Machine.execTeCmp t e fn d a b ln pc fl s
  | .teUnpklu t e d a b ln pc fl => Sys2Proof.Machine.execTeUnpklu t e d a b ln pc fl s
  | .teUnpkhu t e d a b ln pc fl => Sys2Proof.Machine.execTeUnpkhu t e d a b ln pc fl s
  | .teUnpkls t e d a b ln pc fl => Sys2Proof.Machine.execTeUnpkls t e d a b ln pc fl s
  | .teUnpkhs t e d a b ln pc fl => Sys2Proof.Machine.execTeUnpkhs t e d a b ln pc fl s
  | .tePackus t e d a b ln pc fl => Sys2Proof.Machine.execTePackus t e d a b ln pc fl s
  | .tePackss t e d a b ln pc fl => Sys2Proof.Machine.execTePackss t e d a b ln pc fl s
  | .tePackt t e d a b ln pc fl => Sys2Proof.Machine.execTePackt t e d a b ln pc fl s
  | .teHaddu t e d a b ln pc fl => Sys2Proof.Machine.execTeHaddu t e d a b ln pc fl s
  | .teHadds t e d a b ln pc fl => Sys2Proof.Machine.execTeHadds t e d a b ln pc fl s
  | .teSplat t e d a b ln pc fl => Sys2Proof.Machine.execTeSplat t e d a b ln pc fl s
  | .teClz t e d a b ln pc fl => Sys2Proof.Machine.execTeClz t e d a b ln pc fl s
  | .tePopc t e d a b ln pc fl => Sys2Proof.Machine.execTePopc t e d a b ln pc fl s
  | .teAddi t e d a imm => Sys2Proof.Machine.execTeAddi t e d a imm s
  | .teAndi t e d a imm => Sys2Proof.Machine.execTeAndi t e d a imm s
  | .teOri t e d a imm => Sys2Proof.Machine.execTeOri t e d a imm s
  | .teXori t e d a imm => Sys2Proof.Machine.execTeXori t e d a imm s
  | .teLui t e d a imm => Sys2Proof.Machine.execTeLui t e d a imm s
  | .teShli t e d a imm => Sys2Proof.Machine.execTeShli t e d a imm s
  | .teShri t e d a imm => Sys2Proof.Machine.execTeShri t e d a imm s
  | .teSari t e d a imm => Sys2Proof.Machine.execTeSari t e d a imm s
  | .teExtu t e d a imm => Sys2Proof.Machine.execTeExtu t e d a imm s
  | .teExts t e d a imm => Sys2Proof.Machine.execTeExts t e d a imm s
  | .teCmpi t e d a imm => Sys2Proof.Machine.execTeCmpi t e d a imm s
  | .teLinfo t e d a imm => Sys2Proof.Machine.execTeLinfo t e d a imm s
  | .teLd64 t e d a imm => Sys2Proof.Machine.execTeLd64 t e d a imm s
  | .teLd32u t e d a imm => Sys2Proof.Machine.execTeLd32u t e d a imm s
  | .teLd32s t e d a imm => Sys2Proof.Machine.execTeLd32s t e d a imm s
  | .teLd16u t e d a imm => Sys2Proof.Machine.execTeLd16u t e d a imm s
  | .teLd16s t e d a imm => Sys2Proof.Machine.execTeLd16s t e d a imm s
  | .teLd8u t e d a imm => Sys2Proof.Machine.execTeLd8u t e d a imm s
  | .teLd8s t e d a imm => Sys2Proof.Machine.execTeLd8s t e d a imm s
  | .teSt64 t e d a imm => Sys2Proof.Machine.execTeSt64 t e d a imm s
  | .teSt32 t e d a imm => Sys2Proof.Machine.execTeSt32 t e d a imm s
  | .teSt16 t e d a imm => Sys2Proof.Machine.execTeSt16 t e d a imm s
  | .teSt8 t e d a imm => Sys2Proof.Machine.execTeSt8 t e d a imm s
  | .tePld t e d a imm => Sys2Proof.Machine.execTePld t e d a imm s
  | .teBr t e d a imm => Sys2Proof.Machine.execTeBr t e d a imm s
  | .teBf t e d a imm => Sys2Proof.Machine.execTeBf t e d a imm s
  | .teBnf t e d a imm => Sys2Proof.Machine.execTeBnf t e d a imm s
  | .teLoop t e d a imm => Sys2Proof.Machine.execTeLoop t e d a imm s
  | .teCall t e d a imm => Sys2Proof.Machine.execTeCall t e d a imm s
  | .teLcset t e d a imm => Sys2Proof.Machine.execTeLcset t e d a imm s
  | .teNop t e d a b ln pc fl => Sys2Proof.Machine.execTeNop t e d a b ln pc fl s
  | .teMfs t e d a b ln pc fl => Sys2Proof.Machine.execTeMfs t e d a b ln pc fl s
  | .teMts t e d a b ln pc fl => Sys2Proof.Machine.execTeMts t e d a b ln pc fl s
  | .teHb t e d a b ln pc fl => Sys2Proof.Machine.execTeHb t e d a b ln pc fl s
  | .teKb t e d a b ln pc fl => Sys2Proof.Machine.execTeKb t e d a b ln pc fl s
  | .teBrk t e d a b ln pc fl => Sys2Proof.Machine.execTeBrk t e d a b ln pc fl s
  | .teRet t e d a b ln pc fl => Sys2Proof.Machine.execTeRet t e d a b ln pc fl s
  | .teLacq t e d a b ln pc fl => Sys2Proof.Machine.execTeLacq t e d a b ln pc fl s
  | .teLacqe t e d a b ln pc fl => Sys2Proof.Machine.execTeLacqe t e d a b ln pc fl s
  | .teLwait t e d a b ln pc fl => Sys2Proof.Machine.execTeLwait t e d a b ln pc fl s
  | .teLwaitf t e d a b ln pc fl => Sys2Proof.Machine.execTeLwaitf t e d a b ln pc fl s
  | .teLrel t e d a b ln pc fl => Sys2Proof.Machine.execTeLrel t e d a b ln pc fl s
  | .teLtest t e d a b ln pc fl => Sys2Proof.Machine.execTeLtest t e d a b ln pc fl s
  | .teLkill t e d a b ln pc fl => Sys2Proof.Machine.execTeLkill t e d a b ln pc fl s
  | .teNsendw t e d a b ln pc fl => Sys2Proof.Machine.execTeNsendw t e d a b ln pc fl s
  | .teNsende t e d a b ln pc fl => Sys2Proof.Machine.execTeNsende t e d a b ln pc fl s
  | .teNrecvw t e d a b ln pc fl => Sys2Proof.Machine.execTeNrecvw t e d a b ln pc fl s
  | .teNrecve t e d a b ln pc fl => Sys2Proof.Machine.execTeNrecve t e d a b ln pc fl s
  | .nbTimeout t e => Sys2Proof.Machine.execNbTimeout t e s
  | .teRsend t e d a b ln pc fl => Sys2Proof.Machine.execTeRsend t e d a b ln pc fl s
  | .teRsendt t e d a b ln pc fl => Sys2Proof.Machine.execTeRsendt t e d a b ln pc fl s
  | .teRtry t e d a b ln pc fl => Sys2Proof.Machine.execTeRtry t e d a b ln pc fl s
  | .teRtryt t e d a b ln pc fl => Sys2Proof.Machine.execTeRtryt t e d a b ln pc fl s
  | .blockedHeartbeat t e => Sys2Proof.Machine.execBlockedHeartbeat t e s
  | .engineHang t e => Sys2Proof.Machine.execEngineHang t e s
  | .portCheckFail t e => Sys2Proof.Machine.execPortCheckFail t e s
  | .engineRestartEnd t e => Sys2Proof.Machine.execEngineRestartEnd t e s
  | .spareLoadEnd t e => Sys2Proof.Machine.execSpareLoadEnd t e s
  | .restartAll t w => Sys2Proof.Machine.execRestartAll t w s
  | .teLoadGo t w => Sys2Proof.Machine.execTeLoadGo t w s
  | .teLoadEnd t => Sys2Proof.Machine.execTeLoadEnd t s
  | .teCyclesClear t w => Sys2Proof.Machine.execTeCyclesClear t w s
  | .statCombine t line => Sys2Proof.Machine.execStatCombine t line s
  | .close t ch => Sys2Proof.Machine.execClose t ch s
  | .classCDrop t e => Sys2Proof.Machine.execClassCDrop t e s
  | .recordReassembled t src ue bad => Sys2Proof.Machine.execRecordReassembled t src ue bad s
  | .slackClear t ch w => Sys2Proof.Machine.execSlackClear t ch w s
  | .egressWrite t ch ue => Sys2Proof.Machine.execEgressWrite t ch ue s
  | .starvedDrop t ch => Sys2Proof.Machine.execStarvedDrop t ch s
  | .writeback t ch => Sys2Proof.Machine.execWriteback t ch s
  | .irqHoldoffEnd t ch => Sys2Proof.Machine.execIrqHoldoffEnd t ch s
  | .ringStart t ch w => Sys2Proof.Machine.execRingStart t ch w s
  | .ringStartEffect t ch => Sys2Proof.Machine.execRingStartEffect t ch s
  | .ringStop t ch w => Sys2Proof.Machine.execRingStop t ch w s
  | .stoppingDrained t ch => Sys2Proof.Machine.execStoppingDrained t ch s
  | .stoppingTimeout t ch => Sys2Proof.Machine.execStoppingTimeout t ch s
  | .tailWrite t ch w => Sys2Proof.Machine.execTailWrite t ch w s
  | .descriptorFetchDone t ch r => Sys2Proof.Machine.execDescriptorFetchDone t ch r s
  | .busMasterDisable t => Sys2Proof.Machine.execBusMasterDisable t s
  | .configRequest t req => Sys2Proof.Machine.execConfigRequest t req s
  | .bar0OverlongRead t off nb => Sys2Proof.Machine.execBar0OverlongRead t off nb s
  | .bar2Write t off nb v => Sys2Proof.Machine.execBar2Write t off nb v s
  | .flr t => Sys2Proof.Machine.execFlr t s
  | .flrComplete t => Sys2Proof.Machine.execFlrComplete t s
  | .hotReset t => Sys2Proof.Machine.execHotReset t s
  | .linkDown t => Sys2Proof.Machine.execLinkDown t s
  | .pciePerstN t => Sys2Proof.Machine.execPciePerstN t s
  | .d3hotEntry t => Sys2Proof.Machine.execD3hotEntry t s
  | .rwinSelWrite t w => Sys2Proof.Machine.execRwinSelWrite t w s
  | .remoteWindowWrite t x w => Sys2Proof.Machine.execRemoteWindowWrite t x w s
  | .remoteWindowRead t x nb => Sys2Proof.Machine.execRemoteWindowRead t x nb s
  | .remoteReadTimeout t => Sys2Proof.Machine.execRemoteReadTimeout t s
  | .refAbsent t r => Sys2Proof.Machine.execRefAbsent t r s
  | .refPresent t r => Sys2Proof.Machine.execRefPresent t r s
  | .refMonitorMeasure t ppm => Sys2Proof.Machine.execRefMonitorMeasure t ppm s
  | .cpllLossOfLock t loss => Sys2Proof.Machine.execCpllLossOfLock t loss s
  | .relockTimeout t => Sys2Proof.Machine.execRelockTimeout t s
  | .cpllLock t => Sys2Proof.Machine.execCpllLock t s
  | .interruptionEnd t => Sys2Proof.Machine.execInterruptionEnd t s
  | .interruptionLong t => Sys2Proof.Machine.execInterruptionLong t s
  | .gatedAccessTimeout t => Sys2Proof.Machine.execGatedAccessTimeout t s
  | .revert t w => Sys2Proof.Machine.execRevert t w s
  | .clkRefSrcWrite t w => Sys2Proof.Machine.execClkRefSrcWrite t w s
  | .apllLossOfLock t => Sys2Proof.Machine.execApllLossOfLock t s
  | .apllLock t => Sys2Proof.Machine.execApllLock t s
  | .asyncEdge t => Sys2Proof.Machine.execAsyncEdge t s
  | .fire t w => Sys2Proof.Machine.execFire t w s
  | .clkOutWrite t j w => Sys2Proof.Machine.execClkOutWrite t j w s
  | .inputEdge t e es => Sys2Proof.Machine.execInputEdge t e es s
  | .pxNop t e => Sys2Proof.Machine.execPxNop t e s
  | .pxWaite t e mask edge => Sys2Proof.Machine.execPxWaite t e mask edge s
  | .pxWaitl t e k level => Sys2Proof.Machine.execPxWaitl t e k level s
  | .pxWaitc t e a b c cond => Sys2Proof.Machine.execPxWaitc t e a b c cond s
  | .pxCnt t e k mode a b x xen eng => Sys2Proof.Machine.execPxCnt t e k mode a b x xen eng s
  | .pxLdi t e k imm => Sys2Proof.Machine.execPxLdi t e k imm s
  | .pxAddi t e k imm => Sys2Proof.Machine.execPxAddi t e k imm s
  | .pxCalc t e d a b op => Sys2Proof.Machine.execPxCalc t e d a b op s
  | .pxJmp t e cond n target => Sys2Proof.Machine.execPxJmp t e cond n target s
  | .pxOut t e o act => Sys2Proof.Machine.execPxOut t e o act s
  | .pxDly t e src k n => Sys2Proof.Machine.execPxDly t e src k n s
  | .pxShin t e k clk ci n => Sys2Proof.Machine.execPxShin t e k clk ci n s
  | .pxShout t e o clk ci n => Sys2Proof.Machine.execPxShout t e o clk ci n s
  | .pxXsh t e op k => Sys2Proof.Machine.execPxXsh t e op k s
  | .pxGet t e dst k w j => Sys2Proof.Machine.execPxGet t e dst k w j s
  | .pxPut t e m src k => Sys2Proof.Machine.execPxPut t e m src k s
  | .pxEvt t e imm => Sys2Proof.Machine.execPxEvt t e imm s
  | .pxCap t e src k => Sys2Proof.Machine.execPxCap t e src k s
  | .pxIrq t e code => Sys2Proof.Machine.execPxIrq t e code s
  | .pxHalt t e => Sys2Proof.Machine.execPxHalt t e s
  | .pxStart t e w => Sys2Proof.Machine.execPxStart t e w s
  | .pxStop t e w => Sys2Proof.Machine.execPxStop t e w s
  | .pxStopEffect t e => Sys2Proof.Machine.execPxStopEffect t e s
  | .pxInWrite t e j w => Sys2Proof.Machine.execPxInWrite t e j w s
  | .pxConfigWrite t off w => Sys2Proof.Machine.execPxConfigWrite t off w s
  | .pxDataRead t e m lo nb => Sys2Proof.Machine.execPxDataRead t e m lo nb s
  | .portUp t port => Sys2Proof.Machine.execPortUp t port s
  | .mark t port returned echo rtt => Sys2Proof.Machine.execMark t port returned echo rtt s
  | .heartbeatSend t => Sys2Proof.Machine.execHeartbeatSend t s
  | .heartbeat t port high aligned posValid src time diff => Sys2Proof.Machine.execHeartbeat t port high aligned posValid src time diff s
  | .partnerLost t port => Sys2Proof.Machine.execPartnerLost t port s
  | .partnerRejoin t port => Sys2Proof.Machine.execPartnerRejoin t port s
  | .ref t port src stamp => Sys2Proof.Machine.execRef t port src stamp s
  | .trig t port src stamp => Sys2Proof.Machine.execTrig t port src stamp s
  | .bcast t port src v => Sys2Proof.Machine.execBcast t port src v s
  | .barrierGather t port src id n => Sys2Proof.Machine.execBarrierGather t port src id n s
  | .barrierRelease t port src id n => Sys2Proof.Machine.execBarrierRelease t port src id n s
  | .sched t port src op dest all tm => Sys2Proof.Machine.execSched t port src op dest all tm s
  | .schedDeadline t => Sys2Proof.Machine.execSchedDeadline t s
  | .mntRd t port src dest req acc => Sys2Proof.Machine.execMntRd t port src dest req acc s
  | .mntWr t port src dest req acc v => Sys2Proof.Machine.execMntWr t port src dest req acc v s
  | .mntData t port src dest req err v => Sys2Proof.Machine.execMntData t port src dest req err v s
  | .loss t port src lost pos => Sys2Proof.Machine.execLoss t port src lost pos s
  | .pcieEvt t port src kind => Sys2Proof.Machine.execPcieEvt t port src kind s
  | .hngBcastTx t w => Sys2Proof.Machine.execHngBcastTx t w s
  | .bcastRxRead t lo nb => Sys2Proof.Machine.execBcastRxRead t lo nb s
  | .barrierEnter t w => Sys2Proof.Machine.execBarrierEnter t w s
  | .schedGo t w => Sys2Proof.Machine.execSchedGo t w s
  | .mntRead t w => Sys2Proof.Machine.execMntRead t w s
  | .mntWrite t w => Sys2Proof.Machine.execMntWrite t w s
  | .mntTimeout t => Sys2Proof.Machine.execMntTimeout t s
  | .modResetNAssert t => Sys2Proof.Machine.execModResetNAssert t s
  | .modResetNRelease t sel => Sys2Proof.Machine.execModResetNRelease t sel s
  | .resetStageEnd t => Sys2Proof.Machine.execResetStageEnd t s
  | .romStageEnd t => Sys2Proof.Machine.execRomStageEnd t s
  | .flashStageEnd t readOk => Sys2Proof.Machine.execFlashStageEnd t readOk s
  | .wardEnd t readOk => Sys2Proof.Machine.execWardEnd t readOk s
  | .firmwareStageEnd t readOk testOk => Sys2Proof.Machine.execFirmwareStageEnd t readOk testOk s
  | .canvasStageEnd t readOk => Sys2Proof.Machine.execCanvasStageEnd t readOk s
  | .paletteStageEnd t readOk => Sys2Proof.Machine.execPaletteStageEnd t readOk s
  | .readoutStageEnd t runs badSlots => Sys2Proof.Machine.execReadoutStageEnd t runs badSlots s
  | .readoutBringupTimeout t => Sys2Proof.Machine.execReadoutBringupTimeout t s
  | .attest t w => Sys2Proof.Machine.execAttest t w s
  | .flashRead t w => Sys2Proof.Machine.execFlashRead t w s
  | .flashErase t w => Sys2Proof.Machine.execFlashErase t w s
  | .flashWrite t w => Sys2Proof.Machine.execFlashWrite t w s
  | .verifySlot t w => Sys2Proof.Machine.execVerifySlot t w s
  | .otpBurn t w fail => Sys2Proof.Machine.execOtpBurn t w fail s
  | .otpRead t w => Sys2Proof.Machine.execOtpRead t w s
  | .otpReburn t w n m => Sys2Proof.Machine.execOtpReburn t w n m s
  | .reboot t w => Sys2Proof.Machine.execReboot t w s
  | .mailboxCommandEnd t flashOk => Sys2Proof.Machine.execMailboxCommandEnd t flashOk s
  | .pairScrub t => Sys2Proof.Machine.execPairScrub t s
  | .pairRepair t off shadow => Sys2Proof.Machine.execPairRepair t off shadow s
  | .lockstepMismatch t => Sys2Proof.Machine.execLockstepMismatch t s
  | .supervisorRestartEnd t => Sys2Proof.Machine.execSupervisorRestartEnd t s
  | .supervisorRestartTimeout t => Sys2Proof.Machine.execSupervisorRestartTimeout t s
  | .stateMemoryUe t => Sys2Proof.Machine.execStateMemoryUe t s
  | .logEntryWrite t good => Sys2Proof.Machine.execLogEntryWrite t good s
  | .thermalSample t rs => Sys2Proof.Machine.execThermalSample t rs s
  | .shutdownDrainEnd t => Sys2Proof.Machine.execShutdownDrainEnd t s
  | .shutdownRecordWritten t good => Sys2Proof.Machine.execShutdownRecordWritten t good s
  | .thAck t w => Sys2Proof.Machine.execThAck t w s
  | .rearm t w => Sys2Proof.Machine.execRearm t w s
  | .rearmRecordWritten t => Sys2Proof.Machine.execRearmRecordWritten t s
  | .thMaxClear t w => Sys2Proof.Machine.execThMaxClear t w s
  | .thCtlWrite t off w => Sys2Proof.Machine.execThCtlWrite t off w s
  | .registerWrite t off w => Sys2Proof.Machine.execRegisterWrite t off w s
  | .arbitrationCycle t => Sys2Proof.Machine.execArbitrationCycle t s
  | .linkUp t speed width flit => Sys2Proof.Machine.execLinkUp t speed width flit s
  | .pciePerstNRelease t => Sys2Proof.Machine.execPciePerstNRelease t s
  | .powerLoss t vddio => Sys2Proof.Machine.execPowerLoss t vddio s
  | .internalResetRelease t => Sys2Proof.Machine.execInternalResetRelease t s
  | .frameDiscard t port lanes => Sys2Proof.Machine.execFrameDiscard t port lanes s
  | .illegalOpcode t e w => Sys2Proof.Machine.execIllegalOpcode t e w s
  | .pxIllegalInstruction t e w => Sys2Proof.Machine.execPxIllegalInstruction t e w s
  | .throttleChangeNoTick t => Sys2Proof.Machine.execThrottleChangeNoTick t s

end Machine
end Sys2Proof
end

