-- ==== Sys2Proof/Machine/Step.lean ====
section
/-! DEFINITION. One step: the command at the front of the queue is taken and carried out; an empty queue leaves the block as it is. -/

namespace Sys2Proof
namespace Machine

/-- `s` with the command that the word spells put at the front of its queue; `s` where the word spells none (log entry 1). -/
def State.withFetchWord (s : State) (nbits w : Nat) : State :=
  match decodeTableWord nbits w with
  | some c => { s with pending := c :: s.pending }
  | none => s

/-- Take the command at the front and carry it out with the queue's rest; idle on an empty queue (log entry 2). -/
def step (s : State) : Host.Outcome State Fault Refusal :=
  match s.pending with
  | [] => .next s
  | c :: rest => exec c { s with pending := rest }

end Machine
end Sys2Proof
end

