-- ==== Sys2Proof/WellFormed.lean ====
section
/-! DEFINITION. What a well-formed command is: every index names a thing the device has, and every operand lies in its range. The meanings are
total, so an ill-formed command is a command of no sender, not a stop. -/

namespace Sys2Proof

/-- A register write carries 1, 2, 4 or 8 bytes (00_scope R16, 09_host_link R312). -/
def Wr.wf (w : Wr) : Bool := [1, 2, 4, 8].contains w.nb

/-- The command is well formed: engine slots 0 to 1,055, pin engines 0 to 7, channels 0 to 15, tiles 0 to 1,023 and the like
(00_scope R6; 06_tile_engine_isa; 08_result_fabric; 11_pin_engines; 16_register_index). -/
def Instr.wf : Instr → Bool
  | .lineTick _ => true
  | .triggerEdge _ _ _ => true
  | .holdGateOpen _ => true
  | .slotReleaseDeadline _ e => decide (e < 1056)
  | .idleFlush _ => true
  | .reversalConfirmed _ => true
  | .directionFlushEnd _ => true
  | .lineReference _ => true
  | .referenceLoss _ => true
  | .lpllLock _ => true
  | .holdoverLinesReached _ => true
  | .gapProvisional _ => true
  | .commitGo _ w => w.wf
  | .commitNoTick _ => true
  | .snapshotTake _ w => w.wf
  | .snapshotNoTick _ => true
  | .bankWrite _ off w => w.wf && decide (off < 0x400000)
  | .seqSwapGo _ w => w.wf
  | .swapValidated _ => true
  | .swapNoTick _ => true
  | .copyComplete _ => true
  | .lockAcquire _ w => w.wf
  | .lockRenew _ w => w.wf
  | .lockRelease _ w => w.wf
  | .leaseExpiry _ => true
  | .holdTrigFire _ w => w.wf
  | .delayExpiry _ => true
  | .seqResUpdate _ => true
  | .seqResRead _ n lo nb => decide (n < 64) && decide (lo + nb ≤ 8)
  | .conversionEnd _ tile xs => decide (tile < 1024) && decide (xs.length ≤ 256) && decide (xs.length % 8 = 0)
  | .sliceCheckFail _ tile j => decide (tile < 1024) && decide (j < 256)
  | .rotation _ => true
  | .calRunEnd _ tile _ => decide (tile < 1024)
  | .bankPowerDown _ tile => decide (tile < 1024)
  | .bankWakeAhead _ tile => decide (tile < 1024)
  | .dark _ w => w.wf
  | .flatHg _ w => w.wf
  | .flatLg _ w => w.wf
  | .apply _ w => w.wf
  | .save _ w => w.wf
  | .restore _ w => w.wf
  | .abort _ w => w.wf
  | .calStepStart _ => true
  | .calStepPendingTimeout _ => true
  | .calStepEnd _ => true
  | .calStepTimeout _ => true
  | .applyLoadEnd _ => true
  | .saveEnd _ _ => true
  | .paletteRewriteEnd _ tile => decide (tile < 1024)
  | .masterReloadEnd _ tile => decide (tile < 1024)
  | .journalAppend _ _ => true
  | .teAdd _ e _ _ _ _ _ _ => decide (e < 1056)
  | .teSub _ e _ _ _ _ _ _ => decide (e < 1056)
  | .teAdds _ e _ _ _ _ _ _ => decide (e < 1056)
  | .teAddus _ e _ _ _ _ _ _ => decide (e < 1056)
  | .teSubs _ e _ _ _ _ _ _ => decide (e < 1056)
  | .teSubus _ e _ _ _ _ _ _ => decide (e < 1056)
  | .teAnd _ e _ _ _ _ _ _ => decide (e < 1056)
  | .teOr _ e _ _ _ _ _ _ => decide (e < 1056)
  | .teXor _ e _ _ _ _ _ _ => decide (e < 1056)
  | .teAndn _ e _ _ _ _ _ _ => decide (e < 1056)
  | .teShl _ e _ _ _ _ _ _ => decide (e < 1056)
  | .teShr _ e _ _ _ _ _ _ => decide (e < 1056)
  | .teSar _ e _ _ _ _ _ _ => decide (e < 1056)
  | .teMin _ e _ _ _ _ _ _ => decide (e < 1056)
  | .teMax _ e _ _ _ _ _ _ => decide (e < 1056)
  | .teMinu _ e _ _ _ _ _ _ => decide (e < 1056)
  | .teMaxu _ e _ _ _ _ _ _ => decide (e < 1056)
  | .teAbsd _ e _ _ _ _ _ _ => decide (e < 1056)
  | .teAvgu _ e _ _ _ _ _ _ => decide (e < 1056)
  | .teBsel _ e _ _ _ _ _ _ => decide (e < 1056)
  | .teMul _ e _ _ _ _ _ _ => decide (e < 1056)
  | .teMulhs _ e _ _ _ _ _ _ => decide (e < 1056)
  | .teMulhu _ e _ _ _ _ _ _ => decide (e < 1056)
  | .teMac _ e _ _ _ _ _ _ => decide (e < 1056)
  | .teCmp _ e _ _ _ _ _ _ _ => decide (e < 1056)
  | .teUnpklu _ e _ _ _ _ _ _ => decide (e < 1056)
  | .teUnpkhu _ e _ _ _ _ _ _ => decide (e < 1056)
  | .teUnpkls _ e _ _ _ _ _ _ => decide (e < 1056)
  | .teUnpkhs _ e _ _ _ _ _ _ => decide (e < 1056)
  | .tePackus _ e _ _ _ _ _ _ => decide (e < 1056)
  | .tePackss _ e _ _ _ _ _ _ => decide (e < 1056)
  | .tePackt _ e _ _ _ _ _ _ => decide (e < 1056)
  | .teHaddu _ e _ _ _ _ _ _ => decide (e < 1056)
  | .teHadds _ e _ _ _ _ _ _ => decide (e < 1056)
  | .teSplat _ e _ _ _ _ _ _ => decide (e < 1056)
  | .teClz _ e _ _ _ _ _ _ => decide (e < 1056)
  | .tePopc _ e _ _ _ _ _ _ => decide (e < 1056)
  | .teAddi _ e _ _ _ => decide (e < 1056)
  | .teAndi _ e _ _ _ => decide (e < 1056)
  | .teOri _ e _ _ _ => decide (e < 1056)
  | .teXori _ e _ _ _ => decide (e < 1056)
  | .teLui _ e _ _ _ => decide (e < 1056)
  | .teShli _ e _ _ _ => decide (e < 1056)
  | .teShri _ e _ _ _ => decide (e < 1056)
  | .teSari _ e _ _ _ => decide (e < 1056)
  | .teExtu _ e _ _ _ => decide (e < 1056)
  | .teExts _ e _ _ _ => decide (e < 1056)
  | .teCmpi _ e _ _ _ => decide (e < 1056)
  | .teLinfo _ e _ _ _ => decide (e < 1056)
  | .teLd64 _ e _ _ _ => decide (e < 1056)
  | .teLd32u _ e _ _ _ => decide (e < 1056)
  | .teLd32s _ e _ _ _ => decide (e < 1056)
  | .teLd16u _ e _ _ _ => decide (e < 1056)
  | .teLd16s _ e _ _ _ => decide (e < 1056)
  | .teLd8u _ e _ _ _ => decide (e < 1056)
  | .teLd8s _ e _ _ _ => decide (e < 1056)
  | .teSt64 _ e _ _ _ => decide (e < 1056)
  | .teSt32 _ e _ _ _ => decide (e < 1056)
  | .teSt16 _ e _ _ _ => decide (e < 1056)
  | .teSt8 _ e _ _ _ => decide (e < 1056)
  | .tePld _ e _ _ _ => decide (e < 1056)
  | .teBr _ e _ _ _ => decide (e < 1056)
  | .teBf _ e _ _ _ => decide (e < 1056)
  | .teBnf _ e _ _ _ => decide (e < 1056)
  | .teLoop _ e _ _ _ => decide (e < 1056)
  | .teCall _ e _ _ _ => decide (e < 1056)
  | .teLcset _ e _ _ _ => decide (e < 1056)
  | .teNop _ e _ _ _ _ _ _ => decide (e < 1056)
  | .teMfs _ e _ _ _ _ _ _ => decide (e < 1056)
  | .teMts _ e _ _ _ _ _ _ => decide (e < 1056)
  | .teHb _ e _ _ _ _ _ _ => decide (e < 1056)
  | .teKb _ e _ _ _ _ _ _ => decide (e < 1056)
  | .teBrk _ e _ _ _ _ _ _ => decide (e < 1056)
  | .teRet _ e _ _ _ _ _ _ => decide (e < 1056)
  | .teLacq _ e _ _ _ _ _ _ => decide (e < 1056)
  | .teLacqe _ e _ _ _ _ _ _ => decide (e < 1056)
  | .teLwait _ e _ _ _ _ _ _ => decide (e < 1056)
  | .teLwaitf _ e _ _ _ _ _ _ => decide (e < 1056)
  | .teLrel _ e _ _ _ _ _ _ => decide (e < 1056)
  | .teLtest _ e _ _ _ _ _ _ => decide (e < 1056)
  | .teLkill _ e _ _ _ _ _ _ => decide (e < 1056)
  | .teNsendw _ e _ _ _ _ _ _ => decide (e < 1056)
  | .teNsende _ e _ _ _ _ _ _ => decide (e < 1056)
  | .teNrecvw _ e _ _ _ _ _ _ => decide (e < 1056)
  | .teNrecve _ e _ _ _ _ _ _ => decide (e < 1056)
  | .nbTimeout _ e => decide (e < 1056)
  | .teRsend _ e _ _ _ _ _ _ => decide (e < 1056)
  | .teRsendt _ e _ _ _ _ _ _ => decide (e < 1056)
  | .teRtry _ e _ _ _ _ _ _ => decide (e < 1056)
  | .teRtryt _ e _ _ _ _ _ _ => decide (e < 1056)
  | .blockedHeartbeat _ e => decide (e < 1056)
  | .engineHang _ e => decide (e < 1056)
  | .portCheckFail _ e => decide (e < 1056)
  | .engineRestartEnd _ e => decide (e < 1056)
  | .spareLoadEnd _ e => decide (e < 1056)
  | .restartAll _ w => w.wf
  | .teLoadGo _ w => w.wf
  | .teLoadEnd _ => true
  | .teCyclesClear _ w => w.wf
  | .statCombine _ _ => true
  | .close _ ch => decide (ch < 16)
  | .classCDrop _ e => decide (e < 1056)
  | .recordReassembled _ src _ _ => decide (src ≤ 1057)
  | .slackClear _ ch w => decide (ch < 16) && w.wf
  | .egressWrite _ ch _ => decide (ch < 16)
  | .starvedDrop _ ch => decide (ch < 16)
  | .writeback _ ch => decide (ch < 16)
  | .irqHoldoffEnd _ ch => decide (ch < 16)
  | .ringStart _ ch w => decide (ch < 16) && w.wf
  | .ringStartEffect _ ch => decide (ch < 16)
  | .ringStop _ ch w => decide (ch < 16) && w.wf
  | .stoppingDrained _ ch => decide (ch < 16)
  | .stoppingTimeout _ ch => decide (ch < 16)
  | .tailWrite _ ch w => decide (ch < 16) && w.wf
  | .descriptorFetchDone _ ch _ => decide (ch < 16)
  | .busMasterDisable _ => true
  | .configRequest _ _ => true
  | .bar0OverlongRead _ off nb => decide (off < 0x400000) && decide (8 < off % 8 + nb)
  | .bar2Write _ _ nb _ => decide (1 ≤ nb ∧ nb ≤ 8)
  | .flr _ => true
  | .flrComplete _ => true
  | .hotReset _ => true
  | .linkDown _ => true
  | .pciePerstN _ => true
  | .d3hotEntry _ => true
  | .rwinSelWrite _ w => w.wf
  | .remoteWindowWrite _ x w => w.wf && decide (x < 0x100000)
  | .remoteWindowRead _ x nb => decide (x < 0x100000) && decide (nb ≤ 8)
  | .remoteReadTimeout _ => true
  | .refAbsent _ r => decide (r ≠ 3)
  | .refPresent _ r => decide (r ≠ 3)
  | .refMonitorMeasure _ _ => true
  | .cpllLossOfLock t x => decide ((x.left - x.lastPass).toNat < 2 ^ 63) && decide ((t - x.left).toNat ≤ 4000)
  | .relockTimeout _ => true
  | .cpllLock _ => true
  | .interruptionEnd _ => true
  | .interruptionLong _ => true
  | .gatedAccessTimeout _ => true
  | .revert _ w => w.wf
  | .clkRefSrcWrite _ w => w.wf
  | .apllLossOfLock _ => true
  | .apllLock _ => true
  | .asyncEdge _ => true
  | .fire _ w => w.wf
  | .clkOutWrite _ j w => w.wf && decide (j < 2)
  | .inputEdge _ e es => decide (e < 8) && (es.all fun x => decide (x.i < 4))
  | .pxNop _ e => decide (e < 8)
  | .pxWaite _ e _ _ => decide (e < 8)
  | .pxWaitl _ e _ _ => decide (e < 8)
  | .pxWaitc _ e _ _ _ _ => decide (e < 8)
  | .pxCnt _ e _ _ _ _ _ _ _ => decide (e < 8)
  | .pxLdi _ e _ _ => decide (e < 8)
  | .pxAddi _ e _ _ => decide (e < 8)
  | .pxCalc _ e _ _ _ _ => decide (e < 8)
  | .pxJmp _ e _ _ _ => decide (e < 8)
  | .pxOut _ e _ _ => decide (e < 8)
  | .pxDly _ e _ _ _ => decide (e < 8)
  | .pxShin _ e _ _ _ _ => decide (e < 8)
  | .pxShout _ e _ _ _ _ => decide (e < 8)
  | .pxXsh _ e _ _ => decide (e < 8)
  | .pxGet _ e _ _ _ _ => decide (e < 8)
  | .pxPut _ e _ _ _ => decide (e < 8)
  | .pxEvt _ e _ => decide (e < 8)
  | .pxCap _ e _ _ => decide (e < 8)
  | .pxIrq _ e _ => decide (e < 8)
  | .pxHalt _ e => decide (e < 8)
  | .pxStart _ e w => decide (e < 8) && w.wf
  | .pxStop _ e w => decide (e < 8) && w.wf
  | .pxStopEffect _ e => decide (e < 8)
  | .pxInWrite _ e j w => decide (e < 8) && w.wf && decide (j < 2)
  | .pxConfigWrite _ off w => w.wf && decide (off < 0x400000)
  | .pxDataRead _ e m lo nb => decide (e < 8) && decide (m < 4) && decide (lo + nb ≤ 8)
  | .portUp _ _ => true
  | .mark _ _ _ _ _ => true
  | .heartbeatSend _ => true
  | .heartbeat _ _ _ _ _ _ _ _ => true
  | .partnerLost _ _ => true
  | .partnerRejoin _ _ => true
  | .ref _ _ _ _ => true
  | .trig _ _ _ _ => true
  | .bcast _ _ _ _ => true
  | .barrierGather _ _ _ _ _ => true
  | .barrierRelease _ _ _ _ _ => true
  | .sched _ _ _ _ _ _ _ => true
  | .schedDeadline _ => true
  | .mntRd _ _ _ _ _ a => decide (1 ≤ a.nb) && decide (a.off.toNat % 8 + a.nb ≤ 8)
  | .mntWr _ _ _ _ _ a _ => decide (1 ≤ a.nb) && decide (a.nb ≤ 8)
  | .mntData _ _ _ _ _ _ _ => true
  | .loss _ _ _ _ _ => true
  | .pcieEvt _ _ _ _ => true
  | .hngBcastTx _ w => w.wf
  | .bcastRxRead _ lo nb => decide (lo + nb ≤ 8)
  | .barrierEnter _ w => w.wf
  | .schedGo _ w => w.wf
  | .mntRead _ w => w.wf
  | .mntWrite _ w => w.wf
  | .mntTimeout _ => true
  | .modResetNAssert _ => true
  | .modResetNRelease _ _ => true
  | .resetStageEnd _ => true
  | .romStageEnd _ => true
  | .flashStageEnd _ _ => true
  | .wardEnd _ _ => true
  | .firmwareStageEnd _ _ _ => true
  | .canvasStageEnd _ _ => true
  | .paletteStageEnd _ _ => true
  | .readoutStageEnd _ runs badSlots => (runs.all fun r => decide (r.1 < 1024) && decide (r.2.1 < 9)) && (badSlots.all fun e => decide (e < 1056))
  | .readoutBringupTimeout _ => true
  | .attest _ w => w.wf
  | .flashRead _ w => w.wf
  | .flashErase _ w => w.wf
  | .flashWrite _ w => w.wf
  | .verifySlot _ w => w.wf
  | .otpBurn _ w fail => w.wf && (fail.all fun x => decide (x.1 < 64))
  | .otpRead _ w => w.wf
  | .otpReburn _ w _ _ => w.wf
  | .reboot _ w => w.wf
  | .mailboxCommandEnd _ _ => true
  | .pairScrub _ => true
  | .pairRepair _ off _ => decide (off < 0x400000)
  | .lockstepMismatch _ => true
  | .supervisorRestartEnd _ => true
  | .supervisorRestartTimeout _ => true
  | .stateMemoryUe _ => true
  | .logEntryWrite _ _ => true
  | .thermalSample _ rs => decide (rs.length = 40)
  | .shutdownDrainEnd _ => true
  | .shutdownRecordWritten _ _ => true
  | .thAck _ w => w.wf
  | .rearm _ w => w.wf
  | .rearmRecordWritten _ => true
  | .thMaxClear _ w => w.wf
  | .thCtlWrite _ off w => w.wf && decide (off < 0x400000)
  | .registerWrite _ off w => w.wf && decide (off < 0x400000)
  | .arbitrationCycle _ => true
  | .linkUp _ speed width _ => decide (1 ≤ speed ∧ speed ≤ 6) && [1, 2, 4, 8, 16].contains width
  | .pciePerstNRelease _ => true
  | .powerLoss _ _ => true
  | .internalResetRelease _ => true
  | .frameDiscard _ _ _ => true
  | .illegalOpcode _ e _ => decide (e < 1056)
  | .pxIllegalInstruction _ e _ => decide (e < 8)
  | .throttleChangeNoTick _ => true

end Sys2Proof
end

