-- ==== Sys2Proof/Safety.lean ====
section
/-! DEFINITION. The terms the statements use: when a command can have its effect, the canonical form of the state, and what a step keeps. -/

namespace Sys2Proof
namespace Machine

/-- The step answers a next state: neither a fault nor a refusal. -/
def Safe (s : State) : Prop := ∃ t, step s = .next t

/-- The command answers a next state of which `P` holds. -/
def Gives (c : Instr) (s : State) (P : State → Prop) : Prop := ∃ s', exec c s = .next s' ∧ P s'

/-- A register write of 64 bits whose halves complement: the one form a PW register accepts (00_scope R15, R16). -/
def goodWr (v : W32) (src : BitVec 7) : Wr := { v := pairOf v, nb := 8, src := src }

/-- A write to the register at `off` reaches it at once: Memory Space is enabled, its block responds, no shutdown has begun, and its clocks run
(09_host_link R309, R313; 15_thermal R507; 10_clocks R360, R363). -/
def State.reaches (s : State) (off : Nat) : Bool := s.host.memEn && (early off || (s.running && s.th.shut == 0)) && !s.stalls off

/-- Engine slot `e` executes the instruction at its PC: in RUN, clocks running, slot RUNNING, PC inside the kernel image, and no error in the
instruction word (06_tile_engine_isa R192, R233, R237; 10_clocks R357, R359, R360). -/
structure EngineReady (s : State) (e : Nat) : Prop where
  run : s.running = true
  clk : s.noTicks = false
  st : (s.eng e).st = 1
  pc : (s.eng e).pc < 0xF00
  ue : (s.eng e).iUe.contains (s.eng e).pc = false
  ce : (s.eng e).iCe.contains (s.eng e).pc = false

/-- The engine after an instruction of `cyc` counted cycles that was not blocked: PC + 1, nothing else (06_tile_engine_isa R204). -/
def Engine.after (x : Engine) (cyc : Nat) : Engine := { x with pc := x.pc + 1, blk := none, cyc := if x.cycOn then x.cyc + cyc else x.cyc }

/-- Between `s` and `s'` the time has gone on to `t`, engine slot `e` has become `y`, and nothing else has changed. -/
structure EngineWent (s s' : State) (t : Time) (e : Nat) (y : Engine) : Prop where
  rest : s' = { s with now := (s.at t).now, te := { s.te with eng := s'.te.eng } }
  others : ∀ i, i ≠ e → s'.eng i = s.eng i
  this : s'.eng e = y

/-- The command completes: engine `e` goes on after `cyc` cycles, register `d` (unless it is w0) holds a value of `V`, and nothing else changes. -/
def Computes (c : Instr) (s : State) (t : Time) (e : Nat) (d : BitVec 5) (cyc : Nat) (V : W64 → Prop) : Prop :=
  ∃ s' v, exec c s = .next s' ∧ EngineWent s s' t e (((s.eng e).after cyc).setReg d v) ∧ V v

/-- Every lane of `v` is `f` of the lanes of `a` and `b`, modulo the lane width (06_tile_engine_isa R202, R203). -/
def EachLane (ln : BitVec 2) (f : Nat → Nat → Nat → Nat) (a b v : W64) : Prop :=
  ∀ j, j < 2 ^ ln.toNat → lane (laneW ln) v j = f (laneW ln) (lane (laneW ln) a j) (lane (laneW ln) b j) % 2 ^ laneW ln

/-- As EachLane, for a signed result written back in two's complement (06_tile_engine_isa R202, R203). -/
def EachSignedLane (ln : BitVec 2) (f : Nat → Int → Int → Int) (a b v : W64) : Prop :=
  ∀ j, j < 2 ^ ln.toNat →
    lane (laneW ln) v j = usg (laneW ln) (f (laneW ln) (sgn (laneW ln) (lane (laneW ln) a j)) (sgn (laneW ln) (lane (laneW ln) b j)))

/-- Pin engine `e` executes the instruction at its PC: in RUN, RUNNING, and the pin clock runs (11_pin_engines R387, R402; 10_clocks R363). -/
structure PinReady (s : State) (e : Nat) : Prop where
  run : s.running = true
  lt : e < 8
  st : (s.pin e).st = 1
  clk : s.clk.aGated = none

/-- The write to host memory that an output is, if it is one: address, bytes, relaxed ordering. -/
def Out.writes : Out → List (W64 × List Byte × Bool)
  | .memWr a bs ro => [(a, bs, ro)]
  | _ => []

/-- The tables of the state are in canonical form: keys rising, no entry equal to what an unlisted key reads as. Registers, pin engines, stripes,
rings, channels, banks, flash, mailbox buffer, MSI-X table. -/
structure Canon (s : State) : Prop where
  regs : Tbl.wf (fun k => cellOf (regReset k)) s.regs = true
  px : Tbl.wf (fun _ => Px.fresh) s.px = true
  stripe : Tbl.wf (fun _ => Stripe.fresh) s.te.stripe = true
  ring : Tbl.wf (fun _ => Ring.fresh) s.host.ring = true
  ch : Tbl.wf (fun _ => Chan.fresh) s.fab.ch = true
  banks : Tbl.wf (fun _ => Bank.fresh) s.conv.banks = true
  flash : Tbl.wf (fun _ => 0xFF#8) s.boot.flash = true
  buf : Tbl.wf (fun _ => 0#64) s.boot.buf = true
  msix : Tbl.wf (fun _ => Msix.masked) s.host.msix = true

/-- What every operation keeps: the queue, and the canonical form. -/
structure Kept (s t : State) : Prop where
  queue : t.pending = s.pending
  canon : Canon s → Canon t

end Machine
end Sys2Proof
end

