-- ==== Sys2Proof/Certificates/Slice0/Obligations.lean ====
section
/-! DEFINITION. The statements for the provers. -/

open Sys2Proof Sys2Proof.Machine

/-- What a step is: the command at the front of the queue is carried out with the queue's rest. -/
def Obligations.StepTakesFront : Prop :=  ∀ (c : Instr) (q : List Instr) (s : State), step { s with pending := c :: q } = exec c { s with pending := q }

/-- Every command answers a next state from every state, and no command reads or changes the queue of commands that wait. The model's choice, log
entries 55 and 56: a command whose event cannot occur now, or that is ill-formed, has no effect. -/
def Obligations.EveryCommandCompletes : Prop := ∀ (c : Instr) (s : State), Gives c s fun s' => s'.pending = s.pending

/-- The canonical form of the state's tables and memories is kept by every step. A property of the model's representation, no rule of the spec. -/
def Obligations.StepKeepsCanon : Prop := ∀ s s' : State, step s = .next s' → Canon s → Canon s'

/-- The state after reset has the canonical form. A property of the model's representation, no rule of the spec. -/
def Obligations.ResetCanon : Prop := Canon State.reset

/-- R13, R441, and the reset column of 16_register_index: what registers read right after reset, before the canvas loads. That fields the canvas
sets read 0 before it loads is the model's choice, log entry 5. -/
def Obligations.ResetReads : Prop :=
  (∀ p ∈ [((0x10008 : Nat), (0xFA : W32)), (0x10018, 0x64), (0x10020, 0x100), (0x10028, 4), (0x10030, 0), (0x40020, 0x0A401031),
      (0x180050, 0x20000), (0x1E0008, 0x00640000), (0x101000, 0x80C00000), (0x101100, 0xC4000000), (0x1A0010, 0x00010000), (0x08, 0), (0x20, 0)],
    State.reset.readWord p.1 = pairOf p.2) ∧
  State.reset.boot.stage = 0 ∧ State.reset.running = false ∧ State.reset.flt.ready = false ∧ State.reset.now = 0 ∧ State.reset.tick.line = 0

/-- 13_boot_security R438, 17_electrical_mechanical R525: while the module has no power or is in reset, no command has an effect but the pin
MOD_RESET_N, the end of the internal reset, and a loss of power. -/
def Obligations.DeadLogicHolds : Prop :=
  ∀ (c : Instr) (s : State), s.alive = false →
    (∀ t, c ≠ .modResetNAssert t) → (∀ t sel, c ≠ .modResetNRelease t sel) → (∀ t, c ≠ .internalResetRelease t) →
    (∀ t v, c ≠ .powerLoss t v) → exec c s = .next s

/-- R16: a write to a PW register that is not one 64-bit write, or whose halves do not complement, is rejected: counted, its cause (2 the width, 1
the pair), source and offset kept; it has no other effect, on the register or on the link. R309, R313, R360, R363, R507: a BAR0 write to a block
that does not respond before RUN is rejected with cause 4; one to a block whose clocks are gated waits, with its place in the order kept; one of the
host while Memory Space is disabled is an Unsupported Request, reported through AER, and has no other effect (that it is one is presumed, log entry
100). -/
def Obligations.RejectedWrites : Prop :=
  (∀ (s : State) (t : Time) (w : Wr), s.alive = true →
    let rejected := fun (c : Instr) (off cause : Nat) => exec c s = .next { s.at t with
      flt := { s.flt with rej := s.flt.rej + 1, info := pack 64 [(cause, 60), (w.src.toNat, 53), (off, 0)] } }
    (∀ off v, off < 0x300000 → ¬(0x108000 ≤ off ∧ off < 0x108400) → (s.at t).live (off - off % 8) = some (.pw v) → s.reaches off = true →
      (w.nb ≠ 8 ∨ off % 8 ≠ 0 → rejected (.registerWrite t off w) off 2) ∧
      (w.nb = 8 → off % 8 = 0 → pairOk w.v = false → rejected (.registerWrite t off w) off 1)) ∧
    ∀ p ∈ [(Instr.commitGo t w, 0x20), (.snapshotTake t w, 0x18), (.seqSwapGo t w, 0x20010), (.lockAcquire t w, 0x20018),
        (.holdTrigFire t w, 0x20038), (.dark t w, 0x40000), (.restartAll t w, 0x50000), (.teLoadGo t w, 0x50030), (.teCyclesClear t w, 0x50028),
        (.ringStart t 3 w, 0x101340), (.tailWrite t 3 w, 0x101368), (.slackClear t 3 w, 0x101328), (.fire t w, 0x180040),
        (.clkRefSrcWrite t w, 0x180008), (.pxStart t 2 w, 0x1A0800), (.barrierEnter t w, 0x1C0048), (.schedGo t w, 0x1C0050),
        (.mntRead t w, 0x1C0068), (.hngBcastTx t w, 0x1C0038), (.thAck t w, 0x1E0018), (.rearm t w, 0x1E0020), (.attest t w, 0x202000),
        (.rwinSelWrite t w, 0x104030)],
      s.reaches p.2 = true → (w.nb ≠ 8 → rejected p.1 p.2 2) ∧ (w.nb = 8 → pairOk w.v = false → rejected p.1 p.2 1)) ∧
  (∀ (s : State) (t : Time) (off : Nat) (w : Wr), s.alive = true → off < 0x300000 →
    (s.host.memEn = true ∨ bit w.src 6 = true →
      (early off = false → s.running = false ∨ s.th.shut ≠ 0 →
        exec (.registerWrite t off w) s = .next { s.at t with
          flt := { s.flt with rej := s.flt.rej + 1, info := pack 64 [(4, 60), (w.src.toNat, 53), (off % 2 ^ 22, 0)] } }) ∧
      ((early off = true ∨ s.running = true ∧ s.th.shut = 0) → s.stalls off = true →
        exec (.registerWrite t off w) s = .next { s.at t with
          clk := { s.clk with wait := s.clk.wait ++ [{ t := (s.at t).now, off := off, nb := w.nb, w := some w, rem := none }] } })) ∧
    (s.host.memEn = false → bit w.src 6 = false → exec (.registerWrite t off w) s = .next { s.at t with
      host := { s.host with aerU := s.host.aerU ||| 0x00100000 },
      out := if s.host.aerUM.getLsbD 20 then s.out else .aer 20 :: s.out }))

/-- R12, R14, R18, R57, R59: an accepted write to a register that only holds its fields: an unbanked one reads the written fields at once, reserved
bits 0; a banked one only in its shadow bank, and it is rejected (cause 4, BUSY_REJECT) while a commit is pending. -/
def Obligations.RegisterWriteStores : Prop :=
  ∀ (s : State) (t : Time) (v : W32) (src : BitVec 7), s.alive = true →
    (∀ p ∈ [((0x40020 : Nat), (0xFFFFFFF1 : W32)), (0x104000, 0xFF000000), (0x104028, 0xFFFFFF00), (0x1C0000, 0xF0000000)],
      s.reaches p.1 = true → Gives (.registerWrite t p.1 (goodWr v src)) s fun s' =>
        s'.reg p.1 = v &&& p.2 ∧ (∀ o, o ≠ p.1 → s'.reg o = s.reg o) ∧
        s' = { s.at t with regs := s'.regs, flt := { s.flt with repair := s.flt.repair.filter (· != p.1) } }) ∧
    (∀ p ∈ [((0x10008 : Nat), (0x1FFF : W32)), (0x10018, 0xFFFF), (0x10020, 0xFFFF), (0x10028, 0xFF), (0x10030, 1), (0x10068, 0xFFC0FFFF)],
      s.reaches p.1 = true →
        (s.tick.commit = false ∧ s.hng.aCommit = none → Gives (.registerWrite t p.1 (goodWr v src)) s fun s' =>
          (s'.shadowCell p.1).val = v &&& p.2 ∧ (∀ o, o ≠ p.1 → s'.shadowCell o = s.shadowCell o) ∧
          s' = { s.at t with shadow := s'.shadow, flt := { s.flt with repair := s.flt.repair.filter (· != p.1 + 2 ^ 31) } }) ∧
        (s.tick.commit = true ∨ s.hng.aCommit ≠ none → exec (.registerWrite t p.1 (goodWr v src)) s = .next { s.at t with
          tick := { s.tick with busyRej := true },
          flt := { s.flt with rej := s.flt.rej + 1, info := pack 64 [(4, 60), (src.toNat, 53), (p.1, 0)] } }))

/-- R469 to R471: the scrub hands every stored pair that fails its check to the supervisor; a repair puts the supervisor's copy in force, counts it
and logs it; where an accepted write has taken its place it does nothing. -/
def Obligations.PairScrubAndRepair : Prop :=
  ∀ (s : State) (t : Time) (off : Nat) (sh : Bool), s.alive = true →
    (exec (.pairScrub t) s = .next { s.at t with
      flt := { s.flt with repair := s.flt.repair ++ s.badPairs.filter fun o => !s.flt.repair.contains o } }) ∧
    (s.flt.sup = none → s.flt.repair.contains off = true → ∃ s0 : State, exec (.pairRepair t off false) s =
        .next (s0.logEvent 0x01 1 off (s.cell off).pair.toNat 0) ∧
      s0 = { s.at t with regs := s0.regs, flt := { s.flt with repair := s.flt.repair.filter (· != off), pairs := s.flt.pairs + 1 } } ∧
      s0.reg off = (s.cell off).copy ∧ ∀ o, o ≠ off → s0.reg o = s.reg o) ∧
    (s.flt.repair.contains (if sh then off + 2 ^ 31 else off) = false → exec (.pairRepair t off sh) s = .next (s.at t))

/-- R485, R486: a lockstep mismatch restarts the firmware; a second one within 1 s, an uncorrectable error of its state memory, or a restart that
takes longer than 30 us puts the device into FAULTED. The end of a restart stages the device records that fell due, with the deadline of that moment
(R289), and logs its length. R486: FAULTED stops the tick generator and the pin engines, and no device record is kept. -/
def Obligations.SupervisorFaults : Prop :=
  (∀ (s : State) (t : Time), s.alive = true →
    let now := (s.at t).now
    let faults := fun (c : Instr) (f : Flt → Flt) (cause : Nat) => exec c s = .next (({ s.at t with flt := f s.flt }).enterFaulted cause)
    (s.flt.faulted = false → (∀ x, s.flt.lastMis = some x → 2000000000 ≤ since now x) →
      exec (.lockstepMismatch t) s = .next { s.at t with
        flt := { s.flt with lastMis := some now, sup := some now, sups := s.flt.sups + 1 } }) ∧
    (∀ x, s.flt.faulted = false → s.flt.lastMis = some x → since now x < 2000000000 →
      faults (.lockstepMismatch t) (fun f => { f with lastMis := some now }) 1) ∧
    (s.flt.faulted = false → faults (.stateMemoryUe t) (fun f => { f with ue := f.ue + 1 }) 2) ∧
    (∀ x, s.flt.sup = some x → 60000 ≤ since now x → faults (.supervisorRestartTimeout t) id 3) ∧
    (∀ x, s.flt.sup = some x → s.flt.faulted = false → ∃ s0 : State,
      exec (.supervisorRestartEnd t) s = .next (s0.logEvent 0x02 1 (since now x / 2) 0 0).replay ∧
      s0 = { s.at t with flt := { s.flt with sup := none }, fab := { s.fab with q := s0.fab.q, paused := [] } } ∧
      Tbl.get [] s0.fab.q 1056 = Tbl.get [] s.fab.q 1056 ++ s.fab.paused.map (fun r =>
        { ws := r.ws, dl := ((s.at t).arrayNow + BitVec.ofNat 64 (32 * s.regF 0x100000 7 0)).setWidth 32, cls := false, sent := 0, lb := 0, t := now,
          dev := true, ue := false }) ∧
      ∀ i, i ≠ 1056 → Tbl.get [] s0.fab.q i = Tbl.get [] s.fab.q i)) ∧
  (∀ (s : State) (cause : Nat), (s.enterFaulted cause).flt.faulted = true ∧ (s.enterFaulted cause).flt.sup = none ∧
    (s.enterFaulted cause).tick.st = 0 ∧ (s.enterFaulted cause).fab.paused = [] ∧ ∀ e, e < 8 → ((s.enterFaulted cause).pin e).st = 0)

/-- R473, R491, R492: the oldest staged event-log entry goes to the next place of the log region in flash: its 64 bytes there, every other byte of
flash as before but a sector erased ahead; a page that fails its read-back moves the log to the next sector and keeps the entry staged. When the log
erases a sector and where it goes after a failed page are deduced, log entry 61. -/
def Obligations.EventLogWrite : Prop :=
  ∀ (s : State) (t : Time) (q : Nat) (r : List Nat) (e : LogEnt), s.alive = true → s.flt.pend = q :: r →
    Tbl.get none s.flt.log (q % 256) = some e →
    let p := s.flt.lpos
    (s.flt.overN = 0 → (p + 1) % 1024 ≠ 768 → Gives (.logEntryWrite t true) s fun s' =>
      s' = { s.at t with boot := { s.boot with flash := s'.boot.flash }, flt := { s.flt with pend := r, lpos := (p + 1) % 262144 } } ∧
      (∀ i, i < 64 → Tbl.get 0xFF s'.boot.flash (logAddr p + i) = (logBytes s.flt.boot e).getD i 0) ∧
      ∀ a, a < logAddr p ∨ logAddr p + 64 ≤ a → Tbl.get 0xFF s'.boot.flash a = Tbl.get 0xFF s.boot.flash a) ∧
    (Gives (.logEntryWrite t false) s fun s' =>
      s'.flt = { s.flt with lpos := (p / 1024 * 1024 + 1024) % 262144 } ∧
      s' = { s.at t with boot := { s.boot with flash := s'.boot.flash }, flt := s'.flt })

/-- R463 to R466: a mailbox command with GO, while none runs, in RUN, MAINT_WAIT or FACTORY: its operation and length are taken, its response
formed, and everything else waits for its end. REBOOT resets the module at once. FLASH_READ answers the bytes; a command refused in its stage gets
result 3. R463: the end of a mailbox command: one that uses flash waits for a palette save that began before it, and a save that began after it
erases its copy now. One that did not write flash: the response stands in the buffer, its length in word 0, RESULT and TAG + 1 are set, and vector
27 is raised. The end of an erase leaves every byte of the region 0xFF and every other byte of flash as before. The words of a response, and that
programming only clears bits, are log entries 43 and 44. -/
def Obligations.Mailbox : Prop :=
  (∀ (s : State) (t : Time) (v : W32) (src : BitVec 7) (fail : List (Nat × BitVec 256 × BitVec 256)) (n m : BitVec 256),
    s.alive = true → s.reaches 0x202000 = true → s.boot.mbx = none → s.boot.stage = 8 ∨ s.boot.stage = 0x10 ∨ s.boot.stage = 0x11 →
    bit v 31 = true →
    let len := fld v 24 8
    let w := goodWr v src
    let a := s.reqNat 0
    (∀ p ∈ [(Instr.attest t w, 1), (.flashRead t w, 2), (.flashErase t w, 3), (.flashWrite t w, 4), (.verifySlot t w, 5), (.otpBurn t w fail, 6),
        (.otpRead t w, 7), (.otpReburn t w n m, 8)],
      fld v 30 25 = p.2 → Gives p.1 s fun s' => ∃ bs res burn,
        s' = { s.at t with regs := s'.regs, flt := s'.flt, boot := { s.boot with mbx := some (p.2, len), mbxResp := some (bs, res), burn := burn, mSrc := src } } ∧
        s'.reg 0x202000 = v &&& 0x7FFFFF00 ∧
        (p.2 = 2 → (len < 16 ∨ 65528 < s.reqNat 8 ∨ 0x04000000 < a + s.reqNat 8 → res = 2) ∧
          (16 ≤ len → s.reqNat 8 ≤ 65528 → a + s.reqNat 8 ≤ 0x04000000 → res = 0 ∧ bs = s.flashRd a (s.reqNat 8))) ∧
        (p.2 = 7 → 8 ≤ len → a ≤ 63 → res = 0 ∧ bs = bytesLE 32 (Tbl.get 0 s.boot.otpN a) ++ bytesLE 32 (Tbl.get 0 s.boot.otpM a)) ∧
        (s.boot.stage = 8 → (p.2 = 6 ∨ p.2 = 8) → res = 3) ∧ (s.boot.stage = 0x11 → (p.2 = 1 ∨ p.2 = 5) → res = 3) ∧
        (p.2 ≠ 6 ∧ p.2 ≠ 8 → burn = []) ∧ (res ≠ 0 ∧ p.2 ≠ 6 → bs = [] ∧ burn = [])) ∧
    (fld v 30 25 = 9 → 8 ≤ len → a ≤ 3 → exec (.reboot t w) s = .next (((s.at t).storeReg 0x202000 v).intReset a))) ∧
  (∀ (s : State) (t : Time) (op len res : Nat) (bs : List Byte), s.alive = true → s.boot.mbx = some (op, len) → s.boot.mbxResp = some (bs, res) →
    let waits := s.boot.mbxAfter = true ∧ 2 ≤ op ∧ op ≤ 5 ∧ s.cal.saving ≠ none
    let copyErased := fun (a : Nat) => ∃ c n, s.cal.saveAfter = true ∧ s.cal.saving = some (c, n) ∧ copyAddr c ≤ a ∧ a < copyAddr c + 0x200000
    (waits → ∀ ok, exec (.mailboxCommandEnd t ok) s = .next (s.at t)) ∧
    (op ≠ 3 → op ≠ 4 → ¬waits → let bs := if (op = 2 ∨ op = 5) ∧ res = 0 then ((s.at t).mbxRun op len [] none).1 else bs
      Gives (.mailboxCommandEnd t true) s fun s' =>
      s'.boot.mRes = res ∧ s'.boot.mTag = s.boot.mTag + 1 ∧ s'.boot.mbx = none ∧ s'.host.cause.getLsbD 11 = true ∧
      (res = 0 → Tbl.get 0 s'.boot.buf 0 = BitVec.ofNat 64 bs.length ∧
        ∀ i, 8 * i < bs.length → Tbl.get 0 s'.boot.buf (i + 1) = BitVec.ofNat 64 (leAt bs (8 * i) 8)) ∧
      s'.cal.saveAfter = (s.cal.saveAfter && s.cal.saving.isNone) ∧ (∀ a, copyErased a → Tbl.get 0xFF s'.boot.flash a = 0xFF) ∧
      (∀ a, ¬copyErased a → Tbl.get 0xFF s'.boot.flash a = Tbl.get 0xFF s.boot.flash a) ∧ s'.regs = s.regs) ∧
    (op = 3 → res = 0 → ¬waits → Gives (.mailboxCommandEnd t true) s fun s' =>
      s'.boot.mRes = 0 ∧ s'.boot.mTag = s.boot.mTag + 1 ∧ s'.boot.mbx = none ∧
      (∀ a, copyErased a → Tbl.get 0xFF s'.boot.flash a = 0xFF) ∧
      ∀ a, ¬copyErased a → Tbl.get 0xFF s'.boot.flash a = if s.reqNat 0 ≤ a ∧ a < s.reqNat 0 + s.reqNat 8 then 0xFF else Tbl.get 0xFF s.boot.flash a))

/-- R438, R439, R444, R464, R489, R490, R508: the resets. Each releases READY_N, takes every driven pin to high-Z and leaves every volatile state at
its reset value; flash and OTP keep what they hold when no mailbox command is cut short; the release of MOD_RESET_N samples the strap and starts the
boot. Values the spec gives no reset for are those of log entries 5 to 11; power off until the next release is log entry 45. -/
def Obligations.ResetsClear : Prop :=
  ∀ (s : State) (t : Time) (sel : BitVec 2) (vddio : Bool), s.boot.mbx = none →
    let pins := ((List.range 36).filter fun p => s.pinLevel p != 2).map (fun p => Out.pin p 2) ++ ((if s.flt.ready then [.ready false] else []) ++ s.out)
    (s.boot.rst = false → exec (.modResetNAssert t) s = .next { s.cleared with out := pins, boot := { s.cleared.boot with rst := true } }) ∧
    (s.th.shdn = false ∨ vddio = false → exec (.powerLoss t vddio) s = .next { s.cleared with out := pins, boot := { s.cleared.boot with power := false } }) ∧
    (s.boot.rst = true → s.host.perst = true → s.th.shdn = false → exec (.modResetNRelease t sel) s = .next { s with
      boot := { s.boot with rst := false, power := true, sel := sel.toNat, strap := sel.toNat, reb := false, todo := strapSlots sel.toNat, relT := s.now } }) ∧
    (∀ how, s.boot.intRst = some how → s.boot.rst = false → s.boot.power = true → s.host.perst = true → 1 ≤ how → how ≤ 3 →
      exec (.internalResetRelease t) s = .next { s with
        boot := { s.boot with intRst := none, strap := how, reb := true, todo := if how = 3 then [] else [how], relT := s.now } }) ∧
    (∀ e, Tbl.get 0xFF s.cleared.boot.flash e = Tbl.get 0xFF s.boot.flash e) ∧ s.cleared.boot.otpN = s.boot.otpN ∧ s.cleared.boot.otpM = s.boot.otpM ∧
      s.cleared.regs = [] ∧ s.cleared.now = 0 ∧ s.cleared.boot.stage = 0

/-- R441, R444, R459, R461: each boot stage ends in the next one, or the attempt ends with the stage's error. Rests on log entries 45 to 47 and 59.
-/
def Obligations.BootStages : Prop :=
  ∀ (s : State) (t : Time), s.alive = true → s.th.shut = 0 →
    let at' := fun (n : Nat) (c : Instr) (P : State → Prop) => s.boot.stage = n → Gives c s P
    (s.refFirst ≠ 3 → at' 0 (.resetStageEnd t) fun s' => s'.boot.stage = 1 ∧ s'.clk.aLock = true ∧ s'.clk.ref = s.refFirst ∧ s'.regs = s.regs) ∧
    (at' 1 (.romStageEnd t) fun s' => s'.boot.stage = 2 ∧ s'.hng.up.st = 1 ∧ s'.hng.dn.st = 1 ∧
      (∀ e, e < 64 → s'.otpState e = otpClass e (Tbl.get 0 s.boot.otpN e) (Tbl.get 0 s.boot.otpM e)) ∧ s'.regs = s.regs) ∧
    (∀ sl r, s.boot.todo = sl :: r → at' 2 (.flashStageEnd t true) fun s' => s'.boot.stage = 3 ∧ s'.boot.slot = sl ∧ s'.regs = s.regs) ∧
    (s.boot.todo = [] → ¬(s.boot.strap = 3 ∧ s.boot.reb = false) → at' 2 (.flashStageEnd t true) fun s' => s'.boot.stage = 0x10) ∧
    ((s.ward s.boot.slot).err = 0 → at' 3 (.wardEnd t true) fun s' => s'.boot.stage = 4 ∧ s'.boot.fw = (s.ward s.boot.slot).fw ∧
      s'.boot.body = (s.ward s.boot.slot).body ∧ s'.regs = s.regs) ∧
    ((s.ward s.boot.slot).err ≠ 0 → s.boot.todo.drop 1 = [] → at' 3 (.wardEnd t true) fun s' => s'.boot.stage = 0x10 ∧
      s'.boot.err = (s.ward s.boot.slot).err) ∧
    (at' 4 (.firmwareStageEnd t true true) fun s' => s' = { s.at t with boot := { s.boot with stage := 5 } }) ∧
    (at' 4 (.firmwareStageEnd t true false) fun s' => s' = { s.at t with boot := { s.boot with stage := 0x10, err := 0x0E } }) ∧
    (s.canvasOk s.boot.body s.boot.bodyLen = true → at' 5 (.canvasStageEnd t true) fun s' => s'.boot.stage = 6 ∧
      s'.boot.secs = s.sections s.boot.body) ∧
    (s.canvasOk s.boot.body s.boot.bodyLen = false → s.boot.todo.drop 1 = [] → at' 5 (.canvasStageEnd t true) fun s' =>
      s'.boot.stage = 0x10 ∧ s'.boot.err = 0x0B) ∧
    (at' 6 (.paletteStageEnd t true) fun s' => s'.boot.stage = 7) ∧
    (s.refFirst ≠ 3 → s.sec 8 = 0 → at' 7 (.readoutStageEnd t [] []) fun s' => s'.boot.stage = 8 ∧ s'.boot.err = 0 ∧ s'.clk.cLock = true ∧
      s'.clk.gated = false) ∧
    (at' 7 (.readoutBringupTimeout t) fun s' => s' = { s.at t with boot := { s.boot with stage := 0x10, err := 0x0D } })

/-- R22, R24, R33, R37, R57, R58, R61: a line tick in tracked mode that the limits admit (how far the tick may lie from its phase and from the last
one is the model's choice, log entry 85). The line sequence goes up by one, the tick's time is kept as the time of the last line and charge shift,
the line is on record with the encoder position of the tick; a commit request at least 50 ns old and a snapshot request take effect for it. A tick
that comes too early, or in a state or mode that takes none, has no effect. R65 to R67, R71, R72, R75, R89: what a tick does to the charge. At a
shift every band moves one row toward the node in force, no charge crosses a band boundary, the integrating rows go on collecting from the tick on
and the others are empty; a band that is read gives its node the packet of the last row, or with the transfer gate closed its reset level. An
exposure tick of a frame does not shift; the first one opens every gate. -/
def Obligations.LineTickCounts : Prop :=
  (∀ (s : State) (t : Time), s.running = true →
    let now := (s.at t).now
    let k := s.tick
    let run := s.mode = 1 ∧ (k.st = 2 ∨ k.st = 3 ∨ k.st = 5 ∨ (k.st = 4 ∧ (s.clk.lpll = 2 ∨ s.clk.lpll = 3)))
    let admitted := run ∧ (∀ x, k.shift = some x → s.lineGap ≤ since now x) ∧ s.noTicks = false ∧
      (s.clk.lpll ≠ 2 ∨ s.clk.pullin = true ∨ (s.at t).atPhase = true) ∧ ¬(k.hold = true ∧ s.regF 0x10020 15 0 ≤ k.holdN)
    (admitted → s.hng.aReset = none → Gives (.lineTick t) s fun s' =>
      s'.tick.line = k.line + 1 ∧ s'.tick.last = some now ∧ s'.tick.shift = some now ∧
      (∃ l, s'.line k.line.toNat = some l ∧ l.t = now ∧ l.enc = s.encNow) ∧
      (k.snap = true → s'.tick.snap = false ∧ s'.tick.tag = k.tag + 1 ∧ s'.tick.snapTime = now) ∧
      (k.commit = true → 100 ≤ since now k.commitT → s'.tick.commit = false ∧ s'.tick.epoch = k.epoch + 1) ∧
      (k.commit = false → s.hng.aCommit = none → s'.tick.epoch = k.epoch)) ∧
    (¬admitted → exec (.lineTick t) s = .next (s.at t))) ∧
  (∀ (s : State) (t : Time) (w1 : W32) (bands : BitVec 4) (level : Bool) (b : Nat), s.pix.rows.length = 256 → b < 4 →
    (∀ e, s.pix.drainT = some e → reached t e = true) →
    let row := fun (p : Pix) (k : Nat) => p.rows.getD (64 * b + k) []
    let v := fld w1 (31 - 6 * b) (26 - 6 * b)
    let N := if v = 0 then 64 else v
    let r := s.pixTick t 0 w1 bands level
    (∀ k, k < 64 → row r.1.pix k =
      if s.tick.dir then (if k < N then (if k = 63 then [] else row s.pix (k + 1)) ++ [(t, 64 * b + k)] else [])
      else if 64 ≤ k + N then (if k = 0 then [] else row s.pix (k - 1)) ++ [(t, 64 * b + k)] else []) ∧
    r.1.pix.stageOf b = N ∧
    r.2[b]? = some (if bands.getLsbD b = false then .drained else if level then .level else .packet (row s.pix (if s.tick.dir then 0 else 63))) ∧
    (let f := s.pixTick t 1 w1 bands level
     f.1.out = .gates t :: s.out ∧ f.2[b]? = some .halted ∧ ∀ k, k < 64 → row f.1.pix k = [(t + 400, 64 * b + k)]) ∧
    (let f := s.pixTick t 2 w1 bands level
     f.1 = s ∧ f.2[b]? = some .halted))

/-- R29, R30, R39 to R44, R54: a qualified trigger edge. Later than T_min by more than 0.5 ns, or within 0.5 ns of it where WINDOW = 0 disables
holding (deduced, log entry 81), it fires, PX_PATH after its stamp; within the hold window before T_min it is held with its stamp; earlier, or with
a trigger held, it is rejected and counted; while ticks are suspended it is counted. A held trigger fires when T_min has passed, is counted as held,
and its latency is kept. That T_min is that of the most recent shift is deduced, log entry 70. -/
def Obligations.TriggerGate : Prop :=
  ∀ (s : State) (t : Time) (inp : BitVec 2) (falling : Bool), s.running = true → s.mode = 2 → s.tckSrc = 0 → inp.toNat = s.regF 0x10000 24 23 →
    falling = (s.regF 0x10000 25 25 == 1) → bit (s.reg 0x1C0000) 28 = false → s.tick.st = 2 ∨ s.tick.st = 4 ∨ s.tick.st = 5 →
    let now := (s.at t).now
    let k := s.tick
    let w := 2 * s.regF 0x10008 12 0
    (s.noTicks = true → exec (.triggerEdge t inp falling) s = .next { s.at t with
      tick := { k with rejN := k.rejN + 1 }, clk := { s.clk with gTrig := s.clk.gTrig + 1 } }) ∧
    (s.noTicks = false →
      (k.held.isSome → Gives (.triggerEdge t inp falling) s fun s' => s'.tick = { k with rejN := k.rejN + 1 } ∧ s'.regs = s.regs) ∧
      (∀ x, k.held = none → k.shift = some x →
        (since now x + 1 < k.shiftTmin → k.shiftTmin ≤ since now x + w → exec (.triggerEdge t inp falling) s = .next { s.at t with
          tick := { k with held := some now, heldEnc := s.encNow, lastTrig := now } }) ∧
        (since now x + w < k.shiftTmin → since now x + 1 < k.shiftTmin → Gives (.triggerEdge t inp falling) s fun s' =>
          s'.tick = { k with rejN := k.rejN + 1 } ∧ s'.regs = s.regs) ∧
        (k.shiftTmin + 1 < since now x ∨ (w = 0 ∧ k.shiftTmin ≤ since now x + 1) → s.hng.aReset = none →
          Gives (.triggerEdge t inp falling) s fun s' => s'.tick.line = k.line + 1 ∧ s'.tick.lastTrig = now ∧
            s'.tick.last = some (now + BitVec.ofNat 64 ((s.pathPs + 250) / 500)))) ∧
      (∀ y x, k.held = some y → k.shift = some x → k.shiftTmin ≤ since now x → s.hng.aReset = none → Gives (.holdGateOpen t) s fun s' =>
        s'.tick.line = k.line + 1 ∧ s'.tick.last = some now ∧ s'.tick.held = none ∧ s'.tick.heldN = k.heldN + 1 ∧
        s'.tick.lastLat = BitVec.ofNat 16 (since now y)))

/-- R38, R45, R46, R48, R49, R52 to R54, R56, R278: the changes of the tick generator between ticks. A drain pulse empties every row, and they
collect light again from its end on. A change of TCK_STATUS.STATE raises vector 16. -/
def Obligations.TickStateChanges : Prop :=
  ∀ (s : State) (t : Time), s.running = true →
    let now := (s.at t).now
    let k := s.tick
    (let w := s.regF 0x10018 15 0
     w ≠ 0 → k.st ≠ 0 → s.noTicks = false → 200000 * w ≤ since now k.idleBase → ∃ s0 : State,
       s0 = { s.at t with
         tick := { k with idleBase := now, flushed := 64 }, pix := { s.pix.emptied k.dir (now + 4000) with drainT := some (now + 4000) },
         out := .drain now :: s.out } ∧
       exec (.idleFlush t) s = .next (if k.st = 2 then s0.setTck 4 else s0)) ∧
    (let back := (s.encNow - k.turn).toInt * (if k.conf then 1 else -1)
     s.regF 0x10000 27 26 = 0 → ((max 1 (s.regF 0x10028 7 0) : Nat) : Int) ≤ back → Gives (.reversalConfirmed t) s fun s' =>
       s' = { s.at t with tick := { k with
         conf := !k.conf, revPend := true, turn := s.encNow, next := s'.tick.next, worst := s'.tick.worst } }) ∧
    (k.st = 5 → k.flush = 0 → exec (.directionFlushEnd t) s = .next ((s.at t).setTck (if k.hold then 3 else 2))) ∧
    (k.hold = true → s.regF 0x10020 15 0 ≤ k.holdN → Gives (.holdoverLinesReached t) s fun s' =>
      s'.tick.st = 1 ∧ s'.clk.lpll = 1 ∧ s'.tick.hold = false ∧ s'.tick.holdN = 0 ∧ s'.tick.line = k.line ∧ s'.regs = s.regs ∧
      s'.tick.gap = some (2, BitVec.ofNat 48 s.lastLine, s.encNow, now, 0)) ∧
    (∀ r l e x c, k.gap = some (r, l, e, x, c) → 200000 ≤ since now x →
      let p := s.linesIn ((s.encNow - e).toInt + c)
      Gives (.gapProvisional t) s fun s' =>
        s'.tick.gapN = k.gapN + BitVec.ofNat 32 p.1 ∧
        s'.tick.gap = (if p.1 = 0 then some (r, l, e, now, c) else some (r, l, s.encNow, now, p.2)) ∧ s'.tick.line = k.line ∧ s'.regs = s.regs) ∧
    (k.gap = none → s.noTicks = true → k.st ≠ 0 → s.mode ≠ 2 → 200000 ≤ since now s.clk.gapT →
      let p := s.linesIn ((s.encNow - s.clk.gEnc).toInt + s.clk.gRem)
      Gives (.gapProvisional t) s fun s' =>
        s'.tick.gapN = k.gapN + BitVec.ofNat 32 p.1 ∧ s'.clk.gapT = now ∧
        s'.clk.gEnc = (if p.1 = 0 then s.clk.gEnc else s.encNow) ∧ s'.clk.gRem = (if p.1 = 0 then s.clk.gRem else p.2) ∧ s'.tick.gap = none ∧
        s'.regs = s.regs) ∧
    (∀ st, k.st ≠ st → ((s.setTck st).tick = { k with st := st } ∧ (s.setTck st).host.cause.getLsbD 0 = true ∧ (s.setTck st).regs = s.regs))

/-- R57, R60, R61, R503: a commit, a snapshot or a throttle change is requested, and takes effect without a tick where no tick is to be waited for;
a commit and a snapshot do so before RUN too. -/
def Obligations.CommitAndSnapshot : Prop :=
  ∀ (s : State) (t : Time) (v : W32) (src : BitVec 7), s.alive = true →
    let now := (s.at t).now
    let k := s.tick
    (s.reaches 0x20 = true → bit v 31 = true → bit v 29 = false → k.commit = false → s.hng.aCommit = none →
      exec (.commitGo t (goodWr v src)) s = .next { s.at t with tick := { k with commit := true, commitT := now } }) ∧
    (s.reaches 0x18 = true → bit v 31 = true → k.snap = false → exec (.snapshotTake t (goodWr v src)) s = .next { s.at t with
      tick := { k with snap := true, snapT := now } }) ∧
    (k.commit = true → s.noTicks = false → k.st = 0 ∨ k.st = 4 ∨ (k.st = 1 ∧ k.ticked = false) →
      Gives (.commitNoTick t) s fun s' => s'.tick.commit = false ∧ s'.tick.epoch = k.epoch + 1 ∧
        s'.tick.commitLine = BitVec.ofNat 48 k.line.toNat ∧ s'.tick.line = k.line ∧ s'.shadow = [] ∧ s'.host.cause.getLsbD 2 = true ∧
        ∀ off c, s.shadow = [(off, c)] → s'.reg off = c.val) ∧
    (k.snap = true → 2000 ≤ since now k.snapT → (s.at t).settled = true → Gives (.snapshotNoTick t) s fun s' =>
        s'.tick = { k with snap := false, tag := k.tag + 1, snapLine := BitVec.ofNat 48 k.line.toNat, snapTime := now, snapEnc := s.encNow } ∧
        s'.snap = (s.at t).freeze.snap ∧ s'.host.cause.getLsbD 2 = true ∧ s'.regs = s.regs) ∧
    (∀ x, s.running = true → k.st = 0 ∨ k.st = 4 → s.noTicks = false → s.th.kNew = some x → Gives (.throttleChangeNoTick t) s fun s' =>
      s'.th = { s.th with k := x, kNew := none, chg := s.th.chg + 1 } ∧ s'.host.cause.getLsbD 9 = true ∧ s'.regs = s.regs)

/-- R118 to R120, R122: the lock. An unlocked table is acquired by a nonzero token; its holder's write renews the lease, or with RELEASE gives it up
(edits that no swap waits for are discarded by a copy); any other write is rejected, cause 5. The lease runs out by itself. -/
def Obligations.SequenceLock : Prop :=
  ∀ (s : State) (t : Time) (v : W32) (src : BitVec 7), s.running = true →
    let now := (s.at t).now
    let q := s.seq
    let tok : BitVec 16 := v.setWidth 16
    let lease := now + BitVec.ofNat 64 (s.regF 0x20020 15 0 * 2000000)
    let w := goodWr v src
    let free := { q with held := false, token := 0, src := 0, lease := 0, copy := q.copy || !q.swap }
    (s.reaches 0x20018 = true → ∀ c ∈ [Instr.lockAcquire t w, .lockRenew t w, .lockRelease t w],
      (q.held = false → tok ≠ 0 → bit v 31 = false → exec c s = .next { s.at t with seq := { q with held := true, token := tok, src := src, lease := lease } }) ∧
      (q.held = true → q.src = src → q.token = tok → exec c s = .next { s.at t with seq := if bit v 31 then free else { q with lease := lease } }) ∧
      ((q.held = false ∧ (tok = 0 ∨ bit v 31 = true)) ∨ (q.held = true ∧ (q.src ≠ src ∨ q.token ≠ tok)) → exec c s = .next { s.at t with
        seq := { q with rejLock := q.rejLock + 1 },
        flt := { s.flt with rej := s.flt.rej + 1, info := pack 64 [(5, 60), (src.toNat, 53), (0x20018, 0)] } })) ∧
    (q.held = true → since now q.lease < 2 ^ 63 → exec (.leaseExpiry t) s = .next { s.at t with seq := free }) ∧
    (2 ^ 63 ≤ since now q.lease → exec (.leaseExpiry t) s = .next (s.at t))

/-- R99, R111, R112, R120: a write to the inactive bank by the lock's holder stores the entry word with reserved bits 0 and renews the lease; a
write to the active bank, or during a swap or copy, is rejected (cause 4); without the lock it is rejected (cause 5). R113 to R117, R122: a bank
swap. GO by the lock's holder starts it; a legal table waits for its tick, an illegal one ends the swap with INVALID and SEQ_BAD; where no tick is
to be waited for the banks change places, every result loses VALID and FRESH, and a copy starts; the copy leaves the inactive bank equal to the
active one. -/
def Obligations.BankWritesAndSwap : Prop :=
  (∀ (s : State) (t : Time) (v : W32) (src : BitVec 7) (n j : Nat) (b : Bool), n < 64 → j < 4 →
    let q := s.seq
    let off := bankBase b + 0x20 * n + 8 * j
    s.reaches off = true →
    let lease := (s.at t).now + BitVec.ofNat 64 (s.regF 0x20020 15 0 * 2000000)
    let rejected := fun (q' : Seq) (cause : Nat) => exec (.bankWrite t off (goodWr v src)) s = .next { s.at t with
      seq := q', flt := { s.flt with rej := s.flt.rej + 1, info := pack 64 [(cause, 60), (src.toNat, 53), (off, 0)] } }
    (b ≠ q.act → q.swap = false → q.copy = false → q.held = true → q.src = src → Gives (.bankWrite t off (goodWr v src)) s fun s' =>
      s'.entW b n j = v &&& entryMask j ∧ (∀ o, o ≠ off → s'.reg o = s.reg o) ∧
      s' = { s.at t with regs := s'.regs, seq := { q with edited := true, lease := lease }, flt := s'.flt }) ∧
    (b = q.act ∨ q.swap = true ∨ q.copy = true → rejected { q with rejBank := q.rejBank + 1 } 4) ∧
    (b ≠ q.act → q.swap = false → q.copy = false → q.held = false ∨ q.src ≠ src → rejected { q with rejLock := q.rejLock + 1 } 5)) ∧
  (∀ (s : State) (t : Time) (v : W32) (src : BitVec 7), s.running = true →
    let q := s.seq
    let lease := (s.at t).now + BitVec.ofNat 64 (s.regF 0x20020 15 0 * 2000000)
    let bad := tableBad s.boot.chains (s.bankLen !q.act) (fun n w => s.entW (!q.act) n w)
    (s.reaches 0x20010 = true → bit v 31 = true → q.held = true → q.src = src → q.token = v.setWidth 16 → q.swap = false → q.copy = false →
      exec (.seqSwapGo t (goodWr v src)) s = .next { s.at t with
        seq := { q with swap := true, valid := false, invalid := false, early := s.regF 0x20000 31 31 == 1, lease := lease } }) ∧
    (q.swap = true → q.valid = false → bad = none → Gives (.swapValidated t) s fun s' => s' = { s.at t with
      seq := { q with valid := true }, tick := { s.tick with next := s'.tick.next, worst := s'.tick.worst } }) ∧
    (∀ x, q.swap = true → q.valid = false → bad = some x → Gives (.swapValidated t) s fun s' =>
      s'.seq = { q with swap := false, early := false, invalid := true, bad := x } ∧ s'.host.cause.getLsbD 1 = true ∧ s'.regs = s.regs) ∧
    (q.swap = true → q.valid = true → s.noTicks = false → s.tick.st = 0 ∨ (s.tick.st = 1 ∧ s.tick.ticked = false) →
      Gives (.swapNoTick t) s fun s' => s'.seq.act = !q.act ∧ s'.seq.swap = false ∧ s'.seq.copy = true ∧ s'.seq.entry = 0 ∧
        (∀ n, (Tbl.get 0 s'.seq.res n).getLsbD 54 = false ∧ (Tbl.get 0 s'.seq.res n).getLsbD 55 = false) ∧
        s'.host.cause.getLsbD 1 = true ∧ s'.regs = s.regs) ∧
    (q.copy = true → Gives (.copyComplete t) s fun s' =>
      (∀ i, i < 257 → s'.reg (bankBase (!q.act) + 8 * i) = s.reg (bankBase q.act + 8 * i)) ∧
      s'.seq = { q with copy := false, discarded := q.discarded || q.edited, edited := false } ∧ s'.tick = s.tick))

/-- R38, R101, R105 to R107, R116, R125 to R127: hold triggers, which may change the next line and its T_min, the end of a delay, the result
registers. A read that covers byte 6 clears FRESH. That a hold begins at the tick of its entry is deduced, log entry 69. -/
def Obligations.HoldsAndResults : Prop :=
  ∀ (s : State) (t : Time) (v : W32) (src : BitVec 7), s.running = true →
    let now := (s.at t).now
    let q := s.seq
    (s.reaches 0x20038 = true → bit v 31 = true → Gives (.holdTrigFire t (goodWr v src)) s fun s' => s' = { s.at t with
      tick := { s.tick with next := s'.tick.next, worst := s'.tick.worst },
      seq := if q.ph = 1 then { q with ph := 2, hOrig := true, waited := 0, hPhase := (s.at t).subPhase, hTime := now, hWait := true, hAcc := q.hAcc + 1 }
        else { q with hIgn := q.hIgn + 1 } }) ∧
    (q.ph = 2 → s.delayOver = true → exec (.delayExpiry t) s = .next { s.at t with seq := { q with ph := 4 } }) ∧
    (∀ d, q.due.find? (fun d => s.dueReady d) = some d → Gives (.seqResUpdate t) s fun s' =>
      s'.seq.due = q.due.erase d ∧
      (d.gen = q.gen → Tbl.get 0 s'.seq.res d.n = pack 64 [((fld (Tbl.get 0 q.res d.n) 63 56 + 1) % 256, 56), (3, 54), (fld d.w0 5 0, 48),
        (s.statValue d % 2 ^ 48, 0)]) ∧
      (d.gen ≠ q.gen → s'.seq.res = q.res) ∧ (∀ n, n ≠ d.n → Tbl.get 0 s'.seq.res n = Tbl.get 0 q.res n) ∧ s'.regs = s.regs) ∧
    (∀ n lo nb, n < 64 → 1 ≤ nb → lo + nb ≤ 8 → s.host.memEn = true → s.stalls (0x23000 + 8 * n) = false → Gives (.seqResRead t n lo nb) s fun s' =>
      s'.out = .rdData (0x23000 + 8 * n + lo) nb (narrow (Tbl.get 0 q.res n) lo nb) :: s.out ∧
      Tbl.get 0 s'.seq.res n = (if lo ≤ 6 ∧ 6 < lo + nb then Tbl.get 0 q.res n &&& ~~~(1#64 <<< 55) else Tbl.get 0 q.res n) ∧
      (∀ m, m ≠ n → Tbl.get 0 s'.seq.res m = Tbl.get 0 q.res m) ∧
      s' = { s.at t with out := s'.out, seq := { q with res := s'.seq.res } })

/-- R130 to R140, R544: conversion frames end, eight samples to a frame: their words stand in the slot of the engine that serves the tile, two bytes
each: 0x4000 where no slice works or the check failed, else the corrected sample, which saturates; with the last frame the conversion ends, and the
positions the entry does not convert hold 0x8000. No other byte of that slot, no other memory of any engine changes. R141 to R148, R151 to R155: the
slices of a bank. A failed check of a NORMAL bank asks for the replacement of the slice; in a FIXED bank the slice leaves its position and is run
again. A passed run installs its coefficients, which lie within the bounds of R143; a failed one retires the slice, which is logged, journalled and
reported by vector 20. At a rotation line each NORMAL bank whose calibrating slice has passed rotates, the others defer. When the words of one frame
group are in the slot is log entry 90. -/
def Obligations.Converters : Prop :=
  (∀ (s : State) (t : Time) (tile n e : Nat) (l : Line) (xs : List Int), s.running = true → s.clk.gated = false → tile < 1024 →
    s.convLine tile = some (n, l) → s.line n = some l → s.serving tile = some e → s.palBusy tile = false →
    let a := 0xC000 + 0x200 * (n % 4)
    let b := s.bank tile
    let f := Tbl.get 0 l.frs tile
    let m := f + xs.length / 8
    (m ≤ l.frames → since (s.at t).now (l.tc tile + BitVec.ofNat 64 (48 * m)) < 2 ^ 63 → Gives (.conversionEnd t tile xs) s fun s' =>
      let holds := fun (p w : Nat) => ∀ i, i < 2 → s.dByte (s'.eng e) (a + 2 * p + i) = (BitVec.ofNat 16 w).extractLsb' (8 * i) 8
      (∀ j, 8 * f ≤ j → j < 8 * m → holds (l.posOf j) (bankWord b n l j (xs.getD (j - 8 * f) 0))) ∧
      (m = l.frames → ∀ p, p < 256 → l.sampleOf p = none → holds p 0x8000) ∧
      (∀ p i, p < 256 → i < 2 → (∀ j, 8 * f ≤ j → j < 8 * m → l.posOf j ≠ p) → (m = l.frames → l.sampleOf p ≠ none) →
        s.dByte (s'.eng e) (a + 2 * p + i) = s.dByte (s.eng e) (a + 2 * p + i)) ∧
      (∀ x, x < a ∨ a + 512 ≤ x → s.dByte (s'.eng e) x = s.dByte (s.eng e) x) ∧ (∀ i, i ≠ e → s'.eng i = s.eng i) ∧
      (∃ l', s'.line n = some l' ∧ l'.framesIn tile = m ∧ l'.conv = if m = l.frames then l.conv ||| (1#1024 <<< tile) else l.conv) ∧
      s' = { s.at t with
        te := { s.te with eng := s'.te.eng }, fab := { s.fab with lines := s'.fab.lines }
        conv := { s.conv with banks := s'.conv.banks }, cal := { s.cal with acc := s'.cal.acc } }) ∧
    (m < l.frames + 1 → 2 ^ 63 ≤ since (s.at t).now (l.tc tile + BitVec.ofNat 64 (48 * m)) → exec (.conversionEnd t tile xs) s = .next (s.at t)) ∧
    (∀ j x, b.st = 2 ∨ (b.gone.any fun p => p.1 == j % 8) = true ∨ (n, j) ∈ b.fails → bankWord b n l j x = 0x4000) ∧
    (∀ j x sl, b.st ≠ 2 → b.pos.getD (j % 8) 9 = sl → sl < 9 → b.gone = [] → b.fails = [] →
      bankWord b n l j x = sampleWord (bit l.w0 21) (b.coef.getD sl (0, 32768, 0)).1 (b.coef.getD sl (0, 32768, 0)).2.1 x) ∧
    (∀ x : Int, 0 ≤ x → x ≤ 16381 → sampleWord false 0 32768 x = ((x + 2) / 4).toNat) ∧ (∀ ten o g, sampleWord ten o g xMax = 0x2FFF)) ∧
  (∀ (s : State) (t : Time) (tile : Nat), s.running = true → s.clk.gated = false →
    let b := s.bank tile
    (∀ n l j, s.convLine tile = some (n, l) → b.vacant (j % 8) = false → j < 8 * l.frames → Tbl.get 0 l.frs tile ≤ j / 8 →
      let sl := b.pos.getD (j % 8) 9
      (b.st = 0 → Gives (.sliceCheckFail t tile j) s fun s' =>
        s'.bank tile = { b with fails := b.fails ++ [(n, j)], swap := if sl ∈ b.swap then b.swap else b.swap ++ [sl] } ∧
        s'.conv.chkN = s.conv.chkN + 1 ∧ s'.regs = s.regs) ∧
      (b.st = 1 → Gives (.sliceCheckFail t tile j) s fun s' =>
        s'.bank tile = { b with fails := b.fails ++ [(n, j)], gone := b.gone ++ [(j % 8, sl)], run := b.run ++ [sl], oot := true } ∧
        s'.conv.chkN = s.conv.chkN + 1 ∧ s'.regs = s.regs)) ∧
    (∀ sl r, b.run = sl :: r →
      let prev := some ((b.coef.getD sl (0, 32768, 0)).1, (b.coef.getD sl (0, 32768, 0)).2.1)
      (∀ run o g, runResult run prev = .pass o g → Gives (.calRunEnd t tile run) s fun s' =>
        (s'.bank tile).coef = b.coef.set sl (o, g, s.lastLine) ∧ (s'.bank tile).run = r ∧ (s'.bank tile).st = b.st ∧
        (s'.bank tile).passed = (b.passed || b.cal == sl) ∧ s' = { s.at t with conv := { s.conv with banks := s'.conv.banks } }) ∧
      (∀ run x, runResult run prev = .fail x → Gives (.calRunEnd t tile run) s fun s' =>
        s'.bank tile = b.retire sl ∧ s'.cal.jQueue = s.cal.jQueue ++ [(tile, sl, x, s.lastLine)] ∧
        s'.host.cause.getLsbD 4 = true ∧ s'.conv.chkN = s.conv.chkN ∧ s'.regs = s.regs)) ∧
    (∀ run p o g, runResult run (some p) = .pass o g → 31744 ≤ g ∧ g ≤ 33792 ∧ -512 ≤ o ∧ o ≤ 511 ∧ run.chk = false ∧ (o - p.1).natAbs ≤ 32) ∧
    (s.tick.last.isSome = true → s.lastLine ≠ 0 → s.lastLine % 4096 = 0 → s.conv.rotLine.toNat ≠ s.lastLine → Gives (.rotation t) s fun s' =>
      s'.conv.rotN = s.conv.rotN + 1 ∧ s' = { s.at t with conv := s'.conv } ∧
      ∀ i, i < 1024 → s'.bank i = if (s.bank i).st ≠ 0 then s.bank i
        else if (s.bank i).passed = true ∧ (s.bank i).run = [] then (s.bank i).rotate else { s.bank i with defer := true }) ∧
    (s.convLine tile = none → 4000 ≤ since (s.at t).now b.lastConv → s.inFrame tile = false → tile < 1024 → Gives (.bankPowerDown t tile) s fun s' =>
      s' = { s.at t with
        conv := { s.conv with asleep := s.conv.asleep ||| (1#1024 <<< tile) }
        tick := { s.tick with next := s'.tick.next, worst := s'.tick.worst } }) ∧
    (let x := s.nextAct
     let w2 := s.entW x.2 x.1.entry 2
     s.mode = 1 → x.1.items = true → fld w2 31 22 ≤ tile → tile ≤ fld w2 21 12 → Gives (.bankWakeAhead t tile) s fun s' =>
      s' = { s.at t with
        conv := { s.conv with asleep := s.conv.asleep &&& ~~~(1#1024 <<< tile) }
        tick := { s.tick with next := s'.tick.next, worst := s'.tick.worst } }))

/-- R166, R169, R170, R177, R178, R183, R184: a write to CAL_CMD. A GO while another command holds the block is rejected (cause 4), a command code
of 8 or more too (cause 3); a step is pending, or fails STOPPED; APPLY needs a complete band, RESTORE a valid copy; SAVE erases the copy it will
write, once a mailbox command that uses flash has ended, or fails where no COUNTER is left. -/
def Obligations.CalibrationCommands : Prop :=
  ∀ (s : State) (t : Time) (v : W32) (src : BitVec 7), s.running = true → s.reaches 0x40000 = true →
    let w := goodWr v src
    let k := s.cal
    let rejected := fun (c : Instr) (cause : Nat) => exec c s = .next { s.at t with
      flt := { s.flt with rej := s.flt.rej + 1, info := pack 64 [(cause, 60), (src.toNat, 53), (0x40000, 0)] } }
    let does := fun (c : Instr) (P : State → Prop) => Gives c s fun s' =>
      P s' ∧ s'.reg 0x40000 = v &&& 0x7FFFC000 ∧ (∀ o, o ≠ 0x40000 → s'.reg o = s.reg o)
    (∀ p ∈ [(Instr.dark t w, 1), (.flatHg t w, 2), (.flatLg t w, 3), (.apply t w, 4), (.save t w, 5), (.restore t w, 6), (.abort t w, 7)],
      (8 ≤ fld v 30 27 → rejected p.1 3) ∧
      (fld v 30 27 = p.2 → bit v 31 = true → (if p.2 = 5 then k.saveBusy = true ∨ k.step.ph = 3 else if p.2 = 7 then k.step.ph = 0 ∨ k.step.ph = 3
        else k.step.ph ≠ 0 ∨ k.saveBusy = true) → rejected p.1 4)) ∧
    (∀ p ∈ [(Instr.dark t w, 1), (.flatHg t w, 2), (.flatLg t w, 3)], fld v 30 27 = p.2 → bit v 31 = true → k.step.ph = 0 → k.saveBusy = false →
      (s.tick.st ≠ 0 → does p.1 fun s' => s'.cal = { k with acc := [], step := { CalStep.none with
        cmd := p.2, ph := 1, goT := (s.at t).now, entry := fld v 26 21, ref := if p.2 = 1 ∧ bit v 14 = true then some (fld v 20 15) else none } }) ∧
      (s.tick.st = 0 → does p.1 fun s' => s'.cal.failed = true ∧ s'.cal.fail = pack 32 [(8, 28)] ∧ s'.cal.step.ph = 0 ∧ s'.host.cause.getLsbD 3 = true)) ∧
    (fld v 30 27 = 4 → bit v 31 = true → k.step.ph = 0 → k.saveBusy = false →
      ((∃ b, b < 4 ∧ k.complete b = true) → does (.apply t w) fun s' => s'.cal = { k with
        step := { k.step with ph := 3, goT := (s.at t).now, left := 4, copy := none } }) ∧
      ((∀ b, b < 4 → k.complete b = false) → does (.apply t w) fun s' => s'.cal = { k with failed := true, fail := pack 32 [(12, 28)] })) ∧
    (fld v 30 27 = 5 → bit v 31 = true → k.step.ph ≠ 3 → k.saveBusy = false → s.copyCounter 0 = none → s.copyCounter 1 = none →
      does (.save t w) fun s' => s'.cal = { k with saveBusy := true, saving := some (0, 1), saveAfter := s.mbxFlashes } ∧
        (s.mbxFlashes = true → s'.boot = s.boot) ∧
        (s.mbxFlashes = false → ∀ a, Tbl.get 0xFF s'.boot.flash a = if copyAddr 0 ≤ a ∧ a < copyAddr 0 + 0x200000 then 0xFF else Tbl.get 0xFF s.boot.flash a)) ∧
    (fld v 30 27 = 5 → bit v 31 = true → k.step.ph ≠ 3 → k.saveBusy = false →
      max ((s.copyCounter 0).getD 0) ((s.copyCounter 1).getD 0) = 0xFFFFFFFE →
      does (.save t w) fun s' => s'.cal = { k with saved := false, failed := true, fail := pack 32 [(15, 28)] } ∧ s'.boot = s.boot) ∧
    (fld v 30 27 = 6 → bit v 31 = true → k.step.ph = 0 → k.saveBusy = false →
      (∀ p, s.bestCopy = some p → does (.restore t w) fun s' => s'.cal = { k with
        step := { k.step with ph := 3, goT := (s.at t).now, left := 4, copy := some p.1 } }) ∧
      (s.bestCopy = none → does (.restore t w) fun s' => s'.cal = { k with failed := true, fail := pack 32 [(14, 28)] })) ∧
    (fld v 30 27 = 7 → bit v 31 = true →
      k.step.ph = 1 ∨ k.step.ph = 2 → does (.abort t w) fun s' => s'.cal.failed = true ∧ s'.cal.fail = pack 32 [(11, 28)] ∧
        s'.cal.step.ph = 0 ∧ s'.cal.acc = [] ∧ s'.host.cause.getLsbD 3 = true)

/-- R166 to R169, R172 to R175: a calibration step starts at the first execution of its entry, or fails its check (reason 12); it ends with its
candidates or a reason, and BUSY falls with vector 19; it gives up (reason 6) after 8,192 executions, or when its entry does not come. The
arithmetic of a step rests on log entry 17. -/
def Obligations.CalibrationSteps : Prop :=
  ∀ (s : State) (t : Time), s.running = true →
    let k := s.cal
    let failed := fun (s' : State) (reason : Nat) => s'.cal.failed = true ∧ fld s'.cal.fail 31 28 = reason ∧ s'.cal.step.ph = 0 ∧
      s'.cal.acc = [] ∧ s'.host.cause.getLsbD 3 = true ∧ s'.regs = s.regs
    (∀ l, s.line s.lastLine = some l → k.step.ph = 1 → s.tick.last.isSome = true → l.entry = k.step.entry → l.gen = s.seq.gen →
      (l.kind ≠ 3 ∨ fld l.w0 31 28 = 3) → 2000 ≤ since l.t k.step.goT → since l.t k.step.goT < 2 ^ 63 →
      let legal := l.kind = 0 ∧ fld l.w0 23 22 = 0 ∧ bit l.w0 21 = false ∧ k.step.entry < s.bankLen s.seq.act ∧
        (k.step.cmd = 1 ∨ ∀ b, b < 4 → fld l.w0 27 24 / 2 ^ b % 2 = 0 ∨ k.darkOk.getLsbD b = true)
      (legal → Gives (.calStepStart t) s fun s' => s'.cal.step.ph = 2 ∧ s'.cal.step.execs = 1 ∧ s'.cal.step.t0 = l.first ∧
        s'.cal.step.t1 = l.last ∧ s'.cal.step.bands = BitVec.ofNat 4 (fld l.w0 27 24) ∧ s'.cal.stepLine = BitVec.ofNat 48 s.lastLine ∧
        s'.cal.master = k.master ∧ s'.regs = s.regs) ∧
      (¬legal → Gives (.calStepStart t) s fun s' => failed s' 12)) ∧
    (k.step.ph = 1 → 2 ≤ k.step.passes ∨ 1048576 ≤ k.step.ticks → Gives (.calStepPendingTimeout t) s fun s' => failed s' 6) ∧
    (k.step.ph = 2 → 8192 ≤ k.step.execs → s.stepComplete = false → Gives (.calStepTimeout t) s fun s' => failed s' 6) ∧
    (k.step.ph = 2 → s.stepComplete = true → Gives (.calStepEnd t) s fun s' => s'.cal.step.ph = 0 ∧ s'.cal.acc = [] ∧ s'.cal.master = k.master ∧
      s'.host.cause.getLsbD 3 = true ∧ s'.regs = s.regs ∧
      (k.step.cmd = 1 → (∃ r b g i, s.darkEnd = .fail r b g i ∧ s'.cal.failed = true ∧ s'.cal.darkOk = k.darkOk &&& ~~~k.step.bands) ∨
        (s'.cal.darkOk = k.darkOk ||| k.step.bands ∧ s'.cal.failed = k.failed)) ∧
      (∀ g, g < 2 → k.step.cmd = 2 + g → (∃ r b g' i, s.flatEnd g = .fail r b g' i ∧ s'.cal.failed = true ∧ s'.cal.flatOk = k.flatOk &&& ~~~(flatBits k.step.bands g)) ∨
        (s'.cal.flatOk = k.flatOk ||| flatBits k.step.bands g ∧ s'.cal.failed = k.failed)))

/-- R162 to R164, R177 to R185: the palette. An apply puts the candidates of the complete bands into the master copy, for every tile that a dark and
a flat step of the session covered (log entry 88), a restore the words of the flash copy; a save reads the master copy and writes the copy with its
tag, waiting while a tile is reloaded; an engine's region is rewritten from the master copy; a retirement goes to the journal. The layout of the
journal is log entry 18. -/
def Obligations.PaletteCopies : Prop :=
  ∀ (s : State) (t : Time) (tile : Nat), s.running = true →
    let k := s.cal
    let ends := fun (s' : State) => s'.cal.applyLine = s.tick.line ∧ s'.cal.step.ph = 0 ∧ s'.cal.darkOk = 0 ∧ s'.cal.flatOk = 0 ∧
      s'.host.cause.getLsbD 3 = true ∧ s'.regs = s.regs
    (k.step.ph = 3 → k.step.left = 0 ∨ s.tick.st = 0 ∨ s.tick.st = 4 →
      (k.step.copy = none → Gives (.applyLoadEnd t) s fun s' => ends s' ∧ s'.cal.source = 3 ∧
        ∀ b i g j, b < 4 → g < 2 → i < 1024 → k.complete b = true → Tbl.get false k.darkT (4 * i + b) = true → j < 32 →
          Tbl.get 0 s'.cal.base (8 * i + 2 * b + g) = Tbl.get 0 k.candB (8 * i + 2 * b + g) ∧
          (Tbl.get false k.flatT (8 * i + 2 * b + g) = true →
            Tbl.get 0x80000000 s'.cal.master (256 * i + 64 * b + 32 * g + j) = k.candWord (256 * i + 64 * b + 32 * g + j))) ∧
      (∀ c, k.step.copy = some c → Gives (.applyLoadEnd t) s fun s' => ends s' ∧ s'.cal.source = 1 + c ∧
        ∀ i, i < 262144 → Tbl.get 0x80000000 s'.cal.master i = BitVec.ofNat 32 (s.flashNat (copyAddr c + 0x10000 + 4 * i) 4))) ∧
    (∀ c cnt, k.saving = some (c, cnt) →
      (k.masterUe = [] → k.masterCe = [] → k.reload = [] → k.saveAfter = false ∨ s.mbxFlashes = false →
        (Gives (.saveEnd t true) s fun s' => s'.cal = { k with saveBusy := false, saving := none, saved := true, counter := cnt, source := 1 + c } ∧
          s'.boot.flash = memPut 0xFF s.boot.flash (copyAddr c) (s.copyImage cnt.toNat ++ Config.paletteTag (s.copyImage cnt.toNat)) ∧
          s'.host.cause.getLsbD 3 = true ∧ s'.regs = s.regs) ∧
        (Gives (.saveEnd t false) s fun s' =>
          s'.cal = { k with saveBusy := false, saving := none, saved := false, failed := true, fail := pack 32 [(13, 28)] } ∧
          s'.boot = { s.boot with mbxAfter := false } ∧ s'.host.cause.getLsbD 3 = true ∧ s'.regs = s.regs)) ∧
      (k.saveAfter = true → s.mbxFlashes = true → k.masterUe = [] → k.masterCe = [] → ∀ ok, Gives (.saveEnd t ok) s fun s' =>
        s'.cal.saving = k.saving ∧ s'.cal.saveBusy = k.saveBusy ∧ s'.boot = s.boot ∧ s'.regs = s.regs) ∧
      (k.masterUe ≠ [] ∨ k.reload ≠ [] → ∀ ok, Gives (.saveEnd t ok) s fun s' =>
        s'.cal.saving = k.saving ∧ s'.cal.saveBusy = k.saveBusy ∧ s'.cal.reload ≠ [] ∧ s'.boot = s.boot ∧ s'.regs = s.regs)) ∧
    (∀ e, k.rewrite.contains tile = true → s.serving tile = some e →
      (k.masterUe.contains tile = false → Gives (.paletteRewriteEnd t tile) s fun s' =>
        s'.cal = { k with rewrite := k.rewrite.filter (· != tile), masterCe := s'.cal.masterCe } ∧ tile ∉ s'.cal.masterCe ∧
        (s'.eng e).palX = [] ∧ (∀ d, d ∈ (s'.eng e).dUe → ¬(0x1900 ≤ d ∧ d < 0x1A00)) ∧ (∀ i, i ≠ e → s'.eng i = s.eng i) ∧
        s' = { s.at t with
          cal := s'.cal, te := { s.te with eng := s'.te.eng }
          flt := { s.flt with ce := if k.masterCe.contains tile then s.flt.ce + 1 else s.flt.ce } }) ∧
      (k.masterUe.contains tile = true → Gives (.paletteRewriteEnd t tile) s fun s' =>
        s'.cal.reload = k.reload ++ [tile] ∧ tile ∉ s'.cal.masterUe ∧ tile ∉ s'.cal.rewrite ∧ s'.flt.ue = s.flt.ue + 1 ∧ s'.regs = s.regs)) ∧
    (∀ c, k.reload.contains tile = true → k.source = 1 + c → c < 2 → tile < 1024 → Gives (.masterReloadEnd t tile) s fun s' =>
      s'.cal.reload = k.reload.filter (· != tile) ∧ s' = { s.at t with cal := s'.cal, te := { s.te with eng := s'.te.eng } } ∧
      (∀ p, p < 256 → Tbl.get 0x80000000 s'.cal.master (256 * tile + p) =
        BitVec.ofNat 32 (s.flashNat (copyAddr c + 0x10000 + 0x400 * tile + 4 * p) 4)) ∧
      ∀ i, i / 256 ≠ tile → Tbl.get 0x80000000 s'.cal.master i = Tbl.get 0x80000000 k.master i) ∧
    (∀ ti sl r l rest, k.jQueue = (ti, sl, r, l) :: rest → k.journal < 2048 →
      (exec (.journalAppend t true) s = .next { s.at t with
        boot := { s.boot with
          flash := memPut 0xFF s.boot.flash (journalAddr k.journal) (journalHead ti sl r l ++ Config.paletteTag (journalHead ti sl r l)) },
        cal := { k with journal := k.journal + 1, jQueue := rest } }) ∧
      exec (.journalAppend t false) s = .next (s.at t))

/-- R202, R205: the lane-wise ALU instructions write to every lane of `d` the value of the table, computed from the same lane of `a` and `b`, in any
lane mode; unsigned views. One cycle, MUL, MULHU and MAC two; no flag, no other register, no memory changes. R202, R205: the ALU instructions on
signed lanes. SAR fills with the sign, ADDS and SUBS clamp to the signed range, ABSD is the distance as an unsigned lane, MULHS the high half of the
signed product. R205: the bitwise instructions, and R202: each works on the whole register. -/
def Obligations.AluInstructions : Prop :=
  (∀ (s : State) (t : Time) (e : Nat) (d a b : BitVec 5) (ln : BitVec 2), EngineReady s e → (s.eng e).blk = none →
    let A := (s.eng e).reg a
    let B := (s.eng e).reg b
    Computes (.teAdd t e d a b ln 0 0) s t e d 1 (EachLane ln (fun _ x y => x + y) A B) ∧
    Computes (.teSub t e d a b ln 0 0) s t e d 1 (EachLane ln (fun w x y => x + 2 ^ w - y) A B) ∧
    Computes (.teAddus t e d a b ln 0 0) s t e d 1 (EachLane ln (fun w x y => min (2 ^ w - 1) (x + y)) A B) ∧
    Computes (.teSubus t e d a b ln 0 0) s t e d 1 (EachLane ln (fun _ x y => x - y) A B) ∧
    Computes (.teShl t e d a b ln 0 0) s t e d 1 (EachLane ln (fun w x y => x * 2 ^ (y % w)) A B) ∧
    Computes (.teShr t e d a b ln 0 0) s t e d 1 (EachLane ln (fun w x y => x / 2 ^ (y % w)) A B) ∧
    Computes (.teMinu t e d a b ln 0 0) s t e d 1 (EachLane ln (fun _ x y => min x y) A B) ∧
    Computes (.teMaxu t e d a b ln 0 0) s t e d 1 (EachLane ln (fun _ x y => max x y) A B) ∧
    Computes (.teAvgu t e d a b ln 0 0) s t e d 1 (EachLane ln (fun _ x y => (x + y + 1) / 2) A B) ∧
    Computes (.teMul t e d a b ln 0 0) s t e d 2 (EachLane ln (fun _ x y => x * y) A B) ∧
    Computes (.teMulhu t e d a b ln 0 0) s t e d 2 (EachLane ln (fun w x y => x * y / 2 ^ w) A B) ∧
    Computes (.teMac t e d a b ln 0 0) s t e d 2 fun v =>
      ∀ j, j < 2 ^ ln.toNat → lane (laneW ln) v j =
        (lane (laneW ln) ((s.eng e).reg d) j + lane (laneW ln) A j * lane (laneW ln) B j) % 2 ^ laneW ln) ∧
  (∀ (s : State) (t : Time) (e : Nat) (d a b : BitVec 5) (ln : BitVec 2), EngineReady s e → (s.eng e).blk = none →
    let A := (s.eng e).reg a
    let B := (s.eng e).reg b
    Computes (.teAdds t e d a b ln 0 0) s t e d 1
      (EachSignedLane ln (fun w x y => max (-(2 ^ (w - 1))) (min (2 ^ (w - 1) - 1) (x + y))) A B) ∧
    Computes (.teSubs t e d a b ln 0 0) s t e d 1
      (EachSignedLane ln (fun w x y => max (-(2 ^ (w - 1))) (min (2 ^ (w - 1) - 1) (x - y))) A B) ∧
    Computes (.teMin t e d a b ln 0 0) s t e d 1 (EachSignedLane ln (fun _ x y => min x y) A B) ∧
    Computes (.teMax t e d a b ln 0 0) s t e d 1 (EachSignedLane ln (fun _ x y => max x y) A B) ∧
    Computes (.teAbsd t e d a b ln 0 0) s t e d 1 (EachSignedLane ln (fun _ x y => ((x - y).natAbs : Int)) A B) ∧
    Computes (.teMulhs t e d a b ln 0 0) s t e d 2 (EachSignedLane ln (fun w x y => x * y / 2 ^ w) A B) ∧
    Computes (.teSar t e d a b ln 0 0) s t e d 1 fun v =>
      ∀ j, j < 2 ^ ln.toNat → lane (laneW ln) v j =
        usg (laneW ln) (sgn (laneW ln) (lane (laneW ln) A j) / 2 ^ (lane (laneW ln) B j % laneW ln))) ∧
  (∀ (s : State) (t : Time) (e : Nat) (d a b : BitVec 5), EngineReady s e → (s.eng e).blk = none →
    let A := (s.eng e).reg a
    let B := (s.eng e).reg b
    let D := (s.eng e).reg d
    Computes (.teAnd t e d a b 0 0 0) s t e d 1 (· = A &&& B) ∧
    Computes (.teOr t e d a b 0 0 0) s t e d 1 (· = A ||| B) ∧
    Computes (.teXor t e d a b 0 0 0) s t e d 1 (· = A ^^^ B) ∧
    Computes (.teAndn t e d a b 0 0 0) s t e d 1 (· = A &&& ~~~B) ∧
    Computes (.teBsel t e d a b 0 0 0) s t e d 1 (· = (A &&& D) ||| (B &&& ~~~D)))

/-- R202, R207: the lane-reshaping instructions, where W is the narrow lane width. UNPK and PACK have no lane mode 0b00. -/
def Obligations.Reshaping : Prop :=
  ∀ (s : State) (t : Time) (e : Nat) (d a b : BitVec 5) (ln : BitVec 2), EngineReady s e → (s.eng e).blk = none →
    let w := laneW ln
    let A := lane w ((s.eng e).reg a)
    let A2 := lane (2 * w) ((s.eng e).reg a)
    let B2 := lane (2 * w) ((s.eng e).reg b)
    let packed := fun (f : Int → Nat) (v : W64) =>
      ∀ j, j < 32 / w → lane w v j = f (sgn (2 * w) (A2 j)) ∧ lane w v (j + 32 / w) = f (sgn (2 * w) (B2 j))
    (ln ≠ 0 →
      Computes (.teUnpklu t e d a b ln 0 0) s t e d 1 (fun v => ∀ j, j < 32 / w → lane (2 * w) v j = A j) ∧
      Computes (.teUnpkhu t e d a b ln 0 0) s t e d 1 (fun v => ∀ j, j < 32 / w → lane (2 * w) v j = A (j + 32 / w)) ∧
      Computes (.teUnpkls t e d a b ln 0 0) s t e d 1 (fun v => ∀ j, j < 32 / w → lane (2 * w) v j = usg (2 * w) (sgn w (A j))) ∧
      Computes (.teUnpkhs t e d a b ln 0 0) s t e d 1
        (fun v => ∀ j, j < 32 / w → lane (2 * w) v j = usg (2 * w) (sgn w (A (j + 32 / w)))) ∧
      Computes (.tePackus t e d a b ln 0 0) s t e d 1 (packed fun i => (max 0 (min (2 ^ w - 1) i)).toNat) ∧
      Computes (.tePackss t e d a b ln 0 0) s t e d 1 (packed fun i => usg w (max (-(2 ^ (w - 1))) (min (2 ^ (w - 1) - 1) i))) ∧
      Computes (.tePackt t e d a b ln 0 0) s t e d 1 (packed fun i => usg w i)) ∧
    Computes (.teHaddu t e d a b ln 0 0) s t e d 1 (fun v => v.toNat = ((List.range (64 / w)).map A).sum % 2 ^ 64) ∧
    Computes (.teHadds t e d a b ln 0 0) s t e d 1 (fun v => v = BitVec.ofInt 64 ((List.range (64 / w)).map fun j => sgn w (A j)).sum) ∧
    Computes (.teSplat t e d a b ln 0 0) s t e d 1 (fun v => ∀ j, j < 2 ^ ln.toNat → lane w v j = A 0) ∧
    Computes (.teClz t e d a b ln 0 0) s t e d 1 (fun v => ∀ j, j < 2 ^ ln.toNat →
      ∃ n, n ≤ w ∧ lane w v j = n ∧ A j < 2 ^ (w - n) ∧ (n < w → 2 ^ (w - n - 1) ≤ A j)) ∧
    Computes (.tePopc t e d a b ln 0 0) s t e d 1
      (fun v => ∀ j, j < 2 ^ ln.toNat → lane w v j = ((List.range w).filter fun i => (A j).testBit i).length)

/-- R208: the immediate instructions: results, with the fields a row marks 0 at 0 and the shift count and bit range legal. R203, R206, R208: CMP
writes a mask lane of all 1s where the condition holds, else 0, and the flag bits [6:5] name: any lane, every lane or lane 0 as bits [8:7] select;
CMPI compares as 64-bit values and writes no mask. Condition 0 EQ, 1 NE, 2 LT signed, 3 LE signed, 4 LTU, 5 LEU, 6 TST. -/
def Obligations.ImmediatesAndCompares : Prop :=
  (∀ (s : State) (t : Time) (e : Nat) (d a : BitVec 5) (imm : BitVec 16), EngineReady s e → (s.eng e).blk = none →
    let A := (s.eng e).reg a
    let ln : BitVec 2 := imm.extractLsb' 8 2
    let c := fld imm 5 0
    let p := fld imm 5 0
    let L := fld imm 11 6 + 1
    Computes (.teAddi t e d a imm) s t e d 1 (· = A + imm.signExtend 64) ∧
    Computes (.teAndi t e d a imm) s t e d 1 (· = A &&& imm.setWidth 64) ∧
    Computes (.teOri t e d a imm) s t e d 1 (· = A ||| imm.setWidth 64) ∧
    Computes (.teXori t e d a imm) s t e d 1 (· = A ^^^ imm.setWidth 64) ∧
    Computes (.teLui t e d 0 imm) s t e d 1 (· = imm.signExtend 64 <<< 16) ∧
    (fld imm 15 10 = 0 ∧ fld imm 7 6 = 0 ∧ c < laneW ln →
      Computes (.teShli t e d a imm) s t e d 1 (EachLane ln (fun _ x _ => x * 2 ^ c) A 0) ∧
      Computes (.teShri t e d a imm) s t e d 1 (EachLane ln (fun _ x _ => x / 2 ^ c) A 0) ∧
      Computes (.teSari t e d a imm) s t e d 1 (EachSignedLane ln (fun _ x _ => x / 2 ^ c) A 0)) ∧
    (fld imm 15 12 = 0 ∧ p + L ≤ 64 →
      Computes (.teExtu t e d a imm) s t e d 1 (fun v => v.toNat = A.toNat / 2 ^ p % 2 ^ L) ∧
      Computes (.teExts t e d a imm) s t e d 1 (fun v => v = BitVec.ofInt 64 (sgn L (A.toNat / 2 ^ p))))) ∧
  (∀ (s : State) (t : Time) (e : Nat) (fn d a b : BitVec 5) (ln sel fl : BitVec 2) (imm : BitVec 16), EngineReady s e → (s.eng e).blk = none →
    let w := laneW ln
    let holds := fun (w n x y : Nat) =>
      (n = 0 ∧ x = y) ∨ (n = 1 ∧ x ≠ y) ∨ (n = 2 ∧ sgn w x < sgn w y) ∨ (n = 3 ∧ sgn w x ≤ sgn w y) ∨ (n = 4 ∧ x < y) ∨
        (n = 5 ∧ x ≤ y) ∨ (n = 6 ∧ x &&& y ≠ 0)
    let c := fun j => holds w fn.toNat (lane w ((s.eng e).reg a) j) (lane w ((s.eng e).reg b) j)
    (fn.toNat ≤ 6 ∧ sel ≠ 3 →
      ∃ s' v h, exec (.teCmp t e fn d a b ln sel fl) s = .next s' ∧
        EngineWent s s' t e ((((s.eng e).after 1).setReg d v).setFlag fl h) ∧
        (∀ j, j < 2 ^ ln.toNat → (c j → lane w v j = 2 ^ w - 1) ∧ (¬c j → lane w v j = 0)) ∧
        (sel = 0 → (h = true ↔ ∃ j, j < 2 ^ ln.toNat ∧ c j)) ∧ (sel = 1 → (h = true ↔ ∀ j, j < 2 ^ ln.toNat → c j)) ∧
        (sel = 2 → (h = true ↔ c 0))) ∧
    (fld d 4 2 ≤ 5 →
      ∃ s' h, exec (.teCmpi t e d a imm) s = .next s' ∧ EngineWent s s' t e (((s.eng e).after 1).setFlag (d.setWidth 2) h) ∧
        (h = true ↔ holds 64 (fld d 4 2) ((s.eng e).reg a).toNat (imm.signExtend 64).toNat)))

/-- R194 to R197, R209: a load of n bytes at an aligned EA with no uncorrectable error. From user memory, staging, parameters and stack, or a
position of a held line slot, not revoked, that the bank has written, `d` takes the bytes, little-endian, zero- or sign-extended; from a revoked
slot, a position not yet written, or the calibration workspace, `d` takes a value the spec leaves open (log entry 3). Two cycles; a single-bit error
of the word is corrected and counted. R221: a palette pair load whose words are the complements of each other and without uncorrectable error: `d`
takes the pair; on a mismatch `d` takes two defective markers, the lines the engine holds are marked to end FAILED at their release, and a rewrite
of the tile's region is asked for. -/
def Obligations.LoadInstructions : Prop :=
  (∀ (s : State) (t : Time) (e : Nat) (d a : BitVec 5) (imm : BitVec 16), EngineReady s e → (s.eng e).blk = none →
    let x := s.eng e
    let ea := (x.reg a + imm.signExtend 64).toNat % 65536
    let q := x.slots.getD ((ea - 0xC000) / 0x200) LSlot.free
    let slot := 0xC000 ≤ ea ∧ ea < 0xC800 ∧ q.held = true
    let lost := q.rev = true ∨ s.unwritten x q ((ea - 0xC000) % 0x200 / 2) = true
    let mem := fun n => BitVec.ofNat 64 (leNat ((List.range n).map fun i => s.dByte x (ea + i)))
    let loads := fun (c : Instr) (n : Nat) (v : W64) =>
      ea % n = 0 →
        (ea < 0xC000 ∨ (0xD000 ≤ ea ∧ ea < 0xE000) ∨ 0xF000 ≤ ea ∨ (slot ∧ ¬lost) →
          ∃ s', exec c s = .next s' ∧ EngineWent s s' t e (((x.fixCe (ea / 8)).after 2).setReg d v)) ∧
        ((slot ∧ lost) ∨ (0xE000 ≤ ea ∧ ea < 0xF000) →
          ∃ s' v, exec c s = .next s' ∧ EngineWent { s with free := s.free + 1 } s' t e (((x.fixCe (ea / 8)).after 2).setReg d v))
    x.dUe.contains (ea / 8) = false →
      loads (.teLd64 t e d a imm) 8 (mem 8) ∧
      loads (.teLd32u t e d a imm) 4 (mem 4) ∧ loads (.teLd32s t e d a imm) 4 (((mem 4).setWidth 32).signExtend 64) ∧
      loads (.teLd16u t e d a imm) 2 (mem 2) ∧ loads (.teLd16s t e d a imm) 2 (((mem 2).setWidth 16).signExtend 64) ∧
      loads (.teLd8u t e d a imm) 1 (mem 1) ∧ loads (.teLd8s t e d a imm) 1 (((mem 1).setWidth 8).signExtend 64)) ∧
  (∀ (s : State) (t : Time) (e : Nat) (d a : BitVec 5) (imm : BitVec 16), EngineReady s e → (s.eng e).blk = none →
    let x := s.eng e
    let ea := (x.reg a + imm.signExtend 64).toNat % 65536
    let k := (ea - 0xC800) / 4
    let ue := x.dUe.contains (ea / 8) || x.dUe.contains ((ea + 0x400) / 8)
    let pair := s.palWord x (k + 257) = ~~~(s.palWord x (k + 1)) ∧ s.palWord x (k + 256) = ~~~(s.palWord x k)
    ea % 8 = 0 → 0xC800 ≤ ea → ea < 0xCC00 →
      (ue = false ∧ pair → ∃ s', exec (.tePld t e d a imm) s = .next s' ∧
        EngineWent s s' t e ((((x.fixCe (ea / 8)).fixCe ((ea + 0x400) / 8)).after 2).setReg d (s.palWord x (k + 1) ++ s.palWord x k))) ∧
      (ue = true ∨ ¬pair → ∃ s', exec (.tePld t e d a imm) s = .next s' ∧
        s'.eng e = { (x.after 2).setReg d 0x0000800000008000 with slots := x.slots.map fun q => { q with pal := q.pal || q.held } } ∧
        x.tile ∈ s'.cal.rewrite ∧ (∀ i, i ≠ e → s'.eng i = s.eng i) ∧ s'.regs = s.regs ∧ s'.fab = s.fab))

/-- R194, R195, R197, R209: a store of the low n bytes of `d` at an aligned EA that stores: those bytes of the engine's data memory and no other
byte of it change, and nothing else but PC and cycles. ST64 takes one cycle, the narrow stores two. An address between two regions of R194 is in
neither; a store into a revoked slot, or a position the bank has not yet written, is lost (second clause). -/
def Obligations.Stores : Prop :=
  ∀ (s : State) (t : Time) (e : Nat) (d a : BitVec 5) (imm : BitVec 16), EngineReady s e → (s.eng e).blk = none →
    let x := s.eng e
    let ea := (x.reg a + imm.signExtend 64).toNat % 65536
    let q := x.slots.getD ((ea - 0xC000) / 0x200) LSlot.free
    let plain := ea < 0xC000 ∨ (0xD000 ≤ ea ∧ ea < 0xE000) ∨ 0xF000 ≤ ea
    let slot := 0xC000 ≤ ea ∧ ea < 0xC800 ∧ q.held = true
    let lost := q.rev = true ∨ s.unwritten x q ((ea - 0xC000) % 0x200 / 2) = true
    let stores := fun (c : Instr) (n cyc : Nat) =>
      ea % n = 0 →
        (plain ∨ (slot ∧ ¬lost) → x.dUe.contains (ea / 8) = false →
          ∃ s' y, exec c s = .next s' ∧ EngineWent s s' t e y ∧ y = { (x.fixCe (ea / 8)).after cyc with dmem := y.dmem } ∧
            ∀ b, s.dByte y b = if ea ≤ b ∧ b < ea + n then (x.reg d).extractLsb' (8 * (b - ea)) 8 else s.dByte x b) ∧
        (slot ∧ lost → ∃ s', exec c s = .next s' ∧ EngineWent s s' t e (x.after cyc))
    stores (.teSt64 t e d a imm) 8 1 ∧ stores (.teSt32 t e d a imm) 4 2 ∧ stores (.teSt16 t e d a imm) 2 2 ∧
      stores (.teSt8 t e d a imm) 1 2

/-- R194, R195, R196: an access at an address that is not a multiple of its size raises ALIGN (3), one that R194 refuses ACCESS (4), one of a word
with an uncorrectable error DMEM_UE (9): the exception, with the effective address, and no other effect. -/
def Obligations.AccessChecks : Prop :=
  ∀ (s : State) (t : Time) (e : Nat) (d a : BitVec 5) (imm : BitVec 16), EngineReady s e →
    let x := s.eng e
    let ea := (x.reg a + imm.signExtend 64).toNat % 65536
    let q := x.slots.getD ((ea - 0xC000) / 0x200) LSlot.free
    let raises := fun (c : Instr) (cause : Nat) => exec c s = .next ((s.at t).raiseExc e cause 0 ea)
    (∀ p ∈ [(Instr.teLd64 t e d a imm, 8), (.teLd32u t e d a imm, 4), (.teLd32s t e d a imm, 4), (.teLd16u t e d a imm, 2),
        (.teLd16s t e d a imm, 2), (.teSt64 t e d a imm, 8), (.teSt32 t e d a imm, 4), (.teSt16 t e d a imm, 2), (.tePld t e d a imm, 8)],
      ea % p.2 ≠ 0 → raises p.1 3) ∧
    (∀ c ∈ [Instr.teLd8u t e d a imm, .teLd8s t e d a imm, .teSt8 t e d a imm],
      (0xC000 ≤ ea ∧ ea < 0xC800 ∧ q.held = false) ∨ (0xC800 ≤ ea ∧ ea < 0xD000) → raises c 4) ∧
    (0xE000 ≤ ea ∧ ea < 0xF000 → raises (.teSt8 t e d a imm) 4) ∧
    (ea % 8 = 0 ∧ ¬(0xC800 ≤ ea ∧ ea < 0xCC00) → raises (.tePld t e d a imm) 4) ∧
    (ea < 0xC000 ∧ x.dUe.contains (ea / 8) = true →
      raises (.teLd8u t e d a imm) 9 ∧ raises (.teLd8s t e d a imm) 9 ∧ raises (.teSt8 t e d a imm) 9) ∧
    (0xE000 ≤ ea ∧ ea < 0xF000 ∧ x.dUe.contains (ea / 8) = true → raises (.teLd8u t e d a imm) 9 ∧ raises (.teLd8s t e d a imm) 9)

/-- R210: branches and loops. T = PC + 1 + sext(imm16); the fields a row marks 0 are 0. A taken branch to a target outside 0x000 to 0xEFF raises
FETCH (2). That a branch not taken raises no FETCH is deduced, log entry 16. -/
def Obligations.Branches : Prop :=
  ∀ (s : State) (t : Time) (e : Nat) (d : BitVec 5) (imm : BitVec 16), EngineReady s e → (s.eng e).blk = none →
    let x := s.eng e
    let T : Int := (x.pc : Int) + 1 + imm.toInt
    let goes := fun (c : Instr) (y : Engine) => ∃ s', exec c s = .next s' ∧ EngineWent s s' t e y
    let jump := fun (y : Engine) => { y with pc := T.toNat }
    let f := x.flag (d.setWidth 2)
    let lc := if bit d 0 then x.lc1 else x.lc0
    let dec := fun (y : Engine) => if lc = 0 then y else if bit d 0 then { y with lc1 := lc - 1 } else { y with lc0 := lc - 1 }
    (0 ≤ T ∧ T ≤ 0xEFF →
      goes (.teBr t e 0 0 imm) (jump (x.after 2)) ∧
      goes (.teCall t e d 0 imm) (jump ((x.after 2).setReg d (BitVec.ofNat 64 (x.pc + 1)))) ∧
      (fld d 4 2 = 0 →
        goes (.teBf t e d 0 imm) (if f then jump (x.after 2) else x.after 1) ∧
        goes (.teBnf t e d 0 imm) (if f then x.after 1 else jump (x.after 2))) ∧
      (fld d 4 1 = 0 → goes (.teLoop t e d 0 imm) (if 1 < lc.toNat then jump (dec (x.after 1)) else dec (x.after 1)))) ∧
    (T < 0 ∨ 0xEFF < T →
      let fetch := fun (c : Instr) => exec c s = .next ((s.at t).raiseExc e 2 0 0)
      fetch (.teBr t e 0 0 imm) ∧ fetch (.teCall t e d 0 imm) ∧
      (fld d 4 2 = 0 → f = true → fetch (.teBf t e d 0 imm) ∧ goes (.teBnf t e d 0 imm) (x.after 1)) ∧
      (fld d 4 2 = 0 → f = false → goes (.teBf t e d 0 imm) (x.after 1) ∧ fetch (.teBnf t e d 0 imm)) ∧
      (fld d 4 1 = 0 → 1 < lc.toNat → fetch (.teLoop t e d 0 imm)) ∧
      (fld d 4 1 = 0 → lc.toNat ≤ 1 → goes (.teLoop t e d 0 imm) (dec (x.after 1)))) ∧
    (fld d 4 1 = 0 →
      let n : BitVec 17 := if imm = 0 then 65536 else imm.setWidth 17
      goes (.teLcset t e d 0 imm) (if bit d 0 then { x.after 1 with lc1 := n } else { x.after 1 with lc0 := n }))

/-- R190, R204, R211, R234: the system instructions. MFS of TIME (special register 8) reads the array time within 4 ns: which value is free, and the
free counter of the model steps (the model's choice, log entry 3). KB at throttle step 0 stalls for nothing; at step k it blocks first. -/
def Obligations.SystemInstructions : Prop :=
  ∀ (s : State) (t : Time) (e : Nat) (d a b : BitVec 5), EngineReady s e → (s.eng e).blk = none →
    let x := s.eng e
    let A := x.reg a
    let goes := fun (c : Instr) (y : Engine) => ∃ s', exec c s = .next s' ∧ EngineWent s s' t e y
    let now := (s.at t).now
    goes (.teNop t e d a b 0 0 0) (x.after 1) ∧
    goes (.teHb t e d a b 0 0 0) { x.after 1 with hb := true, hbT := now } ∧
    (s.th.k = 0 → goes (.teKb t e d a b 0 0 0) (x.after 1)) ∧
    (s.th.k ≠ 0 → goes (.teKb t e d a b 0 0 0) { x with blk := some { t := now, op := 0, d := 0, lim := s.regF 0x50000 30 16 * 32 } }) ∧
    (A.toNat ≤ 0xEFF → goes (.teRet t e d a b 0 0 0) { x.after 2 with pc := A.toNat }) ∧
    (∀ p ∈ [((0 : BitVec 5), BitVec.ofNat 64 x.cyc), (1, x.lc0.setWidth 64), (2, x.lc1.setWidth 64), (3, x.f.setWidth 64),
        (4, BitVec.ofNat 64 x.tile), (5, BitVec.ofNat 64 (e % 33)), (6, BitVec.ofNat 64 (e / 33)), (7, x.nst.setWidth 64),
        (9, BitVec.ofNat 64 s.th.k), (10, BitVec.ofNat 64 (s.queueFree e))],
      goes (.teMfs t e d p.1 b 0 0 0) ((x.after 1).setReg d p.2)) ∧
    (∃ s' v, exec (.teMfs t e d 8 b 0 0 0) s = .next s' ∧ EngineWent { s with free := s.free + 1 } s' t e ((x.after 1).setReg d v) ∧
      (v - (now - 8)).toNat ≤ 16) ∧
    (A.toNat ≤ 65536 →
      goes (.teMts t e 1 a b 0 0 0) { x.after 1 with lc0 := A.setWidth 17 } ∧
      goes (.teMts t e 2 a b 0 0 0) { x.after 1 with lc1 := A.setWidth 17 }) ∧
    goes (.teMts t e 3 a b 0 0 0) { x.after 1 with f := A.setWidth 4 } ∧
    goes (.teMts t e 7 a b 0 0 0) { x.after 1 with nst := A.setWidth 4 }

/-- R199 to R201, R233: predication of R-form. Condition 0b11, and a nonzero flag index under 0b00, raise ILLEGAL (1). A false predicate takes one
cycle and does nothing; a true one runs the instruction as if it had none. A lane mode other than 0 is ILLEGAL where the row has no lanes. For RET
that holds unless its target raises FETCH (2), which comes first. R190, R200, R203, R206 to R208, R210, R211: fields that make an engine instruction
ILLEGAL (1): a function, condition or special register that is not listed, a lane mode 0b00 of a row without it, a shift count not below the lane
width, a bit range beyond 64, a field a row marks 0. -/
def Obligations.PredicationAndIllegal : Prop :=
  (∀ (s : State) (t : Time) (e : Nat) (d a b : BitVec 5) (ln fl : BitVec 2), EngineReady s e → (s.eng e).blk = none →
    let x := s.eng e
    let illegal := fun (c : Instr) => exec c s = .next ((s.at t).raiseExc e 1 0 0)
    let predicated := fun (c : BitVec 2 → BitVec 2 → BitVec 2 → Instr) =>
      illegal (c ln 3 fl) ∧ (fl ≠ 0 → illegal (c ln 0 fl)) ∧
      (x.flag fl = false → ∃ s', exec (c ln 1 fl) s = .next s' ∧ EngineWent s s' t e (x.after 1)) ∧
      (x.flag fl = true → ∃ s', exec (c ln 2 fl) s = .next s' ∧ EngineWent s s' t e (x.after 1)) ∧
      (x.flag fl = true → exec (c ln 1 fl) s = exec (c ln 0 0) s) ∧
      (x.flag fl = false → exec (c ln 2 fl) s = exec (c ln 0 0) s)
    (∀ c ∈ [Instr.teAdd, .teSub, .teAdds, .teAddus, .teSubs, .teSubus, .teAnd, .teOr, .teXor, .teAndn, .teShl, .teShr, .teSar, .teMin, .teMax, .teMinu,
        .teMaxu, .teAbsd, .teAvgu, .teBsel, .teMul, .teMulhs, .teMulhu, .teMac, .teUnpklu, .teUnpkhu, .teUnpkls, .teUnpkhs, .tePackus, .tePackss,
        .tePackt, .teHaddu, .teHadds, .teSplat, .teClz, .tePopc, .teMfs, .teMts, .teNop, .teHb, .teBrk, .teLacq, .teLacqe, .teLwait, .teLwaitf,
        .teLrel, .teLkill, .teNsendw, .teNsende, .teNrecvw, .teNrecve, .teRsend, .teRsendt], predicated (c t e d a b)) ∧
    (∀ c ∈ [Instr.teAnd, .teOr, .teXor, .teAndn, .teBsel, .teMfs, .teMts, .teNop, .teHb, .teBrk, .teLacq, .teLacqe, .teLwait, .teLwaitf, .teLrel,
        .teLkill, .teNsendw, .teNsende, .teNrecvw, .teNrecve, .teRsend, .teRsendt], ln ≠ 0 → illegal (c t e d a b ln 0 0)) ∧
    ((x.reg a).toNat ≤ 0xEFF → predicated (Instr.teRet t e d a b) ∧ (ln ≠ 0 → illegal (.teRet t e d a b ln 0 0))) ∧
    (0xEFF < (x.reg a).toNat → exec (.teRet t e d a b ln 0 fl) s = .next ((s.at t).raiseExc e 2 0 0)) ∧
    (∀ c ∈ [Instr.teKb, .teLtest, .teRtry, .teRtryt], illegal (c t e d a b ln 1 fl) ∧ (ln ≠ 0 → illegal (c t e d a b ln 0 fl)))) ∧
  (∀ (s : State) (t : Time) (e : Nat) (fn d a b : BitVec 5) (ln sel fl : BitVec 2) (imm : BitVec 16), EngineReady s e → (s.eng e).blk = none →
    let illegal := fun (c : Instr) => exec c s = .next ((s.at t).raiseExc e 1 0 0)
    let T : Int := ((s.eng e).pc : Int) + 1 + imm.toInt
    (sel = 3 ∨ 7 ≤ fn.toNat → illegal (.teCmp t e fn d a b ln sel fl)) ∧
    (∀ c ∈ [Instr.teUnpklu, .teUnpkhu, .teUnpkls, .teUnpkhs, .tePackus, .tePackss, .tePackt], illegal (c t e d a b 0 0 0)) ∧
    (fld imm 15 10 ≠ 0 ∨ fld imm 7 6 ≠ 0 ∨ laneW (imm.extractLsb' 8 2) ≤ fld imm 5 0 →
      illegal (.teShli t e d a imm) ∧ illegal (.teShri t e d a imm) ∧ illegal (.teSari t e d a imm)) ∧
    (fld imm 15 12 ≠ 0 ∨ 64 < fld imm 5 0 + fld imm 11 6 + 1 → illegal (.teExtu t e d a imm) ∧ illegal (.teExts t e d a imm)) ∧
    (a ≠ 0 → illegal (.teLui t e d a imm)) ∧ (a ≠ 0 ∨ fld d 4 1 ≠ 0 → illegal (.teLcset t e d a imm)) ∧
    (6 ≤ fld d 4 2 → illegal (.teCmpi t e d a imm)) ∧ (10 < imm.toNat → illegal (.teLinfo t e d a imm)) ∧
    (10 < a.toNat → illegal (.teMfs t e d a b 0 0 0)) ∧
    (d ≠ 1 ∧ d ≠ 2 ∧ d ≠ 3 ∧ d ≠ 7 → illegal (.teMts t e d a b 0 0 0)) ∧
    (65536 < ((s.eng e).reg a).toNat → illegal (.teMts t e 1 a b 0 0 0) ∧ illegal (.teMts t e 2 a b 0 0 0)) ∧
    (0 ≤ T ∧ T ≤ 0xEFF → (d ≠ 0 ∨ a ≠ 0 → illegal (.teBr t e d a imm)) ∧ (a ≠ 0 → illegal (.teCall t e d a imm)) ∧
      (fld d 4 2 ≠ 0 ∨ a ≠ 0 → illegal (.teBf t e d a imm) ∧ illegal (.teBnf t e d a imm)) ∧
      (fld d 4 1 ≠ 0 ∨ a ≠ 0 → illegal (.teLoop t e d a imm))))

/-- R192, R198, R233 to R236: BRK raises TRAP (5) with its code; a word that is no instruction ILLEGAL (1); a fetch from 0xF00 on FETCH (2), from a
word with an uncorrectable error IMEM_UE (8); a missing heartbeat HANG (6), or SELF (10) before the first; a failed port check PORT (11). A class K
exception leaves the slot RESTARTING with no line held, a class H one RETIRED; both are counted and recorded and raise vector 21. -/
def Obligations.EngineExceptions : Prop :=
  ∀ (s : State) (t : Time) (e : Nat) (d a b : BitVec 5) (w : W32), s.running = true → s.noTicks = false → (s.eng e).st = 1 →
    let x := s.eng e
    let raises := fun (c : Instr) (cause code : Nat) => exec c s = .next ((s.at t).raiseExc e cause code 0)
    (EngineReady s e → raises (.teBrk t e d a b 0 0 0) 5 b.toNat ∧ (legalOp w = false → raises (.illegalOpcode t e w) 1 0)) ∧
    (0xF00 ≤ x.pc → raises (.teNop t e d a b 0 0 0) 2 0) ∧
    (x.pc < 0xF00 → x.iUe.contains x.pc = true → raises (.teNop t e d a b 0 0 0) 8 0) ∧
    (x.blk = none → 20000 ≤ since (s.at t).now x.hbT → raises (.engineHang t e) (if x.hb then 6 else 0xA) 0) ∧
    raises (.portCheckFail t e) 0xB 0 ∧
    (∀ cause code addr, cause < 16 → code < 32 →
      let s' := s.raiseExc e cause code addr
      (s'.eng e).st = (if cause < 8 then 2 else 5) ∧ (s'.eng e).cause = cause ∧ (s'.eng e).slots = List.replicate 4 LSlot.free ∧ (s'.eng e).blk = none ∧
      (cause < 8 → (s'.eng e).kcnt = x.kcnt + 1 ∧ s'.te.excK = s.te.excK + 1 ∧ s'.te.excH = s.te.excH ∧ ∀ i, i ≠ e → s'.eng i = s.eng i) ∧
      (8 ≤ cause → s'.te.excH = s.te.excH + 1 ∧ s'.te.excK = s.te.excK) ∧
      s'.te.lastExc = pack 32 [(e, 21), (cause, 17), (x.pc % 4096, 5), (code, 0)] ∧ s'.host.cause.getLsbD 5 = true ∧ s'.regs = s.regs)

/-- R213 to R216, R220, R221, R232: LACQ returns the next line of the tile when its conversion has ended, LACQE when it has started: `d` takes the
descriptor, whose PREFAILED says that the line has ended FAILED for the tile, the slot is held, the count of the cycle budget starts anew. Without
such a line the instruction blocks; a blocked engine accumulates the lines of a calibration step, and else changes nothing but its own block. R214,
R217 to R219, R221, R234: LWAIT, LWAITF, LTEST and LINFO on a slot, and the end of a line by LREL or LKILL: the tile ends the line, the slot is
free, and a heartbeat is sent; LKILL ends it FAILED, and so does an LREL of a line marked by a palette error. A slot that is not held raises ACCESS.
-/
def Obligations.Lines : Prop :=
  (∀ (s : State) (t : Time) (e : Nat) (d a b : BitVec 5), EngineReady s e → (s.eng e).blk = none →
    let x := s.eng e
    let now := (s.at t).now
    let went := fun (c : Instr) (y : Engine) (fab : State → Fab) (cal : State → Cal) => Gives c s fun s' =>
      s'.eng e = y ∧ (∀ i, i ≠ e → s'.eng i = s.eng i) ∧
      s' = { s.at t with
        te := { s.te with eng := s'.te.eng, cycMax := s'.te.cycMax, cycSlot := s'.te.cycSlot }, fab := fab s', cal := cal s' } ∧
      s'.te.cycMax = (if x.cycOn then max s.te.cycMax (min x.cyc 0xFFFFF) else s.te.cycMax)
    let got := fun (c : Instr) (n : Nat) (l : Line) =>
      let pre := l.fail.getLsbD x.tile
      went c { ({ x with pc := x.pc + 1, blk := none }).setReg d (descriptor n l pre) with
        hb := true, hbT := now, nextLine := n + 1, cyc := 0, cycOn := true,
        slots := x.slots.set (n % 4) { held := true, rev := false, line := n, pre := pre, pal := false } } (fun _ => s.fab) (fun _ => s.cal)
    let waits := fun (c : Instr) =>
      went c { x with blk := some { t := now, op := 6, d := 0, lim := s.regF 0x50000 30 16 * 32 } }
        (fun s' => if s.cal.step.ph = 2 then { s.fab with lines := s'.fab.lines } else s.fab)
        (fun s' => if s.cal.step.ph = 2 then { s.cal with acc := s'.cal.acc } else s.cal)
    (∀ n l, s.nextFor x = some (n, l) → s.palBusy x.tile = false →
      (l.conv.getLsbD x.tile = true → got (.teLacq t e d a b 0 0 0) n l) ∧
      (l.conv.getLsbD x.tile = false → waits (.teLacq t e d a b 0 0 0)) ∧
      (since now (l.tc x.tile) < 2 ^ 63 → got (.teLacqe t e d a b 0 0 0) n l) ∧
      (2 ^ 63 ≤ since now (l.tc x.tile) → waits (.teLacqe t e d a b 0 0 0))) ∧
    (s.nextFor x = none → waits (.teLacq t e d a b 0 0 0) ∧ waits (.teLacqe t e d a b 0 0 0))) ∧
  (∀ (s : State) (t : Time) (e : Nat) (d a b : BitVec 5) (fl : BitVec 2) (l : Line), EngineReady s e → (s.eng e).blk = none →
    let x := s.eng e
    let now := (s.at t).now
    let q := x.slot a
    let goes := fun (c : Instr) (y : Engine) => ∃ s', exec c s = .next s' ∧ EngineWent s s' t e y
    let waits := { x with blk := some { t := now, op := 0, d := 0, lim := s.regF 0x50000 30 16 * 32 } }
    let done := fun (cyc : Nat) => { x.after cyc with hb := true, hbT := now, slots := x.slots.set (slotOp (x.reg a)) LSlot.free }
    let info := fun (n : BitVec 16) (v : W64) => goes (.teLinfo t e d a n) ((x.after 1).setReg d v)
    let fails := fun (c : Instr) (y : Engine) => Gives c s fun s' => s'.eng e = y ∧ (∀ i, i ≠ e → s'.eng i = s.eng i) ∧
      (∃ l', s'.line q.line = some l' ∧ l' = { l with rel := l.rel ||| (1#1024 <<< x.tile), fail := l'.fail } ∧
        (l.items = true → l.first ≤ x.tile → x.tile ≤ l.last → l'.fail = l.fail ||| (1#1024 <<< x.tile))) ∧
      s' = { s.at t with te := { s.te with eng := s'.te.eng }, fab := s'.fab }
    goes (.teLtest t e d a b 0 0 fl) ((x.after 1).setFlag fl (q.held && !q.rev)) ∧
    (q.held = false → ∀ c ∈ [Instr.teLwait t e d a b 0 0 0, .teLwaitf t e d a b 0 0 0, .teLrel t e d a b 0 0 0, .teLkill t e d a b 0 0 0,
      .teLinfo t e d a 0], exec c s = .next ((s.at t).raiseExc e 4 0 0)) ∧
    (q.held = true → s.line q.line = some l →
      (s.converting x q = false → goes (.teLwait t e d a b 0 0 0) (x.after 1) ∧ goes (.teLwaitf t e d a b 0 0 0) (x.after 1)) ∧
      (s.converting x q = true → q.rev = false → goes (.teLwait t e d a b 0 0 0) waits ∧
        (let ready := (x.reg b).toNat < l.framesIn x.tile
         (ready → goes (.teLwaitf t e d a b 0 0 0) (x.after 1)) ∧ (¬ready → goes (.teLwaitf t e d a b 0 0 0) waits))) ∧
      (info 0 (BitVec.ofNat 64 q.line) ∧ info 1 (l.enc.signExtend 64) ∧ info 2 l.t ∧ info 3 (l.w0.setWidth 64) ∧ info 4 (l.w1.setWidth 64) ∧
        info 5 (l.w2.setWidth 64) ∧ info 6 (l.w3.setWidth 64) ∧ info 7 (s.lineState x q l) ∧
        info 8 (l.t + BitVec.ofNat 64 (l.tmin + 125 * (16 + s.th.k))) ∧ info 9 (BitVec.ofNat 64 l.frames) ∧ info 10 (BitVec.ofNat 64 l.tmin)) ∧
      (q.rev = false → q.pal = false → l.kind ≠ 1 ∨ s.track = false → Gives (.teLrel t e d a b 0 0 0) s fun s' =>
        s'.eng e = { done (if l.kind = 1 then 3 else 1) with kcnt := 0 } ∧ (∀ i, i ≠ e → s'.eng i = s.eng i) ∧
        s'.line q.line = some { l with rel := l.rel ||| (1#1024 <<< x.tile) } ∧ (∀ n, n ≠ q.line → s'.line n = s.line n) ∧
        s' = { s.at t with te := { s.te with eng := s'.te.eng }, fab := { s.fab with lines := s'.fab.lines } }) ∧
      (q.rev = false → fails (.teLkill t e d a b 0 0 0) (done 1) ∧
        (q.pal = true → l.kind ≠ 1 → fails (.teLrel t e d a b 0 0 0) { done 1 with kcnt := 0 })) ∧
      (q.rev = true → goes (.teLkill t e d a b 0 0 0) (done 1) ∧ goes (.teLrel t e d a b 0 0 0) { done 1 with kcnt := 0 })))

/-- R222 to R225: the neighbour ports. A word goes into the FIFO toward the neighbour, available 4 cycles later, or 8 across stripes; a full FIFO,
and an empty one at the receiver, block. At the ends of the array and at a timeout the word is discarded or 0, and the NST bit is set. R218, R226 to
R229, R284, R288, R299, R304: the record port. A legal record of a held slot, a STAT contribution too, enters the slot's queue completed with the
line's data, 2 cycles and one for every two words; on a channel that does not carry the line it is discarded and counted, and after a drop or loss
of the same line item dropped and counted; of a revoked or PREFAILED slot it is taken with no effect. Without room RSEND and RSENDT block, RTRY and
RTRYT clear their flag. A malformed one raises ACCESS (4). -/
def Obligations.Ports : Prop :=
  (∀ (s : State) (t : Time) (e : Nat) (d a b : BitVec 5) (east : Bool), EngineReady s e →
    let x := s.eng e
    let now := (s.at t).now
    let send := if east then Instr.teNsende t e d a b 0 0 0 else .teNsendw t e d a b 0 0 0
    let recv := if east then Instr.teNrecve t e d a b 0 0 0 else .teNrecvw t e d a b 0 0 0
    let goes := fun (c : Instr) (y : Engine) => ∃ s', exec c s = .next s' ∧ EngineWent s s' t e y
    let moves := fun (c : Instr) (k : Nat) (l : List (Time × W64)) (y : Engine) => Gives c s fun s' => s'.eng e = y ∧
      (∀ i, i ≠ e → s'.eng i = s.eng i) ∧ s' = { s.at t with te := { s.te with eng := s'.te.eng, fifo := Tbl.set [] s.te.fifo k l } }
    let waits := fun (op : Nat) (r : BitVec 5) => { x with blk := some { t := now, op := op, d := r, lim := s.regF 0x50000 30 16 * 32 } }
    let out := fifoKey x.tile east
    let peer := if east then x.tile + 1 else x.tile - 1
    let inp := fifoKey peer (!east)
    (x.blk = none → x.tile = (if east then 1023 else 0) → goes send ((x.after 1).setNst (if east then 3 else 2)) ∧
      goes recv (((x.after 1).setNst (if east then 1 else 0)).setReg d 0)) ∧
    (x.blk = none → x.tile ≠ (if east then 1023 else 0) →
      ((s.fifo out).length < 16 →
        moves send out (s.fifo out ++ [(now + (if peer / 32 = x.tile / 32 then 8 else 16), x.reg a)]) (x.after 1)) ∧
      (16 ≤ (s.fifo out).length → goes send (waits (if east then 2 else 1) 0)) ∧
      (∀ av v r, s.fifo inp = (av, v) :: r → (since now av < 2 ^ 63 → moves recv inp r ((x.after 1).setReg d v)) ∧
        (2 ^ 63 ≤ since now av → goes recv (waits (if east then 4 else 3) d))) ∧
      (s.fifo inp = [] → goes recv (waits (if east then 4 else 3) d))) ∧
    (∀ k, x.blk = some k → k.lim ≤ since now k.t →
      let y := { x with pc := x.pc + 1, blk := none, cyc := if x.cycOn then x.cyc + 1 + since now k.t / 2 else x.cyc }
      (k.op = 1 ∨ k.op = 2 → goes (.nbTimeout t e) (y.setNst (k.op + 1))) ∧
      (k.op = 3 ∨ k.op = 4 → goes (.nbTimeout t e) ((y.setNst (k.op - 3)).setReg k.d 0)))) ∧
  (∀ (s : State) (t : Time) (e : Nat) (d a b : BitVec 5) (fl : BitVec 2) (l : Line), EngineReady s e → (s.eng e).blk = none →
    let x := s.eng e
    let ad := (x.reg a).toNat
    let len := s.dRead x (ad + 8) 2
    let w0 := s.dRead x ad 8
    let q := x.slot b
    let ch := w0 / 2 ^ 48 % 256
    let legal := 0xD000 ≤ ad ∧ ad ≤ 0xDFFF ∧ ad % 8 = 0 ∧ 5 ≤ len ∧ len ≤ 512 ∧ ad + 8 * (len - 1) ≤ 0xE000 ∧ 1 ≤ w0 / 2 ^ 56 ∧ w0 / 2 ^ 56 ≤ 4 ∧ ch ≤ 15 ∧
      q.held = true
    let clean := ∀ i, i < len - 1 → x.dUe.contains (ad / 8 + i) = false
    let ws := fun (keep : Bool) => portRecord ((List.range (len - 1)).map fun i => BitVec.ofNat 64 (s.dRead x (ad + 8 * i) 8)) q.line x.tile l keep
    let y := x.after (2 + len / 2)
    let forms := [(Instr.teRsend t e d a b 0 0 0, false, y), (.teRsendt t e d a b 0 0 0, true, y), (.teRtry t e d a b 0 0 fl, false, y.setFlag fl true),
      (.teRtryt t e d a b 0 0 fl, true, y.setFlag fl true)]
    (¬legal → ∀ c ∈ [Instr.teRsend t e d a b 0 0 0, .teRsendt t e d a b 0 0 0, .teRtry t e d a b 0 0 fl, .teRtryt t e d a b 0 0 fl],
      exec c s = .next ((s.at t).raiseExc e 4 0 (ad % 65536))) ∧
    (legal → clean →
      (8 * len ≤ s.queueFree e → q.rev = false → q.pre = false → s.line q.line = some l → ∀ p ∈ forms,
        (s.carries ch q.line = true → s.voided q.line x.tile ch = false → Gives p.1 s fun s' =>
          s'.eng e = p.2.2 ∧ (∀ i, i ≠ e → s'.eng i = s.eng i) ∧
          Tbl.get [] s'.fab.q e = Tbl.get [] s.fab.q e ++ [(s.at t).kernelRec (ws p.2.1)] ∧
          s'.line q.line = some (if w0 / 2 ^ 56 = 3 then { l with defects := l.defects + 1 } else l) ∧
          s' = { s.at t with te := { s.te with eng := s'.te.eng }, fab := { s.fab with q := s'.fab.q, lines := s'.fab.lines } }) ∧
        (s.carries ch q.line = true → s.voided q.line x.tile ch = true → Gives p.1 s fun s' =>
          s'.eng e = p.2.2 ∧ (s'.chan ch).drop = (s.chan ch).drop + 1 ∧ s'.fab.q = s.fab.q ∧ s'.regs = s.regs) ∧
        (s.carries ch q.line = false → Gives p.1 s fun s' =>
          s'.eng e = p.2.2 ∧ (s'.chan ch).dis = (s.chan ch).dis + 1 ∧ s'.fab.q = s.fab.q ∧ s'.regs = s.regs)) ∧
      (8 * len ≤ s.queueFree e → q.rev = true ∨ q.pre = true → ∀ p ∈ forms, ∃ s', exec p.1 s = .next s' ∧ EngineWent s s' t e p.2.2) ∧
      (s.queueFree e < 8 * len →
        (∀ c ∈ [Instr.teRtry t e d a b 0 0 fl, .teRtryt t e d a b 0 0 fl],
          ∃ s', exec c s = .next s' ∧ EngineWent s s' t e ((x.after 1).setFlag fl false)) ∧
        (q.rev = false → q.pre = false → ∀ c ∈ [Instr.teRsend t e d a b 0 0 0, .teRsendt t e d a b 0 0 0],
          ∃ s', exec c s = .next s' ∧ EngineWent s s' t e { x with
            blk := some { t := (s.at t).now, op := if bit (s.chCfg (w0 / 2 ^ 48 % 16)) 30 then 0 else 5, d := 0, lim := s.regF 0x50000 30 16 * 32 } }))))

/-- R34, R191, R218, R232, R234 to R240: the stripe monitor, and the loading and starting of engines. An engine starts with its PC, registers,
flags, counters and NST cleared; after K_LIMIT restarts with no release between them it parks. That the slot parks at the K_LIMIT-th exception is
deduced, log entry 71. -/
def Obligations.EngineSupervision : Prop :=
  ∀ (s : State) (t : Time) (e : Nat), s.running = true → s.noTicks = false →
    let x := s.eng e
    let now := (s.at t).now
    let started := fun (y : Engine) => y.st = 1 ∧ y.pc = 0 ∧ y.w = [] ∧ y.f = 0 ∧ y.lc0 = 0 ∧ y.lc1 = 0 ∧ y.nst = 0 ∧ y.blk = none ∧
      y.slots = List.replicate 4 LSlot.free ∧ y.hbT = now ∧ y.hb = false
    (∀ k, x.st = 1 → x.blk = some k → 2000 ≤ since now k.t → ∃ s', exec (.blockedHeartbeat t e) s = .next s' ∧
      EngineWent s s' t e { x with hb := true, hbT := now }) ∧
    (let lim := s.regF 0x50000 15 8
     x.st = 2 →
      (lim = 0 ∨ x.kcnt < lim → Gives (.engineRestartEnd t e) s fun s' => started (s'.eng e) ∧ (s'.eng e).rst = satInc 255 x.rst ∧
        (s'.eng e).dmem = x.dmem ∧ (∀ i, i ≠ e → s'.eng i = s.eng i) ∧ s' = { s.at t with te := s'.te }) ∧
      (lim ≠ 0 → lim ≤ x.kcnt → Gives (.engineRestartEnd t e) s fun s' => (s'.eng e).st = 3 ∧ s'.host.cause.getLsbD 5 = true ∧ s'.regs = s.regs ∧
        ∀ i, i ≠ e → s'.eng i = s.eng i)) ∧
    (x.st = 0 → e % 33 = 32 → s.te.loadBusy = false → (s.stripe (e / 33)).used = true → Gives (.spareLoadEnd t e) s fun s' =>
      started (s'.eng e) ∧ (s'.eng e).swPend = true ∧ (s'.eng e).nextLine = s.tick.line.toNat ∧ (∀ i, i ≠ e → s'.eng i = s.eng i) ∧ s'.regs = s.regs) ∧
    (∀ v src, s.reaches 0x50000 = true → fld v 30 16 ≠ 0 → bit v 31 = true → Gives (.restartAll t (goodWr v src)) s fun s' =>
      s'.reg 0x50000 = v &&& 0x7FFFFF00 ∧
      ∀ i, i < 1056 → if (s.eng i).st = 3 then started (s'.eng i) ∧ (s'.eng i).kcnt = 0 else s'.eng i = s.eng i) ∧
    (∀ v src, s.reaches 0x50030 = true → bit v 31 = true → bit v 29 = false →
      (s.tick.st = 0 → bit (s.boot.permO &&& s.boot.permS) 0 = true → s.te.loadBusy = false → Gives (.teLoadGo t (goodWr v src)) s fun s' =>
        s'.te.loadBusy = true ∧ s'.te.fifo = [] ∧ (∀ i, i < 1056 → (s.eng i).st ≠ 5 → s'.eng i = (s.eng i).load) ∧ s'.regs = s.regs ∧
        (s.cal.masterCe = [] → s.cal.masterUe = [] → s' = { s.at t with te := s'.te })) ∧
      (s.tick.st = 0 → bit (s.boot.permO &&& s.boot.permS) 0 = true → s.te.loadBusy = true →
        exec (.teLoadGo t (goodWr v src)) s = .next (s.at t)) ∧
      (s.tick.st ≠ 0 ∨ bit (s.boot.permO &&& s.boot.permS) 0 = false → exec (.teLoadGo t (goodWr v src)) s = .next { s.at t with
        te := { s.te with denied := true } })) ∧
    (s.te.loadBusy = true → s.te.waitLoad = [] → Gives (.teLoadEnd t) s fun s' => s'.te.loadBusy = false ∧ s'.te.image = s.host.stImage ∧
      s'.te.params = s.host.stParams ∧ s'.host.cause.getLsbD 5 = true ∧ s'.regs = s.regs ∧
      ∀ i, i < 1056 → (s.eng i).st = 0 → i % 33 ≠ 32 → started (s'.eng i)) ∧
    (∀ v src, s.reaches 0x50028 = true → bit v 0 = true → exec (.teCyclesClear t (goodWr v src)) s = .next { s.at t with
      te := { s.te with cycMax := 0, cycSlot := 0 } }) ∧
    (s.serving x.tile = some e → s.tick.last.isSome = true → Gives (.slotReleaseDeadline t e) s fun s' =>
      (s'.eng e).slots = x.slots.map (fun q => { q with
        rev := q.rev || (q.held && s.openItem q.line x.tile && (s.line q.line).isSome && decide (q.line + 2 ≤ s.lastLine)) }) ∧
      (∀ i, i ≠ e → s'.eng i = s.eng i) ∧ (∀ n, (s.line n).isSome = true → n + 2 ≤ s.lastLine → s'.openItem n x.tile = false) ∧ s'.regs = s.regs)

/-- R268, R279, R284, R299, R300, R304: statistics, CLOSE, the deadline drop of class C records, and the bridge. The contributions of a line that
every tile has ended are combined into one record once none crosses the fabric; a CLOSE is staged once all up to its line is accounted for; class C
records past their deadline leave their queue; a whole record, but for a contribution, enters the egress buffer, LATE when a class L record was sent
past its deadline, or is discarded or lost, and counted. Occupancy of the egress buffer by record bytes is log entry 20. -/
def Obligations.RecordFlow : Prop :=
  ∀ (s : State) (t : Time), s.running = true → s.clk.gated = false → s.flt.faulted = false → s.flt.sup = none →
    let now := (s.at t).now
    (∀ n l ch, s.line n = some l → l.closed = true → ch < 16 → s.carries ch n = true → s.statCrossing ch n = false →
      (∃ c, c ∈ s.fab.contrib ∧ c.line = n) → (∀ c, c ∈ s.fab.contrib → c.line = n → c.ch = ch) → Gives (.statCombine t n) s fun s' =>
        s'.fab.contrib = s.fab.contrib.filter (fun c => c.line != n) ∧ s'.fab.comb = s.fab.comb ++ s.fab.contrib.filter (fun c => c.line == n) ∧
        (∃ r, s'.queue 1056 = s.queue 1056 ++ [r] ∧ r.ws = statRec (s.fab.contrib.filter fun c => c.line == n) ch n l ∧ r.dev = true) ∧
        s' = { s.at t with fab := s'.fab }) ∧
    (∀ ch c, s.fab.closeDue.find? (fun p => p.1 == ch) = some (ch, c) → s.onWay ch c = false → s.openUpTo ch c = false → s.clk.intr = none →
      (∀ l, s.line c = some l → 2000 ≤ since now l.t) → Gives (.close t ch) s fun s' =>
        s'.fab.closeDue = s.fab.closeDue.erase (ch, c) ∧
        (s.chanOn ch = true → (s'.chan ch).closed = some c ∧ ∃ r, s'.queue 1056 = s.queue 1056 ++ [r] ∧ r.ws = (s.at t).closeRec ch c) ∧
        (s.chanOn ch = false → s'.fab.q = s.fab.q) ∧ s'.regs = s.regs) ∧
    (∀ e, e < 1056 → (s.at t).urgentSrc e = false → Gives (.classCDrop t e) s fun s' =>
      s'.queue e = (s.queue e).filter (fun r => !(r.cls && r.sent == 0 && decide ((s.at t).left r.dl ≤ 0))) ∧
      (∀ i, i < 1056 → i ≠ e → s'.queue i = s.queue i) ∧ s'.regs = s.regs) ∧
    (∀ src sent r, s.fab.spine.find? (fun p => p.1 == src) = some (src, sent, r) → r.ue = false → recOk r.ws = true → r.dev = false →
      let ch := recCh r.ws
      let d := (r.dl - sent.setWidth 32).toInt
      (s.takes r = true → r.contrib = true → Gives (.recordReassembled t src false false) s fun s' =>
        s'.fab.spine = s.fab.spine.erase (src, sent, r) ∧ s'.fab.egress = s.fab.egress ∧ s' = { s.at t with fab := s'.fab } ∧
        s'.fab.contrib = s.fab.contrib ++ [contribOf r.ws (recLine r.ws) (s.eng src).tile]) ∧
      (s.takes r = true → r.contrib = false → Gives (.recordReassembled t src false false) s fun s' =>
        s'.fab.spine = s.fab.spine.erase (src, sent, r) ∧ (s'.chan ch).recs = (s.chan ch).recs + 1 ∧
        s'.fab.egress = s.fab.egress ++ [{ r := { r with ws := if r.cls = false ∧ d < 0 then recLate r.ws else r.ws }, src := src, t := now }] ∧
        (s'.chan ch).late = (if r.cls = false ∧ d < 0 then (s.chan ch).late + 1 else (s.chan ch).late) ∧ s' = { s.at t with fab := s'.fab }) ∧
      (s.takes r = false → Gives (.recordReassembled t src false false) s fun s' =>
        s'.fab.spine = s.fab.spine.erase (src, sent, r) ∧ (s'.chan ch).dis = (s.chan ch).dis + 1 ∧ s'.fab.egress = s.fab.egress) ∧
      (Gives (.recordReassembled t src false true) s fun s' => s'.flt.recs = s.flt.recs + 1 ∧ s'.fab.egress = s.fab.egress ∧ s'.regs = s.regs)) ∧
    (∀ ch v src, ch < 16 → s.reaches (0x101028 + 0x100 * ch) = true → bit v 0 = true → Gives (.slackClear t ch (goodWr v src)) s fun s' =>
      s'.chan ch = { s.chan ch with slack := 0x3FFFFFFF } ∧ (∀ c, c ≠ ch → s'.chan c = s.chan c) ∧ s' = { s.at t with fab := { s.fab with ch := s'.fab.ch } })

/-- R285, R286, R290 to R293: the arbitration cycle. The cycle count goes up; a lone record of the supervisor stream with credit is granted and its
flit sent into the spine. An urgent request goes before any other, then the nearer deadline, then the lower input; a losing input backs off for
2^(m-1) cycles, at most 64. -/
def Obligations.SpineArbitration : Prop :=
  ∀ (s : State) (t : Time), s.running = true → s.clk.gated = false →
    (Gives (.arbitrationCycle t) s fun s' => s'.fab.cyc = s.fab.cyc + 1 ∧ s'.regs = s.regs ∧ s'.tick = s.tick) ∧
    (∀ r, s.fab.q = [(1056, [r])] → r.sent = 0 → r.cls = false → r.bytes ≤ 64 → (s.arb 32).owner = none → (s.arb 32).formed = [0] →
      ((s.at t).urgentSrc 1056 = true ∨ Tbl.get 0 (s.arb 32).back 0 ≤ s.fab.cyc) →
      s.fillL + s.fillC < 0x100000 → (∀ k, k < 32 → (s.arb k).owner = none) → Gives (.arbitrationCycle t) s fun s' =>
        s'.fab.spine = s.fab.spine ++ [(1056, (s.at t).now, { r with sent := r.bytes, lb := r.lb + r.bytes })] ∧ s'.fab.fillL = s.fab.fillL + r.bytes ∧ s'.queue 1056 = [] ∧ (s'.arb 32).owner = some 0 ∧
        (s'.arb 32).burst = Tbl.get 0 (s.arb 32).kept 0 + 1 ∧ s'.fab.spL = s.fab.spL + 1) ∧
    (∀ a b : Req, (a.urgent = true → b.urgent = false → a.before b = true) ∧ (a.urgent = b.urgent → a.d < b.d → a.before b = true) ∧
      (a.urgent = b.urgent → a.d = b.d → a.inp < b.inp → a.before b = true) ∧ ¬(a.before b = true ∧ b.before a = true)) ∧
    (∀ (a : Arb) (c : Nat) (w r : Req), w.inp ≠ r.inp → w.before r = true →
      (a.contest c [w, r]).owner = some w.inp ∧ Tbl.get 0 (a.contest c [w, r]).m w.inp = 0 ∧
      Tbl.get 0 (a.contest c [w, r]).m r.inp = Tbl.get 0 a.m r.inp + 1 ∧
      Tbl.get 0 (a.contest c [w, r]).back r.inp = c + min 64 (2 ^ Tbl.get 0 a.m r.inp))

/-- R321, R326, R333, R334, R347, R546: the states of a ring. START of an IDLE ring with its addresses set makes it RUNNING, PRODUCED and HEAD 0; 1
us later it carries lines from the next tick on; STOP makes it STOPPING; drained, or after 1 ms, it goes IDLE. Clearing Bus Master Enable puts every
RUNNING ring into FAULT with code 5, and STOP in FAULT goes back to IDLE. That a STOPPING ring carries lines up to the last it carried is deduced,
log entry 13. -/
def Obligations.RingStates : Prop :=
  ∀ (s : State) (t : Time) (ch : Nat) (v : W32) (src : BitVec 7), s.alive = true → ch < 16 →
    let now := (s.at t).now
    let g := s.ring ch
    let w := goodWr v src
    let addrs := (s.reg (chOff ch 0x48) ≠ 0 ∨ s.reg (chOff ch 0x50) ≠ 0) ∧ (s.reg (chOff ch 0x58) ≠ 0 ∨ s.reg (chOff ch 0x60) ≠ 0)
    let rejected := fun (c : Instr) (off cause : Nat) => exec c s = .next { s.at t with
      flt := { s.flt with rej := s.flt.rej + 1, info := pack 64 [(cause, 60), (src.toNat, 53), (off % 2 ^ 22, 0)] } }
    (s.reaches (chOff ch 0x40) = true → fld v 29 26 ≤ 10 →
      (g.st = 0 → bit v 31 = true → addrs → Gives (.ringStart t ch w) s fun s' => (s'.ring ch).st = 1 ∧ (s'.ring ch).prod = 0 ∧ (s'.ring ch).head = 0 ∧
        (s'.ring ch).startT = some now ∧ (s'.ring ch).carry = false ∧ s'.reg (chOff ch 0x40) = v &&& 0x3F000000 ∧
        (s.host.bme = true → .memWr (s.cwb ch) (bytesLE 8 (pack 64 [((g.tag + 1).toNat, 56), (3, 54), (1, 51)])) false ∈ s'.out) ∧ ∀ c, c ≠ ch → s'.ring c = s.ring c) ∧
      (g.st = 0 → bit v 31 = true → ¬addrs → rejected (.ringStart t ch w) (chOff ch 0x40) 3) ∧
      (g.st = 1 → bit v 31 = false → bit v 30 = true → fld v 29 26 = s.regF (chOff ch 0x40) 29 26 → Gives (.ringStop t ch w) s fun s' =>
        (s'.ring ch).st = 2 ∧ (s'.ring ch).stop = some (now, s.tick.line.toNat) ∧ ∀ c, c ≠ ch → s'.ring c = s.ring c) ∧
      (g.st = 3 → bit v 31 = false → bit v 30 = true → fld v 29 26 = s.regF (chOff ch 0x40) 29 26 → Gives (.ringStop t ch w) s fun s' =>
        s'.ring ch = { g with st := 0 }) ∧
      (g.st ≠ 0 → fld v 29 26 ≠ s.regF (chOff ch 0x40) 29 26 → rejected (.ringStop t ch w) (chOff ch 0x40) 4)) ∧
    (∀ x, g.startT = some x → 2000 ≤ since now x → (s.at t).settled = true → Gives (.ringStartEffect t ch) s fun s' => (s'.ring ch).carry = true ∧
      (s'.ring ch).startLine = s.tick.line.toNat ∧ (s'.ring ch).startT = none ∧ (s'.ring ch).st = g.st ∧ (∀ c, c ≠ ch → s'.ring c = s.ring c)) ∧
    (∀ x l, g.stop = some (x, l) → g.st = 2 →
      (s.noTicks = false → g.carry = false ∨ l ≤ g.startLine → Gives (.stoppingDrained t ch) s fun s' => (s'.ring ch).st = 0 ∧
        (s'.ring ch).stop = none ∧ (s'.ring ch).carry = false ∧ s'.regs = s.regs) ∧
      (2000000 ≤ since now x → Gives (.stoppingTimeout t ch) s fun s' => (s'.ring ch).st = 0 ∧ (s'.ring ch).stop = none ∧
        (s'.chan ch).dis = (s.chan ch).dis + BitVec.ofNat 16 (s.fab.egress.filter fun r => recCh r.r.ws == ch).length ∧
        s'.fab.egress = s.fab.egress.filter (fun r => recCh r.r.ws != ch) ∧ s'.regs = s.regs)) ∧
    (s.reaches (chOff ch 0x68) = true →
      ((fld v 15 0 + 65536 - g.head) % 65536 ≤ s.entries ch - 1 → Gives (.tailWrite t ch w) s fun s' =>
        s'.reg (chOff ch 0x68) = v &&& 0xFFFF ∧ (∀ o, o ≠ chOff ch 0x68 → s'.reg o = s.reg o) ∧ ∀ c, c ≠ ch → s'.ring c = s.ring c) ∧
      (s.entries ch - 1 < (fld v 15 0 + 65536 - g.head) % 65536 → rejected (.tailWrite t ch w) (chOff ch 0x68) 3)) ∧
    (Gives (.busMasterDisable t) s fun s' => s'.host.bme = false ∧ s'.regs = s.regs ∧
      (g.st = 1 → (s'.ring ch).st = 3 ∧ (s'.ring ch).fault = 5) ∧ (g.st ≠ 1 → s'.ring ch = g))

/-- R307, R311, R319, R320, R322 to R331: what goes through a ring. Descriptors are taken or put the ring into FAULT (1 timeout twice, 2 completion
error, 3 or 4 a bad descriptor), timeouts and poison being reported through AER; a record that fits goes into the current buffer in whole 64-byte
blocks, in writes of at most Max Payload Size that cross no 4 KiB boundary; a completion word reports what has been produced; a class C record that
has waited its grace on a starved ring is dropped and counted. -/
def Obligations.RingStream : Prop :=
  ∀ (s : State) (t : Time) (ch : Nat), s.alive = true → ch < 16 →
    let now := (s.at t).now
    let g := s.ring ch
    (∀ x n again, g.inFl = some (x, n, again) → g.st = 1 →
      (∀ p, Gives (.descriptorFetchDone t ch (.error p)) s fun s' => (s'.ring ch).st = 3 ∧ (s'.ring ch).fault = 2 ∧
        (p = true → s'.host.aerU.getLsbD 12 = true)) ∧
      (again = true → Gives (.descriptorFetchDone t ch .timeout) s fun s' => (s'.ring ch).st = 3 ∧ (s'.ring ch).fault = 1 ∧
        s'.host.aerU.getLsbD 14 = true) ∧
      (again = false → Gives (.descriptorFetchDone t ch .timeout) s fun s' => s'.ring ch = { g with inFl := some (x, n, true) } ∧
        s'.host.aerU.getLsbD 14 = true ∧
        s'.out = .memRd (s.descAddr ch x) (16 * n) :: (if s.host.aerUM.getLsbD 14 then s.out else .aer 14 :: s.out)) ∧
      (∀ ws code, checkDescs (ws.take n) = .inl code → Gives (.descriptorFetchDone t ch (.data ws)) s fun s' =>
        (s'.ring ch).st = 3 ∧ (s'.ring ch).fault = code) ∧
      (∀ ws ds, checkDescs (ws.take n) = .inr ds → Gives (.descriptorFetchDone t ch (.data ws)) s fun s' =>
        (s'.ring ch).desc = g.desc ++ ds ∧ (s'.ring ch).fetch = (g.fetch + ds.length) % 65536 ∧ (s'.ring ch).st = 1 ∧ s'.regs = s.regs)) ∧
    (∀ (w0 w1 : W64), checkDescs [(w0, w1)] = if fld w0 11 0 ≠ 0 then .inl 3
      else if fld w1 63 32 ≠ 0 ∨ fld w1 31 0 % 4096 ≠ 0 ∨ fld w1 31 0 < 4096 ∨ 16777216 < fld w1 31 0 then .inl 4 else .inr [(w0, fld w1 31 0)]) ∧
    (∀ r a len ds, s.nextOut ch = some r → s.host.bme = true → s.clk.gated = false → g.desc = (a, len) :: ds →
      (∀ c q, c < 16 → s.nextOut c = some q → (s.at t).before q r = false) → g.used ≤ len →
      let b := 8 * r.r.ws.length
      let all := g.part ++ r.r.ws
      b = len - g.used ∨ b + 40 ≤ len - g.used → Gives (.egressWrite t ch false) s fun s' =>
        (s'.ring ch).prod = g.prod + b ∧ (s'.ring ch).part = all.drop (all.length / 8 * 8) ∧ s'.fab.egress = s.fab.egress.erase r ∧
        (let bs := wordsLE (all.take (all.length / 8 * 8))
         let adr := a + BitVec.ofNat 64 (g.used - 8 * g.part.length)
         8 ≤ all.length → bs.length ≤ s.maxPayload → adr.toNat % 4096 + bs.length ≤ 4096 → .memWr adr bs (s.relaxed ch) ∈ s'.out) ∧
        (∀ o, o ∈ s'.out.take (s'.out.length - s.out.length) → ∀ p ∈ o.writes,
          p.2.1.length ≤ s.maxPayload ∧ p.1.toNat % 4096 + p.2.1.length ≤ 4096 ∧ p.2.2 = s.relaxed ch) ∧
        (len ≤ g.used + b → (s'.ring ch).head = (g.head + 1) % 65536 ∧ (s'.ring ch).used = 0 ∧ (s'.ring ch).wbDue = true) ∧ s'.regs = s.regs) ∧
    (g.st = 1 ∨ g.st = 2 → s.host.bme = true → (s.at t).wbReady ch = true → g.desc = [] → Gives (.writeback t ch) s fun s' =>
      (s'.ring ch).tag = g.tag + 1 ∧ (s'.ring ch).rep = g.prod ∧ (s'.ring ch).wbDue = false ∧ (s'.ring ch).oldest = none ∧
      .memWr (s.cwb ch) (bytesLE 8 (pack 64 [((g.tag + 1).toNat, 56), (3, 54), (g.st, 51), (g.prod % 2 ^ 48, 0)])) false ∈ s'.out ∧ s'.regs = s.regs) ∧
    (∀ x, g.irqT = some x → g.irqHeld = true → s.holdoff ch ≤ since now x → Gives (.irqHoldoffEnd t ch) s fun s' =>
      s'.ring ch = { g with
        irqHeld := false
        irqT := if s.host.msixEn = true ∧ s.host.bme = true ∧ s.host.fnMask = false ∧ (Tbl.get Msix.masked s.host.msix ch).mask = false then some now
          else g.irqT } ∧
      s'.regs = s.regs) ∧
    (∀ r, s.fab.egress.find? (fun r => recCh r.r.ws == ch && r.r.cls && !r.r.dev) = some r → g.st = 1 ∨ g.st = 2 → s.starved ch = true →
      2000 * s.regF 0x104000 31 24 ≤ since now r.t → Gives (.starvedDrop t ch) s fun s' =>
        s'.fab.egress = s.fab.egress.erase r ∧ s'.ring ch = { g with noDesc := g.noDesc + 1 } ∧ s'.regs = s.regs)

/-- R307 to R309, R342 to R344: resets of the function. FLR, hot reset, link-down and PERST_N stop every ring without a completion word, reset the
function's registers, the MSI-X state and configuration space but for the sticky AER words and, at an FLR, link control, leave every other register
as it is, release a lock of the local function, and are counted. PERST_N resets the sticky words too. D3hot stops the rings. -/
def Obligations.FunctionResets : Prop :=
  ∀ (s : State) (t : Time), s.alive = true →
    let sticky := fun (h : HostLink) => (h.aerU, h.aerUM, h.aerUS, h.aerC, h.aerCM)
    let reset := fun (s' : State) => (∀ ch, s'.ring ch = Ring.fresh) ∧ (∀ o ∈ fnRegs, s'.reg o = regReset o) ∧ (∀ o, o ∉ fnRegs → s'.reg o = s.reg o) ∧
      s'.host.memEn = false ∧ s'.host.bme = false ∧ s'.host.msixEn = false ∧ s'.host.fnMask = false ∧ s'.host.devCtl = 0x2010 ∧ s'.host.d3 = false ∧
      s'.host.cause = 0 ∧ s'.host.pba = 0 ∧ s'.host.msix = [] ∧
      (s.seq.held = true → bit s.seq.src 6 = false → s'.seq.held = false) ∧ (bit s.seq.src 6 = true → s'.seq = s.seq) ∧
      s'.tick = s.tick ∧ s'.te = s.te ∧ s'.boot = s.boot
    (Gives (.flr t) s fun s' => reset s' ∧ s'.host.flr = s.host.flr + 1 ∧ s'.host.flrBusy = true ∧ s'.host.linkCtl = s.host.linkCtl ∧
      sticky s'.host = sticky s.host) ∧
    (Gives (.hotReset t) s fun s' => reset s' ∧ s'.host.hot = s.host.hot + 1 ∧ s'.host.flrBusy = false ∧ s'.host.linkCtl = 0 ∧
      sticky s'.host = sticky s.host) ∧
    (Gives (.linkDown t) s fun s' => reset s' ∧ s'.host.down = s.host.down + 1 ∧ s'.host.dlUp = false ∧ s'.host.linkCtl = 0 ∧
      sticky s'.host = sticky s.host) ∧
    (s.host.perst = false → Gives (.pciePerstN t) s fun s' => reset s' ∧ s'.host.perstN = s.host.perstN + 1 ∧ s'.host.perst = true ∧
      s'.host.ready = false ∧ s'.host.linkCtl = 0 ∧ sticky s'.host = sticky HostLink.reset) ∧
    (s.host.perst = true → exec (.pciePerstNRelease t) s = .next { s.at t with host := { s.host with perst := false, ready := false, relT := (s.at t).now } }) ∧
    (exec (.flrComplete t) s = .next { s.at t with host := { s.host with flrBusy := false } }) ∧
    (s.host.d3 = false → Gives (.d3hotEntry t) s fun s' => s'.host.d3 = true ∧ (∀ ch, ch < 16 → (s'.ring ch).st = 0 ∧ (s'.ring ch).carry = false) ∧
      s'.regs = s.regs ∧ s'.seq = s.seq) ∧
    (∀ sp wd fl, s.host.perst = false → 1 ≤ sp → sp ≤ 6 → wd ∈ [1, 2, 4, 8, 16] → (sp = 6 → fl = true) →
      exec (.linkUp t sp wd fl) s = .next { s.at t with host := { s.host with dlUp := true, flit := fl, speed := sp, width := wd } })

/-- R309 to R316, R329, R343: configuration requests, reads longer than a register, BAR2 writes. A request is answered with Request Retry Status
while an FLR runs, and served once the device is ready: the enables of the Command register and of MSI-X, the AER status cleared by writing 1, and
the initiation of an FLR; a BAR2 write reaches a staging region byte by byte; a masked MSI-X vector sets its PBA bit. That BAR2 writes before RUN
are discarded is deduced, log entry 30. -/
def Obligations.HostRequests : Prop :=
  ∀ (s : State) (t : Time), s.alive = true →
    let unsupported := fun (c : Instr) => exec c s = .next { s.at t with
      host := { s.host with aerU := s.host.aerU ||| 0x00100000 }, out := if s.host.aerUM.getLsbD 20 then s.out else .aer 20 :: s.out }
    (s.host.perst = false →
      (∀ req, s.host.flrBusy = true → exec (.configRequest t req) s = .next { s.at t with out := .cfg 1 0 :: s.out }) ∧
      (s.host.flrBusy = false → s.host.ready = true ∨ 200000000 ≤ since (s.at t).now s.host.relT →
        (exec (.configRequest t (.read 0)) s = .next { s.at t with
          out := .cfg 0 0x32041F5C :: s.out, host := { s.host with ready := true }, free := s.free + 1 }) ∧
        (∃ v, exec (.configRequest t (.read 4)) s = .next { s.at t with
          out := .cfg 0 v :: s.out, host := { s.host with ready := true }, free := s.free + 1 } ∧ bit v 1 = s.host.memEn ∧ bit v 2 = s.host.bme) ∧
        (∀ v, Gives (.configRequest t (.write 4 0xF v)) s fun s' => s'.host.memEn = bit v 1 ∧ s'.host.bme = bit v 2 ∧ s'.regs = s.regs) ∧
        (∀ v, Gives (.configRequest t (.write 0x50 0xF v)) s fun s' => s'.host.msixEn = bit v 31 ∧ s'.host.fnMask = bit v 30 ∧ s'.regs = s.regs) ∧
        (∀ v, Gives (.configRequest t (.write 0x78 0xF v)) s fun s' =>
          if bit v 15 then s'.host.flrBusy = true ∧ s'.host.flr = s.host.flr + 1 ∧ s'.host.devCtl = 0x2010
          else s'.host.devCtl = v.setWidth 16 ∧ s'.host.flr = s.host.flr) ∧
        (∀ v, exec (.configRequest t (.write 0x104 0xF v)) s = .next { s.at t with
          out := .cfg 0 0 :: s.out, host := { s.host with ready := true, aerU := s.host.aerU &&& ~~~v } }))) ∧
    (∀ off nb, 8 < off % 8 + nb →
      (s.host.memEn = true → exec (.bar0OverlongRead t off nb) s = .next { s.at t with
        host := { s.host with aerU := s.host.aerU ||| 0x8000 },
        out := if s.host.aerUM.getLsbD 15 then .rdAbort off :: s.out else .aer 15 :: .rdAbort off :: s.out }) ∧
      (s.host.memEn = false → unsupported (.bar0OverlongRead t off nb))) ∧
    (∀ off nb v, s.host.memEn = true → s.running = true → s.te.loadBusy = false → nb ≤ 8 →
      (0x2104000 ≤ off → off + nb ≤ 0x2105000 → Gives (.bar2Write t off nb v) s fun s' =>
        (∀ i, i < nb → Tbl.get 0 s'.host.stParams (off - 0x2104000 + i) = v.extractLsb' (8 * i) 8) ∧
        (∀ a, a < off - 0x2104000 ∨ off - 0x2104000 + nb ≤ a → Tbl.get 0 s'.host.stParams a = Tbl.get 0 s.host.stParams a) ∧
        s' = { s.at t with host := { s.host with stParams := s'.host.stParams } }) ∧
      (0x2100000 ≤ off → off + 4 ≤ 0x2103C00 → off % 4 = 0 → nb = 4 → Gives (.bar2Write t off nb v) s fun s' =>
        Tbl.get 0 s'.host.stImage ((off - 0x2100000) / 4) = v.setWidth 32 ∧
        (∀ k, k ≠ (off - 0x2100000) / 4 → Tbl.get 0 s'.host.stImage k = Tbl.get 0 s.host.stImage k) ∧
        s' = { s.at t with host := { s.host with stImage := s'.host.stImage } })) ∧
    (∀ off nb v,
      (s.host.memEn = true → s.running = false ∨ s.te.loadBusy = true → Gives (.bar2Write t off nb v) s fun s' =>
        s'.flt.rej = s.flt.rej + 1 ∧ s'.host = s.host) ∧
      (s.host.memEn = false → unsupported (.bar2Write t off nb v))) ∧
    (∀ vec m, s.host.bme = true → s.host.msixEn = true → Tbl.get Msix.masked s.host.msix vec = m →
      (m.mask = true ∨ s.host.fnMask = true → s.msix vec = { s with host := { s.host with pba := s.host.pba ||| (1#64 <<< vec) } }) ∧
      (m.mask = false → s.host.fnMask = false →
        (s.msix vec).out = .msix vec m.addr m.data :: s.out ∧ (s.msix vec).host.pba = s.host.pba ∧
        (vec < 16 → ((s.msix vec).ring vec).irqT = some s.now) ∧ (16 ≤ vec → s.msix vec = { s with out := .msix vec m.addr m.data :: s.out })))

/-- R351 to R354, R547: the references. A reference in use that goes absent makes the next of the order take its place, a counted failover; without
one the domains stay gated until a source is present; an interruption goes on where its reference is lost again; a relock that takes 20 us goes on
to the next source; a change of CLK_REF.SRC, or REVERT, relocks to the primary. More than 300 ppm between LREF and REFCLK_PCIE/4 blocks failover to
it. That the first present source follows the last is deduced, log entry 26. -/
def Obligations.ReferenceSources : Prop :=
  ∀ (s : State) (t : Time) (r : BitVec 2) (v : W32) (src : BitVec 7), s.alive = true →
    let now := (s.at t).now
    let c := s.clk
    (r ≠ 3 → bit c.absent r.toNat = false → c.ref ≠ r.toNat → exec (.refAbsent t r) s = .next { s.at t with
      clk := { c with absent := c.absent ||| (1#3 <<< r.toNat) } }) ∧
    (r ≠ 3 → bit c.absent r.toNat = false → c.ref = r.toNat → c.cLock = true → Gives (.refAbsent t r) s fun s' =>
      s'.clk.gated = true ∧ s'.clk.cLock = false ∧ s'.clk.intr = some (c.intr.getD now) ∧ bit s'.clk.absent r.toNat = true ∧ s'.clk.ref ≠ r.toNat ∧
      s'.clk.fN = (if s'.clk.ref = 3 then c.fN else c.fN + 1) ∧ s'.clk.intrCause = (if s'.clk.ref = 3 then 4 else 2) ∧ s'.host.cause.getLsbD 6 = true ∧
      s'.regs = s.regs) ∧
    (∀ x, c.intr = some x → r ≠ 3 → bit c.absent r.toNat = false → c.ref = r.toNat → c.cLock = false → Gives (.refAbsent t r) s fun s' =>
      s'.clk.ref ≠ r.toNat ∧ s'.clk.relockT = now ∧ s'.clk.intr = some x ∧ s'.clk.gated = c.gated ∧
      s'.clk.fN = (if s'.clk.ref = 3 ∨ c.again = true then c.fN else c.fN + 1) ∧ s'.clk.intrCause = (if s'.clk.ref = 3 then 4 else 2) ∧ s'.regs = s.regs) ∧
    (r ≠ 3 → bit c.absent r.toNat = true → c.gated = false ∨ c.ref ≠ 3 → exec (.refPresent t r) s = .next { s.at t with
      clk := { c with absent := c.absent &&& ~~~(1#3 <<< r.toNat) } }) ∧
    (bit c.absent 0 = true → bit c.absent 1 = true → bit c.absent 2 = true → c.gated = true → c.ref = 3 →
      exec (.refPresent t 0) s = .next { s.at t with
        clk := { c with absent := c.absent &&& ~~~1#3, ref := 0, relockT := now } }) ∧
    (∀ ppm : Int, bit c.absent 0 = false → bit c.absent 2 = false → -32768 ≤ ppm → ppm ≤ 32767 → exec (.refMonitorMeasure t ppm) s =
      .next { s.at t with clk := { c with ppm := BitVec.ofInt 16 ppm, foBlk := decide (300 < ppm.natAbs) } }) ∧
    (c.gated = true → c.ref ≠ 3 → 40000 ≤ since now c.relockT →
      (s.refAfter c.ref ≠ 3 → c.again = false → Gives (.relockTimeout t) s fun s' => s'.clk = { c with
        fN := c.fN + 1, intrCause := 2, ref := s.refAfter c.ref, relockT := now } ∧ s'.host.cause.getLsbD 6 = true) ∧
      (s.refAfter c.ref = 3 → s.refFirst ≠ 3 → exec (.relockTimeout t) s = .next { s.at t with
        clk := { c with again := true, ref := s.refFirst, relockT := now } }) ∧
      (s.refAfter c.ref ≠ 3 → c.again = true → exec (.relockTimeout t) s = .next { s.at t with clk := { c with ref := s.refAfter c.ref, relockT := now } })) ∧
    (∀ i ∈ [Instr.clkRefSrcWrite t (goodWr v src), .revert t (goodWr v src)], s.reaches 0x180008 = true →
      (fld v 31 31 = 1 → s.hng.up.st = 0 ∨ s.hng.up.st = 1 → exec i s = .next { s.at t with
        flt := { s.flt with rej := s.flt.rej + 1, info := pack 64 [(3, 60), (src.toNat, 53), (0x180008, 0)] } }) ∧
      (fld v 31 31 = 0 → bit v 29 = true → bit c.absent 0 = true → exec i s = .next { s.at t with
        flt := { s.flt with rej := s.flt.rej + 1, info := pack 64 [(4, 60), (src.toNat, 53), (0x180008, 0)] } }) ∧
      (fld v 31 31 = 0 → bit v 29 = true ∨ s.primary = 1 → bit c.absent 0 = false → c.ref ≠ 0 → c.cLock = true →
        Gives i s fun s' => s'.reg 0x180008 = v &&& 0xC0000000 ∧ s'.clk.gated = true ∧ s'.clk.ref = 0 ∧ s'.clk.intrCause = 3 ∧
          s'.clk.intr = some (c.intr.getD now)) ∧
      (∀ x, c.intr = some x → fld v 31 31 = 0 → bit v 29 = true ∨ s.primary = 1 → bit c.absent 0 = false → c.ref ≠ 0 → c.cLock = false →
        Gives i s fun s' => s'.reg 0x180008 = v &&& 0xC0000000 ∧ s'.clk = { c with ref := 0, intrCause := 3, relockT := now }) ∧
      (fld v 31 31 = 0 → c.ref = 0 → c.gated = false → bit v 29 = false ∨ bit c.absent 0 = false → Gives i s fun s' => s'.reg 0x180008 = v &&& 0xC0000000 ∧ s'.clk = c))

/-- R54, R356 to R363: an interruption of the CPLL gates its domains, revokes the slots held and is counted; the lock ungates them and pulses the
drain gates, the end arms the tick generator again with 64 flushed lines and lets the engines go on; 40 us make it long; an access that has waited
45 us is answered 0 or rejected. The APLL likewise; after it the encoder position is suspect. Rests on the readings of log entries 24 and 27. -/
def Obligations.ClockInterruptions : Prop :=
  ∀ (s : State) (t left lp : Time), s.alive = true →
    let now := (s.at t).now
    let c := s.clk
    (c.cLock = true → c.ref ≠ 3 → Gives (.cpllLossOfLock t ⟨left, lp⟩) s fun s' => s'.clk.gated = true ∧ s'.clk.cLock = false ∧
      s'.clk.intr = some (c.intr.getD (if since now left ≤ 4000 then left else now)) ∧ s'.clk.intrCause = 1 ∧ s'.clk.cN = c.cN + 1 ∧ s'.clk.ref = c.ref ∧ s'.tick.held = none ∧ s'.host.cause.getLsbD 6 = true ∧
      (∀ e, (s'.eng e).slots = (s.eng e).slots.map fun q => { q with rev := q.rev || q.held }) ∧ s'.tick.line = s.tick.line ∧ s'.regs = s.regs) ∧
    (c.gated = true → c.ref ≠ 3 → s.th.shut = 0 → c.wait = [] → Gives (.cpllLock t) s fun s' => s'.clk = { c with cLock := true, gated := false } ∧
      .drain now ∈ s'.out ∧ s'.pix = { s.pix.emptied s.tick.dir (now + 4000) with drainT := some (now + 4000) } ∧ s'.host.cause.getLsbD 6 = true ∧ s'.regs = s.regs) ∧
    (∀ x, c.intr = some x → c.gated = false → Gives (.interruptionEnd t) s fun s' =>
      s'.clk.intr = none ∧ s'.clk.lastInv = some (x, now) ∧ s'.clk.lastRef = none ∧ s'.clk.liCause = c.intrCause ∧
      s'.clk.liLen = min 65535 (since now x / 2 / 100) ∧ s'.tick.flushed = 64 ∧ s'.tick.idleBase = now ∧ s'.tick.line = s.tick.line ∧ s'.regs = s.regs ∧
      ∀ e, s'.eng e = { s.eng e with
        blk := (s.eng e).blk.map fun b => { b with t := b.t + (now - c.stopT) }, hbT := if (s.eng e).st = 1 then now else (s.eng e).hbT }) ∧
    (c.gated = true → exec (.interruptionEnd t) s = .next (s.at t)) ∧
    (∀ x, c.intr = some x → 80000 < since now x → Gives (.interruptionLong t) s fun s' => s'.flt.long = true ∧ s'.clk = c ∧ s'.regs = s.regs) ∧
    (∀ x r, c.wait = x :: r → 90000 ≤ since now x.t →
      (∀ w, x.w = some w → exec (.gatedAccessTimeout t) s = .next { s.at t with
        clk := { c with wait := r },
        flt := { s.flt with rej := s.flt.rej + 1, info := pack 64 [(4, 60), (w.src.toNat, 53), (x.off % 2 ^ 22, 0)] } }) ∧
      (x.w = none → x.rem = none → exec (.gatedAccessTimeout t) s = .next { s.at t with
        clk := { c with wait := r }
        out := (if x.bar2 then .rdBar2 x.off (List.replicate x.nb 0) false else .rdData x.off x.nb 0) :: s.out }) ∧
      (∀ q n, x.w = none → x.rem = some (q, n) → exec (.gatedAccessTimeout t) s = .next (({ s.at t with
        clk := { c with wait := r } }).sendTo q 0x0A n 0))) ∧
    (∀ x r, c.wait = x :: r → since now x.t < 90000 → exec (.gatedAccessTimeout t) s = .next (s.at t)) ∧
    (c.aLock = true → c.aGated = none → Gives (.apllLossOfLock t) s fun s' => s'.clk = { c with
      aLock := false, aGated := some now, aN := c.aN + 1, liTime := now } ∧ s'.host.cause.getLsbD 6 = true ∧ s'.regs = s.regs) ∧
    (∀ x, c.aGated = some x → c.wait = [] → Gives (.apllLock t) s fun s' => s'.clk = { c with
      aLock := true, aGated := none, encSus := true, liLen := min 65535 (since now x / 2 / 100), liCause := 5 } ∧
      s'.host.cause.getLsbD 6 = true ∧ s'.regs = s.regs)

/-- R47, R52, R346, R366 to R370: the line PLL. Acquisition takes two periods within 2 % to choose its band, four good ones to lock, and starts
again at one outside; a locked LPLL follows the period; a step beyond 2 %, or a lost reference, puts the tick generator into HOLDOVER, or LOCKING
with LINES = 0. A lock starts RUNNING with 64 flushed lines, or the direction flush that was abandoned. Losing and regaining the lock raise vector
22. Rests on the readings of log entries 24 and 25. -/
def Obligations.LinePll : Prop :=
  ∀ (s : State) (t stamp x : Time) (r : List (Option Time)), s.running = true → s.noTicks = false →
    let now := (s.at t).now
    let c := s.clk
    let T := since stamp x
    let seen := { c with refQ := r, lastRef := some stamp, period := T % 2 ^ 32 }
    (c.refQ = none :: r → exec (.lineReference t) s = .next { s.at t with clk := { c with refQ := r } }) ∧
    (c.refQ = some stamp :: r → c.lastRef = some x → T ≠ 0 → ¬(s.tick.st = 4 ∧ c.lpll = 4) →
      (c.lpll = 1 →
        (∀ b, c.t0 = 0 → c.prev ≠ 0 → off2 T c.prev = false → s.selBand T = some b → exec (.lineReference t) s = .next { s.at t with
          clk := { seen with t0 := T, prev := T, tickT := T, good := 0, band := b, noBand := false } }) ∧
        (c.t0 ≠ 0 → off2 T c.t0 = false → exec (.lineReference t) s = .next { s.at t with
          clk := { seen with good := min 4 (c.good + 1), prev := T, tickT := T } }) ∧
        (c.t0 ≠ 0 → off2 T c.t0 = true → exec (.lineReference t) s = .next { s.at t with clk := { seen with t0 := 0, prev := 0, good := 0 } })) ∧
      (c.lpll = 2 →
        (off2 T c.prev = false → s.bandExit T = false → s.capT ≤ T → Gives (.lineReference t) s fun s' =>
          s'.clk = { seen with lpll := 2, tickT := T, prev := T, phErr := s'.clk.phErr, pullin := s'.clk.pullin } ∧ s'.tick = s.tick) ∧
        (off2 T c.prev = true → s.tick.st = 2 → s.tick.hold = false → Gives (.lineReference t) s fun s' => s'.regs = s.regs ∧
          s'.host.cause.getLsbD 6 = true ∧
          (s.regF 0x10020 15 0 ≠ 0 → s'.clk.lpll = 4 ∧ s'.tick.st = 3 ∧ s'.tick.hold = true ∧ s'.tick.holdN = 0) ∧
          (s.regF 0x10020 15 0 = 0 → s'.clk.lpll = 1 ∧ s'.tick.st = 1 ∧ s'.tick.hold = false))) ∧
      (c.lpll = 4 →
        (off2 T c.tickT = true → exec (.lineReference t) s = .next { s.at t with clk := seen }) ∧
        (off2 T c.tickT = false → s.bandExit T = false → s.tick.st = 3 → Gives (.lineReference t) s fun s' => s'.tick.st = 2 ∧ s'.tick.hold = false ∧
          s'.tick.holdN = 0 ∧ s'.clk.lpll = (if T < s.capT then 3 else 2) ∧ s'.host.cause.getLsbD 6 = true ∧ s'.regs = s.regs))) ∧
    (c.lpll = 2 → c.lastRef = some x → c.prev ≠ 0 → s.tick.st = 2 → s.tick.hold = false → s.regF 0x10020 15 0 ≠ 0 →
      (5 * c.prev + (if s.tckSrc = 0 then 0 else 320 * c.refHops) ≤ 4 * since now x → Gives (.referenceLoss t) s fun s' => s'.clk = { c with lpll := 4, pullin := false } ∧
        s'.tick = { s.tick with st := 3, hold := true, holdN := 0 } ∧ s'.host.cause.getLsbD 0 = true ∧ s'.host.cause.getLsbD 6 = true) ∧
      (4 * since now x < 5 * c.prev + (if s.tckSrc = 0 then 0 else 320 * c.refHops) → exec (.referenceLoss t) s = .next (s.at t))) ∧
    (c.lpll = 1 → 4 ≤ c.good → s.tick.st = 1 → Gives (.lpllLock t) s fun s' => s'.clk.lpll = (if c.prev < s.capT then 3 else 2) ∧
      s'.clk.acq = c.acq + 1 ∧ s'.host.cause.getLsbD 0 = true ∧ s'.host.cause.getLsbD 6 = true ∧ s'.regs = s.regs ∧
      (s.tick.flushAb = true → s'.tick.st = 5 ∧ s'.tick.flush = 64 ∧ s'.tick.flushAb = false) ∧
      (s.tick.flushAb = false → s'.tick.st = 2 ∧ s'.tick.flushed = 64))

/-- R372 to R376: ASYNC and CLKOUT. An armed edge in STOPPED or IDLE resets the dividers 8 ns and COMP after it, at most 0.5 ns later (which VCO
edge is free, log entry 3), and disarms; any other is counted. FIRE in OUT_MODE 2 drives a pulse that acts as an edge. A CLKOUT divider that would
exceed 250 MHz is rejected. -/
def Obligations.AsyncAndClkout : Prop :=
  ∀ (s : State) (t : Time) (v : W32) (src : BitVec 7) (j : Nat), s.running = true →
    let now := (s.at t).now
    let w := goodWr v src
    let ready := s.tick.st = 0 ∨ s.tick.st = 4
    let rejected := fun (c : Instr) (off : Nat) => exec c s = .next { s.at t with
      flt := { s.flt with rej := s.flt.rej + 1, info := pack 64 [(3, 60), (src.toNat, 53), (off, 0)] } }
    (s.regF 0x180040 31 31 = 1 → ready → s.noTicks = false → Gives (.asyncEdge t) s fun s' => s'.clk.asDone = true ∧
      since s'.clk.asT (now + BitVec.ofNat 64 (16 + s.regF 0x180040 26 16)) ≤ 1 ∧ s'.regF 0x180040 31 31 = 0 ∧ s'.clk.asIgn = s.clk.asIgn ∧
      (s.regF 0x180040 29 28 = 1 → s'.out = .async now :: s.out) ∧ (∀ o, o ≠ 0x180040 → s'.reg o = s.reg o) ∧ s'.tick = s.tick) ∧
    (s.regF 0x180040 29 28 ≠ 1 → s.regF 0x180040 31 31 = 0 ∨ ¬ready ∨ s.noTicks = true → exec (.asyncEdge t) s = .next { s.at t with
      clk := { s.clk with asIgn := s.clk.asIgn + 1 } }) ∧
    (s.reaches 0x180040 = true → fld v 29 28 = 3 → rejected (.fire t w) 0x180040) ∧
    (s.reaches 0x180040 = true → fld v 29 28 = 2 → bit v 30 = true → Gives (.fire t w) s fun s' => s'.out = .async now :: s.out ∧ (∀ o, o ≠ 0x180040 → s'.reg o = s.reg o) ∧
      (fld v 31 31 = 1 → ready → s.noTicks = false → s'.clk.asDone = true ∧ s'.reg 0x180040 = v &&& 0x37FF0000) ∧
      (fld v 31 31 = 0 → s'.clk.asIgn = s.clk.asIgn + 1 ∧ s'.reg 0x180040 = v &&& 0xB7FF0000)) ∧
    (let off := 0x180050 + 8 * j
     let bad := fld v 30 29 = 3 ∨ fld v 28 13 = 0 ∨ 250000000 * fld v 28 13 < s.clkSrcHz (fld v 30 29)
     j < 2 → s.reaches off = true →
      (bad → rejected (.clkOutWrite t j w) off) ∧
      (¬bad → Gives (.clkOutWrite t j w) s fun s' => s'.reg off = v &&& 0xFFFFE000 ∧ s'.out = .clkout j v :: s.out ∧
        (∀ o, o ≠ off → s'.reg o = s.reg o) ∧ s' = { s.at t with regs := s'.regs, flt := s'.flt, out := s'.out }))

/-- R496 to R502, R506, R507: a thermal sample. A sensor that fails its checks is substituted, one that passes them and is not substituted is its
own effective reading; T_c is the highest effective reading of the active sensors; two samples in a row at the shutdown limit shut the device down.
The throttle step in force does not change at a sample. R500, R502, R507 to R513: the thermal registers, the shutdown, and the rearm. 1 ms after the
decision the rings stop and the clocks are gated; once its record is in flash the device power-gates and pulls SHDN_N low. TH_ACK and the TH_MAX
clear act at once; an illegal TH_CTL is rejected; REARM needs the device cool, and ends when its record is in flash. Rests on the readings of log
entries 38 to 40. -/
def Obligations.Thermal : Prop :=
  (∀ (s : State) (t : Time) (rs : List Reading), s.alive = true → s.clk.aGated = none → s.th.shut = 0 → s.senActive 34 = true →
    let rd := fun (i : Nat) => rs.getD i { v := 0, c := 0 }
    let cause := fun (i : Nat) => ((s.at t).senCauses rd).getD i 0
    Gives (.thermalSample t rs) s fun s' =>
      (∀ i, i < 40 → s.senActive i = true → cause i ≠ 0 → (s'.sen i).sub = true ∧ (s'.sen i).cause = cause i ∧ (s'.sen i).good = 0) ∧
      (∀ i, i < 40 → s.senActive i = true → cause i = 0 → (s.sen i).sub = false → (s'.sen i).sub = false ∧ (s'.sen i).eff = (rd i).v.toInt ∧
        (s'.sen i).raw = (rd i).v) ∧
      (∀ i, i < 40 → s.senActive i = false → s'.sen i = s.sen i) ∧
      (∀ i, i < 40 → s.senActive i = true → (s'.sen i).eff ≤ s'.th.tc) ∧ (∃ i, i < 40 ∧ s.senActive i = true ∧ (s'.sen i).eff = s'.th.tc) ∧
      s'.th.hotN = (if 16 * (s.regF 0x1E0000 15 8 : Int) ≤ s'.th.tc then s.th.hotN + 1 else 0) ∧
      (2 ≤ s'.th.hotN → s'.th.shut = 1 ∧ s'.tick.st = 0) ∧ (s'.th.hotN < 2 → s'.th.shut = 0 ∧ s'.tick = { s.tick with next := s'.tick.next, worst := s'.tick.worst }) ∧
      s'.th.k = s.th.k ∧ s'.regs = s.regs) ∧
  (∀ (s : State) (t : Time) (v : W32) (src : BitVec 7), s.alive = true →
    let now := (s.at t).now
    let w := goodWr v src
    let rejected := fun (c : Instr) (off cause : Nat) => exec c s = .next { s.at t with
      flt := { s.flt with rej := s.flt.rej + 1, info := pack 64 [(cause, 60), (src.toNat, 53), (off, 0)] } }
    let on := fld v 31 24
    let bad := on < 60 ∨ 100 < on ∨ fld v 23 21 = 0 ∨ fld v 20 16 = 0 ∨ fld v 15 8 < 90 ∨ 105 < fld v 15 8 ∨ fld v 15 8 - 2 < on + 7 * fld v 23 21
    (s.th.shut = 1 → 2000000 ≤ since now s.th.shutT → Gives (.shutdownDrainEnd t) s fun s' => s'.th.shut = 2 ∧ s'.clk.gated = true ∧
      s'.clk.cLock = false ∧ (∀ ch, ch < 16 → (s.ring ch).st = 2 → (s'.ring ch).st = 0) ∧ s'.regs = s.regs) ∧
    (s.th.shut = 2 → (s.th.recPos + 1) % 512 ≠ 0 → Gives (.shutdownRecordWritten t true) s fun s' => s'.th.shut = 3 ∧ s'.th.shdn = true ∧
      s'.out = .shdn true :: s.out ∧ s'.hng.up.st = 0 ∧ s'.hng.dn.st = 0 ∧ s'.host.dlUp = false ∧ s'.alive = false ∧ s'.regs = s.regs ∧
      (∀ i, i < 128 → Tbl.get 0xFF s'.boot.flash (recAddr s.th.recPos + i) = (s.shutRecord 1 s.th.shutH s.th.shutT).getD i 0) ∧
      ∀ a, a < recAddr s.th.recPos ∨ recAddr s.th.recPos + 128 ≤ a → Tbl.get 0xFF s'.boot.flash a = Tbl.get 0xFF s.boot.flash a) ∧
    (s.reaches 0x1E0018 = true → bit v 31 = true → ∃ m, exec (.thAck t w) s =
      .next (({ s.at t with th := { s.th with ack := false } }).logEvent 0x0A 8 m 0 0) ∧ m = (s.subMap.map fun i => 2 ^ i).sum) ∧
    (s.reaches 0x1E0020 = true → bit v 31 = true →
      let ok := s.th.rearm = true ∧ s.subMap = [] ∧ s.th.tc < 16 * ((s.regF 0x1E0000 31 24 : Int) - s.regF 0x1E0000 20 16)
      (ok → exec (.rearm t w) s = .next { s.at t with th := { s.th with rearming := true } }) ∧ (¬ok → rejected (.rearm t w) 0x1E0020 4)) ∧
    (s.th.rearming = true → s.th.shut = 0 → Gives (.rearmRecordWritten t) s fun s' => s'.th.rearm = false ∧ s'.th.rearming = false ∧
      s'.th.recKind = 2 ∧ s'.th.recSeq = s.th.recSeq + 1 ∧ s'.regs = s.regs) ∧
    (s.reaches 0x1E0030 = true → bit v 0 = true → exec (.thMaxClear t w) s = .next { s.at t with th := { s.th with max := -32768, maxS := 0 } }) ∧
    (s.reaches 0x1E0000 = true → (bad → rejected (.thCtlWrite t 0x1E0000 w) 0x1E0000 3) ∧
      (¬bad → Gives (.thCtlWrite t 0x1E0000 w) s fun s' => s'.reg 0x1E0000 = v &&& 0xFFFFFF00 ∧ (∀ o, o ≠ 0x1E0000 → s'.reg o = s.reg o) ∧
        s'.th = { s.th with prev := none, low := List.replicate 8 0 } ∧ s' = { s.at t with regs := s'.regs, flt := s'.flt, th := s'.th })))

/-- R388, R389, R393, R400: the instructions that write a counter. LDI, ADDI, CALC, the JMP of COND 4, XSH of OP 2 and GET to a counter write ck,
unless it is a mirror: a mirror ignores the write and goes on equal to c0 of its ENG. CNT sets the counting of ck, keeps its value, and with XEN = 1
takes XEN from the other counters. Nothing else changes but the mirrors and, for a counter that is the encoder, the turning point of the direction
check. That a write of the encoder moves the turning point is deduced, log entry 57; a PX command executes the instruction it names, log entry 54.
-/
def Obligations.PinCounterWrites : Prop :=
  ∀ (s : State) (t : Time) (e : Nat), PinReady s e → (s.pin e).c.length = 4 → (s.pin e).mode.length = 4 →
    let p := s.pin e
    let frame := fun (s' : State) =>
      (∀ i, i ≠ e → (s.pin i).mode.any (fun m => m.1 == 6) = false → s'.pin i = s.pin i) ∧
      s' = { s.at t with px := s'.px, tick := { s.tick with turn := s'.tick.turn } }
    let writes := fun (c : Instr) (k : Nat) (v : B48) (pc : Nat) (full : BitVec 2) => Gives c s fun s' =>
      (p.modeOf k ≠ 6 → (s'.pin e).ctr k = v) ∧
      (p.modeOf k = 6 → (s.pin (p.mode.getD k (0, 0, 0, 0)).2.2.2).modeOf 0 ≠ 6 →
        (s'.pin e).ctr k = (s.pin (p.mode.getD k (0, 0, 0, 0)).2.2.2).ctr 0) ∧
      (∀ j, j ≠ k → p.modeOf j ≠ 6 → (s'.pin e).ctr j = p.ctr j) ∧ (s'.pin e).mode = p.mode ∧ (s'.pin e).pc = pc % 32 ∧ (s'.pin e).st = 1 ∧
      (s'.pin e).blk = none ∧ (s'.pin e).sh = p.sh ∧ (s'.pin e).full = full ∧ frame s'
    (∀ k imm, writes (.pxLdi t e k imm) k.toNat (imm.signExtend 48) (p.pc + 1) p.full) ∧
    (∀ k imm, writes (.pxAddi t e k imm) k.toNat (p.ctr k.toNat + imm.signExtend 48) (p.pc + 1) p.full) ∧
    (∀ d a b, let ca := p.ctr a.toNat; let cb := p.ctr b.toNat; let cd := p.ctr d.toNat
      writes (.pxCalc t e d a b 0) d.toNat ca (p.pc + 1) p.full ∧ writes (.pxCalc t e d a b 1) d.toNat (ca + cb) (p.pc + 1) p.full ∧
      writes (.pxCalc t e d a b 2) d.toNat (ca - cb) (p.pc + 1) p.full ∧ writes (.pxCalc t e d a b 4) d.toNat (-ca) (p.pc + 1) p.full ∧
      (cd.toInt < ca.toInt → writes (.pxCalc t e d a b 3) d.toNat (cd + cb) (p.pc + 1) p.full) ∧
      (ca.toInt < cd.toInt → writes (.pxCalc t e d a b 3) d.toNat (cd - cb) (p.pc + 1) p.full) ∧
      (ca = cd → writes (.pxCalc t e d a b 3) d.toNat cd (p.pc + 1) p.full)) ∧
    (∀ n target, p.ctr n.toNat ≠ 0 → writes (.pxJmp t e 4 n target) n.toNat (p.ctr n.toNat - 1) target.toNat p.full) ∧
    (∀ k, writes (.pxXsh t e 2 k) k.toNat (p.sh.setWidth 48) (p.pc + 1) p.full) ∧
    (∀ k, p.full.getLsbD 0 = true → writes (.pxGet t e false k false false) k.toNat ((s.reg (pxBase e + 0x48)).signExtend 48) (p.pc + 1) (p.full &&& 2)) ∧
    (∀ k, p.full.getLsbD 1 = true → writes (.pxGet t e false k false true) k.toNat ((s.reg (pxBase e + 0x50)).signExtend 48) (p.pc + 1) (p.full &&& 1)) ∧
    (∀ k, p.full = 3 → writes (.pxGet t e false k true false) k.toNat
      ((s.reg (pxBase e + 0x50)).setWidth 16 ++ s.reg (pxBase e + 0x48)) (p.pc + 1) 0) ∧
    (∀ k mode a b x xen eng, mode ≠ 7 → ¬(mode = 6 ∧ eng.toNat = e ∧ k = 0) → Gives (.pxCnt t e k mode a b x xen eng) s fun s' =>
      (s'.pin e).mode = p.mode.modify k.toNat (fun _ => (mode.toNat, a.toNat, b.toNat, eng.toNat)) ∧
      (∀ j, (s'.pin e).modeOf j ≠ 6 → (s'.pin e).ctr j = p.ctr j) ∧
      (mode = 6 → (s.pin eng.toNat).modeOf 0 ≠ 6 → (s'.pin e).ctr k.toNat = (s.pin eng.toNat).ctr 0) ∧
      (xen = true → (s'.pin e).xen = true ∧ (s'.pin e).xk = k.toNat ∧ (s'.pin e).xi = x.toNat) ∧
      (xen = false → ((s'.pin e).xen = true ↔ p.xen = true ∧ p.xk ≠ k.toNat) ∧ (s'.pin e).xk = p.xk ∧ (s'.pin e).xi = p.xi) ∧
      (s'.pin e).pc = (p.pc + 1) % 32 ∧ (s'.pin e).blk = none ∧ frame s')

/-- R387, R393, R394, R398, R402: the pin engine instructions of flow, output and event. NOP goes on; WAITE, WAITL, WAITC, DLY block until their
condition holds; a WAITE and a WAITC set the causing edge; JMP jumps on its condition; OUT sets its output; IRQ raises the host event; HALT stops;
after instruction 31 the engine goes on at 0; an illegal instruction puts the engine into FAULT before it has any effect. A PX command executes the
instruction it names, and one that blocks is sent again, log entry 54. -/
def Obligations.PinFlow : Prop :=
  ∀ (s : State) (t : Time) (e : Nat), PinReady s e →
    let p := s.pin e
    let now := (s.at t).now
    let goes := fun (c : Instr) (q : Px) => Gives c s fun s' => s'.pin e = q ∧ (∀ i, i ≠ e → s'.pin i = s.pin i) ∧ s' = { s.at t with px := s'.px }
    let next := { p with pc := (p.pc + 1) % 32, blk := none, seen := [], resume := false }
    let waits := { p with blk := some (p.blk.getD now), seen := if p.blk.isSome then p.seen else [] }
    let act := bit (s.reg (pxBase e + 0x30)) 23
    let faults := fun (c : Instr) => Gives c s fun s' => (s'.pin e).st = 2 ∧ (s'.pin e).cause = 1 ∧ (s'.pin e).evt = true ∧ (s'.pin e).pc = p.pc ∧
      (s'.pin e).c = p.c ∧ (s'.pin e).sh = p.sh ∧ (s'.pin e).full = p.full ∧ (s'.pin e).outs = (if act then List.replicate 4 none else p.outs) ∧
      s'.host.cause.getLsbD 7 = true ∧ s'.regs = s.regs ∧ s'.fab = s.fab ∧ ∀ i, i ≠ e → s'.pin i = s.pin i
    goes (.pxNop t e) next ∧
    (∀ mask edge, mask ≠ 0 → edge ≠ 0 →
      let hit := p.seen.find? fun x => mask.getLsbD x.1 && edge.getLsbD (if x.2.1 then 0 else 1)
      (p.blk = none → goes (.pxWaite t e mask edge) waits) ∧ (p.blk ≠ none → hit = none → exec (.pxWaite t e mask edge) s = .next (s.at t)) ∧
      (∀ i r x ok, p.blk ≠ none → hit = some (i, r, x, ok) → goes (.pxWaite t e mask edge) { next with edge := some (x, ok), wIn := some i })) ∧
    (∀ i level, (p.lev.getLsbD i.toNat = level → goes (.pxWaitl t e i level) next) ∧
      (p.lev.getLsbD i.toNat ≠ level → goes (.pxWaitl t e i level) waits)) ∧
    (∀ a b c cond, let d := (p.ctr a.toNat - p.ctr b.toNat).toInt
      let holds := (cond = 0 ∧ 0 ≤ d) ∨ (cond = 1 ∧ d ≤ 0) ∨ (cond = 2 ∧ d = 0) ∨ (cond = 3 ∧ (p.ctr c.toNat).toInt ≤ d.natAbs)
      (holds → goes (.pxWaitc t e a b c cond) { next with edge := p.cnt.getD a.toNat none }) ∧ (¬holds → goes (.pxWaitc t e a b c cond) waits)) ∧
    (∀ cond n target, cond ≠ 4 → (cond = 0 → n = 0) →
      let v := p.ctr n.toNat
      let taken := cond = 0 ∨ (cond = 1 ∧ p.lev.getLsbD n.toNat = true) ∨ (cond = 2 ∧ p.lev.getLsbD n.toNat = false) ∨ (cond = 3 ∧ v = 0) ∨
        (cond = 5 ∧ v.toInt < 0) ∨ (cond = 6 ∧ p.full.getLsbD (n.toNat % 2) = true) ∨ (cond = 7 ∧ p.wIn = some n.toNat)
      (taken → goes (.pxJmp t e cond n target) { next with pc := target.toNat }) ∧ (¬taken → goes (.pxJmp t e cond n target) next)) ∧
    (∀ n target, p.ctr n.toNat = 0 → goes (.pxJmp t e 4 n target) next) ∧
    (∀ o act', p.outs.length = 4 →
      let old := (p.outs.getD o.toNat none).getD (fld (s.reg (pxBase e + 0x30)) (31 - 2 * o.toNat) (30 - 2 * o.toNat))
      let lev := if act' = 0 then 0 else if act' = 1 then 1 else if act' = 3 then 2 else if old = 0 then 1 else if old = 1 then 0 else 2
      Gives (.pxOut t e o act') s fun s' => s'.pin e = { next with outs := p.outs.modify o.toNat fun _ => some lev } ∧
        (s.outSel e o.toNat < 36 → s'.out = .pin (s.outSel e o.toNat) lev :: s.out) ∧ (36 ≤ s.outSel e o.toNat → s'.out = s.out) ∧
        (∀ i, i ≠ e → s'.pin i = s.pin i) ∧ s' = { s.at t with px := s'.px, out := s'.out }) ∧
    (∀ src k n, let c := if src then min (max (p.ctr k.toNat).toInt 0).toNat 16777215 else n.toNat
      (p.blk = none → c = 0 → goes (.pxDly t e src k n) next) ∧ (p.blk = none → c ≠ 0 → goes (.pxDly t e src k n) waits) ∧
      (∀ x, p.blk = some x → s.pxCycles e x + c ≤ s.pxCycles e now → goes (.pxDly t e src k n) next) ∧
      (∀ x, p.blk = some x → s.pxCycles e now < s.pxCycles e x + c → exec (.pxDly t e src k n) s = .next (s.at t))) ∧
    (∀ code, Gives (.pxIrq t e code) s fun s' => s'.pin e = { next with code := code, evt := true } ∧ s'.host.cause.getLsbD 7 = true ∧
      (∀ i, i ≠ e → s'.pin i = s.pin i) ∧ s' = { s.at t with px := s'.px, host := s'.host, out := s'.out }) ∧
    (Gives (.pxHalt t e) s fun s' => s'.pin e =
        { p with st := 0, blk := none, seen := [], stopReq := false, outs := if act then List.replicate 4 none else p.outs } ∧
      (∀ i, i ≠ e → s'.pin i = s.pin i) ∧ s' = { s.at t with px := s'.px, out := s'.out }) ∧
    (∀ w, (0x14 ≤ fld w 31 27 ∨ (w &&& 0x07FFFFFF &&& ~~~pxFields w) ≠ 0) → faults (.pxIllegalInstruction t e w)) ∧
    (∀ mask edge, mask = 0 ∨ edge = 0 → faults (.pxWaite t e mask edge)) ∧ (∀ n target, n ≠ 0 → faults (.pxJmp t e 0 n target)) ∧
    (∀ d a b op, 5 ≤ op.toNat → faults (.pxCalc t e d a b op)) ∧ (∀ k, faults (.pxXsh t e 3 k)) ∧ (∀ dst k, faults (.pxGet t e dst k true true)) ∧
    (∀ k mode a b x xen eng, mode = 7 ∨ (mode = 6 ∧ eng.toNat = e ∧ k = 0) → faults (.pxCnt t e k mode a b x xen eng)) ∧
    (∀ m i, faults (.pxPut t e m 7 i) ∧ faults (.pxCap t e 7 i))

/-- R393, R395 to R397, R399, R400: SHIN and SHOUT move one bit an engine cycle or one at each visible rising edge of CI, 64 bits for n = 0; XSH of
OP 0 and 1 loads SH; GET blocks until its register is full; PUT updates PX_DATA with TAG + 1, FRESH and VALID; EVT blocks for 16 ns after the
previous one and goes to the tick generator and the sequencer; CAP stages one record for each channel that carries it, and blocks while 16 are
staged. A PX command executes the instruction it names, and one that blocks is sent again, log entry 54; the tiles, entry and chain in a capture
record are free, log entry 3. -/
def Obligations.PinData : Prop :=
  ∀ (s : State) (t : Time) (e : Nat), PinReady s e →
    let p := s.pin e
    let now := (s.at t).now
    let goes := fun (c : Instr) (q : Px) => Gives c s fun s' => s'.pin e = q ∧ (∀ i, i ≠ e → s'.pin i = s.pin i) ∧ s' = { s.at t with px := s'.px }
    let next := { p with pc := (p.pc + 1) % 32, blk := none, seen := [], resume := false }
    let waits := { p with blk := some (p.blk.getD now), seen := if p.blk.isSome then p.seen else [] }
    let c0 := if p.resume then p.shc else 0
    let wide := (s.reg (pxBase e + 0x50)).setWidth 16 ++ s.reg (pxBase e + 0x48)
    (∀ i ci n, let bits := if n = 0 then 64 else BitVec.toNat n
      let sh := (p.sh <<< 1) ||| BitVec.ofNat 64 (p.lev.getLsbD (BitVec.toNat i)).toNat
      (bits ≤ c0 → ∀ clk, goes (.pxShin t e i clk ci n) { next with shc := c0 }) ∧
      (c0 + 1 < bits → goes (.pxShin t e i false ci n) { p with sh := sh, shc := c0 + 1, resume := true, seen := [], blk := none }) ∧
      (c0 + 1 = bits → goes (.pxShin t e i false ci n) { next with sh := sh, shc := bits }) ∧
      (c0 < bits → p.blk = none → goes (.pxShin t e i true ci n) { p with shc := c0, resume := true, blk := some now, seen := [] }) ∧
      (∀ x, c0 < bits → p.blk = some x →
        (takeRise p.seen ci.toNat = none → goes (.pxShin t e i true ci n) { p with shc := c0, resume := true }) ∧
        (∀ r, takeRise p.seen ci.toNat = some r → c0 + 1 < bits →
          goes (.pxShin t e i true ci n) { p with sh := sh, shc := c0 + 1, resume := true, seen := r }) ∧
        (∀ r, takeRise p.seen ci.toNat = some r → c0 + 1 = bits → goes (.pxShin t e i true ci n) { next with sh := sh, shc := bits }))) ∧
    (∀ o ci n, let bits := if n = 0 then 64 else BitVec.toNat n
      let lev := (p.sh.getLsbD (bits - 1 - c0)).toNat
      let drives := fun (c : Instr) (q : Px) => Gives c s fun s' => s'.pin e = { q with outs := p.outs.modify (BitVec.toNat o) fun _ => some lev } ∧
        (∀ i, i ≠ e → s'.pin i = s.pin i) ∧ (s.outSel e o.toNat < 36 → p.outs.length = 4 → s'.out = .pin (s.outSel e o.toNat) lev :: s.out) ∧
        s' = { s.at t with px := s'.px, out := s'.out }
      (bits ≤ c0 → ∀ clk, goes (.pxShout t e o clk ci n) { next with shc := c0 }) ∧
      (c0 + 1 < bits → drives (.pxShout t e o false ci n) { p with shc := c0 + 1, resume := true, seen := [], blk := none } ∧
        (p.blk = none → drives (.pxShout t e o true ci n) { p with shc := c0 + 1, resume := true, seen := [], blk := some now })) ∧
      (c0 + 1 = bits → drives (.pxShout t e o false ci n) { next with shc := bits } ∧
        (p.blk = none → drives (.pxShout t e o true ci n) { next with shc := bits })) ∧
      (∀ x, c0 < bits → p.blk = some x →
        (takeRise p.seen ci.toNat = none → goes (.pxShout t e o true ci n) { p with shc := c0, resume := true }) ∧
        (∀ r, takeRise p.seen ci.toNat = some r → c0 + 1 < bits →
          drives (.pxShout t e o true ci n) { p with shc := c0 + 1, resume := true, seen := r }) ∧
        (∀ r, takeRise p.seen ci.toNat = some r → c0 + 1 = bits → drives (.pxShout t e o true ci n) { next with shc := bits }))) ∧
    (∀ k, goes (.pxXsh t e 0 k) { next with sh := 0 } ∧ goes (.pxXsh t e 1 k) { next with sh := (p.ctr k.toNat).signExtend 64 }) ∧
    (∀ dst k, (p.full.getLsbD 0 = false → goes (.pxGet t e dst k false false) waits) ∧
      (p.full.getLsbD 1 = false → goes (.pxGet t e dst k false true) waits) ∧ (p.full ≠ 3 → goes (.pxGet t e dst k true false) waits)) ∧
    (∀ k, (p.full.getLsbD 0 = true → goes (.pxGet t e true k false false)
        { next with full := p.full &&& 2, sh := (s.reg (pxBase e + 0x48)).setWidth 64 }) ∧
      (p.full.getLsbD 1 = true → goes (.pxGet t e true k false true) { next with full := p.full &&& 1, sh := (s.reg (pxBase e + 0x50)).setWidth 64 }) ∧
      (p.full = 3 → goes (.pxGet t e true k true false) { next with full := 0, sh := wide.setWidth 64 })) ∧
    (∀ m i, let puts := fun (src : BitVec 3) (code val : Nat) => goes (.pxPut t e m src i) { next with
        data := p.data.modify (BitVec.toNat m) fun w => pack 64 [((fld w 63 56 + 1) % 256, 56), (1, 55), (1, 54), (code, 48), (val, 0)] }
      (∀ k : BitVec 2, puts (k.setWidth 3) k.toNat (p.ctr k.toNat).toNat) ∧ puts 4 4 (p.sh.toNat % 2 ^ 48) ∧
      (p.edge = none → puts 5 0x15 0) ∧ (∀ x ok, p.edge = some (x, ok) → puts 5 (if ok then 5 else 0x15) (x.toNat % 2 ^ 48)) ∧
      (p.last.getD i.toNat none = none → puts 6 (0x1C + i.toNat) 0) ∧
      (∀ x ok, p.last.getD i.toNat none = some (x, ok) → puts 6 ((if ok then 0x0C else 0x1C) + i.toNat) (x.toNat % 2 ^ 48))) ∧
    (∀ imm, let stamp := if imm then some now else match p.edge with
        | some (x, true) => some x
        | _ => none
      let ref := s.mode = 1 ∧ s.tckSrc = 0 ∧ s.regF 0x10000 22 20 = e
      (∀ x, p.evtT = some x → since now x < 32 → goes (.pxEvt t e imm) waits) ∧
      ((∀ x, p.evtT = some x → 32 ≤ since now x) → Gives (.pxEvt t e imm) s fun s' => s'.pin e = { next with evtT := some now } ∧
        s'.clk.refQ = (if ref then s.clk.refQ ++ [stamp] else s.clk.refQ) ∧
        (s.regF 0x20000 30 27 = e → s.seq.ph = 1 → s'.seq.ph = 2 ∧ s'.seq.hAcc = s.seq.hAcc + 1) ∧
        (s.regF 0x20000 30 27 = e → s.seq.ph ≠ 1 → s'.seq = { s.seq with hIgn := s.seq.hIgn + 1 }) ∧
        (s.regF 0x20000 30 27 ≠ e → s'.seq = s.seq) ∧ (∀ i, i ≠ e → s'.pin i = s.pin i) ∧ s'.out = .event e now :: s.out ∧ s'.regs = s.regs)) ∧
    (∀ src i, src ≠ 7 → (16 ≤ s.capLen e → goes (.pxCap t e src i) waits) ∧
      (s.capLen e < 16 → Gives (.pxCap t e src i) s fun s' => s'.pin e = next ∧
        (∃ rs, s'.queue 1057 = s.queue 1057 ++ rs ∧ rs.length = ((List.range 16).filter fun ch => s.chanOn ch).length ∧
          ∀ r, r ∈ rs → r.cls = false ∧ r.dev = true ∧ (r.ws.drop 4).take 2 = [pack 64 [(0x10, 56), (e, 53), ((p.source src i).1, 48), ((p.source src i).2, 0)],
            (p.edge.map (·.1)).getD 0]) ∧
        (∀ i, i ≠ e → s'.pin i = s.pin i) ∧ s' = { s.at t with px := s'.px, fab := { s.fab with q := s'.fab.q }, free := s.free + 1 }))

/-- R381 to R384, R388 to R390, R393, R399: edges at the inputs of a pin engine. The level is that of the source PX_INSEL selects, inverted under
INV, low from source 63; an edge whose level does not hold for FILT + 1 pin clocks, or of another source, is not accepted. An accepted edge changes
the level, is stamped with its validity, is seen by a blocked instruction, moves the counters by their modes and latches at the index input; A and B
together in modes 3 to 5 do not count but raise QERR; an edge within 8 ns of the previous one is not accepted; a mirror takes the new c0. That the
latch takes the value after the count is deduced, log entry 53. -/
def Obligations.InputEdges : Prop :=
  ∀ (s : State) (t : Time) (e : Nat), s.running = true → s.clk.aGated = none → e < 8 → (s.pin e).c.length = 4 →
    let p := s.pin e
    let level := fun (g : PinEdge) => (g.lev && g.src != 63) != bit (s.reg (pxBase e + 0x20)) (12 + g.i)
    let passes := fun (g : PinEdge) => fld (s.reg (pxBase e + 0x18)) (31 - 6 * g.i) (26 - 6 * g.i) = g.src ∧
      fld (s.reg (pxBase e + 0x20)) (31 - 4 * g.i) (28 - 4 * g.i) < g.held
    (∀ g i r x, g.i = i → level g = r → g.stamp = x → passes g →
      i < 4 → p.lev.getLsbD i ≠ r → (∀ y ok, p.last.getD i none = some (y, ok) → 16 ≤ since x y) →
      let lev := p.lev ^^^ (1#4 <<< i)
      Gives (.inputEdge t e [g]) s fun s' => (s'.pin e).lev = lev ∧
        (s'.pin e).last = p.last.modify i (fun _ => some (x, (s.at t).stampOk x)) ∧
        (s'.pin e).seen = (if p.st = 1 ∧ p.blk ≠ none then p.seen ++ [(i, r, x, (s.at t).stampOk x)] else p.seen) ∧
        (∀ k m a b g, k < 4 → p.mode.getD k (0, 0, 0, 0) = (m, a, b, g) →
          (m = 0 → (s'.pin e).ctr k = p.ctr k) ∧
          (m = 1 → (s'.pin e).ctr k = if a = i ∧ r = true then p.ctr k + 1 else p.ctr k) ∧
          (m = 2 ∨ (m = 3 ∧ a ≠ b) → (s'.pin e).ctr k =
            if a = i ∧ r = true then (if lev.getLsbD b then p.ctr k - 1 else p.ctr k + 1) else p.ctr k) ∧
          (m = 4 → a ≠ b → (s'.pin e).ctr k =
            if a = i then (if lev.getLsbD a ≠ lev.getLsbD b then p.ctr k + 1 else p.ctr k - 1) else p.ctr k) ∧
          (m = 5 → a ≠ b → (s'.pin e).ctr k =
            if a = i then (if lev.getLsbD a ≠ lev.getLsbD b then p.ctr k + 1 else p.ctr k - 1)
            else if b = i then (if lev.getLsbD a = lev.getLsbD b then p.ctr k + 1 else p.ctr k - 1) else p.ctr k)) ∧
        (p.xen = true → p.xi = i → r = true → (s'.pin e).idx = x ∧ (s'.pin e).data = p.data.modify 3 fun w =>
          pack 64 [((fld w 63 56 + 1) % 256, 56), (3, 54), ((8 + p.xk) % 64, 48), (((s'.pin e).ctr p.xk).toNat % 2 ^ 48, 0)]) ∧
        (p.xen = false ∨ p.xi ≠ i ∨ r = false → (s'.pin e).idx = p.idx ∧ (s'.pin e).data = p.data) ∧
        (∀ j k, j < 8 → j ≠ e → k < 4 → (s.pin j).modeOf k = 6 → ((s.pin j).mode.getD k (0, 0, 0, 0)).2.2.2 = e → p.modeOf 0 ≠ 6 →
          (s'.pin j).ctr k = (s'.pin e).ctr 0) ∧
        (∀ j, j ≠ e → (s.pin j).mode.any (fun m => m.1 == 6) = false → s'.pin j = s.pin j) ∧
        s' = { s.at t with px := s'.px, tick := { s.tick with turn := s'.tick.turn } }) ∧
    (∀ g, g.i < 4 → (¬passes g ∨ p.lev.getLsbD g.i = level g ∨ ∃ y ok, p.last.getD g.i none = some (y, ok) ∧ since g.stamp y < 16) →
      (∀ j, j < 8 → (s.pin j).mode.any (fun m => m.1 == 6) = false) → Gives (.inputEdge t e [g]) s fun s' =>
        (∀ j, s'.pin j = s.pin j) ∧ s' = { s.at t with px := s'.px, tick := { s.tick with turn := s'.tick.turn } }) ∧
    (∀ ga gb a b m, ga.i = a → gb.i = b → passes ga → passes gb → a < b → b < 4 → p.lev.getLsbD a ≠ level ga → p.lev.getLsbD b ≠ level gb → p.last.getD a none = none → p.last.getD b none = none →
      3 ≤ m → m ≤ 5 → p.mode = [(m, a, b, 0), (0, 0, 0, 0), (0, 0, 0, 0), (0, 0, 0, 0)] → Gives (.inputEdge t e [ga, gb]) s fun s' =>
        (s'.pin e).ctr 0 = p.ctr 0 ∧ (s'.pin e).qerr = p.qerr + 1 ∧ (s'.pin e).lev = p.lev ^^^ (1#4 <<< a) ^^^ (1#4 <<< b))

/-- R380, R392, R399, R400, R402 to R404: START, STOP and host access of the pin engines. START begins at START_PC with SH and the causing edge
cleared, or at PC with SH kept under RESUME_SH, and clears the counters under RESET_CNT; START with STOP is rejected; STOP takes effect at the cycle
boundary and keeps PC; a write to a full PX_IN is rejected; a configuration write while RUNNING is rejected with PROG_REJECT, and so is a value
against its rule; a read of PX_DATA that covers FRESH clears it. -/
def Obligations.PinHostAccess : Prop :=
  ∀ (s : State) (t : Time) (e : Nat) (v : W32) (src : BitVec 7), s.running = true → e < 8 →
    let p := s.pin e
    let w := goodWr v src
    let others := fun (s' : State) => ∀ i, i ≠ e → s'.pin i = s.pin i
    let rejected := fun (c : Instr) (off cause : Nat) (f : Px → Px) => Gives c s fun s' => s'.pin e = f p ∧ others s' ∧ s' = { s.at t with
        px := s'.px, flt := { s.flt with rej := s.flt.rej + 1, info := pack 64 [(cause, 60), (src.toNat, 53), (off, 0)] } }
    (s.reaches (pxBase e) = true →
      (bit v 31 = true → bit v 30 = true → rejected (.pxStart t e w) (pxBase e) 3 fun p => { p with progRej := true }) ∧
      (bit v 31 = true → bit v 30 = false → p.st ≠ 1 → Gives (.pxStart t e w) s fun s' =>
        (s'.pin e).st = 1 ∧ (s'.pin e).cause = 0 ∧ (s'.pin e).edge = none ∧ (s'.pin e).outs = List.replicate 4 none ∧ (s'.pin e).blk = none ∧
        (s'.pin e).startT = (s.at t).now ∧
        (bit v 29 = false → (s'.pin e).pc = fld v 27 23 ∧ (s'.pin e).sh = 0 ∧ (s'.pin e).shc = 0) ∧
        (bit v 29 = true → (s'.pin e).pc = p.pc % 32 ∧ (s'.pin e).sh = p.sh ∧ (s'.pin e).shc = p.shc) ∧
        (bit v 28 = false → (s'.pin e).c = p.c ∧ (s'.pin e).mode = p.mode ∧ (s'.pin e).xen = p.xen ∧ others s') ∧
        (bit v 28 = true → (s'.pin e).c = List.replicate 4 0 ∧ (s'.pin e).mode = List.replicate 4 (0, 0, 0, 0) ∧ (s'.pin e).xen = false) ∧
        (s'.pin e).data = p.data ∧ s'.reg (pxBase e) = v &&& 0x3F800000 ∧ ∀ o, o ≠ pxBase e → s'.reg o = s.reg o) ∧
      (bit v 31 = false → bit v 30 = true → p.st = 1 → Gives (.pxStop t e w) s fun s' => s'.pin e = { p with stopReq := true } ∧ others s' ∧
        s'.reg (pxBase e) = v &&& 0x3F800000 ∧ s' = { s.at t with px := s'.px, regs := s'.regs, flt := s'.flt }) ∧
      (bit v 31 = false → bit v 30 = true → p.st ≠ 1 → Gives (.pxStop t e w) s fun s' => s'.px = s.px ∧ s'.reg (pxBase e) = v &&& 0x3F800000)) ∧
    (s.clk.aGated = none → p.st = 1 → p.stopReq = true → Gives (.pxStopEffect t e) s fun s' => s'.pin e = { p with
        st := 0, blk := none, seen := [], stopReq := false, outs := if bit (s.reg (pxBase e + 0x30)) 23 then List.replicate 4 none else p.outs } ∧ others s' ∧
      s' = { s.at t with px := s'.px, out := s'.out }) ∧
    (∀ j, j < 2 → s.reaches (pxBase e + 0x48 + 8 * j) = true →
      (p.full.getLsbD j = true → rejected (.pxInWrite t e j w) (pxBase e + 0x48 + 8 * j) 4 fun p => { p with inRej := p.inRej + 1 }) ∧
      (p.full.getLsbD j = false → Gives (.pxInWrite t e j w) s fun s' => s'.reg (pxBase e + 0x48 + 8 * j) = v ∧
        s'.pin e = { p with full := p.full ||| (1#2 <<< j) } ∧ others s' ∧ ∀ o, o ≠ pxBase e + 0x48 + 8 * j → s'.reg o = s.reg o)) ∧
    (∀ o, pxConfigOff o = true → s.reaches (pxBase e + o) = true →
      (p.st = 1 → rejected (.pxConfigWrite t (pxBase e + o) w) (pxBase e + o) 4 fun p => { p with progRej := true }) ∧
      (p.st ≠ 1 → (o = 0x10 ∧ fld v 31 16 = 0) ∨ (o = 0x28 ∧ ∃ i, i < 4 ∧ 36 ≤ fld v (31 - 6 * i) (26 - 6 * i) ∧ fld v (31 - 6 * i) (26 - 6 * i) < 63) ∨
          (o = 0x18 ∧ ∃ i, i < 4 ∧ 52 ≤ fld v (31 - 6 * i) (26 - 6 * i) ∧ fld v (31 - 6 * i) (26 - 6 * i) < 63) →
        rejected (.pxConfigWrite t (pxBase e + o) w) (pxBase e + o) 3 fun p => { p with progRej := true }) ∧
      (p.st ≠ 1 → s.pxBad e o v = false → Gives (.pxConfigWrite t (pxBase e + o) w) s fun s' =>
        s'.reg (pxBase e + o) = v &&& ((pxReg o).map (·.2.1)).getD 0 ∧ (∀ x, x ≠ pxBase e + o → s'.reg x = s.reg x) ∧ s'.px = s.px)) ∧
    (∀ k x, k < 4 → s.reaches (pxBase e + 0x90 + 8 * k) = true → let cw : Wr := { v := x, nb := 8, src := src }
      (p.st = 1 → rejected (.pxConfigWrite t (pxBase e + 0x90 + 8 * k) cw) (pxBase e + 0x90 + 8 * k) 4 fun p => { p with progRej := true }) ∧
      (p.st ≠ 1 → p.modeOf k ≠ 6 → p.c.length = 4 → Gives (.pxConfigWrite t (pxBase e + 0x90 + 8 * k) cw) s fun s' =>
        (s'.pin e).ctr k = x.setWidth 48 ∧ (∀ j, j ≠ k → p.modeOf j ≠ 6 → (s'.pin e).ctr j = p.ctr j) ∧ (s'.pin e).mode = p.mode ∧
        s' = { s.at t with px := s'.px, tick := { s.tick with turn := s'.tick.turn } })) ∧
    (∀ m lo nb, m < 4 → 0 < nb → lo + nb ≤ 8 → s.host.memEn = true → s.stalls (pxBase e + 0xC0 + 8 * m) = false → Gives (.pxDataRead t e m lo nb) s fun s' =>
      s'.out = .rdData (pxBase e + 0xC0 + 8 * m + lo) nb (narrow (p.data.getD m 0) lo nb) :: s.out ∧
      (s'.pin e).data = (if lo ≤ 6 ∧ 6 < lo + nb then p.data.modify m fun x => x &&& ~~~(1#64 <<< 55) else p.data) ∧ others s' ∧
      s' = { s.at t with px := s'.px, out := s'.out })

/-- R408, R410, R413 to R415: the frames of one link. A returned MARK is one of 16 round trips; the port comes UP, or LONG above 38.0 ns. HEARTBEAT
frames leave both ports that are UP; one that arrives gives the position, one more than the sender's on the upstream port, and on the port aligned
to compares array time with the time sent plus 40.0 ns, unless array time runs free: OFFSET, a step never backward, ALIGNED after 64 within 10 ps
and until one beyond 200 ps. Failed copies are counted. How array time steps is log entry 32. -/
def Obligations.HingeLinkFrames : Prop :=
  ∀ (s : State) (t : Time) (p : Bool), s.alive = true → s.clk.aGated = none →
    let now := (s.at t).now
    let port := s.port p
    let sent := fun (d : Bool) (typ : Nat) (ws : List W64) => if (s.port d).st = 2 then [Out.hinge d.toNat typ ws] else []
    (∀ rtt echo, port.st = 1 ∨ port.st = 3 → port.marks < 16 → Gives (.mark t p true echo rtt) s fun s' =>
      s'.port p = { port with marks := port.marks + 1, markSum := port.markSum + rtt } ∧ s'.port (!p) = s.port (!p) ∧
      s' = { s.at t with hng := s'.hng }) ∧
    (∀ rtt echo, port.st ≠ 0 → port.st ≠ 4 → exec (.mark t p false echo rtt) s = .next { s.at t with
      out := .hinge p.toNat 0x02 (frame false 0x02 (s.hpos.getD 0) 0 1 echo) :: s.out }) ∧
    (port.st = 1 ∨ port.st = 3 → port.marks = 16 → Gives (.portUp t p) s fun s' => (s'.port p).raw = port.markSum / 32 ∧
      (s'.port p).st = (if 380 * 32 < port.markSum then 4 else 2) ∧ (s'.port p).hbT = now ∧ (s'.port p).runT = none ∧ s'.port (!p) = s.port (!p) ∧
      s' = { s.at t with hng := s'.hng }) ∧
    (port.marks ≠ 16 → exec (.portUp t p) s = .next (s.at t)) ∧
    (∃ tag, Gives (.heartbeatSend t) s fun s' => s' = { s.at t with
        out := sent true 0x01 (frame false 0x01 (s.hpos.getD 0) 0 tag now) ++ sent false 0x01 (frame false 0x01 (s.hpos.getD 0) 0 tag now) ++ s.out } ∧
      tag / 64 = max (s.hpos.getD 0) (max s.hng.dn.high (s.hng.dn.pos.getD 0)) ∧ tag / 2 % 2 = s.hng.aligned.toNat ∧ tag % 2 = s.hpos.isSome.toNat) ∧
    (∀ high al valid src sent' (fine : Int), port.st = 2 → Gives (.heartbeat t p high al valid src sent' fine) s fun s' =>
      let diff := 50 * (sent' + 80 - now).toInt + fine
      s'.port p = { port with
        high := high.toNat, pos := if valid then some src.toNat else none, hbT := now,
        runT := if port.runT = none ∨ 4000 < since now port.hbT then some now else port.runT } ∧
      s'.port (!p) = s.port (!p) ∧
      s'.hng.pos = (if p = true ∨ s.isRoot = true then s.hng.pos else if valid = true ∧ src.toNat < 63 then some (src.toNat + 1) else none) ∧
      (s'.freeTime = true ∨ p ≠ s'.alignPort → s'.hng.offset = s.hng.offset ∧ s'.hng.aligned = s.hng.aligned ∧ s'.now = now) ∧
      (s'.freeTime = false → p = s'.alignPort → (-32768 ≤ diff → diff ≤ 32767 → s'.hng.offset.toInt = diff) ∧
        s'.hng.alGood = (if diff.natAbs ≤ 1 then min 64 (s.hng.alGood + 1) else 0) ∧ (s'.now = now ∨ s'.now = now + 1) ∧
        (s'.hng.aligned = true ↔ (s.hng.aligned = true ∨ s'.hng.alGood = 64) ∧ diff.natAbs ≤ 20)) ∧
      (s.isRoot = true → s'.freeTime = true) ∧
      s' = { s with now := s'.now, hng := s'.hng }) ∧
    (∀ lanes : BitVec 2, port.st = 2 →
      (lanes = 1 ∨ lanes = 2 → exec (.frameDiscard t p lanes) s = .next { s.at t with hng := { s.hng with lane := s.hng.lane + 1 } }) ∧
      (lanes = 0 ∨ lanes = 3 → exec (.frameDiscard t p lanes) s = .next { s.at t with hng := { s.hng with frame := s.hng.frame + 1 } }))

/-- R411, R417, R421, R427, R428: broadcast frames. A device that takes one forwards it unchanged out of the other port, unless that is not UP or an
unused closure link, and acts on it while it holds a position: BCAST updates HNG_BCAST_RX, REF gives its stamp and its hops to the LPLL of a tracked
member of that relay, TRIG is a trigger edge of a direct member; a tick source only counts REF and TRIG. A frame that is not taken has no effect.
The input an OVERRUN record of a relayed trigger names is free, log entry 3. -/
def Obligations.HingeBroadcasts : Prop :=
  ∀ (s : State) (t : Time) (p : Bool) (src : BitVec 6), s.alive = true →
    let takes := (s.port p).st = 2 ∧ s.clk.aGated = none ∧ (s.closure p = false ∨ s.hng.rerouted = true)
    let goes := fun (d : Bool) => (s.port d).st = 2 ∧ (s.closure d = false ∨ s.hng.rerouted = true)
    let source := bit (s.reg 0x1C0000) 28
    let member := fun (mode : Nat) => s.running = true ∧ s.mode = mode ∧ s.tckSrc = (if p then 2 else 1)
    let me := s.hpos.getD 0
    let hops := if p then (if me < src.toNat then src.toNat - me else s.hTop + 1 - me + src.toNat)
      else if src.toNat < me then me - src.toNat else me + 1 + s.hTop - src.toNat
    let out := fun (typ : Nat) (payload : W64) => (if goes (!p) then [Out.hinge (!p).toNat typ (frame true typ src.toNat 0 0 payload)] else []) ++ s.out
    (¬takes → ∀ v stamp, exec (.bcast t p src v) s = .next (s.at t) ∧
      (source = false → exec (.ref t p src stamp) s = .next (s.at t) ∧ exec (.trig t p src stamp) s = .next (s.at t))) ∧
    (takes → ∀ v, (s.hpos = none → exec (.bcast t p src v) s = .next { s.at t with out := out 0x05 (v.setWidth 64) }) ∧
      (s.hpos ≠ none → exec (.bcast t p src v) s = .next { s.at t with
        out := out 0x05 (v.setWidth 64)
        hng := { s.hng with
          rx := pack 64 [((fld s.hng.rx 63 56 + 1) % 256, 56), (1, 55), (1, 54), (src.toNat, 48), (v.toNat, 0)] } })) ∧
    (takes → source = false → ∀ stamp,
      (s.hpos ≠ none → member 1 → exec (.ref t p src stamp) s = .next { s.at t with
        out := out 0x03 stamp, clk := { s.clk with refQ := s.clk.refQ ++ [some stamp], refHops := hops } }) ∧
      (¬(s.hpos ≠ none ∧ member 1) → exec (.ref t p src stamp) s = .next { s.at t with out := out 0x03 stamp }) ∧
      (s.hpos ≠ none → member 2 → ∃ x, x < 4 ∧ exec (.trig t p src stamp) s =
        .next (({ s.at t with out := out 0x04 stamp, free := s.free + 1 }).trigger x (s.at t).now)) ∧
      (¬(s.hpos ≠ none ∧ member 2) → exec (.trig t p src stamp) s = .next { s.at t with out := out 0x04 stamp })) ∧
    (source = true → (s.port p).st = 2 → s.clk.aGated = none → ∀ stamp,
      exec (.ref t p src stamp) s = .next { s.at t with hng := { s.hng with confl := s.hng.confl + 1 } } ∧
      exec (.trig t p src stamp) s = .next { s.at t with hng := { s.hng with confl := s.hng.confl + 1 } }) ∧
    (∀ v u, s.reaches 0x1C0038 = true → let ws := frame true 0x05 (s.hpos.getD 0) 0 0 (v.setWidth 64)
      (s.hpos ≠ none → exec (.hngBcastTx t (goodWr v u)) s = .next { s.at t with out :=
        (if goes true then [.hinge 1 0x05 ws] else []) ++ (if goes false then [.hinge 0 0x05 ws] else []) ++ s.out }) ∧
      (s.hpos = none → exec (.hngBcastTx t (goodWr v u)) s = .next (s.at t))) ∧
    (∀ lo nb, 0 < nb → lo + nb ≤ 8 → s.host.memEn = true → s.running = true → s.clk.aGated = none → exec (.bcastRxRead t lo nb) s = .next { s.at t with
      out := .rdData (0x1C0040 + lo) nb (narrow s.hng.rx lo nb) :: s.out
      hng := { s.hng with rx := if lo ≤ 6 ∧ 6 < lo + nb then s.hng.rx &&& ~~~(1#64 <<< 55) else s.hng.rx } })

/-- R121, R423 to R425, R436: partner loss. A partner without a heartbeat for 4 us is lost: the port goes LOST, the loss is counted, vector 24 is
raised, the position is marked in HNG_LOST and a LOSS frame leaves by the other port; a relayed tick generator without FALLBACK stops. It rejoins
after 100 us of heartbeats. LOSS marks or clears the position, in a chain with every position beyond it, and releases a sequence lock held there, as
PCIE_EVT of the issuer does. Which bits a loss sets in a ring is deduced, log entry 63. -/
def Obligations.PartnerLoss : Prop :=
  ∀ (s : State) (t : Time) (p : Bool), s.alive = true →
    let now := (s.at t).now
    let port := s.port p
    let goes := fun (d : Bool) => (s.port d).st = 2 ∧ (s.closure d = false ∨ s.hng.rerouted = true)
    let cut := fun (me q r : Nat) => r = q ∨ (s.ringed = false ∧ ((me < q ∧ q < r ∧ r ≤ s.hTop) ∨ (q < me ∧ r < q)))
    (port.st = 2 → port.lost = false → 8000 ≤ since now port.hbT → s.clk.aGated = none → Gives (.partnerLost t p) s fun s' =>
      (s'.port p).st = 3 ∧ (s'.port p).lost = true ∧ (s'.port p).runT = none ∧ s'.port (!p) = s.port (!p) ∧ s'.host.cause.getLsbD 8 = true ∧
      s'.hng.lossUp = (if p then s.hng.lossUp else s.hng.lossUp + 1) ∧ s'.hng.lossDn = (if p then s.hng.lossDn + 1 else s.hng.lossDn) ∧
      (s.alignPort = p → s.isRoot = false → s'.hng.aligned = false) ∧
      (∀ q me, port.pos = some q → q < 64 → s.hpos = some me → s'.hng.lost.getLsbD q = true ∧ (goes (!p) →
        .hinge (!p).toNat 0x0B (frame true 0x0B me 0 1 (BitVec.ofNat 64 q)) ∈ s'.out) ∧
        (s.seq.held = true → bit s.seq.src 6 = true → fld s.seq.src 5 0 = q → s'.seq.held = false ∧ s'.seq.token = 0)) ∧
      (p = true → s.regF 0x10000 29 28 = 2 → s.regF 0x10030 0 0 = 0 → s'.tick.st = 0) ∧ (p = false → bit s'.clk.absent 1 = true) ∧
      s'.regs = s.regs) ∧
    (port.st ≠ 2 ∨ port.lost = true ∨ since now port.hbT < 8000 ∨ s.clk.aGated ≠ none → exec (.partnerLost t p) s = .next (s.at t)) ∧
    (∀ x, port.st = 2 → port.lost = true → port.runT = some x → 200000 ≤ since now x → Gives (.partnerRejoin t p) s fun s' =>
      (s'.port p).lost = false ∧ (s'.port p).st = 2 ∧ s'.port (!p) = s.port (!p) ∧ s'.regs = s.regs ∧
      ∀ q me, port.pos = some q → q < 64 → s.hpos = some me →
        (∀ r, r < 64 → (s'.hng.lost.getLsbD r = true ↔ s.hng.lost.getLsbD r = true ∧ ¬cut me q r)) ∧
        (goes (!p) → .hinge (!p).toNat 0x0B (frame true 0x0B me 0 0 (BitVec.ofNat 64 q)) ∈ s'.out)) ∧
    (∀ src (q : BitVec 6) me, port.st = 2 → s.clk.aGated = none → s.closure p = false ∨ s.hng.rerouted = true → s.hpos = some me →
      (Gives (.loss t p src true q) s fun s' => s'.host.cause.getLsbD 8 = true ∧
        (∀ r, r < 64 → (s'.hng.lost.getLsbD r = true ↔ s.hng.lost.getLsbD r = true ∨ cut me q.toNat r)) ∧
        (s.seq.held = true → bit s.seq.src 6 = true → cut me q.toNat (fld s.seq.src 5 0) → s'.seq.held = false ∧ s'.seq.token = 0) ∧
        s'.regs = s.regs ∧ s'.tick = s.tick) ∧
      (Gives (.loss t p src false q) s fun s' =>
        (∀ r, r < 64 → (s'.hng.lost.getLsbD r = true ↔ s.hng.lost.getLsbD r = true ∧ ¬cut me q.toNat r)) ∧ s'.seq = s.seq ∧ s'.regs = s.regs) ∧
      (∀ kind, Gives (.pcieEvt t p src kind) s fun s' =>
        (s.seq.held = true → bit s.seq.src 6 = true → fld s.seq.src 5 0 = src.toNat → kind ≠ 0 → s'.seq.held = false ∧ s'.seq.token = 0) ∧
        (¬(s.seq.held = true ∧ bit s.seq.src 6 = true ∧ fld s.seq.src 5 0 = src.toNat ∧ kind ≠ 0) → s'.seq = s.seq) ∧
        s'.hng = s.hng ∧ s'.regs = s.regs))

/-- R427, R429: barriers. ENTER without a position waits; an end of the chain sends its gather toward the root; a root that reaches nobody is done
at once; the root releases when the gather of its only branch has come, PARTS one more than it counted; a release ends a waiting entry of its ID.
That gathers go hop by hop, and that ENTER clears DONE, are the model's, log entries 33 and 34. -/
def Obligations.Barriers : Prop :=
  ∀ (s : State) (t : Time) (v : W32) (u : BitVec 7), s.alive = true →
    let id := fld v 7 0
    let out := fun (typ tag : Nat) (payload : W64) => let ws := frame true typ 0 0 tag payload
      (if (s.port true).st = 2 ∧ (s.closure true = false ∨ s.hng.rerouted = true) then [Out.hinge 1 typ ws] else []) ++
        (if (s.port false).st = 2 ∧ (s.closure false = false ∨ s.hng.rerouted = true) then [Out.hinge 0 typ ws] else []) ++ s.out
    (s.reaches 0x1C0048 = true → bit v 31 = true → Gives (.barrierEnter t (goodWr v u)) s fun s' =>
      s'.reg 0x1C0048 = v &&& 0xFF ∧ (∀ o, o ≠ 0x1C0048 → s'.reg o = s.reg o) ∧
      (s.hpos = none → s'.hng = { s.hng with bWait := true, bDone := false } ∧ s'.out = s.out) ∧
      ((∀ q, q < 64 → s.route q = none ∨ s.route q = s.route 0) →
        (s.hpos = some 0 → s'.hng.bWait = false ∧ s'.hng.bDone = true ∧ s'.hng.bParts = 1 ∧ s'.out = out 0x06 id (BitVec.ofNat 64 (2 ^ 63 + 1))) ∧
        (∀ me d, s.hpos = some me → me ≠ 0 → s.route 0 = some d → s'.hng = { s.hng with bWait := true, bDone := false } ∧
          s'.out = .hinge d.toNat 0x06 (frame false 0x06 me 0 id 1) :: s.out)) ∧
      s' = { s.at t with regs := s'.regs, flt := s'.flt, hng := s'.hng, out := s'.out }) ∧
    (s.reaches 0x1C0048 = true → bit v 31 = false → Gives (.barrierEnter t (goodWr v u)) s fun s' =>
      s'.hng = { s.hng with bDone := s.hng.bDone && !bit v 29 } ∧ s'.reg 0x1C0048 = v &&& 0xFF) ∧
    (∀ p src id n, s.hears p = true → s.hpos ≠ none → s.hpos ≠ some (BitVec.toNat src) →
      (s.hng.bWait = false → Gives (.barrierGather t p src id n) s fun s' => (p, id.toNat, n.toNat) ∈ s'.hng.bGath ∧ s' = { s.at t with
        hng := { s.hng with bGath := s'.hng.bGath } }) ∧
      (s.hng.bWait = true → s.regF 0x1C0048 7 0 = id.toNat → s.hpos = some 0 → (∃ q, q < 64 ∧ s.route q = some p) →
        (∀ q, q < 64 → s.route q ≠ some (!p)) → Gives (.barrierGather t p src id n) s fun s' => s'.hng.bWait = false ∧ s'.hng.bDone = true ∧
          s'.hng.bParts = 1 + n.toNat ∧ s'.out = out 0x06 id.toNat (BitVec.ofNat 64 (2 ^ 63 + (1 + n.toNat) % 128)) ∧ s'.regs = s.regs)) ∧
    (∀ p src id n, s.hears p = true → s.closure p = false ∨ s.hng.rerouted = true → s.hpos ≠ none → Gives (.barrierRelease t p src id n) s fun s' =>
      s'.hng.bParts = n.toNat ∧ (∀ g, g ∈ s'.hng.bGath → g.2.1 ≠ id.toNat) ∧
      (s.regF 0x1C0048 7 0 = id.toNat → s.hng.bWait = true → s'.hng.bWait = false ∧ s'.hng.bDone = true) ∧
      (s.regF 0x1C0048 7 0 ≠ id.toNat → s'.hng.bWait = s.hng.bWait ∧ s'.hng.bDone = s.hng.bDone) ∧
      s' = { s.at t with hng := s'.hng, out := s'.out })

/-- R430, R431, R433, R437: scheduled operations. GO sets T, L after now or the midpoint of two predicted ticks, arms the operation and broadcasts
it; OP 3 is rejected; a GO while one of the kind is armed is refused. A SCHED received after its T is counted LATE and not armed; of two of a kind
the earlier T is kept and the other counted. A due operation executes: snapshot, commit, or the reset of its target. That a GO clears REFUSED, and
is refused without a position, is the model's, log entry 34. -/
def Obligations.ScheduledOperations : Prop :=
  ∀ (s : State) (t : Time), s.alive = true →
    let now := (s.at t).now
    (∀ v u, s.reaches 0x1C0050 = true → let op := fld v 30 29
      let x := now + BitVec.ofNat 64 ((s.hCount - 1) * 80 + 120 + fld v 15 0 * 2000)
      let tracked := (s.tick.st = 3 ∨ (s.mode = 1 ∧ (s.clk.lpll = 2 ∨ s.clk.lpll = 3))) ∧ s.clk.tickT ≠ 0 ∧ s.tick.last ≠ none
      (op = 3 → exec (.schedGo t (goodWr v u)) s = .next { s.at t with
        flt := { s.flt with rej := s.flt.rej + 1, info := pack 64 [(3, 60), (u.toNat, 53), (0x1C0050, 0)] } }) ∧
      (op ≠ 3 → bit v 31 = true → s.hpos = none ∨ s.armed op ≠ none → Gives (.schedGo t (goodWr v u)) s fun s' =>
        s'.hng = { s.hng with refused := true } ∧ s'.out = s.out ∧ s'.reg 0x1C0050 = v &&& 0x61FCFFFF) ∧
      (∀ me, op ≠ 3 → bit v 31 = true → s.hpos = some me → s.armed op = none → Gives (.schedGo t (goodWr v u)) s fun s' =>
        s'.armed op = some (s'.hng.schedT, me) ∧ (∀ o, o < 3 → o ≠ op → s'.armed o = s.armed o) ∧ s'.hng.refused = false ∧
        (¬tracked → s'.hng.schedT = x) ∧ (∀ l, tracked → s.tick.last = some l →
          s'.hng.schedT = l + BitVec.ofNat 64 (since x l / s.clk.tickT * s.clk.tickT + s.clk.tickT / 2)) ∧
        (∀ d, (s.port d).st = 2 → s.closure d = false → .hinge d.toNat 0x07
          (frame true 0x07 me 0 (op + 4 * fld v 24 19 + 256 * (bit v 18).toNat) s'.hng.schedT) ∈ s'.out) ∧
        (op = 2 → s'.hng.aReset = some (s'.hng.schedT, me, fld v 24 19, bit v 18)) ∧ s'.reg 0x1C0050 = v &&& 0x61FCFFFF ∧ s'.tick = s.tick)) ∧
    (∀ p src (op : BitVec 2) dest all (x : W64), s.hears p = true → s.closure p = false ∨ s.hng.rerouted = true → s.hpos ≠ none → op ≠ 3 →
      let c := Instr.sched t p src op dest all x
      (reached x now = false → Gives c s fun s' => s'.hng = { s.hng with sLate := s.hng.sLate + 1 } ∧ s' = { s.at t with hng := s'.hng, out := s'.out }) ∧
      (reached x now = true → s.armed op.toNat = none → Gives c s fun s' => s'.armed op.toNat = some (x, src.toNat) ∧
        (∀ o, o < 3 → o ≠ op.toNat → s'.armed o = s.armed o) ∧ (op = 2 → s'.hng.aReset = some (x, src.toNat, dest.toNat, all)) ∧
        s'.hng.sConf = s.hng.sConf ∧ s' = { s.at t with hng := s'.hng, out := s'.out }) ∧
      (∀ y q, reached x now = true → s.armed op.toNat = some (y, q) → Gives c s fun s' => s'.hng.sConf = s.hng.sConf + 1 ∧
        (reached x y = false → s'.armed op.toNat = some (x, src.toNat) ∧ (s.hpos = some q → s'.hng.refused = true)) ∧
        (reached x y = true → x ≠ y → s'.armed op.toNat = some (y, q) ∧ s'.hng.refused = s.hng.refused) ∧ s' = { s.at t with hng := s'.hng, out := s'.out })) ∧
    (∀ x q, s.clk.lastInv = none → s.noTicks = false → reached now x = true → s.tick.st = 0 ∨ 2000 ≤ since now x →
      (s.hng.aSnap = some (x, q) → s.hng.aCommit = none → s.hng.aReset = none → Gives (.schedDeadline t) s fun s' => s'.hng = { s.hng with aSnap := none } ∧
        s'.tick.tag = s.tick.tag + 1 ∧ s'.tick.snapTime = now ∧ s'.tick.snapEnc = s.encNow ∧ s'.tick.snap = false ∧ s'.host.cause.getLsbD 2 = true ∧
        s'.regs = s.regs) ∧
      (s.hng.aSnap = none → s.hng.aCommit = some (x, q) → s.hng.aReset = none → Gives (.schedDeadline t) s fun s' => s'.hng.aCommit = none ∧
        s'.tick.epoch = s.tick.epoch + 1) ∧
      (∀ dest all, s.hng.aSnap = none → s.hng.aCommit = none → s.hng.aReset = some (x, q, dest, all) → Gives (.schedDeadline t) s fun s' =>
        (all = true ∨ s.hpos = some dest → s'.boot.intRst = some 0) ∧
        (all = false → s.hpos ≠ some dest → s' = { s.at t with hng := { s.hng with aReset := none } }))) ∧
    (∀ x q, s.hng.aSnap = some (x, q) → s.hng.aCommit = none → s.hng.aReset = none → reached now x = false → Gives (.schedDeadline t) s fun s' =>
      s'.hng = s.hng ∧ s'.tick = s.tick ∧ s'.regs = s.regs)

/-- R338 to R341, R410, R435, R437: remote access. The window and HNG_MNT send their requests to a position they reach, a write as MNT_WR followed
at once by MNT_DATA, with the width it has; a refused read gives all ones and a refused write is discarded, both counted; at most 8 reads are out,
others wait; 20 us without an answer end a read. RF_RWIN_SEL does not change while reads are out. A request that arrives is answered, or made with
the issuer's position as its source. That GO clears ERR, and how a request carries its width, are the model's, log entries 34 and 37. -/
def Obligations.RemoteAccess : Prop :=
  ∀ (s : State) (t : Time) (u : BitVec 7), s.alive = true → s.clk.aGated = none →
    let now := (s.at t).now
    let me := s.hpos.getD 0
    let req := s.hng.req
    let read := fun (d : Bool) (q off nb : Nat) => Out.hinge d.toNat 0x08 (frame false 0x08 me q req (mntAddr off nb)) :: s.out
    let write := fun (d : Bool) (q off nb : Nat) (v : W64) => Out.hinge d.toNat 0x0A (frame false 0x0A me q req v) ::
      Out.hinge d.toNat 0x09 (frame false 0x09 me q req (mntAddr off nb)) :: s.out
    let sel := s.reg 0x104030
    let pos := fld sel 30 25
    let ones := fun (x nb : Nat) => Out.rdData (0x300000 + x) nb (narrow (BitVec.allOnes 64) 0 nb)
    let next := { s.hng with req := (req + 1) % 2048 }
    (∀ x nb, x < 0x100000 → s.host.memEn = false → exec (.remoteWindowRead t x nb) s = .next ((s.at t).aer 20)) ∧
    (∀ x nb, x < 0x100000 → 0 < nb → x % 8 + nb ≤ 8 → s.host.memEn = true →
      (bit sel 31 = false → exec (.remoteWindowRead t x nb) s = .next { s.at t with
        host := { s.host with rRef := s.host.rRef + 1 }, out := ones x nb :: s.out }) ∧
      (bit sel 31 = true → s.host.rwait = [] → s.host.rwin.length < 8 →
        (s.route pos = none → exec (.remoteWindowRead t x nb) s = .next { s.at t with
          host := { s.host with rRef := s.host.rRef + 1 }, out := ones x nb :: s.out }) ∧
        (∀ d, s.route pos = some d → exec (.remoteWindowRead t x nb) s = .next { s.at t with
          host := { s.host with rwin := s.host.rwin ++ [(req, x, nb, now)] }, out := read d pos x nb, hng := next })) ∧
      (bit sel 31 = true → 8 ≤ s.host.rwin.length → exec (.remoteWindowRead t x nb) s = .next { s.at t with
        host := { s.host with rwait := s.host.rwait ++ [(pos, x, nb)] } })) ∧
    (∀ x (w : Wr), x < 0x100000 → s.host.memEn = true →
      (bit sel 31 = false ∨ s.route pos = none → exec (.remoteWindowWrite t x w) s = .next { s.at t with
        host := { s.host with rRef := s.host.rRef + 1 } }) ∧
      (∀ d, bit sel 31 = true → s.route pos = some d → exec (.remoteWindowWrite t x w) s = .next { s.at t with out := write d pos x w.nb w.v, hng := next })) ∧
    (∀ r x nb t0 rest, s.host.rwin = (r, x, nb, t0) :: rest →
      (40000 ≤ since now t0 → s.host.rwait = [] → exec (.remoteReadTimeout t) s = .next { s.at t with
        host := { s.host with rTo := s.host.rTo + 1, rwin := rest }, out := ones x nb :: s.out }) ∧
      (since now t0 < 40000 → exec (.remoteReadTimeout t) s = .next (s.at t))) ∧
    (∀ v, s.reaches 0x104030 = true →
      (s.host.rwin ≠ [] ∨ s.host.rwait ≠ [] → exec (.rwinSelWrite t (goodWr v u)) s = .next { s.at t with
        flt := { s.flt with rej := s.flt.rej + 1, info := pack 64 [(4, 60), (u.toNat, 53), (0x104030, 0)] } }) ∧
      (s.host.rwin = [] → s.host.rwait = [] → Gives (.rwinSelWrite t (goodWr v u)) s fun s' => s'.reg 0x104030 = v &&& 0xFE000000 ∧
        (∀ o, o ≠ 0x104030 → s'.reg o = s.reg o) ∧ s' = { s.at t with regs := s'.regs, flt := s'.flt })) ∧
    (∀ v, s.reaches 0x1C0068 = true → bit v 31 = true →
      let q := s.regF 0x1C0070 31 26
      let off := s.regF 0x1C0070 21 0
      let c := if bit v 30 then Instr.mntWrite t (goodWr v u) else Instr.mntRead t (goodWr v u)
      (s.hng.mnt ≠ none → exec c s = .next { s.at t with
        flt := { s.flt with rej := s.flt.rej + 1, info := pack 64 [(4, 60), (u.toNat, 53), (0x1C0068, 0)] } }) ∧
      (s.hng.mnt = none → s.route q = none → Gives c s fun s' => s'.hng.mErr = true ∧ s'.hng.mnt = none ∧
        s'.hng.rdata = (if bit v 30 then s.hng.rdata else BitVec.allOnes 64) ∧ s'.host.cause.getLsbD 8 = true ∧ s'.hng.req = req) ∧
      (∀ d, s.hng.mnt = none → s.route q = some d → Gives c s fun s' => s'.hng.mErr = false ∧ s'.hng.req = (req + 1) % 2048 ∧
        s'.hng.mnt = (if bit v 30 then none else some (req, now)) ∧ s'.out = (if bit v 30 then write d q off 8 s.hng.wdata else read d q off 8) ∧
        s'.reg 0x1C0068 = v &&& 0x40000000)) ∧
    (∀ r x, s.hng.mnt = some (r, x) →
      (40000 ≤ since now x → Gives (.mntTimeout t) s fun s' => s'.hng = { s.hng with mnt := none, mErr := true, rdata := BitVec.allOnes 64 } ∧
        s'.host.cause.getLsbD 8 = true ∧ s'.regs = s.regs) ∧
      (since now x < 40000 → exec (.mntTimeout t) s = .next (s.at t))) ∧
    (∀ p src dest r, (s.port p).st = 2 →
      (s.hpos = some (BitVec.toNat dest) →
        (∀ off nb v, exec (.mntWr t p src dest r ⟨off, nb⟩ v) s = exec (.registerWrite t off.toNat { v := v, nb := nb, src := 1#1 ++ src }) s) ∧
        (∀ off nb d, (early (off.toNat - off.toNat % 8) = true ∨ s.running = true) → s.stalls (off.toNat - off.toNat % 8) = false →
          s.route (BitVec.toNat src) = some d → Gives (.mntRd t p src dest r ⟨off, nb⟩) s fun s' => s'.out = .hinge d.toNat 0x0A
            (frame false 0x0A me src.toNat (BitVec.toNat r) (narrow ((s.at t).readWord (off.toNat - off.toNat % 8)) (off.toNat % 8) nb)) :: s.out) ∧
        (∀ v y, s.host.rwin = [] → s.hng.mnt = some (BitVec.toNat r, y) →
          exec (.mntData t p src dest r false v) s = .next { s.at t with hng := { s.hng with mnt := none, rdata := v } } ∧
          Gives (.mntData t p src dest r true v) s fun s' => s'.hng = { s.hng with mnt := none, mErr := true, rdata := BitVec.allOnes 64 }) ∧
        (∀ v x nb y err, s.host.rwin = [(BitVec.toNat r, x, nb, y)] → s.host.rwait = [] → exec (.mntData t p src dest r err v) s = .next { s.at t with
          host := { s.host with rwin := [] }
          out := .rdData (0x300000 + x) nb (narrow (if err then BitVec.allOnes 64 else v) 0 nb) :: s.out })) ∧
      (s.hpos ≠ some (BitVec.toNat dest) → (s.port (!p)).st = 2 → ∀ off nb v err,
        exec (.mntRd t p src dest r ⟨off, nb⟩) s = .next { s.at t with
          out := .hinge (!p).toNat 0x08 (frame false 0x08 src.toNat dest.toNat r.toNat (mntAddr off.toNat nb)) :: s.out } ∧
        exec (.mntData t p src dest r err v) s = .next { s.at t with
          out := .hinge (!p).toNat 0x0A (frame false 0x0A src.toNat dest.toNat (r.toNat + 2048 * err.toNat) v) :: s.out } ∧
        exec (.mntWr t p src dest r ⟨off, nb⟩ v) s = .next { s.at t with
          out := .hinge (!p).toNat 0x0A (frame false 0x0A src.toNat dest.toNat r.toNat v) ::
            .hinge (!p).toNat 0x09 (frame false 0x09 src.toNat dest.toNat r.toNat (mntAddr off.toNat nb)) :: s.out }))
end

