-- ==== Sys2Proof/Laws/State.lean ====
section
/-! SUPPORT. What each named update of the state leaves in each field: true by definition, so that no proof unfolds a record update. -/

namespace Sys2Proof
namespace Machine

@[simp] theorem State.modTick_tick (s : State) (f : _) : (s.modTick f).tick = f s.tick := rfl
@[simp] theorem State.modTick_pending (s : State) (f : _) : (s.modTick f).pending = s.pending := rfl
@[simp] theorem State.modTick_now (s : State) (f : _) : (s.modTick f).now = s.now := rfl
@[simp] theorem State.modTick_regs (s : State) (f : _) : (s.modTick f).regs = s.regs := rfl
@[simp] theorem State.modTick_pix (s : State) (f : _) : (s.modTick f).pix = s.pix := rfl
@[simp] theorem State.modTick_shadow (s : State) (f : _) : (s.modTick f).shadow = s.shadow := rfl
@[simp] theorem State.modTick_snap (s : State) (f : _) : (s.modTick f).snap = s.snap := rfl
@[simp] theorem State.modTick_seq (s : State) (f : _) : (s.modTick f).seq = s.seq := rfl
@[simp] theorem State.modTick_conv (s : State) (f : _) : (s.modTick f).conv = s.conv := rfl
@[simp] theorem State.modTick_cal (s : State) (f : _) : (s.modTick f).cal = s.cal := rfl
@[simp] theorem State.modTick_te (s : State) (f : _) : (s.modTick f).te = s.te := rfl
@[simp] theorem State.modTick_fab (s : State) (f : _) : (s.modTick f).fab = s.fab := rfl
@[simp] theorem State.modTick_host (s : State) (f : _) : (s.modTick f).host = s.host := rfl
@[simp] theorem State.modTick_clk (s : State) (f : _) : (s.modTick f).clk = s.clk := rfl
@[simp] theorem State.modTick_px (s : State) (f : _) : (s.modTick f).px = s.px := rfl
@[simp] theorem State.modTick_hng (s : State) (f : _) : (s.modTick f).hng = s.hng := rfl
@[simp] theorem State.modTick_boot (s : State) (f : _) : (s.modTick f).boot = s.boot := rfl
@[simp] theorem State.modTick_flt (s : State) (f : _) : (s.modTick f).flt = s.flt := rfl
@[simp] theorem State.modTick_th (s : State) (f : _) : (s.modTick f).th = s.th := rfl
@[simp] theorem State.modTick_out (s : State) (f : _) : (s.modTick f).out = s.out := rfl
@[simp] theorem State.modTick_free (s : State) (f : _) : (s.modTick f).free = s.free := rfl

@[simp] theorem State.modSeq_seq (s : State) (f : _) : (s.modSeq f).seq = f s.seq := rfl
@[simp] theorem State.modSeq_pending (s : State) (f : _) : (s.modSeq f).pending = s.pending := rfl
@[simp] theorem State.modSeq_now (s : State) (f : _) : (s.modSeq f).now = s.now := rfl
@[simp] theorem State.modSeq_regs (s : State) (f : _) : (s.modSeq f).regs = s.regs := rfl
@[simp] theorem State.modSeq_pix (s : State) (f : _) : (s.modSeq f).pix = s.pix := rfl
@[simp] theorem State.modSeq_shadow (s : State) (f : _) : (s.modSeq f).shadow = s.shadow := rfl
@[simp] theorem State.modSeq_snap (s : State) (f : _) : (s.modSeq f).snap = s.snap := rfl
@[simp] theorem State.modSeq_tick (s : State) (f : _) : (s.modSeq f).tick = s.tick := rfl
@[simp] theorem State.modSeq_conv (s : State) (f : _) : (s.modSeq f).conv = s.conv := rfl
@[simp] theorem State.modSeq_cal (s : State) (f : _) : (s.modSeq f).cal = s.cal := rfl
@[simp] theorem State.modSeq_te (s : State) (f : _) : (s.modSeq f).te = s.te := rfl
@[simp] theorem State.modSeq_fab (s : State) (f : _) : (s.modSeq f).fab = s.fab := rfl
@[simp] theorem State.modSeq_host (s : State) (f : _) : (s.modSeq f).host = s.host := rfl
@[simp] theorem State.modSeq_clk (s : State) (f : _) : (s.modSeq f).clk = s.clk := rfl
@[simp] theorem State.modSeq_px (s : State) (f : _) : (s.modSeq f).px = s.px := rfl
@[simp] theorem State.modSeq_hng (s : State) (f : _) : (s.modSeq f).hng = s.hng := rfl
@[simp] theorem State.modSeq_boot (s : State) (f : _) : (s.modSeq f).boot = s.boot := rfl
@[simp] theorem State.modSeq_flt (s : State) (f : _) : (s.modSeq f).flt = s.flt := rfl
@[simp] theorem State.modSeq_th (s : State) (f : _) : (s.modSeq f).th = s.th := rfl
@[simp] theorem State.modSeq_out (s : State) (f : _) : (s.modSeq f).out = s.out := rfl
@[simp] theorem State.modSeq_free (s : State) (f : _) : (s.modSeq f).free = s.free := rfl

@[simp] theorem State.modConv_conv (s : State) (f : _) : (s.modConv f).conv = f s.conv := rfl
@[simp] theorem State.modConv_pending (s : State) (f : _) : (s.modConv f).pending = s.pending := rfl
@[simp] theorem State.modConv_now (s : State) (f : _) : (s.modConv f).now = s.now := rfl
@[simp] theorem State.modConv_regs (s : State) (f : _) : (s.modConv f).regs = s.regs := rfl
@[simp] theorem State.modConv_pix (s : State) (f : _) : (s.modConv f).pix = s.pix := rfl
@[simp] theorem State.modConv_shadow (s : State) (f : _) : (s.modConv f).shadow = s.shadow := rfl
@[simp] theorem State.modConv_snap (s : State) (f : _) : (s.modConv f).snap = s.snap := rfl
@[simp] theorem State.modConv_tick (s : State) (f : _) : (s.modConv f).tick = s.tick := rfl
@[simp] theorem State.modConv_seq (s : State) (f : _) : (s.modConv f).seq = s.seq := rfl
@[simp] theorem State.modConv_cal (s : State) (f : _) : (s.modConv f).cal = s.cal := rfl
@[simp] theorem State.modConv_te (s : State) (f : _) : (s.modConv f).te = s.te := rfl
@[simp] theorem State.modConv_fab (s : State) (f : _) : (s.modConv f).fab = s.fab := rfl
@[simp] theorem State.modConv_host (s : State) (f : _) : (s.modConv f).host = s.host := rfl
@[simp] theorem State.modConv_clk (s : State) (f : _) : (s.modConv f).clk = s.clk := rfl
@[simp] theorem State.modConv_px (s : State) (f : _) : (s.modConv f).px = s.px := rfl
@[simp] theorem State.modConv_hng (s : State) (f : _) : (s.modConv f).hng = s.hng := rfl
@[simp] theorem State.modConv_boot (s : State) (f : _) : (s.modConv f).boot = s.boot := rfl
@[simp] theorem State.modConv_flt (s : State) (f : _) : (s.modConv f).flt = s.flt := rfl
@[simp] theorem State.modConv_th (s : State) (f : _) : (s.modConv f).th = s.th := rfl
@[simp] theorem State.modConv_out (s : State) (f : _) : (s.modConv f).out = s.out := rfl
@[simp] theorem State.modConv_free (s : State) (f : _) : (s.modConv f).free = s.free := rfl

@[simp] theorem State.modCal_cal (s : State) (f : _) : (s.modCal f).cal = f s.cal := rfl
@[simp] theorem State.modCal_pending (s : State) (f : _) : (s.modCal f).pending = s.pending := rfl
@[simp] theorem State.modCal_now (s : State) (f : _) : (s.modCal f).now = s.now := rfl
@[simp] theorem State.modCal_regs (s : State) (f : _) : (s.modCal f).regs = s.regs := rfl
@[simp] theorem State.modCal_pix (s : State) (f : _) : (s.modCal f).pix = s.pix := rfl
@[simp] theorem State.modCal_shadow (s : State) (f : _) : (s.modCal f).shadow = s.shadow := rfl
@[simp] theorem State.modCal_snap (s : State) (f : _) : (s.modCal f).snap = s.snap := rfl
@[simp] theorem State.modCal_tick (s : State) (f : _) : (s.modCal f).tick = s.tick := rfl
@[simp] theorem State.modCal_seq (s : State) (f : _) : (s.modCal f).seq = s.seq := rfl
@[simp] theorem State.modCal_conv (s : State) (f : _) : (s.modCal f).conv = s.conv := rfl
@[simp] theorem State.modCal_te (s : State) (f : _) : (s.modCal f).te = s.te := rfl
@[simp] theorem State.modCal_fab (s : State) (f : _) : (s.modCal f).fab = s.fab := rfl
@[simp] theorem State.modCal_host (s : State) (f : _) : (s.modCal f).host = s.host := rfl
@[simp] theorem State.modCal_clk (s : State) (f : _) : (s.modCal f).clk = s.clk := rfl
@[simp] theorem State.modCal_px (s : State) (f : _) : (s.modCal f).px = s.px := rfl
@[simp] theorem State.modCal_hng (s : State) (f : _) : (s.modCal f).hng = s.hng := rfl
@[simp] theorem State.modCal_boot (s : State) (f : _) : (s.modCal f).boot = s.boot := rfl
@[simp] theorem State.modCal_flt (s : State) (f : _) : (s.modCal f).flt = s.flt := rfl
@[simp] theorem State.modCal_th (s : State) (f : _) : (s.modCal f).th = s.th := rfl
@[simp] theorem State.modCal_out (s : State) (f : _) : (s.modCal f).out = s.out := rfl
@[simp] theorem State.modCal_free (s : State) (f : _) : (s.modCal f).free = s.free := rfl

@[simp] theorem State.modTe_te (s : State) (f : _) : (s.modTe f).te = f s.te := rfl
@[simp] theorem State.modTe_pending (s : State) (f : _) : (s.modTe f).pending = s.pending := rfl
@[simp] theorem State.modTe_now (s : State) (f : _) : (s.modTe f).now = s.now := rfl
@[simp] theorem State.modTe_regs (s : State) (f : _) : (s.modTe f).regs = s.regs := rfl
@[simp] theorem State.modTe_pix (s : State) (f : _) : (s.modTe f).pix = s.pix := rfl
@[simp] theorem State.modTe_shadow (s : State) (f : _) : (s.modTe f).shadow = s.shadow := rfl
@[simp] theorem State.modTe_snap (s : State) (f : _) : (s.modTe f).snap = s.snap := rfl
@[simp] theorem State.modTe_tick (s : State) (f : _) : (s.modTe f).tick = s.tick := rfl
@[simp] theorem State.modTe_seq (s : State) (f : _) : (s.modTe f).seq = s.seq := rfl
@[simp] theorem State.modTe_conv (s : State) (f : _) : (s.modTe f).conv = s.conv := rfl
@[simp] theorem State.modTe_cal (s : State) (f : _) : (s.modTe f).cal = s.cal := rfl
@[simp] theorem State.modTe_fab (s : State) (f : _) : (s.modTe f).fab = s.fab := rfl
@[simp] theorem State.modTe_host (s : State) (f : _) : (s.modTe f).host = s.host := rfl
@[simp] theorem State.modTe_clk (s : State) (f : _) : (s.modTe f).clk = s.clk := rfl
@[simp] theorem State.modTe_px (s : State) (f : _) : (s.modTe f).px = s.px := rfl
@[simp] theorem State.modTe_hng (s : State) (f : _) : (s.modTe f).hng = s.hng := rfl
@[simp] theorem State.modTe_boot (s : State) (f : _) : (s.modTe f).boot = s.boot := rfl
@[simp] theorem State.modTe_flt (s : State) (f : _) : (s.modTe f).flt = s.flt := rfl
@[simp] theorem State.modTe_th (s : State) (f : _) : (s.modTe f).th = s.th := rfl
@[simp] theorem State.modTe_out (s : State) (f : _) : (s.modTe f).out = s.out := rfl
@[simp] theorem State.modTe_free (s : State) (f : _) : (s.modTe f).free = s.free := rfl

@[simp] theorem State.modFab_fab (s : State) (f : _) : (s.modFab f).fab = f s.fab := rfl
@[simp] theorem State.modFab_pending (s : State) (f : _) : (s.modFab f).pending = s.pending := rfl
@[simp] theorem State.modFab_now (s : State) (f : _) : (s.modFab f).now = s.now := rfl
@[simp] theorem State.modFab_regs (s : State) (f : _) : (s.modFab f).regs = s.regs := rfl
@[simp] theorem State.modFab_pix (s : State) (f : _) : (s.modFab f).pix = s.pix := rfl
@[simp] theorem State.modFab_shadow (s : State) (f : _) : (s.modFab f).shadow = s.shadow := rfl
@[simp] theorem State.modFab_snap (s : State) (f : _) : (s.modFab f).snap = s.snap := rfl
@[simp] theorem State.modFab_tick (s : State) (f : _) : (s.modFab f).tick = s.tick := rfl
@[simp] theorem State.modFab_seq (s : State) (f : _) : (s.modFab f).seq = s.seq := rfl
@[simp] theorem State.modFab_conv (s : State) (f : _) : (s.modFab f).conv = s.conv := rfl
@[simp] theorem State.modFab_cal (s : State) (f : _) : (s.modFab f).cal = s.cal := rfl
@[simp] theorem State.modFab_te (s : State) (f : _) : (s.modFab f).te = s.te := rfl
@[simp] theorem State.modFab_host (s : State) (f : _) : (s.modFab f).host = s.host := rfl
@[simp] theorem State.modFab_clk (s : State) (f : _) : (s.modFab f).clk = s.clk := rfl
@[simp] theorem State.modFab_px (s : State) (f : _) : (s.modFab f).px = s.px := rfl
@[simp] theorem State.modFab_hng (s : State) (f : _) : (s.modFab f).hng = s.hng := rfl
@[simp] theorem State.modFab_boot (s : State) (f : _) : (s.modFab f).boot = s.boot := rfl
@[simp] theorem State.modFab_flt (s : State) (f : _) : (s.modFab f).flt = s.flt := rfl
@[simp] theorem State.modFab_th (s : State) (f : _) : (s.modFab f).th = s.th := rfl
@[simp] theorem State.modFab_out (s : State) (f : _) : (s.modFab f).out = s.out := rfl
@[simp] theorem State.modFab_free (s : State) (f : _) : (s.modFab f).free = s.free := rfl

@[simp] theorem State.modHost_host (s : State) (f : _) : (s.modHost f).host = f s.host := rfl
@[simp] theorem State.modHost_pending (s : State) (f : _) : (s.modHost f).pending = s.pending := rfl
@[simp] theorem State.modHost_now (s : State) (f : _) : (s.modHost f).now = s.now := rfl
@[simp] theorem State.modHost_regs (s : State) (f : _) : (s.modHost f).regs = s.regs := rfl
@[simp] theorem State.modHost_pix (s : State) (f : _) : (s.modHost f).pix = s.pix := rfl
@[simp] theorem State.modHost_shadow (s : State) (f : _) : (s.modHost f).shadow = s.shadow := rfl
@[simp] theorem State.modHost_snap (s : State) (f : _) : (s.modHost f).snap = s.snap := rfl
@[simp] theorem State.modHost_tick (s : State) (f : _) : (s.modHost f).tick = s.tick := rfl
@[simp] theorem State.modHost_seq (s : State) (f : _) : (s.modHost f).seq = s.seq := rfl
@[simp] theorem State.modHost_conv (s : State) (f : _) : (s.modHost f).conv = s.conv := rfl
@[simp] theorem State.modHost_cal (s : State) (f : _) : (s.modHost f).cal = s.cal := rfl
@[simp] theorem State.modHost_te (s : State) (f : _) : (s.modHost f).te = s.te := rfl
@[simp] theorem State.modHost_fab (s : State) (f : _) : (s.modHost f).fab = s.fab := rfl
@[simp] theorem State.modHost_clk (s : State) (f : _) : (s.modHost f).clk = s.clk := rfl
@[simp] theorem State.modHost_px (s : State) (f : _) : (s.modHost f).px = s.px := rfl
@[simp] theorem State.modHost_hng (s : State) (f : _) : (s.modHost f).hng = s.hng := rfl
@[simp] theorem State.modHost_boot (s : State) (f : _) : (s.modHost f).boot = s.boot := rfl
@[simp] theorem State.modHost_flt (s : State) (f : _) : (s.modHost f).flt = s.flt := rfl
@[simp] theorem State.modHost_th (s : State) (f : _) : (s.modHost f).th = s.th := rfl
@[simp] theorem State.modHost_out (s : State) (f : _) : (s.modHost f).out = s.out := rfl
@[simp] theorem State.modHost_free (s : State) (f : _) : (s.modHost f).free = s.free := rfl

@[simp] theorem State.modClk_clk (s : State) (f : _) : (s.modClk f).clk = f s.clk := rfl
@[simp] theorem State.modClk_pending (s : State) (f : _) : (s.modClk f).pending = s.pending := rfl
@[simp] theorem State.modClk_now (s : State) (f : _) : (s.modClk f).now = s.now := rfl
@[simp] theorem State.modClk_regs (s : State) (f : _) : (s.modClk f).regs = s.regs := rfl
@[simp] theorem State.modClk_pix (s : State) (f : _) : (s.modClk f).pix = s.pix := rfl
@[simp] theorem State.modClk_shadow (s : State) (f : _) : (s.modClk f).shadow = s.shadow := rfl
@[simp] theorem State.modClk_snap (s : State) (f : _) : (s.modClk f).snap = s.snap := rfl
@[simp] theorem State.modClk_tick (s : State) (f : _) : (s.modClk f).tick = s.tick := rfl
@[simp] theorem State.modClk_seq (s : State) (f : _) : (s.modClk f).seq = s.seq := rfl
@[simp] theorem State.modClk_conv (s : State) (f : _) : (s.modClk f).conv = s.conv := rfl
@[simp] theorem State.modClk_cal (s : State) (f : _) : (s.modClk f).cal = s.cal := rfl
@[simp] theorem State.modClk_te (s : State) (f : _) : (s.modClk f).te = s.te := rfl
@[simp] theorem State.modClk_fab (s : State) (f : _) : (s.modClk f).fab = s.fab := rfl
@[simp] theorem State.modClk_host (s : State) (f : _) : (s.modClk f).host = s.host := rfl
@[simp] theorem State.modClk_px (s : State) (f : _) : (s.modClk f).px = s.px := rfl
@[simp] theorem State.modClk_hng (s : State) (f : _) : (s.modClk f).hng = s.hng := rfl
@[simp] theorem State.modClk_boot (s : State) (f : _) : (s.modClk f).boot = s.boot := rfl
@[simp] theorem State.modClk_flt (s : State) (f : _) : (s.modClk f).flt = s.flt := rfl
@[simp] theorem State.modClk_th (s : State) (f : _) : (s.modClk f).th = s.th := rfl
@[simp] theorem State.modClk_out (s : State) (f : _) : (s.modClk f).out = s.out := rfl
@[simp] theorem State.modClk_free (s : State) (f : _) : (s.modClk f).free = s.free := rfl

@[simp] theorem State.modHng_hng (s : State) (f : _) : (s.modHng f).hng = f s.hng := rfl
@[simp] theorem State.modHng_pending (s : State) (f : _) : (s.modHng f).pending = s.pending := rfl
@[simp] theorem State.modHng_now (s : State) (f : _) : (s.modHng f).now = s.now := rfl
@[simp] theorem State.modHng_regs (s : State) (f : _) : (s.modHng f).regs = s.regs := rfl
@[simp] theorem State.modHng_pix (s : State) (f : _) : (s.modHng f).pix = s.pix := rfl
@[simp] theorem State.modHng_shadow (s : State) (f : _) : (s.modHng f).shadow = s.shadow := rfl
@[simp] theorem State.modHng_snap (s : State) (f : _) : (s.modHng f).snap = s.snap := rfl
@[simp] theorem State.modHng_tick (s : State) (f : _) : (s.modHng f).tick = s.tick := rfl
@[simp] theorem State.modHng_seq (s : State) (f : _) : (s.modHng f).seq = s.seq := rfl
@[simp] theorem State.modHng_conv (s : State) (f : _) : (s.modHng f).conv = s.conv := rfl
@[simp] theorem State.modHng_cal (s : State) (f : _) : (s.modHng f).cal = s.cal := rfl
@[simp] theorem State.modHng_te (s : State) (f : _) : (s.modHng f).te = s.te := rfl
@[simp] theorem State.modHng_fab (s : State) (f : _) : (s.modHng f).fab = s.fab := rfl
@[simp] theorem State.modHng_host (s : State) (f : _) : (s.modHng f).host = s.host := rfl
@[simp] theorem State.modHng_clk (s : State) (f : _) : (s.modHng f).clk = s.clk := rfl
@[simp] theorem State.modHng_px (s : State) (f : _) : (s.modHng f).px = s.px := rfl
@[simp] theorem State.modHng_boot (s : State) (f : _) : (s.modHng f).boot = s.boot := rfl
@[simp] theorem State.modHng_flt (s : State) (f : _) : (s.modHng f).flt = s.flt := rfl
@[simp] theorem State.modHng_th (s : State) (f : _) : (s.modHng f).th = s.th := rfl
@[simp] theorem State.modHng_out (s : State) (f : _) : (s.modHng f).out = s.out := rfl
@[simp] theorem State.modHng_free (s : State) (f : _) : (s.modHng f).free = s.free := rfl

@[simp] theorem State.modBoot_boot (s : State) (f : _) : (s.modBoot f).boot = f s.boot := rfl
@[simp] theorem State.modBoot_pending (s : State) (f : _) : (s.modBoot f).pending = s.pending := rfl
@[simp] theorem State.modBoot_now (s : State) (f : _) : (s.modBoot f).now = s.now := rfl
@[simp] theorem State.modBoot_regs (s : State) (f : _) : (s.modBoot f).regs = s.regs := rfl
@[simp] theorem State.modBoot_pix (s : State) (f : _) : (s.modBoot f).pix = s.pix := rfl
@[simp] theorem State.modBoot_shadow (s : State) (f : _) : (s.modBoot f).shadow = s.shadow := rfl
@[simp] theorem State.modBoot_snap (s : State) (f : _) : (s.modBoot f).snap = s.snap := rfl
@[simp] theorem State.modBoot_tick (s : State) (f : _) : (s.modBoot f).tick = s.tick := rfl
@[simp] theorem State.modBoot_seq (s : State) (f : _) : (s.modBoot f).seq = s.seq := rfl
@[simp] theorem State.modBoot_conv (s : State) (f : _) : (s.modBoot f).conv = s.conv := rfl
@[simp] theorem State.modBoot_cal (s : State) (f : _) : (s.modBoot f).cal = s.cal := rfl
@[simp] theorem State.modBoot_te (s : State) (f : _) : (s.modBoot f).te = s.te := rfl
@[simp] theorem State.modBoot_fab (s : State) (f : _) : (s.modBoot f).fab = s.fab := rfl
@[simp] theorem State.modBoot_host (s : State) (f : _) : (s.modBoot f).host = s.host := rfl
@[simp] theorem State.modBoot_clk (s : State) (f : _) : (s.modBoot f).clk = s.clk := rfl
@[simp] theorem State.modBoot_px (s : State) (f : _) : (s.modBoot f).px = s.px := rfl
@[simp] theorem State.modBoot_hng (s : State) (f : _) : (s.modBoot f).hng = s.hng := rfl
@[simp] theorem State.modBoot_flt (s : State) (f : _) : (s.modBoot f).flt = s.flt := rfl
@[simp] theorem State.modBoot_th (s : State) (f : _) : (s.modBoot f).th = s.th := rfl
@[simp] theorem State.modBoot_out (s : State) (f : _) : (s.modBoot f).out = s.out := rfl
@[simp] theorem State.modBoot_free (s : State) (f : _) : (s.modBoot f).free = s.free := rfl

@[simp] theorem State.modFlt_flt (s : State) (f : _) : (s.modFlt f).flt = f s.flt := rfl
@[simp] theorem State.modFlt_pending (s : State) (f : _) : (s.modFlt f).pending = s.pending := rfl
@[simp] theorem State.modFlt_now (s : State) (f : _) : (s.modFlt f).now = s.now := rfl
@[simp] theorem State.modFlt_regs (s : State) (f : _) : (s.modFlt f).regs = s.regs := rfl
@[simp] theorem State.modFlt_pix (s : State) (f : _) : (s.modFlt f).pix = s.pix := rfl
@[simp] theorem State.modFlt_shadow (s : State) (f : _) : (s.modFlt f).shadow = s.shadow := rfl
@[simp] theorem State.modFlt_snap (s : State) (f : _) : (s.modFlt f).snap = s.snap := rfl
@[simp] theorem State.modFlt_tick (s : State) (f : _) : (s.modFlt f).tick = s.tick := rfl
@[simp] theorem State.modFlt_seq (s : State) (f : _) : (s.modFlt f).seq = s.seq := rfl
@[simp] theorem State.modFlt_conv (s : State) (f : _) : (s.modFlt f).conv = s.conv := rfl
@[simp] theorem State.modFlt_cal (s : State) (f : _) : (s.modFlt f).cal = s.cal := rfl
@[simp] theorem State.modFlt_te (s : State) (f : _) : (s.modFlt f).te = s.te := rfl
@[simp] theorem State.modFlt_fab (s : State) (f : _) : (s.modFlt f).fab = s.fab := rfl
@[simp] theorem State.modFlt_host (s : State) (f : _) : (s.modFlt f).host = s.host := rfl
@[simp] theorem State.modFlt_clk (s : State) (f : _) : (s.modFlt f).clk = s.clk := rfl
@[simp] theorem State.modFlt_px (s : State) (f : _) : (s.modFlt f).px = s.px := rfl
@[simp] theorem State.modFlt_hng (s : State) (f : _) : (s.modFlt f).hng = s.hng := rfl
@[simp] theorem State.modFlt_boot (s : State) (f : _) : (s.modFlt f).boot = s.boot := rfl
@[simp] theorem State.modFlt_th (s : State) (f : _) : (s.modFlt f).th = s.th := rfl
@[simp] theorem State.modFlt_out (s : State) (f : _) : (s.modFlt f).out = s.out := rfl
@[simp] theorem State.modFlt_free (s : State) (f : _) : (s.modFlt f).free = s.free := rfl

@[simp] theorem State.modTh_th (s : State) (f : _) : (s.modTh f).th = f s.th := rfl
@[simp] theorem State.modTh_pending (s : State) (f : _) : (s.modTh f).pending = s.pending := rfl
@[simp] theorem State.modTh_now (s : State) (f : _) : (s.modTh f).now = s.now := rfl
@[simp] theorem State.modTh_regs (s : State) (f : _) : (s.modTh f).regs = s.regs := rfl
@[simp] theorem State.modTh_pix (s : State) (f : _) : (s.modTh f).pix = s.pix := rfl
@[simp] theorem State.modTh_shadow (s : State) (f : _) : (s.modTh f).shadow = s.shadow := rfl
@[simp] theorem State.modTh_snap (s : State) (f : _) : (s.modTh f).snap = s.snap := rfl
@[simp] theorem State.modTh_tick (s : State) (f : _) : (s.modTh f).tick = s.tick := rfl
@[simp] theorem State.modTh_seq (s : State) (f : _) : (s.modTh f).seq = s.seq := rfl
@[simp] theorem State.modTh_conv (s : State) (f : _) : (s.modTh f).conv = s.conv := rfl
@[simp] theorem State.modTh_cal (s : State) (f : _) : (s.modTh f).cal = s.cal := rfl
@[simp] theorem State.modTh_te (s : State) (f : _) : (s.modTh f).te = s.te := rfl
@[simp] theorem State.modTh_fab (s : State) (f : _) : (s.modTh f).fab = s.fab := rfl
@[simp] theorem State.modTh_host (s : State) (f : _) : (s.modTh f).host = s.host := rfl
@[simp] theorem State.modTh_clk (s : State) (f : _) : (s.modTh f).clk = s.clk := rfl
@[simp] theorem State.modTh_px (s : State) (f : _) : (s.modTh f).px = s.px := rfl
@[simp] theorem State.modTh_hng (s : State) (f : _) : (s.modTh f).hng = s.hng := rfl
@[simp] theorem State.modTh_boot (s : State) (f : _) : (s.modTh f).boot = s.boot := rfl
@[simp] theorem State.modTh_flt (s : State) (f : _) : (s.modTh f).flt = s.flt := rfl
@[simp] theorem State.modTh_out (s : State) (f : _) : (s.modTh f).out = s.out := rfl
@[simp] theorem State.modTh_free (s : State) (f : _) : (s.modTh f).free = s.free := rfl

@[simp] theorem State.at_pending (s : State) (t : Time) : (s.at t).pending = s.pending := rfl
@[simp] theorem State.at_regs (s : State) (t : Time) : (s.at t).regs = s.regs := rfl
@[simp] theorem State.at_pix (s : State) (t : Time) : (s.at t).pix = s.pix := rfl
@[simp] theorem State.at_shadow (s : State) (t : Time) : (s.at t).shadow = s.shadow := rfl
@[simp] theorem State.at_snap (s : State) (t : Time) : (s.at t).snap = s.snap := rfl
@[simp] theorem State.at_tick (s : State) (t : Time) : (s.at t).tick = s.tick := rfl
@[simp] theorem State.at_seq (s : State) (t : Time) : (s.at t).seq = s.seq := rfl
@[simp] theorem State.at_conv (s : State) (t : Time) : (s.at t).conv = s.conv := rfl
@[simp] theorem State.at_cal (s : State) (t : Time) : (s.at t).cal = s.cal := rfl
@[simp] theorem State.at_te (s : State) (t : Time) : (s.at t).te = s.te := rfl
@[simp] theorem State.at_fab (s : State) (t : Time) : (s.at t).fab = s.fab := rfl
@[simp] theorem State.at_host (s : State) (t : Time) : (s.at t).host = s.host := rfl
@[simp] theorem State.at_clk (s : State) (t : Time) : (s.at t).clk = s.clk := rfl
@[simp] theorem State.at_px (s : State) (t : Time) : (s.at t).px = s.px := rfl
@[simp] theorem State.at_hng (s : State) (t : Time) : (s.at t).hng = s.hng := rfl
@[simp] theorem State.at_boot (s : State) (t : Time) : (s.at t).boot = s.boot := rfl
@[simp] theorem State.at_flt (s : State) (t : Time) : (s.at t).flt = s.flt := rfl
@[simp] theorem State.at_th (s : State) (t : Time) : (s.at t).th = s.th := rfl
@[simp] theorem State.at_out (s : State) (t : Time) : (s.at t).out = s.out := rfl
@[simp] theorem State.at_free (s : State) (t : Time) : (s.at t).free = s.free := rfl

@[simp] theorem State.emit_pending (s : State) (o : Out) : (s.emit o).pending = s.pending := rfl
@[simp] theorem State.emit_now (s : State) (o : Out) : (s.emit o).now = s.now := rfl
@[simp] theorem State.emit_regs (s : State) (o : Out) : (s.emit o).regs = s.regs := rfl
@[simp] theorem State.emit_pix (s : State) (o : Out) : (s.emit o).pix = s.pix := rfl
@[simp] theorem State.emit_shadow (s : State) (o : Out) : (s.emit o).shadow = s.shadow := rfl
@[simp] theorem State.emit_snap (s : State) (o : Out) : (s.emit o).snap = s.snap := rfl
@[simp] theorem State.emit_tick (s : State) (o : Out) : (s.emit o).tick = s.tick := rfl
@[simp] theorem State.emit_seq (s : State) (o : Out) : (s.emit o).seq = s.seq := rfl
@[simp] theorem State.emit_conv (s : State) (o : Out) : (s.emit o).conv = s.conv := rfl
@[simp] theorem State.emit_cal (s : State) (o : Out) : (s.emit o).cal = s.cal := rfl
@[simp] theorem State.emit_te (s : State) (o : Out) : (s.emit o).te = s.te := rfl
@[simp] theorem State.emit_fab (s : State) (o : Out) : (s.emit o).fab = s.fab := rfl
@[simp] theorem State.emit_host (s : State) (o : Out) : (s.emit o).host = s.host := rfl
@[simp] theorem State.emit_clk (s : State) (o : Out) : (s.emit o).clk = s.clk := rfl
@[simp] theorem State.emit_px (s : State) (o : Out) : (s.emit o).px = s.px := rfl
@[simp] theorem State.emit_hng (s : State) (o : Out) : (s.emit o).hng = s.hng := rfl
@[simp] theorem State.emit_boot (s : State) (o : Out) : (s.emit o).boot = s.boot := rfl
@[simp] theorem State.emit_flt (s : State) (o : Out) : (s.emit o).flt = s.flt := rfl
@[simp] theorem State.emit_th (s : State) (o : Out) : (s.emit o).th = s.th := rfl
@[simp] theorem State.emit_free (s : State) (o : Out) : (s.emit o).free = s.free := rfl
@[simp] theorem State.emit_out (s : State) (o : Out) : (s.emit o).out = o :: s.out := rfl

@[simp] theorem State.useFree_pending (s : State) : s.useFree.pending = s.pending := rfl
@[simp] theorem State.useFree_now (s : State) : s.useFree.now = s.now := rfl
@[simp] theorem State.useFree_regs (s : State) : s.useFree.regs = s.regs := rfl
@[simp] theorem State.useFree_pix (s : State) : s.useFree.pix = s.pix := rfl
@[simp] theorem State.useFree_shadow (s : State) : s.useFree.shadow = s.shadow := rfl
@[simp] theorem State.useFree_snap (s : State) : s.useFree.snap = s.snap := rfl
@[simp] theorem State.useFree_tick (s : State) : s.useFree.tick = s.tick := rfl
@[simp] theorem State.useFree_seq (s : State) : s.useFree.seq = s.seq := rfl
@[simp] theorem State.useFree_conv (s : State) : s.useFree.conv = s.conv := rfl
@[simp] theorem State.useFree_cal (s : State) : s.useFree.cal = s.cal := rfl
@[simp] theorem State.useFree_te (s : State) : s.useFree.te = s.te := rfl
@[simp] theorem State.useFree_fab (s : State) : s.useFree.fab = s.fab := rfl
@[simp] theorem State.useFree_host (s : State) : s.useFree.host = s.host := rfl
@[simp] theorem State.useFree_clk (s : State) : s.useFree.clk = s.clk := rfl
@[simp] theorem State.useFree_px (s : State) : s.useFree.px = s.px := rfl
@[simp] theorem State.useFree_hng (s : State) : s.useFree.hng = s.hng := rfl
@[simp] theorem State.useFree_boot (s : State) : s.useFree.boot = s.boot := rfl
@[simp] theorem State.useFree_flt (s : State) : s.useFree.flt = s.flt := rfl
@[simp] theorem State.useFree_th (s : State) : s.useFree.th = s.th := rfl
@[simp] theorem State.useFree_out (s : State) : s.useFree.out = s.out := rfl
@[simp] theorem State.useFree_free (s : State) : s.useFree.free = s.free + 1 := rfl

@[simp] theorem State.putReg_pending (s : State) (off : Nat) (v : W32) : (s.putReg off v).pending = s.pending := rfl
@[simp] theorem State.putReg_now (s : State) (off : Nat) (v : W32) : (s.putReg off v).now = s.now := rfl
@[simp] theorem State.putReg_shadow (s : State) (off : Nat) (v : W32) : (s.putReg off v).shadow = s.shadow := rfl
@[simp] theorem State.putReg_snap (s : State) (off : Nat) (v : W32) : (s.putReg off v).snap = s.snap := rfl
@[simp] theorem State.putReg_tick (s : State) (off : Nat) (v : W32) : (s.putReg off v).tick = s.tick := rfl
@[simp] theorem State.putReg_seq (s : State) (off : Nat) (v : W32) : (s.putReg off v).seq = s.seq := rfl
@[simp] theorem State.putReg_conv (s : State) (off : Nat) (v : W32) : (s.putReg off v).conv = s.conv := rfl
@[simp] theorem State.putReg_cal (s : State) (off : Nat) (v : W32) : (s.putReg off v).cal = s.cal := rfl
@[simp] theorem State.putReg_te (s : State) (off : Nat) (v : W32) : (s.putReg off v).te = s.te := rfl
@[simp] theorem State.putReg_fab (s : State) (off : Nat) (v : W32) : (s.putReg off v).fab = s.fab := rfl
@[simp] theorem State.putReg_host (s : State) (off : Nat) (v : W32) : (s.putReg off v).host = s.host := rfl
@[simp] theorem State.putReg_clk (s : State) (off : Nat) (v : W32) : (s.putReg off v).clk = s.clk := rfl
@[simp] theorem State.putReg_px (s : State) (off : Nat) (v : W32) : (s.putReg off v).px = s.px := rfl
@[simp] theorem State.putReg_hng (s : State) (off : Nat) (v : W32) : (s.putReg off v).hng = s.hng := rfl
@[simp] theorem State.putReg_boot (s : State) (off : Nat) (v : W32) : (s.putReg off v).boot = s.boot := rfl
@[simp] theorem State.putReg_flt (s : State) (off : Nat) (v : W32) : (s.putReg off v).flt = s.flt := rfl
@[simp] theorem State.putReg_th (s : State) (off : Nat) (v : W32) : (s.putReg off v).th = s.th := rfl
@[simp] theorem State.putReg_out (s : State) (off : Nat) (v : W32) : (s.putReg off v).out = s.out := rfl
@[simp] theorem State.putReg_free (s : State) (off : Nat) (v : W32) : (s.putReg off v).free = s.free := rfl

@[simp] theorem State.modEng_pending (s : State) (e : Nat) (f : _) : (s.modEng e f).pending = s.pending := rfl
@[simp] theorem State.modEng_now (s : State) (e : Nat) (f : _) : (s.modEng e f).now = s.now := rfl
@[simp] theorem State.modEng_regs (s : State) (e : Nat) (f : _) : (s.modEng e f).regs = s.regs := rfl
@[simp] theorem State.modEng_pix (s : State) (e : Nat) (f : _) : (s.modEng e f).pix = s.pix := rfl
@[simp] theorem State.modEng_shadow (s : State) (e : Nat) (f : _) : (s.modEng e f).shadow = s.shadow := rfl
@[simp] theorem State.modEng_snap (s : State) (e : Nat) (f : _) : (s.modEng e f).snap = s.snap := rfl
@[simp] theorem State.modEng_tick (s : State) (e : Nat) (f : _) : (s.modEng e f).tick = s.tick := rfl
@[simp] theorem State.modEng_seq (s : State) (e : Nat) (f : _) : (s.modEng e f).seq = s.seq := rfl
@[simp] theorem State.modEng_conv (s : State) (e : Nat) (f : _) : (s.modEng e f).conv = s.conv := rfl
@[simp] theorem State.modEng_cal (s : State) (e : Nat) (f : _) : (s.modEng e f).cal = s.cal := rfl
@[simp] theorem State.modEng_fab (s : State) (e : Nat) (f : _) : (s.modEng e f).fab = s.fab := rfl
@[simp] theorem State.modEng_host (s : State) (e : Nat) (f : _) : (s.modEng e f).host = s.host := rfl
@[simp] theorem State.modEng_clk (s : State) (e : Nat) (f : _) : (s.modEng e f).clk = s.clk := rfl
@[simp] theorem State.modEng_px (s : State) (e : Nat) (f : _) : (s.modEng e f).px = s.px := rfl
@[simp] theorem State.modEng_hng (s : State) (e : Nat) (f : _) : (s.modEng e f).hng = s.hng := rfl
@[simp] theorem State.modEng_boot (s : State) (e : Nat) (f : _) : (s.modEng e f).boot = s.boot := rfl
@[simp] theorem State.modEng_flt (s : State) (e : Nat) (f : _) : (s.modEng e f).flt = s.flt := rfl
@[simp] theorem State.modEng_th (s : State) (e : Nat) (f : _) : (s.modEng e f).th = s.th := rfl
@[simp] theorem State.modEng_out (s : State) (e : Nat) (f : _) : (s.modEng e f).out = s.out := rfl
@[simp] theorem State.modEng_free (s : State) (e : Nat) (f : _) : (s.modEng e f).free = s.free := rfl

@[simp] theorem State.modRing_pending (s : State) (ch : Nat) (f : _) : (s.modRing ch f).pending = s.pending := rfl
@[simp] theorem State.modRing_now (s : State) (ch : Nat) (f : _) : (s.modRing ch f).now = s.now := rfl
@[simp] theorem State.modRing_regs (s : State) (ch : Nat) (f : _) : (s.modRing ch f).regs = s.regs := rfl
@[simp] theorem State.modRing_pix (s : State) (ch : Nat) (f : _) : (s.modRing ch f).pix = s.pix := rfl
@[simp] theorem State.modRing_shadow (s : State) (ch : Nat) (f : _) : (s.modRing ch f).shadow = s.shadow := rfl
@[simp] theorem State.modRing_snap (s : State) (ch : Nat) (f : _) : (s.modRing ch f).snap = s.snap := rfl
@[simp] theorem State.modRing_tick (s : State) (ch : Nat) (f : _) : (s.modRing ch f).tick = s.tick := rfl
@[simp] theorem State.modRing_seq (s : State) (ch : Nat) (f : _) : (s.modRing ch f).seq = s.seq := rfl
@[simp] theorem State.modRing_conv (s : State) (ch : Nat) (f : _) : (s.modRing ch f).conv = s.conv := rfl
@[simp] theorem State.modRing_cal (s : State) (ch : Nat) (f : _) : (s.modRing ch f).cal = s.cal := rfl
@[simp] theorem State.modRing_te (s : State) (ch : Nat) (f : _) : (s.modRing ch f).te = s.te := rfl
@[simp] theorem State.modRing_fab (s : State) (ch : Nat) (f : _) : (s.modRing ch f).fab = s.fab := rfl
@[simp] theorem State.modRing_clk (s : State) (ch : Nat) (f : _) : (s.modRing ch f).clk = s.clk := rfl
@[simp] theorem State.modRing_px (s : State) (ch : Nat) (f : _) : (s.modRing ch f).px = s.px := rfl
@[simp] theorem State.modRing_hng (s : State) (ch : Nat) (f : _) : (s.modRing ch f).hng = s.hng := rfl
@[simp] theorem State.modRing_boot (s : State) (ch : Nat) (f : _) : (s.modRing ch f).boot = s.boot := rfl
@[simp] theorem State.modRing_flt (s : State) (ch : Nat) (f : _) : (s.modRing ch f).flt = s.flt := rfl
@[simp] theorem State.modRing_th (s : State) (ch : Nat) (f : _) : (s.modRing ch f).th = s.th := rfl
@[simp] theorem State.modRing_out (s : State) (ch : Nat) (f : _) : (s.modRing ch f).out = s.out := rfl
@[simp] theorem State.modRing_free (s : State) (ch : Nat) (f : _) : (s.modRing ch f).free = s.free := rfl

@[simp] theorem State.modChan_pending (s : State) (ch : Nat) (f : _) : (s.modChan ch f).pending = s.pending := rfl
@[simp] theorem State.modChan_now (s : State) (ch : Nat) (f : _) : (s.modChan ch f).now = s.now := rfl
@[simp] theorem State.modChan_regs (s : State) (ch : Nat) (f : _) : (s.modChan ch f).regs = s.regs := rfl
@[simp] theorem State.modChan_pix (s : State) (ch : Nat) (f : _) : (s.modChan ch f).pix = s.pix := rfl
@[simp] theorem State.modChan_shadow (s : State) (ch : Nat) (f : _) : (s.modChan ch f).shadow = s.shadow := rfl
@[simp] theorem State.modChan_snap (s : State) (ch : Nat) (f : _) : (s.modChan ch f).snap = s.snap := rfl
@[simp] theorem State.modChan_tick (s : State) (ch : Nat) (f : _) : (s.modChan ch f).tick = s.tick := rfl
@[simp] theorem State.modChan_seq (s : State) (ch : Nat) (f : _) : (s.modChan ch f).seq = s.seq := rfl
@[simp] theorem State.modChan_conv (s : State) (ch : Nat) (f : _) : (s.modChan ch f).conv = s.conv := rfl
@[simp] theorem State.modChan_cal (s : State) (ch : Nat) (f : _) : (s.modChan ch f).cal = s.cal := rfl
@[simp] theorem State.modChan_te (s : State) (ch : Nat) (f : _) : (s.modChan ch f).te = s.te := rfl
@[simp] theorem State.modChan_host (s : State) (ch : Nat) (f : _) : (s.modChan ch f).host = s.host := rfl
@[simp] theorem State.modChan_clk (s : State) (ch : Nat) (f : _) : (s.modChan ch f).clk = s.clk := rfl
@[simp] theorem State.modChan_px (s : State) (ch : Nat) (f : _) : (s.modChan ch f).px = s.px := rfl
@[simp] theorem State.modChan_hng (s : State) (ch : Nat) (f : _) : (s.modChan ch f).hng = s.hng := rfl
@[simp] theorem State.modChan_boot (s : State) (ch : Nat) (f : _) : (s.modChan ch f).boot = s.boot := rfl
@[simp] theorem State.modChan_flt (s : State) (ch : Nat) (f : _) : (s.modChan ch f).flt = s.flt := rfl
@[simp] theorem State.modChan_th (s : State) (ch : Nat) (f : _) : (s.modChan ch f).th = s.th := rfl
@[simp] theorem State.modChan_out (s : State) (ch : Nat) (f : _) : (s.modChan ch f).out = s.out := rfl
@[simp] theorem State.modChan_free (s : State) (ch : Nat) (f : _) : (s.modChan ch f).free = s.free := rfl

@[simp] theorem State.modPx_pending (s : State) (e : Nat) (f : _) : (s.modPx e f).pending = s.pending := rfl
@[simp] theorem State.modPx_now (s : State) (e : Nat) (f : _) : (s.modPx e f).now = s.now := rfl
@[simp] theorem State.modPx_regs (s : State) (e : Nat) (f : _) : (s.modPx e f).regs = s.regs := rfl
@[simp] theorem State.modPx_pix (s : State) (e : Nat) (f : _) : (s.modPx e f).pix = s.pix := rfl
@[simp] theorem State.modPx_shadow (s : State) (e : Nat) (f : _) : (s.modPx e f).shadow = s.shadow := rfl
@[simp] theorem State.modPx_snap (s : State) (e : Nat) (f : _) : (s.modPx e f).snap = s.snap := rfl
@[simp] theorem State.modPx_tick (s : State) (e : Nat) (f : _) : (s.modPx e f).tick = s.tick := rfl
@[simp] theorem State.modPx_seq (s : State) (e : Nat) (f : _) : (s.modPx e f).seq = s.seq := rfl
@[simp] theorem State.modPx_conv (s : State) (e : Nat) (f : _) : (s.modPx e f).conv = s.conv := rfl
@[simp] theorem State.modPx_cal (s : State) (e : Nat) (f : _) : (s.modPx e f).cal = s.cal := rfl
@[simp] theorem State.modPx_te (s : State) (e : Nat) (f : _) : (s.modPx e f).te = s.te := rfl
@[simp] theorem State.modPx_fab (s : State) (e : Nat) (f : _) : (s.modPx e f).fab = s.fab := rfl
@[simp] theorem State.modPx_host (s : State) (e : Nat) (f : _) : (s.modPx e f).host = s.host := rfl
@[simp] theorem State.modPx_clk (s : State) (e : Nat) (f : _) : (s.modPx e f).clk = s.clk := rfl
@[simp] theorem State.modPx_hng (s : State) (e : Nat) (f : _) : (s.modPx e f).hng = s.hng := rfl
@[simp] theorem State.modPx_boot (s : State) (e : Nat) (f : _) : (s.modPx e f).boot = s.boot := rfl
@[simp] theorem State.modPx_flt (s : State) (e : Nat) (f : _) : (s.modPx e f).flt = s.flt := rfl
@[simp] theorem State.modPx_th (s : State) (e : Nat) (f : _) : (s.modPx e f).th = s.th := rfl
@[simp] theorem State.modPx_out (s : State) (e : Nat) (f : _) : (s.modPx e f).out = s.out := rfl
@[simp] theorem State.modPx_free (s : State) (e : Nat) (f : _) : (s.modPx e f).free = s.free := rfl

@[simp] theorem State.modBank_pending (s : State) (t : Nat) (f : _) : (s.modBank t f).pending = s.pending := rfl
@[simp] theorem State.modBank_now (s : State) (t : Nat) (f : _) : (s.modBank t f).now = s.now := rfl
@[simp] theorem State.modBank_regs (s : State) (t : Nat) (f : _) : (s.modBank t f).regs = s.regs := rfl
@[simp] theorem State.modBank_pix (s : State) (t : Nat) (f : _) : (s.modBank t f).pix = s.pix := rfl
@[simp] theorem State.modBank_shadow (s : State) (t : Nat) (f : _) : (s.modBank t f).shadow = s.shadow := rfl
@[simp] theorem State.modBank_snap (s : State) (t : Nat) (f : _) : (s.modBank t f).snap = s.snap := rfl
@[simp] theorem State.modBank_tick (s : State) (t : Nat) (f : _) : (s.modBank t f).tick = s.tick := rfl
@[simp] theorem State.modBank_seq (s : State) (t : Nat) (f : _) : (s.modBank t f).seq = s.seq := rfl
@[simp] theorem State.modBank_cal (s : State) (t : Nat) (f : _) : (s.modBank t f).cal = s.cal := rfl
@[simp] theorem State.modBank_te (s : State) (t : Nat) (f : _) : (s.modBank t f).te = s.te := rfl
@[simp] theorem State.modBank_fab (s : State) (t : Nat) (f : _) : (s.modBank t f).fab = s.fab := rfl
@[simp] theorem State.modBank_host (s : State) (t : Nat) (f : _) : (s.modBank t f).host = s.host := rfl
@[simp] theorem State.modBank_clk (s : State) (t : Nat) (f : _) : (s.modBank t f).clk = s.clk := rfl
@[simp] theorem State.modBank_px (s : State) (t : Nat) (f : _) : (s.modBank t f).px = s.px := rfl
@[simp] theorem State.modBank_hng (s : State) (t : Nat) (f : _) : (s.modBank t f).hng = s.hng := rfl
@[simp] theorem State.modBank_boot (s : State) (t : Nat) (f : _) : (s.modBank t f).boot = s.boot := rfl
@[simp] theorem State.modBank_flt (s : State) (t : Nat) (f : _) : (s.modBank t f).flt = s.flt := rfl
@[simp] theorem State.modBank_th (s : State) (t : Nat) (f : _) : (s.modBank t f).th = s.th := rfl
@[simp] theorem State.modBank_out (s : State) (t : Nat) (f : _) : (s.modBank t f).out = s.out := rfl
@[simp] theorem State.modBank_free (s : State) (t : Nat) (f : _) : (s.modBank t f).free = s.free := rfl

@[simp] theorem State.modLine_pending (s : State) (n : Nat) (f : _) : (s.modLine n f).pending = s.pending := rfl
@[simp] theorem State.modLine_now (s : State) (n : Nat) (f : _) : (s.modLine n f).now = s.now := rfl
@[simp] theorem State.modLine_regs (s : State) (n : Nat) (f : _) : (s.modLine n f).regs = s.regs := rfl
@[simp] theorem State.modLine_pix (s : State) (n : Nat) (f : _) : (s.modLine n f).pix = s.pix := rfl
@[simp] theorem State.modLine_shadow (s : State) (n : Nat) (f : _) : (s.modLine n f).shadow = s.shadow := rfl
@[simp] theorem State.modLine_snap (s : State) (n : Nat) (f : _) : (s.modLine n f).snap = s.snap := rfl
@[simp] theorem State.modLine_tick (s : State) (n : Nat) (f : _) : (s.modLine n f).tick = s.tick := rfl
@[simp] theorem State.modLine_seq (s : State) (n : Nat) (f : _) : (s.modLine n f).seq = s.seq := rfl
@[simp] theorem State.modLine_conv (s : State) (n : Nat) (f : _) : (s.modLine n f).conv = s.conv := rfl
@[simp] theorem State.modLine_cal (s : State) (n : Nat) (f : _) : (s.modLine n f).cal = s.cal := rfl
@[simp] theorem State.modLine_te (s : State) (n : Nat) (f : _) : (s.modLine n f).te = s.te := rfl
@[simp] theorem State.modLine_host (s : State) (n : Nat) (f : _) : (s.modLine n f).host = s.host := rfl
@[simp] theorem State.modLine_clk (s : State) (n : Nat) (f : _) : (s.modLine n f).clk = s.clk := rfl
@[simp] theorem State.modLine_px (s : State) (n : Nat) (f : _) : (s.modLine n f).px = s.px := rfl
@[simp] theorem State.modLine_hng (s : State) (n : Nat) (f : _) : (s.modLine n f).hng = s.hng := rfl
@[simp] theorem State.modLine_boot (s : State) (n : Nat) (f : _) : (s.modLine n f).boot = s.boot := rfl
@[simp] theorem State.modLine_flt (s : State) (n : Nat) (f : _) : (s.modLine n f).flt = s.flt := rfl
@[simp] theorem State.modLine_th (s : State) (n : Nat) (f : _) : (s.modLine n f).th = s.th := rfl
@[simp] theorem State.modLine_out (s : State) (n : Nat) (f : _) : (s.modLine n f).out = s.out := rfl
@[simp] theorem State.modLine_free (s : State) (n : Nat) (f : _) : (s.modLine n f).free = s.free := rfl

@[simp] theorem State.modStripe_pending (s : State) (k : Nat) (f : _) : (s.modStripe k f).pending = s.pending := rfl
@[simp] theorem State.modStripe_now (s : State) (k : Nat) (f : _) : (s.modStripe k f).now = s.now := rfl
@[simp] theorem State.modStripe_regs (s : State) (k : Nat) (f : _) : (s.modStripe k f).regs = s.regs := rfl
@[simp] theorem State.modStripe_pix (s : State) (k : Nat) (f : _) : (s.modStripe k f).pix = s.pix := rfl
@[simp] theorem State.modStripe_shadow (s : State) (k : Nat) (f : _) : (s.modStripe k f).shadow = s.shadow := rfl
@[simp] theorem State.modStripe_snap (s : State) (k : Nat) (f : _) : (s.modStripe k f).snap = s.snap := rfl
@[simp] theorem State.modStripe_tick (s : State) (k : Nat) (f : _) : (s.modStripe k f).tick = s.tick := rfl
@[simp] theorem State.modStripe_seq (s : State) (k : Nat) (f : _) : (s.modStripe k f).seq = s.seq := rfl
@[simp] theorem State.modStripe_conv (s : State) (k : Nat) (f : _) : (s.modStripe k f).conv = s.conv := rfl
@[simp] theorem State.modStripe_cal (s : State) (k : Nat) (f : _) : (s.modStripe k f).cal = s.cal := rfl
@[simp] theorem State.modStripe_fab (s : State) (k : Nat) (f : _) : (s.modStripe k f).fab = s.fab := rfl
@[simp] theorem State.modStripe_host (s : State) (k : Nat) (f : _) : (s.modStripe k f).host = s.host := rfl
@[simp] theorem State.modStripe_clk (s : State) (k : Nat) (f : _) : (s.modStripe k f).clk = s.clk := rfl
@[simp] theorem State.modStripe_px (s : State) (k : Nat) (f : _) : (s.modStripe k f).px = s.px := rfl
@[simp] theorem State.modStripe_hng (s : State) (k : Nat) (f : _) : (s.modStripe k f).hng = s.hng := rfl
@[simp] theorem State.modStripe_boot (s : State) (k : Nat) (f : _) : (s.modStripe k f).boot = s.boot := rfl
@[simp] theorem State.modStripe_flt (s : State) (k : Nat) (f : _) : (s.modStripe k f).flt = s.flt := rfl
@[simp] theorem State.modStripe_th (s : State) (k : Nat) (f : _) : (s.modStripe k f).th = s.th := rfl
@[simp] theorem State.modStripe_out (s : State) (k : Nat) (f : _) : (s.modStripe k f).out = s.out := rfl
@[simp] theorem State.modStripe_free (s : State) (k : Nat) (f : _) : (s.modStripe k f).free = s.free := rfl

end Machine
end Sys2Proof
end

