-- ==== Sys2Proof/Laws/Word.lean ====
section
/-! SUPPORT. Laws of the sparse table: a read after a write, and the canonical form kept by every operation. -/

namespace Sys2Proof

theorem Tbl.get_insert_same {α : Type} (d : α) (t : Tbl α) (k : Nat) (x : α) : Tbl.get d (Tbl.insert t k x) k = x := by
  induction t with
  | nil => simp [Tbl.insert, Tbl.get]
  | cons p r ih =>
    obtain ⟨j, v⟩ := p
    simp only [Tbl.insert]
    split
    · simp [Tbl.get]
    · split
      · simp [Tbl.get]
      · next h => simp [Tbl.get, h, ih]

theorem Tbl.get_insert_ne {α : Type} (d : α) (t : Tbl α) (k i : Nat) (x : α) (h : i ≠ k) :
    Tbl.get d (Tbl.insert t k x) i = Tbl.get d t i := by
  induction t with
  | nil => simp [Tbl.insert, Tbl.get, h]
  | cons p r ih =>
    obtain ⟨j, v⟩ := p
    simp only [Tbl.insert]
    split
    · simp [Tbl.get, h]
    · split
      · next hk => subst hk; simp [Tbl.get, h]
      · simp [Tbl.get, ih]

theorem Tbl.get_erase_ne {α : Type} (d : α) (t : Tbl α) (k i : Nat) (h : i ≠ k) : Tbl.get d (Tbl.erase t k) i = Tbl.get d t i := by
  induction t with
  | nil => rfl
  | cons p r ih =>
    obtain ⟨j, v⟩ := p
    simp only [Tbl.erase]
    split
    · next hk => subst hk; simp [Tbl.get, h, ih]
    · simp [Tbl.get, ih]

theorem Tbl.get_erase_same {α : Type} (t : Tbl α) (k : Nat) (z : α) : Tbl.get z (Tbl.erase t k) k = z := by
  induction t with
  | nil => rfl
  | cons p r ih =>
    obtain ⟨j, v⟩ := p
    simp only [Tbl.erase]
    split
    · exact ih
    · next hk => simp [Tbl.get, hk, ih]

/-- A read at the key written. -/
@[simp] theorem Tbl.get_set_same {α : Type} [DecidableEq α] (z : α) (t : Tbl α) (k : Nat) (x : α) : Tbl.get z (Tbl.set z t k x) k = x := by
  unfold Tbl.set
  split
  · next hx => rw [Tbl.get_erase_same t k z, hx]
  · exact Tbl.get_insert_same z t k x

/-- A read at any other key. -/
theorem Tbl.get_set_ne {α : Type} [DecidableEq α] (d z : α) (t : Tbl α) (k i : Nat) (x : α) (h : i ≠ k) :
    Tbl.get d (Tbl.set z t k x) i = Tbl.get d t i := by
  unfold Tbl.set
  split
  · exact Tbl.get_erase_ne d t k i h
  · exact Tbl.get_insert_ne d t k i x h

theorem Tbl.wfFrom_mono {α : Type} [DecidableEq α] (d : Nat → α) (t : Tbl α) (a b : Nat) (h : a ≤ b) (hb : Tbl.wfFrom d b t = true) :
    Tbl.wfFrom d a t = true := by
  cases t with
  | nil => rfl
  | cons p r =>
    obtain ⟨j, v⟩ := p
    simp only [Tbl.wfFrom, Bool.and_eq_true, decide_eq_true_eq] at *
    exact ⟨⟨by omega, hb.1.2⟩, hb.2⟩

theorem Tbl.wfFrom_erase {α : Type} [DecidableEq α] (d : Nat → α) (t : Tbl α) (a k : Nat) (h : Tbl.wfFrom d a t = true) :
    Tbl.wfFrom d a (Tbl.erase t k) = true := by
  induction t generalizing a with
  | nil => rfl
  | cons p r ih =>
    obtain ⟨j, v⟩ := p
    simp only [Tbl.wfFrom, Bool.and_eq_true, decide_eq_true_eq] at h
    simp only [Tbl.erase]
    split
    · exact Tbl.wfFrom_mono d _ a (j + 1) (by omega) (ih _ h.2)
    · simp [Tbl.wfFrom, h.1.1, h.1.2, ih _ h.2]

theorem Tbl.wfFrom_insert {α : Type} [DecidableEq α] (d : Nat → α) (t : Tbl α) (a k : Nat) (x : α) (ha : a ≤ k) (hx : x ≠ d k)
    (h : Tbl.wfFrom d a t = true) : Tbl.wfFrom d a (Tbl.insert t k x) = true := by
  induction t generalizing a with
  | nil => simp [Tbl.insert, Tbl.wfFrom, ha, hx]
  | cons p r ih =>
    obtain ⟨j, v⟩ := p
    simp only [Tbl.wfFrom, Bool.and_eq_true, decide_eq_true_eq] at h
    simp only [Tbl.insert]
    split
    · simp [Tbl.wfFrom, ha, hx, h.1.2, h.2]; omega
    · split
      · subst_vars; simp [Tbl.wfFrom, ha, hx, h.2]
      · have := ih (j + 1) (by omega) h.2
        simp [Tbl.wfFrom, h.1.1, h.1.2, this]

/-- A write keeps the canonical form. -/
theorem Tbl.wf_set {α : Type} [DecidableEq α] (d : Nat → α) (t : Tbl α) (k : Nat) (x : α) (h : Tbl.wf d t = true) :
    Tbl.wf d (Tbl.set (d k) t k x) = true := by
  unfold Tbl.set Tbl.wf at *
  split
  · exact Tbl.wfFrom_erase d t 0 k h
  · exact Tbl.wfFrom_insert d t 0 k x (by omega) (by assumption) h

/-- A write keeps the canonical form, for a table of one default. -/
theorem Tbl.wf_setc {α : Type} [DecidableEq α] (d : α) (t : Tbl α) (k : Nat) (x : α) (h : Tbl.wf (fun _ => d) t = true) :
    Tbl.wf (fun _ => d) (Tbl.set d t k x) = true := Tbl.wf_set (fun _ => d) t k x h

/-- Erasing a region keeps the canonical form. -/
theorem Tbl.wf_filter {α : Type} [DecidableEq α] (d : Nat → α) (t : Tbl α) (p : Nat × α → Bool) (h : Tbl.wf d t = true) :
    Tbl.wf d (t.filter p) = true := by
  unfold Tbl.wf at *
  generalize 0 = a at *
  induction t generalizing a with
  | nil => rfl
  | cons q r ih =>
    obtain ⟨j, v⟩ := q
    simp only [Tbl.wfFrom, Bool.and_eq_true, decide_eq_true_eq] at h
    simp only [List.filter]
    split
    · simp [Tbl.wfFrom, h.1.1, h.1.2, ih _ h.2]
    · exact Tbl.wfFrom_mono d _ a (j + 1) (by omega) (ih _ h.2)

namespace Machine

/-- Writing bytes to a memory keeps its canonical form. -/
theorem memPut_wf (d : Byte) (bs : List Byte) (m : Mem) (a : Nat) (h : Tbl.wf (fun _ => d) m = true) :
    Tbl.wf (fun _ => d) (memPut d m a bs) = true := by
  induction bs generalizing m a with
  | nil => exact h
  | cons b r ih => exact ih _ _ (Tbl.wf_setc d m a b h)

/-- A byte outside the bytes written reads as before. -/
theorem memPut_get_out (d z : Byte) (bs : List Byte) (m : Mem) (a i : Nat) (h : i < a ∨ a + bs.length ≤ i) :
    Tbl.get z (memPut d m a bs) i = Tbl.get z m i := by
  induction bs generalizing m a with
  | nil => rfl
  | cons b r ih =>
    simp only [List.length_cons] at h
    rw [memPut, ih _ _ (by omega), Tbl.get_set_ne _ _ _ _ _ _ (by omega)]

/-- The halves of a pair complement each other. -/
@[simp] theorem pairOk_pairOf (v : W32) : pairOk (pairOf v) = true := by
  have h : ∀ v : W32, (pairOf v).extractLsb' 32 32 = ~~~v ∧ (pairOf v).extractLsb' 0 32 = v := by
    intro v
    constructor
    · apply BitVec.eq_of_getLsbD_eq; intro i hi
      simp only [BitVec.getLsbD_extractLsb', hi, pairOf, BitVec.getLsbD_append]; simp
    · apply BitVec.eq_of_getLsbD_eq; intro i hi
      simp only [BitVec.getLsbD_extractLsb', hi, pairOf, BitVec.getLsbD_append]; simp [hi]
  simp [pairOk, h v]

/-- The value half of a pair. -/
@[simp] theorem pairOf_value (v : W32) : (pairOf v).setWidth 32 = v := by
  apply BitVec.eq_of_getLsbD_eq; intro i hi
  simp only [pairOf, BitVec.getLsbD_setWidth, BitVec.getLsbD_append, hi]
  simp [hi]

end Machine
end Sys2Proof
end

