-- ==== Sys2Proof/Laws/Ops.lean ====
section
/-! SUPPORT. What the shared operations do: the frames of commands, registers, engines, pin engines, rings, channels, banks. -/

namespace Sys2Proof
namespace Machine

@[simp] theorem State.alive_at (s : State) (t : Time) : (s.at t).alive = s.alive := rfl
@[simp] theorem State.running_at (s : State) (t : Time) : (s.at t).running = s.running := rfl
@[simp] theorem State.reg_at (s : State) (t : Time) (off : Nat) : (s.at t).reg off = s.reg off := rfl
@[simp] theorem State.regF_at (s : State) (t : Time) (off hi lo : Nat) : (s.at t).regF off hi lo = s.regF off hi lo := rfl
@[simp] theorem State.eng_at (s : State) (t : Time) (e : Nat) : (s.at t).eng e = s.eng e := rfl
@[simp] theorem State.pin_at (s : State) (t : Time) (e : Nat) : (s.at t).pin e = s.pin e := rfl
@[simp] theorem State.ring_at (s : State) (t : Time) (ch : Nat) : (s.at t).ring ch = s.ring ch := rfl
@[simp] theorem State.chan_at (s : State) (t : Time) (ch : Nat) : (s.at t).chan ch = s.chan ch := rfl
@[simp] theorem State.bank_at (s : State) (t : Time) (i : Nat) : (s.at t).bank i = s.bank i := rfl
@[simp] theorem State.line_at (s : State) (t : Time) (n : Nat) : (s.at t).line n = s.line n := rfl
@[simp] theorem State.stripe_at (s : State) (t : Time) (k : Nat) : (s.at t).stripe k = s.stripe k := rfl
@[simp] theorem State.noTicks_at (s : State) (t : Time) : (s.at t).noTicks = s.noTicks := rfl
@[simp] theorem State.stalls_at (s : State) (t : Time) (off : Nat) : (s.at t).stalls off = s.stalls off := rfl

/-- A running device is alive. -/
theorem State.alive_of_running {s : State} (h : s.running = true) : s.alive = true := by
  simp only [State.running, Bool.and_eq_true] at h
  exact h.1

/-- A timed command of a live device. -/
theorem timed_alive {s : State} (h : s.alive = true) (t : Time) (f : State → State) : timed t s f = .next (f (s.at t)) := by
  simp [timed, h]

/-- A timed command while the logic is off. -/
theorem timed_dead {s : State} (h : s.alive = false) (t : Time) (f : State → State) : timed t s f = .next s := by
  simp [timed, h]

/-- A timed command always answers a next state. -/
theorem timed_next (t : Time) (s : State) (f : State → State) : ∃ r, timed t s f = .next r := ⟨_, rfl⟩

/-- A command of RUN in a running device. -/
theorem inRun_running {s : State} (h : s.running = true) (t : Time) (f : State → State) : inRun t s f = .next (f (s.at t)) := by
  simp [inRun, timed, State.alive_of_running h, h]

/-- A command of RUN in another stage changes nothing but the time. -/
theorem inRun_idle {s : State} (ha : s.alive = true) (h : s.running = false) (t : Time) (f : State → State) : inRun t s f = .next (s.at t) := by
  simp [inRun, timed, ha, h]

/-- An accepted paired write that reaches its register. -/
theorem regCmd_good {s : State} (ha : s.alive = true) (off : Nat) (h : s.reaches off = true) (t : Time) (v : W32) (src : BitVec 7)
    (f : W32 → State → State) : regCmd t off (goodWr v src) s f = .next (f v (s.at t)) := by
  simp only [State.reaches, Bool.and_eq_true, Bool.or_eq_true, Bool.not_eq_true', beq_iff_eq] at h
  obtain ⟨⟨hm, h⟩, h2⟩ := h
  have e : ((s.at t).writePW off (goodWr v src) f) = f v (s.at t) := by
    unfold State.writePW
    have h1 : (!early off && (!(s.at t).running || (s.at t).th.shut != 0)) = false := by
      rcases h with h1 | h1
      · simp [h1]
      · simp [h1.1, h1.2]
    rw [if_neg (by simp [hm]), if_neg (by rw [h1]; decide), if_neg (by simp [h2])]
    simp [State.acceptPW, goodWr]
  simp [regCmd, timed, ha, e]

/-- A register command always answers a next state. -/
theorem regCmd_next (t : Time) (off : Nat) (w : Wr) (s : State) (f : W32 → State → State) : ∃ r, regCmd t off w s f = .next r := ⟨_, rfl⟩

/-- A local write while Memory Space is disabled is an Unsupported Request. -/
theorem regCmd_disabled {s : State} (ha : s.alive = true) (hm : s.host.memEn = false) (off : Nat) (t : Time) (w : Wr) (hw : isLocal w = true)
    (f : W32 → State → State) : regCmd t off w s f = .next ((s.at t).aer 20) := by
  simp [regCmd, timed, ha, State.writePW, hm, hw]

/-- A report through AER sets its status bit, and shows a message unless it is masked; nothing else changes. -/
theorem State.aer_eq (s : State) (code : Nat) :
    s.aer code = { s with host := { s.host with aerU := s.host.aerU ||| (1#32 <<< code) },
                          out := if s.host.aerUM.getLsbD code then s.out else .aer code :: s.out } := by
  unfold State.aer State.modHost State.emit
  by_cases h : s.host.aerUM.getLsbD code = true <;> simp [h]

/-- The message of a vector that is masked: its PBA bit, nothing else. -/
theorem State.msix_masked (s : State) (v : Nat) (he : s.host.msixEn = true) (hb : s.host.bme = true)
    (hm : (Tbl.get Msix.masked s.host.msix v).mask = true ∨ s.host.fnMask = true) :
    s.msix v = s.modHost fun h => { h with pba := h.pba ||| (1#64 <<< v) } := by
  unfold State.msix
  rcases hm with hm | hm
  · simp [he, hb, hm]
  · simp [he, hb, hm]

/-! Registers. -/

@[simp] theorem RegCell.val_cellOf (v : W32) : (cellOf v).val = v := by simp [cellOf, RegCell.val]

/-- The register written reads as the value written. -/
@[simp] theorem State.reg_putReg_same (s : State) (off : Nat) (v : W32) : (s.putReg off v).reg off = v := by
  simp [State.reg, State.cell, State.putReg]

/-- Any other register reads as before. -/
theorem State.reg_putReg_ne (s : State) (off i : Nat) (v : W32) (h : i ≠ off) : (s.putReg off v).reg i = s.reg i := by
  simp [State.reg, State.cell, State.putReg, Tbl.get_set_ne _ _ _ _ _ _ h]

/-! Engines, pin engines, rings, channels, banks, stripes by index. -/

@[simp] theorem State.eng_modEng_same (s : State) (e : Nat) (f : Engine → Engine) : (s.modEng e f).eng e = f (s.eng e) := Tbl.get_set_same _ _ _ _

theorem State.eng_modEng_ne (s : State) (e i : Nat) (f : Engine → Engine) (h : i ≠ e) : (s.modEng e f).eng i = s.eng i :=
  Tbl.get_set_ne _ _ _ _ _ _ h

@[simp] theorem State.pin_modPx_same (s : State) (e : Nat) (f : Px → Px) : (s.modPx e f).pin e = f (s.pin e) := Tbl.get_set_same _ _ _ _

theorem State.pin_modPx_ne (s : State) (e i : Nat) (f : Px → Px) (h : i ≠ e) : (s.modPx e f).pin i = s.pin i :=
  Tbl.get_set_ne _ _ _ _ _ _ h

@[simp] theorem State.ring_modRing_same (s : State) (e : Nat) (f : Ring → Ring) : (s.modRing e f).ring e = f (s.ring e) := Tbl.get_set_same _ _ _ _

theorem State.ring_modRing_ne (s : State) (e i : Nat) (f : Ring → Ring) (h : i ≠ e) : (s.modRing e f).ring i = s.ring i :=
  Tbl.get_set_ne _ _ _ _ _ _ h

@[simp] theorem State.chan_modChan_same (s : State) (e : Nat) (f : Chan → Chan) : (s.modChan e f).chan e = f (s.chan e) := Tbl.get_set_same _ _ _ _

theorem State.chan_modChan_ne (s : State) (e i : Nat) (f : Chan → Chan) (h : i ≠ e) : (s.modChan e f).chan i = s.chan i :=
  Tbl.get_set_ne _ _ _ _ _ _ h

@[simp] theorem State.bank_modBank_same (s : State) (e : Nat) (f : Bank → Bank) : (s.modBank e f).bank e = f (s.bank e) := Tbl.get_set_same _ _ _ _

theorem State.bank_modBank_ne (s : State) (e i : Nat) (f : Bank → Bank) (h : i ≠ e) : (s.modBank e f).bank i = s.bank i :=
  Tbl.get_set_ne _ _ _ _ _ _ h

@[simp] theorem State.stripe_modStripe_same (s : State) (e : Nat) (f : Stripe → Stripe) : (s.modStripe e f).stripe e = f (s.stripe e) := Tbl.get_set_same _ _ _ _

theorem State.stripe_modStripe_ne (s : State) (e i : Nat) (f : Stripe → Stripe) (h : i ≠ e) : (s.modStripe e f).stripe i = s.stripe i :=
  Tbl.get_set_ne _ _ _ _ _ _ h

/-! The frames of engine and pin engine instructions. -/

/-- An instruction of a ready engine. -/
theorem teOp_ready {s : State} {e : Nat} (h : EngineReady s e) (t : Time) (k : State → Engine → State) :
    teOp t e s k = .next (k (s.at t) (s.eng e)) := by
  have hp := h.pc
  unfold teOp
  rw [inRun_running h.run]
  simp only [State.eng_at, State.noTicks_at, h.clk, h.st, h.ue, h.ce]
  simp [show ¬ (0xF00 ≤ (s.eng e).pc) by omega]

/-- The predicate of an R-form instruction that is not predicated and has no lane mode where the row has none. -/
theorem rForm_plain (s : State) (e : Nat) (x : Engine) (k : State) : rForm s e x false 0 0 0 k = k := by simp [rForm]

theorem rForm_lanes (s : State) (e : Nat) (x : Engine) (ln : BitVec 2) (k : State) : rForm s e x true ln 0 0 k = k := by simp [rForm]

/-- An instruction of a ready pin engine. -/
theorem pxOp_ready {s : State} {e : Nat} (h : PinReady s e) (t : Time) (k : State → Px → State) :
    pxOp t e s k = .next (k (s.at t) (s.pin e)) := by
  unfold pxOp
  rw [inRun_running h.run]
  simp [h.lt, h.st, h.clk]

end Machine
end Sys2Proof
end

