-- ==== Sys2Proof/Laws/Engine.lean ====
section
/-! SUPPORT. What an engine instruction does to its engine, and what the lanes of a result are. -/

namespace Sys2Proof
namespace Machine

/-- Writing a register leaves the state of the slot. -/
theorem Engine.setReg_st (x : Engine) (d : BitVec 5) (v : W64) : (x.setReg d v).st = x.st := by unfold Engine.setReg; split <;> rfl

/-- Updating one engine changes nothing else. -/
theorem modEng_went (s : State) (t : Time) (e : Nat) (f : Engine → Engine) : EngineWent s ((s.at t).modEng e f) t e (f (s.eng e)) :=
  ⟨rfl, fun i hi => by rw [State.eng_modEng_ne _ _ _ _ hi]; rfl, State.eng_modEng_same _ _ _⟩

/-- An instruction completes by an effect `f` on its engine after `cyc` cycles. -/
theorem doneEng_went {s : State} {e : Nat} (t : Time) (cyc : Nat) (f : Engine → Engine)
    (hf : f ((s.eng e).after cyc) = (s.eng e).done (s.at t).now cyc true f) :
    EngineWent s ((s.at t).doneEng e cyc f) t e (f ((s.eng e).after cyc)) := by
  rw [hf]; exact modEng_went s t e fun x => x.done (s.at t).now cyc true f

/-- An instruction that completes by writing a register. -/
theorem computes_done {s : State} {e : Nat} (hb : (s.eng e).blk = none) (c : Instr) (t : Time) (d : BitVec 5) (cyc : Nat) (v : W64)
    (V : W64 → Prop) (hc : exec c s = .next ((s.at t).doneEng e cyc fun y => y.setReg d v)) (hv : V v) : Computes c s t e d cyc V := by
  refine ⟨_, v, hc, doneEng_went (f := fun y => y.setReg d v) t cyc ?_, hv⟩
  simp only [Engine.done, hb, Engine.after, Engine.setReg]
  split <;> simp

/-- A sum of lanes stays below the width and gives each lane back. -/
theorem sum_lanes (w : Nat) (f : Nat → Nat) (n : Nat) :
  (List.range n).foldl (fun a j => a + (f j % 2 ^ w) * 2 ^ (w * j)) 0 < 2 ^ (w * n) ∧ ∀ j, j < n → ((List.range n).foldl (fun a j => a + (f j % 2 ^ w) * 2 ^ (w * j)) 0) / 2 ^ (w * j) % 2 ^ w = f j % 2 ^ w := by
  induction n with
  | zero => simp
  | succ n ih =>
    rw [List.range_succ, List.foldl_append]
    simp only [List.foldl_cons, List.foldl_nil]
    set S := (List.range n).foldl (fun a j => a + (f j % 2 ^ w) * 2 ^ (w * j)) 0 with hS
    obtain ⟨h1, h2⟩ := ih
    have hm : f n % 2 ^ w < 2 ^ w := Nat.mod_lt _ (by positivity)
    constructor
    · have : 2 ^ (w * (n+1)) = 2 ^ (w*n) * 2 ^ w := by rw [Nat.mul_succ, pow_add]
      rw [this]
      have : (f n % 2 ^ w + 1) * 2 ^ (w*n) ≤ 2 ^ w * 2 ^ (w*n) := Nat.mul_le_mul_right _ hm
      nlinarith
    · intro j hj
      rcases Nat.lt_succ_iff_lt_or_eq.mp hj with hj | rfl
      · rw [← h2 j hj]
        have e : 2 ^ (w * n) = 2 ^ (w * j) * (2 ^ w * 2 ^ (w * (n - j - 1))) := by
          rw [← pow_add, ← pow_add]; congr 1
          obtain ⟨k, rfl⟩ : ∃ k, n = j + 1 + k := ⟨n - j - 1, by omega⟩
          have : j + 1 + k - j - 1 = k := by omega
          rw [this]; ring
        have e2 : f n % 2 ^ w * 2 ^ (w * n) = 2 ^ (w * j) * (2 ^ w * (2 ^ (w * (n - j - 1)) * (f n % 2 ^ w))) := by rw [e]; ring
        rw [e2, Nat.add_mul_div_left _ _ (by positivity), Nat.add_mul_mod_self_left]
      · rw [Nat.add_mul_div_right _ _ (by positivity), Nat.div_eq_of_lt h1]; simp

/-- Lane `j` of a word put together from lanes. -/
theorem lane_ofLanes (w n : Nat) (f : Nat → Nat) (h : w * n = 64) (j : Nat) (hj : j < n) : lane w (ofLanes w n f) j = f j % 2 ^ w := by
  unfold lane ofLanes
  have := sum_lanes w f n
  rw [h] at this
  rw [BitVec.toNat_ofNat, Nat.mod_eq_of_lt this.1, this.2 j hj]

/-- Lane width and lane count of a lane mode. -/
theorem laneW_mul (ln : BitVec 2) : laneW ln * (64 / laneW ln) = 64 ∧ 64 / laneW ln = 2 ^ ln.toNat ∧ 0 < laneW ln := by
  revert ln; decide

/-- Lane `j` of a lane operation. -/
theorem lane_lanes2 (ln : BitVec 2) (f : Nat → Nat → Nat) (a b : W64) (j : Nat) (hj : j < 2 ^ ln.toNat) :
    lane (laneW ln) (lanes2 (laneW ln) f a b) j = f (lane (laneW ln) a j) (lane (laneW ln) b j) % 2 ^ laneW ln := by
  obtain ⟨h1, h2, h3⟩ := laneW_mul ln
  exact lane_ofLanes _ _ _ h1 j (by rw [h2]; exact hj)

/-- A lane is below its width. -/
theorem lane_lt (w : Nat) (v : W64) (j : Nat) : lane w v j < 2 ^ w := Nat.mod_lt _ (by positivity)

/-- A result in two's complement fits its width. -/
theorem usg_mod (w : Nat) (i : Int) : usg w i % 2 ^ w = usg w i := by
  unfold usg; apply Nat.mod_eq_of_lt
  have := Int.emod_lt_of_pos i (show (0:Int) < ((2^w : Nat) : Int) by positivity)
  have := Int.emod_nonneg i (show ((2^w : Nat) : Int) ≠ 0 by positivity)
  omega

/-- A lane read as signed and written back is the same lane. -/
theorem usg_sgn (w x : Nat) (h : x < 2 ^ w) : usg w (sgn w x) = x := by
  unfold usg sgn
  rw [Nat.mod_eq_of_lt h]
  split
  · rw [Int.emod_eq_of_lt (by omega) (by exact_mod_cast h)]; simp
  · rw [show ((x:Int) - 2^w) = x - ((2^w : Nat) : Int) by push_cast; rfl, Int.sub_emod_right, Int.emod_eq_of_lt (by omega) (by exact_mod_cast h)]; simp

/-- A nonnegative result wraps. -/
theorem usg_nat (w n : Nat) : usg w (n : Int) = n % 2 ^ w := by unfold usg; norm_cast

end Machine
end Sys2Proof
end

