-- ==== Sys2Proof/Laws/Keep.lean ====
section
/-! SUPPORT. What every operation keeps: the queue of commands and the canonical form of the tables. One lemma per operation. -/

namespace Sys2Proof
namespace Machine

theorem Kept.refl (s : State) : Kept s s := ⟨rfl, id⟩

/-- A change that touches neither the queue nor one of the tables. -/
theorem Kept.upd {r s : State} {now regs shadow snap tick pix seq conv cal te fab host clk px hng boot flt th out free} (h : Kept r s)
    (h1 : regs = s.regs) (h2 : px = s.px) (h3 : te.stripe = s.te.stripe) (h4 : host.ring = s.host.ring) (h5 : fab.ch = s.fab.ch)
    (h6 : conv.banks = s.conv.banks) (h7 : boot.flash = s.boot.flash) (h8 : boot.buf = s.boot.buf) (h9 : host.msix = s.host.msix) :
    Kept r ⟨s.pending, now, regs, shadow, snap, tick, pix, seq, conv, cal, te, fab, host, clk, px, hng, boot, flt, th, out, free⟩ :=
  ⟨h.queue, fun c =>
    have x := h.canon c
    ⟨h1 ▸ x.regs, h2 ▸ x.px, h3 ▸ x.stripe, h4 ▸ x.ring, h5 ▸ x.ch, h6 ▸ x.banks, h7 ▸ x.flash, h8 ▸ x.buf, h9 ▸ x.msix⟩⟩

/-- A change that keeps the form of the tables. -/
theorem Kept.put {r s t : State} (h : Kept r s) (h0 : t.pending = s.pending) (hc : Canon s → Canon t) : Kept r t :=
  ⟨h0.trans h.queue, fun c => hc (h.canon c)⟩

theorem Kept.foldl {r : State} {α : Type} (f : State → α → State) (l : List α) (s : State) (h : Kept r s)
    (hf : ∀ s a, Kept r s → Kept r (f s a)) : Kept r (l.foldl f s) := by
  induction l generalizing s with
  | nil => exact h
  | cons a r ih => exact ih _ (hf _ _ h)

theorem Kept.ite {k0 a b : State} {c : Prop} [Decidable c] (ha : Kept k0 a) (hb : Kept k0 b) : Kept k0 (if c then a else b) := by
  split
  · exact ha
  · exact hb

/-- A fold over pairs whose state part is kept. -/
theorem Kept.foldlp {k0 : State} {α β : Type} (f : State × β → α → State × β) (l : List α) (p : State × β) (h : Kept k0 p.1)
    (hf : ∀ p a, Kept k0 p.1 → Kept k0 (f p a).1) : Kept k0 (l.foldl f p).1 := by
  induction l generalizing p with
  | nil => exact h
  | cons a r ih => exact ih _ (hf _ _ h)

theorem Boot.burned_mem (b : Boot) (l : List (Nat × BitVec 256 × BitVec 256)) : (b.burned l).flash = b.flash ∧ (b.burned l).buf = b.buf := by
  unfold Boot.burned
  induction l generalizing b with
  | nil => exact ⟨rfl, rfl⟩
  | cons a r ih => exact ih _

/-- Erasing flash keeps the form. -/
theorem State.eraseFlash_kept {k0 : State} (s : State) (p : Nat × Byte → Bool) (h : Kept k0 s) :
    Kept k0 (s.modBoot fun b => { b with flash := b.flash.filter p }) :=
  h.put rfl fun h => ⟨h.regs, h.px, h.stripe, h.ring, h.ch, h.banks, Tbl.wf_filter _ _ _ h.flash, h.buf, h.msix⟩

theorem State.putBuf_kept {k0 : State} (s : State) (i : Nat) (v : W64) (h : Kept k0 s) :
    Kept k0 (s.modBoot fun b => { b with buf := Tbl.set 0 b.buf i v }) :=
  h.put rfl fun h => ⟨h.regs, h.px, h.stripe, h.ring, h.ch, h.banks, h.flash, Tbl.wf_setc _ _ _ _ h.buf, h.msix⟩

theorem State.putMsix_kept {k0 : State} (s : State) (i : Nat) (m : Msix) (h : Kept k0 s) :
    Kept k0 (s.modHost fun x => { x with msix := Tbl.set Msix.masked x.msix i m }) :=
  h.put rfl fun h => ⟨h.regs, h.px, h.stripe, h.ring, h.ch, h.banks, h.flash, h.buf, Tbl.wf_setc _ _ _ _ h.msix⟩

theorem State.modTick_kept {r : State} (s : State) (f : Tick → Tick) (h : Kept r s) : Kept r (s.modTick f) :=
  h.upd rfl rfl rfl rfl rfl rfl rfl rfl rfl

theorem State.modSeq_kept {r : State} (s : State) (f : Seq → Seq) (h : Kept r s) : Kept r (s.modSeq f) :=
  h.upd rfl rfl rfl rfl rfl rfl rfl rfl rfl

theorem State.modConv_kept {r : State} (s : State) (f : Conv → Conv) (h : Kept r s) (h0 : (f s.conv).banks = s.conv.banks) : Kept r (s.modConv f) :=
  h.upd rfl rfl rfl rfl rfl h0 rfl rfl rfl

theorem State.modCal_kept {r : State} (s : State) (f : Cal → Cal) (h : Kept r s) : Kept r (s.modCal f) :=
  h.upd rfl rfl rfl rfl rfl rfl rfl rfl rfl

theorem State.modTe_kept {r : State} (s : State) (f : Te → Te) (h : Kept r s) (h0 : (f s.te).stripe = s.te.stripe) : Kept r (s.modTe f) :=
  h.upd rfl rfl h0 rfl rfl rfl rfl rfl rfl

theorem State.modFab_kept {r : State} (s : State) (f : Fab → Fab) (h : Kept r s) (h0 : (f s.fab).ch = s.fab.ch) : Kept r (s.modFab f) :=
  h.upd rfl rfl rfl rfl h0 rfl rfl rfl rfl

theorem State.modHost_kept {r : State} (s : State) (f : HostLink → HostLink) (h : Kept r s) (h0 : (f s.host).ring = s.host.ring) (h1 : (f
    s.host).msix = s.host.msix) : Kept r (s.modHost f) :=
  h.upd rfl rfl rfl h0 rfl rfl rfl rfl h1

theorem State.modClk_kept {r : State} (s : State) (f : Clk → Clk) (h : Kept r s) : Kept r (s.modClk f) :=
  h.upd rfl rfl rfl rfl rfl rfl rfl rfl rfl

theorem State.modHng_kept {r : State} (s : State) (f : Hinge → Hinge) (h : Kept r s) : Kept r (s.modHng f) :=
  h.upd rfl rfl rfl rfl rfl rfl rfl rfl rfl

theorem State.modBoot_kept {r : State} (s : State) (f : Boot → Boot) (h : Kept r s) (h0 : (f s.boot).flash = s.boot.flash) (h1 : (f
    s.boot).buf = s.boot.buf) : Kept r (s.modBoot f) :=
  h.upd rfl rfl rfl rfl rfl rfl h0 h1 rfl

theorem State.modFlt_kept {r : State} (s : State) (f : Flt → Flt) (h : Kept r s) : Kept r (s.modFlt f) :=
  h.upd rfl rfl rfl rfl rfl rfl rfl rfl rfl

theorem State.modTh_kept {r : State} (s : State) (f : Therm → Therm) (h : Kept r s) : Kept r (s.modTh f) :=
  h.upd rfl rfl rfl rfl rfl rfl rfl rfl rfl

theorem State.at_kept {k0 : State} (s : State) (t : Time) (h : Kept k0 s) : Kept k0 (State.at s t) := by
  unfold State.at
  repeat' (first | with_reducible exact h | with_reducible assumption | (intro _) | with_reducible apply Kept.ite | split
                 | (with_reducible apply Kept.foldl) | with_reducible apply Kept.upd | with_reducible rfl)

theorem State.emit_kept {k0 : State} (s : State) (o : Out) (h : Kept k0 s) : Kept k0 (State.emit s o) := by
  unfold State.emit
  repeat' (first | with_reducible exact h | with_reducible assumption | (intro _) | with_reducible apply Kept.ite | split
                 | (with_reducible apply Kept.foldl) | with_reducible apply Kept.upd | with_reducible rfl)

theorem State.useFree_kept {k0 : State} (s : State) (h : Kept k0 s) : Kept k0 (State.useFree s) := by
  unfold State.useFree
  repeat' (first | with_reducible exact h | with_reducible assumption | (intro _) | with_reducible apply Kept.ite | split
                 | (with_reducible apply Kept.foldl) | with_reducible apply Kept.upd | with_reducible rfl)

theorem State.modEng_kept {k0 : State} (s : State) (e : Nat) (f : Engine → Engine) (h : Kept k0 s) : Kept k0 (State.modEng s e f) := by
  unfold State.modEng
  repeat' (first | with_reducible exact h | with_reducible assumption | (intro _) | (with_reducible apply State.modTe_kept)
                 | with_reducible apply Kept.ite | split | (with_reducible apply Kept.foldl) | with_reducible apply Kept.upd | with_reducible rfl)

theorem State.modRing_kept {k0 : State} (s : State) (ch : Nat) (f : Ring → Ring) (h : Kept k0 s) : Kept k0 (State.modRing s ch f) := by
  unfold State.modRing
  refine h.put rfl fun h => ⟨h.regs, h.px, h.stripe, Tbl.wf_setc _ _ _ _ h.ring, h.ch, h.banks, h.flash, h.buf, h.msix⟩

theorem State.modChan_kept {k0 : State} (s : State) (ch : Nat) (f : Chan → Chan) (h : Kept k0 s) : Kept k0 (State.modChan s ch f) := by
  unfold State.modChan
  refine h.put rfl fun h => ⟨h.regs, h.px, h.stripe, h.ring, Tbl.wf_setc _ _ _ _ h.ch, h.banks, h.flash, h.buf, h.msix⟩

theorem State.modPx_kept {k0 : State} (s : State) (e : Nat) (f : Px → Px) (h : Kept k0 s) : Kept k0 (State.modPx s e f) := by
  unfold State.modPx
  refine h.put rfl fun h => ⟨h.regs, Tbl.wf_setc _ _ _ _ h.px, h.stripe, h.ring, h.ch, h.banks, h.flash, h.buf, h.msix⟩

theorem State.modBank_kept {k0 : State} (s : State) (t : Nat) (f : Bank → Bank) (h : Kept k0 s) : Kept k0 (State.modBank s t f) := by
  unfold State.modBank
  refine h.put rfl fun h => ⟨h.regs, h.px, h.stripe, h.ring, h.ch, Tbl.wf_setc _ _ _ _ h.banks, h.flash, h.buf, h.msix⟩

theorem State.modLine_kept {k0 : State} (s : State) (n : Nat) (f : Line → Line) (h : Kept k0 s) : Kept k0 (State.modLine s n f) := by
  unfold State.modLine
  repeat' (first | with_reducible exact h | with_reducible assumption | (intro _) | (with_reducible apply State.modFab_kept)
                 | with_reducible apply Kept.ite | split | (with_reducible apply Kept.foldl) | with_reducible apply Kept.upd | with_reducible rfl)

theorem State.modStripe_kept {k0 : State} (s : State) (k : Nat) (f : Stripe → Stripe) (h : Kept k0 s) : Kept k0 (State.modStripe s k f) := by
  unfold State.modStripe
  refine h.put rfl fun h => ⟨h.regs, h.px, Tbl.wf_setc _ _ _ _ h.stripe, h.ring, h.ch, h.banks, h.flash, h.buf, h.msix⟩

theorem State.putReg_kept {k0 : State} (s : State) (off : Nat) (v : W32) (h : Kept k0 s) : Kept k0 (State.putReg s off v) := by
  unfold State.putReg
  refine h.put rfl fun h => ⟨Tbl.wf_set (fun k => cellOf (regReset k)) _ _ _ h.regs, h.px, h.stripe, h.ring, h.ch, h.banks, h.flash, h.buf, h.msix⟩

theorem State.storeReg_kept {k0 : State} (s : State) (off : Nat) (v : W32) (h : Kept k0 s) : Kept k0 (State.storeReg s off v) := by
  unfold State.storeReg
  repeat' (first | with_reducible exact h | with_reducible assumption | (intro _) | (with_reducible apply State.putReg_kept)
                 | with_reducible apply Kept.ite | split | (with_reducible apply Kept.foldl) | with_reducible apply Kept.upd | with_reducible rfl)

theorem State.setFld_kept {k0 : State} (s : State) (off hi lo v : Nat) (h : Kept k0 s) : Kept k0 (State.setFld s off hi lo v) := by
  unfold State.setFld
  repeat' (first | with_reducible exact h | with_reducible assumption | (intro _) | (with_reducible apply State.putReg_kept))

theorem State.commitRegs_kept {k0 : State} (s : State) (h : Kept k0 s) : Kept k0 (State.commitRegs s) := by
  unfold State.commitRegs
  repeat' (first | with_reducible exact h | with_reducible assumption | (intro _) | (with_reducible apply State.putReg_kept)
                 | with_reducible apply Kept.ite | split | (with_reducible apply Kept.foldl) | with_reducible apply Kept.upd | with_reducible rfl)

theorem State.reject_kept {k0 : State} (s : State) (cause : Nat) (src : BitVec 7) (off : Nat) (h : Kept k0 s) : Kept k0 (State.reject s
    cause src off) := by
  unfold State.reject
  repeat' (first | with_reducible exact h | with_reducible assumption | (intro _) | (with_reducible apply State.modFlt_kept))

theorem State.acceptPW_kept {k0 : State} (s : State) (off : Nat) (w : Wr) (f : W32 → State) (h : Kept k0 s) (h_f : ∀ x0, Kept k0 (f x0)) :
    Kept k0 (State.acceptPW s off w f) := by
  unfold State.acceptPW
  repeat' (first | with_reducible exact h | with_reducible assumption | (intro _) | (with_reducible apply h_f)
                 | (with_reducible apply State.reject_kept) | with_reducible apply Kept.ite)

theorem State.aer_kept {k0 : State} (s : State) (code : Nat) (h : Kept k0 s) : Kept k0 (State.aer s code) := by
  unfold State.aer
  repeat' (first | with_reducible exact h | with_reducible assumption | (intro _) | (with_reducible apply State.modHost_kept)
                 | (with_reducible apply State.emit_kept) | with_reducible apply Kept.ite | split | (with_reducible apply Kept.foldl)
                 | with_reducible apply Kept.upd | with_reducible rfl)

theorem State.writePW_kept {k0 : State} (s : State) (off : Nat) (w : Wr) (f : W32 → State → State) (h : Kept k0 s) (h_f : ∀ x0 x1, Kept k0
    x1 → Kept k0 (f x0 x1)) : Kept k0 (State.writePW s off w f) := by
  unfold State.writePW
  repeat' (first | with_reducible exact h | with_reducible assumption | (intro _) | (with_reducible apply h_f)
                 | (with_reducible apply State.modClk_kept) | (with_reducible apply State.reject_kept)
                 | (with_reducible apply State.acceptPW_kept) | (with_reducible apply State.aer_kept) | with_reducible apply Kept.ite)

theorem State.msixSend_kept {k0 : State} (s : State) (v : Nat) (h : Kept k0 s) : Kept k0 (State.msixSend s v) := by
  unfold State.msixSend
  repeat' (first | with_reducible exact h | with_reducible assumption | (intro _) | (with_reducible apply State.emit_kept)
                 | (with_reducible apply State.modRing_kept) | with_reducible apply Kept.ite)

theorem State.msix_kept {k0 : State} (s : State) (v : Nat) (h : Kept k0 s) : Kept k0 (State.msix s v) := by
  unfold State.msix
  repeat' (first | with_reducible exact h | with_reducible assumption | (intro _) | (with_reducible apply State.modHost_kept)
                 | (with_reducible apply State.msixSend_kept) | with_reducible apply Kept.ite | split | (with_reducible apply Kept.foldl)
                 | with_reducible apply Kept.upd | with_reducible rfl)

theorem State.msixFree_kept {k0 : State} (s : State) (v : Nat) (h : Kept k0 s) : Kept k0 (State.msixFree s v) := by
  unfold State.msixFree
  repeat' (first | with_reducible exact h | with_reducible assumption | (intro _) | (with_reducible apply State.modHost_kept)
                 | (with_reducible apply State.msixSend_kept) | (with_reducible apply State.msix_kept) | with_reducible apply Kept.ite | split
                 | (with_reducible apply Kept.foldl) | with_reducible apply Kept.upd | with_reducible rfl)

theorem State.raise_kept {k0 : State} (s : State) (v : Nat) (h : Kept k0 s) : Kept k0 (State.raise s v) := by
  unfold State.raise
  repeat' (first | with_reducible exact h | with_reducible assumption | (intro _) | (with_reducible apply State.modHost_kept)
                 | (with_reducible apply State.msix_kept) | with_reducible apply Kept.ite | split | (with_reducible apply Kept.foldl)
                 | with_reducible apply Kept.upd | with_reducible rfl)

theorem State.logEvent_kept {k0 : State} (s : State) (unit code : Nat) (d1 d2 d3 : Nat) (h : Kept k0 s) : Kept k0 (State.logEvent s unit
    code d1 d2 d3) := by
  unfold State.logEvent
  repeat' (first | with_reducible exact h | with_reducible assumption | (intro _) | (with_reducible apply State.modFlt_kept)
                 | (with_reducible apply State.raise_kept) | with_reducible apply Kept.ite | split | (with_reducible apply Kept.foldl)
                 | with_reducible apply Kept.upd | with_reducible rfl)

theorem State.stage_kept {k0 : State} (s : State) (ws : List W64) (h : Kept k0 s) : Kept k0 (State.stage s ws) := by
  unfold State.stage
  repeat' (first | with_reducible exact h | with_reducible assumption | (intro _) | (with_reducible apply State.modFab_kept)
                 | with_reducible apply Kept.ite | split | (with_reducible apply Kept.foldl) | with_reducible apply Kept.upd | with_reducible rfl)

theorem State.stageOn_kept {k0 : State} (s : State) (ok : State → Nat → Bool) (mk : Nat → List W64) (h : Kept k0 s) : Kept k0 (State.stageOn
    s ok mk) := by
  unfold State.stageOn
  repeat' (first | with_reducible exact h | with_reducible assumption | (intro _) | (with_reducible apply State.stage_kept)
                 | with_reducible apply Kept.ite | split | (with_reducible apply Kept.foldl))

theorem State.event_kept {k0 : State} (s : State) (code line : Nat) (enc : B48) (time : Time) (d1 d2 : Nat) (h : Kept k0 s) : Kept k0
    (State.event s code line enc time d1 d2) := by
  unfold State.event
  repeat' (first | with_reducible exact h | with_reducible assumption | (intro _) | (with_reducible apply State.useFree_kept)
                 | (with_reducible apply State.stageOn_kept))

theorem State.eventNow_kept {k0 : State} (s : State) (code line : Nat) (d1 d2 : Nat) (h : Kept k0 s) : Kept k0 (State.eventNow s code line
    d1 d2) := by
  unfold State.eventNow
  repeat' (first | with_reducible exact h | with_reducible assumption | (intro _) | (with_reducible apply State.event_kept))

theorem State.gapLines_kept {k0 : State} (s : State) (reason line count : Nat) (enc encEnd : B48) (time : Time) (prov : Bool) (h : Kept k0
    s) : Kept k0 (State.gapLines s reason line count enc encEnd time prov) := by
  unfold State.gapLines
  repeat' (first | with_reducible exact h | with_reducible assumption | (intro _) | (with_reducible apply State.useFree_kept)
                 | (with_reducible apply State.stageOn_kept))

theorem State.loseRec_kept {k0 : State} (s : State) (n t ch : Nat) (h : Kept k0 s) : Kept k0 (State.loseRec s n t ch) := by
  unfold State.loseRec
  repeat' (first | with_reducible exact h | with_reducible assumption | (intro _) | (with_reducible apply State.modChan_kept)
                 | (with_reducible apply State.modLine_kept))

theorem State.coverCh_kept {k0 : State} (s : State) (failed : Bool) (reason code n a b ch : Nat) (l : Line) (h : Kept k0 s) : Kept k0
    (State.coverCh s failed reason code n a b ch l) := by
  unfold State.coverCh
  repeat' (first | with_reducible exact h | with_reducible assumption | (intro _) | (with_reducible apply State.modFab_kept)
                 | (with_reducible apply State.modLine_kept) | (with_reducible apply State.stage_kept) | with_reducible apply Kept.ite | split
                 | (with_reducible apply Kept.foldl) | with_reducible apply Kept.upd | with_reducible rfl)

theorem State.cover_kept {k0 : State} (s : State) (failed : Bool) (reason code n t0 t1 : Nat) (h : Kept k0 s) : Kept k0 (State.cover s
    failed reason code n t0 t1) := by
  unfold State.cover
  repeat' (first | with_reducible exact h | with_reducible assumption | (intro _) | (with_reducible apply State.coverCh_kept)
                 | with_reducible apply Kept.ite | split | (with_reducible apply Kept.foldl))

theorem State.failTile_kept {k0 : State} (s : State) (reason code n t : Nat) (h : Kept k0 s) : Kept k0 (State.failTile s reason code n t) := by
  unfold State.failTile
  repeat' (first | with_reducible exact h | with_reducible assumption | (intro _) | (with_reducible apply State.modLine_kept)
                 | (with_reducible apply State.cover_kept))

theorem State.failLine_kept {k0 : State} (s : State) (reason code n : Nat) (h : Kept k0 s) : Kept k0 (State.failLine s reason code n) := by
  unfold State.failLine
  repeat' (first | with_reducible exact h | with_reducible assumption | (intro _) | (with_reducible apply State.modLine_kept)
                 | (with_reducible apply State.stageOn_kept) | (with_reducible apply State.cover_kept) | with_reducible apply Kept.ite | split)

theorem State.gapWhole_kept {k0 : State} (s : State) (reason n : Nat) (h : Kept k0 s) : Kept k0 (State.gapWhole s reason n) := by
  unfold State.gapWhole
  repeat' (first | with_reducible exact h | with_reducible assumption | (intro _) | (with_reducible apply State.modLine_kept)
                 | (with_reducible apply State.cover_kept))

theorem State.health_kept {k0 : State} (s : State) (h : Kept k0 s) : Kept k0 (State.health s) := by
  unfold State.health
  repeat' (first | with_reducible exact h | with_reducible assumption | (intro _) | (with_reducible apply State.modFlt_kept)
                 | (with_reducible apply State.emit_kept) | (with_reducible apply State.logEvent_kept) | with_reducible apply Kept.ite)

theorem State.swapEffect_kept {k0 : State} (s : State) (n : Nat) (enc : B48) (t : Time) (h : Kept k0 s) : Kept k0 (State.swapEffect s n enc t) := by
  unfold State.swapEffect
  repeat' (first | with_reducible exact h | with_reducible assumption | (intro _) | (with_reducible apply State.modSeq_kept)
                 | (with_reducible apply State.raise_kept) | (with_reducible apply State.event_kept))

theorem State.cutFrame_kept {k0 : State} (s : State) (n : Nat) (h : Kept k0 s) : Kept k0 (State.cutFrame s n) := by
  unfold State.cutFrame
  repeat' (first | with_reducible exact h | with_reducible assumption | (intro _) | with_reducible apply Kept.ite | split
                 | (with_reducible apply Kept.foldl) | with_reducible apply Kept.upd | with_reducible rfl)

theorem State.beforeWalk_kept {k0 : State} (s : State) (h : Kept k0 s) : Kept k0 (State.beforeWalk s) := by
  unfold State.beforeWalk
  repeat' (first | with_reducible exact h | with_reducible assumption | (intro _) | (with_reducible apply State.cutFrame_kept)
                 | with_reducible apply Kept.ite | split | (with_reducible apply Kept.foldl) | with_reducible apply Kept.upd | with_reducible rfl)

theorem State.minPeriod_kept {k0 : State} (s : State) (h : Kept k0 s) : Kept k0 (State.minPeriod s) := by
  unfold State.minPeriod
  repeat' (first | with_reducible exact h | with_reducible assumption | (intro _) | (with_reducible apply State.modTick_kept))

theorem State.copyBank_kept {k0 : State} (s : State) (h : Kept k0 s) : Kept k0 (State.copyBank s) := by
  unfold State.copyBank
  repeat' (first | with_reducible exact h | with_reducible assumption | (intro _) | (with_reducible apply State.putReg_kept)
                 | with_reducible apply Kept.ite | split | (with_reducible apply Kept.foldl))

theorem State.unlock_kept {k0 : State} (s : State) (h : Kept k0 s) : Kept k0 (State.unlock s) := by
  unfold State.unlock
  repeat' (first | with_reducible exact h | with_reducible assumption | (intro _) | (with_reducible apply State.modSeq_kept)
                 | with_reducible apply Kept.ite)

theorem State.renew_kept {k0 : State} (s : State) (h : Kept k0 s) : Kept k0 (State.renew s) := by
  unfold State.renew
  repeat' (first | with_reducible exact h | with_reducible assumption | (intro _) | (with_reducible apply State.modSeq_kept))

theorem State.seqReject_kept {k0 : State} (s : State) (cause : Nat) (src : BitVec 7) (off : Nat) (h : Kept k0 s) : Kept k0 (State.seqReject
    s cause src off) := by
  unfold State.seqReject
  repeat' (first | with_reducible exact h | with_reducible assumption | (intro _) | (with_reducible apply State.modSeq_kept)
                 | (with_reducible apply State.reject_kept))

theorem State.lockWrite_kept {k0 : State} (s : State) (w : Wr) (v : W32) (h : Kept k0 s) : Kept k0 (State.lockWrite s w v) := by
  unfold State.lockWrite
  repeat' (first | with_reducible exact h | with_reducible assumption | (intro _) | (with_reducible apply State.modSeq_kept)
                 | (with_reducible apply State.unlock_kept) | (with_reducible apply State.renew_kept)
                 | (with_reducible apply State.seqReject_kept) | with_reducible apply Kept.ite)

theorem State.bankWrite_kept {k0 : State} (s : State) (off : Nat) (w : Wr) (v : W32) (h : Kept k0 s) : Kept k0 (State.bankWrite s off w v) := by
  unfold State.bankWrite
  repeat' (first | with_reducible exact h | with_reducible assumption | (intro _) | (with_reducible apply State.modSeq_kept)
                 | (with_reducible apply State.storeReg_kept) | (with_reducible apply State.reject_kept) | (with_reducible apply State.renew_kept)
                 | (with_reducible apply State.seqReject_kept) | with_reducible apply Kept.ite)

theorem State.swapWrite_kept {k0 : State} (s : State) (w : Wr) (v : W32) (h : Kept k0 s) : Kept k0 (State.swapWrite s w v) := by
  unfold State.swapWrite
  repeat' (first | with_reducible exact h | with_reducible assumption | (intro _) | (with_reducible apply State.modSeq_kept)
                 | (with_reducible apply State.renew_kept) | (with_reducible apply State.seqReject_kept) | with_reducible apply Kept.ite)

theorem State.holdTrigger_kept {k0 : State} (s : State) (h : Kept k0 s) : Kept k0 (State.holdTrigger s) := by
  unfold State.holdTrigger
  repeat' (first | with_reducible exact h | with_reducible assumption | (intro _) | (with_reducible apply State.modSeq_kept)
                 | (with_reducible apply State.minPeriod_kept))

theorem State.resUpdate_kept {k0 : State} (s : State) (d : Due) (h : Kept k0 s) : Kept k0 (State.resUpdate s d) := by
  unfold State.resUpdate
  repeat' (first | with_reducible exact h | with_reducible assumption | (intro _) | (with_reducible apply State.modSeq_kept)
                 | (with_reducible apply State.stageOn_kept) | with_reducible apply Kept.ite | split | (with_reducible apply Kept.foldl)
                 | with_reducible apply Kept.upd | with_reducible rfl)

theorem State.startSeq_kept {k0 : State} (s : State) (h : Kept k0 s) : Kept k0 (State.startSeq s) := by
  unfold State.startSeq
  repeat' (first | with_reducible exact h | with_reducible assumption | (intro _) | (with_reducible apply State.modSeq_kept))

theorem State.stopSeq_kept {k0 : State} (s : State) (h : Kept k0 s) : Kept k0 (State.stopSeq s) := by
  unfold State.stopSeq
  repeat' (first | with_reducible exact h | with_reducible assumption | (intro _) | (with_reducible apply State.modSeq_kept))

theorem State.setFifo_kept {k0 : State} (s : State) (k : Nat) (l : List (Time × W64)) (h : Kept k0 s) : Kept k0 (State.setFifo s k l) := by
  unfold State.setFifo
  repeat' (first | with_reducible exact h | with_reducible assumption | (intro _) | (with_reducible apply State.modTe_kept)
                 | with_reducible apply Kept.ite | split | (with_reducible apply Kept.foldl) | with_reducible apply Kept.upd | with_reducible rfl)

theorem State.emptyFifos_kept {k0 : State} (s : State) (t : Nat) (h : Kept k0 s) : Kept k0 (State.emptyFifos s t) := by
  unfold State.emptyFifos
  repeat' (first | with_reducible exact h | with_reducible assumption | (intro _) | (with_reducible apply State.setFifo_kept)
                 | with_reducible apply Kept.ite)

theorem State.startEng_kept {k0 : State} (s : State) (e : Nat) (h : Kept k0 s) : Kept k0 (State.startEng s e) := by
  unfold State.startEng
  repeat' (first | with_reducible exact h | with_reducible assumption | (intro _) | (with_reducible apply State.modEng_kept)
                 | (with_reducible apply State.emptyFifos_kept))

theorem State.failHeld_kept {k0 : State} (s : State) (e reason code : Nat) (h : Kept k0 s) : Kept k0 (State.failHeld s e reason code) := by
  unfold State.failHeld
  repeat' (first | with_reducible exact h | with_reducible assumption | (intro _) | (with_reducible apply State.modEng_kept)
                 | (with_reducible apply State.failTile_kept) | with_reducible apply Kept.ite | split | (with_reducible apply Kept.foldl))

theorem State.failOpen_kept {k0 : State} (s : State) (t reason code : Nat) (h : Kept k0 s) : Kept k0 (State.failOpen s t reason code) := by
  unfold State.failOpen
  repeat' (first | with_reducible exact h | with_reducible assumption | (intro _) | (with_reducible apply State.failTile_kept)
                 | with_reducible apply Kept.ite | split | (with_reducible apply Kept.foldl))

theorem State.takeover_kept {k0 : State} (s : State) (e t cause : Nat) (h : Kept k0 s) : Kept k0 (State.takeover s e t cause) := by
  unfold State.takeover
  repeat' (first | with_reducible exact h | with_reducible assumption | (intro _) | (with_reducible apply State.modTe_kept)
                 | (with_reducible apply State.modEng_kept) | (with_reducible apply State.modStripe_kept)
                 | (with_reducible apply State.logEvent_kept) | (with_reducible apply State.health_kept) | with_reducible apply Kept.ite | split
                 | (with_reducible apply Kept.foldl) | with_reducible apply Kept.upd | with_reducible rfl)

theorem State.portQueue_kept {k0 : State} (s : State) (e : Nat) (h : Kept k0 s) : Kept k0 (State.portQueue s e) := by
  unfold State.portQueue
  repeat' (first | with_reducible exact h | with_reducible assumption | (intro _) | (with_reducible apply State.modFab_kept)
                 | (with_reducible apply State.coverCh_kept) | with_reducible apply Kept.ite | split | (with_reducible apply Kept.foldl)
                 | with_reducible apply Kept.upd | with_reducible rfl)

theorem State.retire_kept {k0 : State} (s : State) (e cause : Nat) (h : Kept k0 s) : Kept k0 (State.retire s e cause) := by
  unfold State.retire
  repeat' (first | with_reducible exact h | with_reducible assumption | (intro _) | (with_reducible apply State.modCal_kept)
                 | (with_reducible apply State.modFlt_kept) | (with_reducible apply State.modEng_kept)
                 | (with_reducible apply State.logEvent_kept) | (with_reducible apply State.failHeld_kept)
                 | (with_reducible apply State.failOpen_kept) | (with_reducible apply State.takeover_kept)
                 | (with_reducible apply State.portQueue_kept) | with_reducible apply Kept.ite)

theorem State.raiseExc_kept {k0 : State} (s : State) (e cause code addr : Nat) (h : Kept k0 s) : Kept k0 (State.raiseExc s e cause code addr) := by
  unfold State.raiseExc
  repeat' (first | with_reducible exact h | with_reducible assumption | (intro _) | (with_reducible apply State.modTe_kept)
                 | (with_reducible apply State.modEng_kept) | (with_reducible apply State.raise_kept)
                 | (with_reducible apply State.emptyFifos_kept) | (with_reducible apply State.failHeld_kept)
                 | (with_reducible apply State.retire_kept) | with_reducible apply Kept.ite | split | (with_reducible apply Kept.foldl)
                 | with_reducible apply Kept.upd | with_reducible rfl)

theorem State.doneEng_kept {k0 : State} (s : State) (e cyc : Nat) (f : Engine → Engine) (h : Kept k0 s) : Kept k0 (State.doneEng s e cyc f) := by
  unfold State.doneEng
  repeat' (first | with_reducible exact h | with_reducible assumption | (intro _) | (with_reducible apply State.modEng_kept))

theorem State.blockEng_kept {k0 : State} (s : State) (e op : Nat) (d : BitVec 5) (h : Kept k0 s) : Kept k0 (State.blockEng s e op d) := by
  unfold State.blockEng
  repeat' (first | with_reducible exact h | with_reducible assumption | (intro _) | (with_reducible apply State.modEng_kept))

theorem rForm_kept {k0 : State} (s : State) (e : Nat) (x : Engine) (lanes : Bool) (ln pc fl : BitVec 2) (k : State) (h : Kept k0 s) (h_k :
    Kept k0 k) : Kept k0 (rForm s e x lanes ln pc fl k) := by
  unfold rForm
  repeat' (first | with_reducible exact h | with_reducible assumption | (intro _) | (with_reducible apply State.raiseExc_kept)
                 | (with_reducible apply State.doneEng_kept) | with_reducible apply Kept.ite)

theorem State.askRewrite_kept {k0 : State} (s : State) (tile : Nat) (h : Kept k0 s) : Kept k0 (State.askRewrite s tile) := by
  unfold State.askRewrite
  repeat' (first | with_reducible exact h | with_reducible assumption | (intro _) | (with_reducible apply State.modCal_kept)
                 | (with_reducible apply State.logEvent_kept) | with_reducible apply Kept.ite)

theorem State.modAcc_kept {k0 : State} (s : State) (t : Nat) (f : TileAcc → TileAcc) (h : Kept k0 s) : Kept k0 (State.modAcc s t f) := by
  unfold State.modAcc
  repeat' (first | with_reducible exact h | with_reducible assumption | (intro _) | (with_reducible apply State.modCal_kept))

theorem State.accumRef_kept {k0 : State} (s : State) (t n : Nat) (l : Line) (word : Nat → Nat) (h : Kept k0 s) : Kept k0 (State.accumRef s t
    n l word) := by
  unfold State.accumRef
  repeat' (first | with_reducible exact h | with_reducible assumption | (intro _) | (with_reducible apply State.modAcc_kept)
                 | with_reducible apply Kept.ite | split | (with_reducible apply Kept.foldl))

theorem State.accumLine_kept {k0 : State} (s : State) (t n : Nat) (l : Line) (word : Nat → Nat) (h : Kept k0 s) : Kept k0 (State.accumLine s
    t n l word) := by
  unfold State.accumLine
  repeat' (first | with_reducible exact h | with_reducible assumption | (intro _) | (with_reducible apply State.modLine_kept)
                 | (with_reducible apply State.modAcc_kept))

theorem State.accumulate_kept {k0 : State} (s : State) (t : Nat) (h : Kept k0 s) : Kept k0 (State.accumulate s t) := by
  unfold State.accumulate
  repeat' (first | with_reducible exact h | with_reducible assumption | (intro _) | (with_reducible apply State.accumLine_kept)
                 | with_reducible apply Kept.ite | split | (with_reducible apply Kept.foldl))

theorem State.calIdle_kept {k0 : State} (s : State) (h : Kept k0 s) : Kept k0 (State.calIdle s) := by
  unfold State.calIdle
  repeat' (first | with_reducible exact h | with_reducible assumption | (intro _) | (with_reducible apply State.modCal_kept)
                 | (with_reducible apply State.raise_kept))

theorem State.calFailed_kept {k0 : State} (s : State) (reason b g t : Nat) (h : Kept k0 s) : Kept k0 (State.calFailed s reason b g t) := by
  unfold State.calFailed
  repeat' (first | with_reducible exact h | with_reducible assumption | (intro _) | (with_reducible apply State.modCal_kept))

theorem State.stepFail_kept {k0 : State} (s : State) (reason b g t : Nat) (h : Kept k0 s) : Kept k0 (State.stepFail s reason b g t) := by
  unfold State.stepFail
  repeat' (first | with_reducible exact h | with_reducible assumption | (intro _) | (with_reducible apply State.modCal_kept)
                 | (with_reducible apply State.calIdle_kept) | (with_reducible apply State.calFailed_kept) | with_reducible apply Kept.ite
                 | split)

theorem State.stepStop_kept {k0 : State} (s : State) (reason : Nat) (pending : Bool) (h : Kept k0 s) : Kept k0 (State.stepStop s reason
    pending) := by
  unfold State.stepStop
  repeat' (first | with_reducible exact h | with_reducible assumption | (intro _) | (with_reducible apply State.stepFail_kept)
                 | with_reducible apply Kept.ite)

theorem State.putCoef_kept {k0 : State} (s : State) (t p : Nat) (w : W32) (h : Kept k0 s) : Kept k0 (State.putCoef s t p w) := by
  unfold State.putCoef
  repeat' (first | with_reducible exact h | with_reducible assumption | (intro _) | (with_reducible apply State.modCal_kept)
                 | (with_reducible apply State.modEng_kept) | with_reducible apply Kept.ite | split | (with_reducible apply Kept.foldl)
                 | with_reducible apply Kept.upd | with_reducible rfl)

theorem State.installCand_kept {k0 : State} (s : State) (h : Kept k0 s) : Kept k0 (State.installCand s) := by
  unfold State.installCand
  repeat' (first | with_reducible exact h | with_reducible assumption | (intro _) | (with_reducible apply State.modCal_kept)
                 | (with_reducible apply State.putCoef_kept) | with_reducible apply Kept.ite | split | (with_reducible apply Kept.foldl))

theorem State.flashPut_kept {k0 : State} (s : State) (a : Nat) (bs : List Byte) (h : Kept k0 s) : Kept k0 (State.flashPut s a bs) := by
  unfold State.flashPut
  refine h.put rfl fun h => ⟨h.regs, h.px, h.stripe, h.ring, h.ch, h.banks, memPut_wf _ _ _ _ h.flash, h.buf, h.msix⟩

theorem State.loadCopy_kept {k0 : State} (s : State) (c cnt : Nat) (h : Kept k0 s) : Kept k0 (State.loadCopy s c cnt) := by
  unfold State.loadCopy
  repeat' (first | with_reducible exact h | with_reducible assumption | (intro _) | (with_reducible apply State.modCal_kept))

theorem State.noCopy_kept {k0 : State} (s : State) (h : Kept k0 s) : Kept k0 (State.noCopy s) := by
  unfold State.noCopy
  repeat' (first | with_reducible exact h | with_reducible assumption | (intro _) | (with_reducible apply State.modCal_kept))

theorem State.reloadRegions_kept {k0 : State} (s : State) (h : Kept k0 s) : Kept k0 (State.reloadRegions s) := by
  unfold State.reloadRegions
  repeat' (first | with_reducible exact h | with_reducible assumption | (intro _) | (with_reducible apply State.modTe_kept)
                 | with_reducible apply Kept.ite | split | (with_reducible apply Kept.foldl) | with_reducible apply Kept.upd | with_reducible rfl)

theorem State.applyEnd_kept {k0 : State} (s : State) (enc : B48) (t : Time) (h : Kept k0 s) : Kept k0 (State.applyEnd s enc t) := by
  unfold State.applyEnd
  repeat' (first | with_reducible exact h | with_reducible assumption | (intro _) | (with_reducible apply State.modCal_kept)
                 | (with_reducible apply State.event_kept) | (with_reducible apply State.calIdle_kept)
                 | (with_reducible apply State.installCand_kept) | (with_reducible apply State.loadCopy_kept)
                 | (with_reducible apply State.reloadRegions_kept) | with_reducible apply Kept.ite | split)

theorem State.readMaster_kept {k0 : State} (s : State) (t : Nat) (h : Kept k0 s) : Kept k0 (State.readMaster s t) := by
  unfold State.readMaster
  repeat' (first | with_reducible exact h | with_reducible assumption | (intro _) | (with_reducible apply State.modCal_kept)
                 | (with_reducible apply State.modFlt_kept) | (with_reducible apply State.logEvent_kept) | with_reducible apply Kept.ite)

theorem State.readMasters_kept {k0 : State} (s : State) (h : Kept k0 s) : Kept k0 (State.readMasters s) := by
  unfold State.readMasters
  repeat' (first | with_reducible exact h | with_reducible assumption | (intro _) | (with_reducible apply State.readMaster_kept)
                 | with_reducible apply Kept.ite | split | (with_reducible apply Kept.foldl))

theorem State.stepGo_kept {k0 : State} (s : State) (cmd : Nat) (v : W32) (h : Kept k0 s) : Kept k0 (State.stepGo s cmd v) := by
  unfold State.stepGo
  repeat' (first | with_reducible exact h | with_reducible assumption | (intro _) | (with_reducible apply State.modCal_kept)
                 | (with_reducible apply State.stepFail_kept) | with_reducible apply Kept.ite)

theorem State.eraseCopy_kept {k0 : State} (s : State) (c : Nat) (h : Kept k0 s) : Kept k0 (State.eraseCopy s c) := by
  exact State.eraseFlash_kept _ _ h

theorem State.saveStart_kept {k0 : State} (s : State) (h : Kept k0 s) : Kept k0 (State.saveStart s) := by
  unfold State.saveStart
  split
  · exact Kept.ite (State.modCal_kept _ _ (State.eraseCopy_kept _ _ h)) h
  · exact h

theorem State.calCmd_kept {k0 : State} (s : State) (w : Wr) (v : W32) (h : Kept k0 s) : Kept k0 (State.calCmd s w v) := by
  unfold State.calCmd
  refine Kept.ite (State.reject_kept _ _ _ _ h) (Kept.ite (State.storeReg_kept _ _ _ h) (Kept.ite (State.reject_kept _ _ _ _ h) ?_))
  have h1 : Kept k0 (s.storeReg 0x40000 v) := State.storeReg_kept _ _ _ h
  generalize s.storeReg 0x40000 v = s1 at h1 ⊢
  dsimp only
  split
  · exact State.stepGo_kept _ _ _ h1
  · exact State.stepGo_kept _ _ _ h1
  · exact State.stepGo_kept _ _ _ h1
  · exact Kept.ite (State.modCal_kept _ _ h1) (State.calFailed_kept _ _ _ _ _ h1)
  · exact Kept.ite (State.calFailed_kept _ _ _ _ _ (State.modCal_kept _ _ h1)) (State.modCal_kept _ _ (Kept.ite h1 (State.eraseCopy_kept _ _ h1)))
  · split
    · exact State.modCal_kept _ _ h1
    · exact State.calFailed_kept _ _ _ _ _ h1
  · exact State.stepStop_kept _ _ _ h1
  · exact h1

theorem State.calTarget_kept {k0 : State} (s : State) (w : Wr) (v : W32) (h : Kept k0 s) : Kept k0 (State.calTarget s w v) := by
  unfold State.calTarget
  repeat' (first | with_reducible exact h | with_reducible assumption | (intro _) | (with_reducible apply State.storeReg_kept)
                 | (with_reducible apply State.reject_kept) | with_reducible apply Kept.ite)

theorem State.driftOne_kept {k0 : State} (s : State) (t b g : Nat) (dir : Bool) (word : Nat → Nat) (h : Kept k0 s) : Kept k0 (State.driftOne
    s t b g dir word) := by
  unfold State.driftOne
  repeat' (first | with_reducible exact h | with_reducible assumption | (intro _) | (with_reducible apply State.modCal_kept)
                 | (with_reducible apply State.useFree_kept) | with_reducible apply Kept.ite | split)

theorem State.driftRoutine_kept {k0 : State} (s : State) (t : Nat) (l : Line) (word : Nat → Nat) (h : Kept k0 s) : Kept k0
    (State.driftRoutine s t l word).1 := by
  unfold State.driftRoutine
  split
  · exact h
  · refine State.useFree_kept _ (Kept.foldl _ _ _ h fun x a hx => ?_)
    exact Kept.ite (State.driftOne_kept _ _ _ _ _ _ hx) hx

theorem State.stepStart_kept {k0 : State} (s : State) (n : Nat) (l : Line) (h : Kept k0 s) : Kept k0 (State.stepStart s n l) := by
  unfold State.stepStart
  repeat' (first | with_reducible exact h | with_reducible assumption | (intro _) | (with_reducible apply State.modCal_kept)
                 | (with_reducible apply State.gapWhole_kept) | (with_reducible apply State.stepFail_kept) | with_reducible apply Kept.ite)

theorem State.writeRegion_kept {k0 : State} (s : State) (t : Nat) (h : Kept k0 s) : Kept k0 (State.writeRegion s t) := by
  unfold State.writeRegion
  repeat' (first | with_reducible exact h | with_reducible assumption | (intro _) | (with_reducible apply State.modEng_kept)
                 | with_reducible apply Kept.ite | split)

theorem State.freeze_kept {k0 : State} (s : State) (h : Kept k0 s) : Kept k0 (State.freeze s) := by
  unfold State.freeze
  repeat' (first | with_reducible exact h | with_reducible assumption | (intro _) | with_reducible apply Kept.ite | split
                 | (with_reducible apply Kept.foldl) | with_reducible apply Kept.upd | with_reducible rfl)

theorem State.readEffect_kept {k0 : State} (s : State) (off lo nb : Nat) (h : Kept k0 s) : Kept k0 (State.readEffect s off lo nb) := by
  unfold State.readEffect
  repeat' (first | with_reducible exact h | with_reducible assumption | (intro _) | (with_reducible apply State.modSeq_kept)
                 | (with_reducible apply State.modHng_kept) | (with_reducible apply State.modPx_kept) | with_reducible apply Kept.ite)

theorem State.readReg_kept {k0 : State} (s : State) (off lo nb : Nat) (h : Kept k0 s) : Kept k0 (State.readReg s off lo nb).2 := by
  unfold State.readReg
  split
  · exact h
  · exact State.readEffect_kept _ _ _ _ h

theorem State.busRead_kept {k0 : State} (s : State) (a nb : Nat) (h : Kept k0 s) : Kept k0 (State.busRead s a nb) := by
  unfold State.busRead
  refine Kept.ite (State.aer_kept _ _ h) (Kept.ite (State.aer_kept _ _ (State.emit_kept _ _ h)) (Kept.ite (State.modClk_kept _ _ h)
    (State.emit_kept _ _ ?_)))
  exact State.readReg_kept s _ _ _ h

theorem State.flashFree_kept {k0 : State} (s : State) (a n : Nat) (h : Kept k0 s) : Kept k0 (State.flashFree s a n) := by
  unfold State.flashFree
  repeat' (first | with_reducible exact h | with_reducible assumption | (intro _) | (with_reducible apply State.flashPut_kept)
                 | with_reducible apply Kept.ite | split | (with_reducible apply Kept.foldl) | with_reducible apply Kept.upd | with_reducible rfl)

theorem State.cutMailbox_kept {k0 : State} (s : State) (h : Kept k0 s) : Kept k0 (State.cutMailbox s) := by
  unfold State.cutMailbox
  have hb : ∀ (x : State) (l), Kept k0 x → Kept k0 (x.modBoot fun b => b.burned l) := fun x l hx =>
    State.modBoot_kept x _ hx (Boot.burned_mem _ _).1 (Boot.burned_mem _ _).2
  split
  · exact h
  · refine State.modBoot_kept _ _ ?_ rfl rfl
    refine Kept.ite (State.flashFree_kept _ _ _ ?_) ?_
    all_goals
      split
      · exact hb _ _ (Kept.upd (hb _ _ h) rfl rfl rfl rfl rfl rfl rfl rfl rfl)
      · exact Kept.upd (hb _ _ h) rfl rfl rfl rfl rfl rfl rfl rfl rfl

theorem State.cleared_kept {k0 : State} (s : State) (h : Kept k0 s) : Kept k0 (State.cleared s) := by
  exact h.put rfl fun h => ⟨rfl, rfl, rfl, rfl, rfl, rfl, h.flash, rfl, rfl⟩

theorem State.dropPins_kept {k0 : State} (s : State) (h : Kept k0 s) : Kept k0 (State.dropPins s) := by
  unfold State.dropPins
  exact Kept.upd (Kept.ite (State.emit_kept _ _ h) h) rfl rfl rfl rfl rfl rfl rfl rfl rfl

theorem State.intReset_kept {k0 : State} (s : State) (how : Nat) (h : Kept k0 s) : Kept k0 (State.intReset s how) := by
  unfold State.intReset
  repeat' (first | with_reducible exact h | with_reducible assumption | (intro _) | (with_reducible apply State.modBoot_kept)
                 | (with_reducible apply State.cutMailbox_kept) | (with_reducible apply State.cleared_kept)
                 | (with_reducible apply State.dropPins_kept) | with_reducible apply Kept.ite | split | (with_reducible apply Kept.foldl)
                 | with_reducible apply Kept.upd | with_reducible rfl)

theorem State.modPort_kept {k0 : State} (s : State) (p : Bool) (f : Port → Port) (h : Kept k0 s) : Kept k0 (State.modPort s p f) := by
  unfold State.modPort
  repeat' (first | with_reducible exact h | with_reducible assumption | (intro _) | (with_reducible apply State.modHng_kept))

theorem State.sendFrame_kept {k0 : State} (s : State) (p : Bool) (typ : Nat) (ws : List W64) (h : Kept k0 s) : Kept k0 (State.sendFrame s p
    typ ws) := by
  unfold State.sendFrame
  repeat' (first | with_reducible exact h | with_reducible assumption | (intro _) | (with_reducible apply State.emit_kept)
                 | with_reducible apply Kept.ite)

theorem State.sendBcast_kept {k0 : State} (s : State) (p : Bool) (typ : Nat) (ws : List W64) (h : Kept k0 s) : Kept k0 (State.sendBcast s p
    typ ws) := by
  unfold State.sendBcast
  repeat' (first | with_reducible exact h | with_reducible assumption | (intro _) | (with_reducible apply State.sendFrame_kept)
                 | with_reducible apply Kept.ite)

theorem State.broadcast_kept {k0 : State} (s : State) (typ tag : Nat) (payload : W64) (h : Kept k0 s) : Kept k0 (State.broadcast s typ tag
    payload) := by
  unfold State.broadcast
  repeat' (first | with_reducible exact h | with_reducible assumption | (intro _) | (with_reducible apply State.sendBcast_kept))

theorem State.sendTo_kept {k0 : State} (s : State) (q typ tag : Nat) (payload : W64) (h : Kept k0 s) : Kept k0 (State.sendTo s q typ tag
    payload) := by
  unfold State.sendTo
  repeat' (first | with_reducible exact h | with_reducible assumption | (intro _) | (with_reducible apply State.sendFrame_kept)
                 | with_reducible apply Kept.ite | split)

theorem State.noteCycles_kept {k0 : State} (s : State) (e : Nat) (x : Engine) (h : Kept k0 s) : Kept k0 (State.noteCycles s e x) := by
  unfold State.noteCycles
  repeat' (first | with_reducible exact h | with_reducible assumption | (intro _) | (with_reducible apply State.modTe_kept)
                 | with_reducible apply Kept.ite | split | (with_reducible apply Kept.foldl) | with_reducible apply Kept.upd | with_reducible rfl)

theorem State.doneWait_kept {k0 : State} (s : State) (e : Nat) (h : Kept k0 s) : Kept k0 (State.doneWait s e) := by
  unfold State.doneWait
  repeat' (first | with_reducible exact h | with_reducible assumption | (intro _) | (with_reducible apply State.modEng_kept))

theorem State.releaseTile_kept {k0 : State} (s : State) (n t : Nat) (h : Kept k0 s) : Kept k0 (State.releaseTile s n t) := by
  unfold State.releaseTile
  repeat' (first | with_reducible exact h | with_reducible assumption | (intro _) | (with_reducible apply State.modLine_kept))

theorem State.freeSlot_kept {k0 : State} (s : State) (e sl cyc : Nat) (h : Kept k0 s) : Kept k0 (State.freeSlot s e sl cyc) := by
  unfold State.freeSlot
  repeat' (first | with_reducible exact h | with_reducible assumption | (intro _) | (with_reducible apply State.doneEng_kept))

theorem State.acceptRec_kept {k0 : State} (s : State) (e : Nat) (ws : List W64) (n tile : Nat) (h : Kept k0 s) : Kept k0 (State.acceptRec s
    e ws n tile) := by
  unfold State.acceptRec
  repeat' (first | with_reducible exact h | with_reducible assumption | (intro _) | (with_reducible apply State.modFab_kept)
                 | (with_reducible apply State.modChan_kept) | (with_reducible apply State.modLine_kept)
                 | (with_reducible apply State.loseRec_kept) | with_reducible apply Kept.ite | split | (with_reducible apply Kept.foldl)
                 | with_reducible apply Kept.upd | with_reducible rfl)

theorem tePort_kept {k0 : State} (s : State) (e : Nat) (x : Engine) (keep : Bool) (trial : Option (BitVec 2)) (a b : BitVec 5) (h : Kept k0
    s) : Kept k0 (tePort s e x keep trial a b) := by
  unfold tePort
  repeat' (first | with_reducible exact h | with_reducible assumption | (intro _) | (with_reducible apply State.raiseExc_kept)
                 | (with_reducible apply State.doneEng_kept) | (with_reducible apply State.blockEng_kept)
                 | (with_reducible apply State.acceptRec_kept) | with_reducible apply Kept.ite | split)

theorem State.teCtlWrite_kept {k0 : State} (s : State) (w : Wr) (v : W32) (h : Kept k0 s) : Kept k0 (State.teCtlWrite s w v) := by
  unfold State.teCtlWrite
  repeat' (first | with_reducible exact h | with_reducible assumption | (intro _) | (with_reducible apply State.modEng_kept)
                 | (with_reducible apply State.storeReg_kept) | (with_reducible apply State.reject_kept)
                 | (with_reducible apply State.startEng_kept) | with_reducible apply Kept.ite | split | (with_reducible apply Kept.foldl))

theorem State.teLoadWrite_kept {k0 : State} (s : State) (v : W32) (h : Kept k0 s) : Kept k0 (State.teLoadWrite s v) := by
  have go : ∀ x : State, Kept k0 x → Kept k0 (x.modTe fun y => { y with loadBusy := true, fifo := [] }) := fun x hx => State.modTe_kept _ _ hx rfl
  have no : ∀ x : State, Kept k0 x → Kept k0 (x.modTe fun y => { y with denied := true }) := fun x hx => State.modTe_kept _ _ hx rfl
  unfold State.teLoadWrite
  extract_lets s0 s1 s2
  have h0 : Kept k0 s0 := Kept.ite (State.modTe_kept _ _ h rfl) h
  have h1 : Kept k0 s1 := State.readMasters_kept _ h0
  have h2 : Kept k0 s2 := Kept.foldl _ _ _ h1 fun x e hx => Kept.ite (State.modEng_kept _ _ _ hx) (State.modEng_kept _ _ _ hx)
  exact Kept.ite h0 (Kept.ite (no _ h0) (Kept.ite h0 (go _ h2)))

theorem State.teCyclesWrite_kept {k0 : State} (s : State) (v : W32) (h : Kept k0 s) : Kept k0 (State.teCyclesWrite s v) := by
  unfold State.teCyclesWrite
  repeat' (first | with_reducible exact h | with_reducible assumption | (intro _) | (with_reducible apply State.modTe_kept)
                 | with_reducible apply Kept.ite | split | (with_reducible apply Kept.foldl) | with_reducible apply Kept.upd | with_reducible rfl)

theorem State.slotWrite_kept {k0 : State} (s : State) (e n : Nat) (ws : List (Nat × Nat)) (h : Kept k0 s) : Kept k0 (State.slotWrite s e n ws) := by
  unfold State.slotWrite
  repeat' (first | with_reducible exact h | with_reducible assumption | (intro _) | (with_reducible apply State.modEng_kept))

theorem State.convDone_kept {k0 : State} (s : State) (t n : Nat) (h : Kept k0 s) : Kept k0 (State.convDone s t n) := by
  unfold State.convDone
  repeat' (first | with_reducible exact h | with_reducible assumption | (intro _) | (with_reducible apply State.modBank_kept)
                 | (with_reducible apply State.modLine_kept) | (with_reducible apply State.cover_kept)
                 | (with_reducible apply State.accumRef_kept) | (with_reducible apply State.accumulate_kept) | with_reducible apply Kept.ite
                 | split | (with_reducible apply Kept.foldl) | with_reducible apply Kept.upd | with_reducible rfl)

theorem State.reportRetire_kept {k0 : State} (s : State) (tile sl reason : Nat) (oot : Bool) (line : Nat) (h : Kept k0 s) : Kept k0
    (State.reportRetire s tile sl reason oot line) := by
  unfold State.reportRetire
  repeat' (first | with_reducible exact h | with_reducible assumption | (intro _) | (with_reducible apply State.modConv_kept)
                 | (with_reducible apply State.modCal_kept) | (with_reducible apply State.raise_kept) | (with_reducible apply State.logEvent_kept)
                 | (with_reducible apply State.health_kept) | with_reducible apply Kept.ite | split | (with_reducible apply Kept.foldl)
                 | with_reducible apply Kept.upd | with_reducible rfl)

theorem State.banksTick_kept {k0 : State} (s : State) (n : Nat) (h : Kept k0 s) : Kept k0 (State.banksTick s n) := by
  unfold State.banksTick
  repeat' (first | with_reducible exact h | with_reducible assumption | (intro _) | (with_reducible apply State.modConv_kept)
                 | (with_reducible apply State.modBank_kept) | with_reducible apply Kept.ite | split | (with_reducible apply Kept.foldl)
                 | with_reducible apply Kept.upd | with_reducible rfl)

theorem State.banksFail_kept {k0 : State} (s : State) (n : Nat) (h : Kept k0 s) : Kept k0 (State.banksFail s n) := by
  unfold State.banksFail
  repeat' (first | with_reducible exact h | with_reducible assumption | (intro _) | (with_reducible apply State.cover_kept)
                 | with_reducible apply Kept.ite | split | (with_reducible apply Kept.foldl))

theorem State.coefSelWrite_kept {k0 : State} (s : State) (w : Wr) (v : W32) (h : Kept k0 s) : Kept k0 (State.coefSelWrite s w v) := by
  unfold State.coefSelWrite
  repeat' (first | with_reducible exact h | with_reducible assumption | (intro _) | (with_reducible apply State.storeReg_kept)
                 | (with_reducible apply State.reject_kept) | with_reducible apply Kept.ite)

theorem State.drainPulse_kept {k0 : State} (s : State) (h : Kept k0 s) : Kept k0 (State.drainPulse s) := by
  unfold State.drainPulse
  repeat' (first | with_reducible exact h | with_reducible assumption | (intro _) | (with_reducible apply State.emit_kept)
                 | with_reducible apply Kept.ite | split | (with_reducible apply Kept.foldl) | with_reducible apply Kept.upd | with_reducible rfl)

theorem State.drainCut_kept {k0 : State} (s : State) (t : Time) (h : Kept k0 s) : Kept k0 (State.drainCut s t) := by
  unfold State.drainCut
  repeat' (first | with_reducible exact h | with_reducible assumption | (intro _) | (with_reducible apply State.emit_kept)
                 | with_reducible apply Kept.ite | split | (with_reducible apply Kept.foldl) | with_reducible apply Kept.upd | with_reducible rfl)

theorem State.placeDrains_kept {k0 : State} (s : State) (h : Kept k0 s) : Kept k0 (State.placeDrains s) := by
  unfold State.placeDrains
  repeat' (first | with_reducible exact h | with_reducible assumption | (intro _) | with_reducible apply Kept.ite | split
                 | (with_reducible apply Kept.foldl) | with_reducible apply Kept.upd | with_reducible rfl)

theorem State.pixTick_kept {k0 : State} (s : State) (t : Time) (m : Motion) (w1 : W32) (bands : BitVec 4) (level : Bool) (h : Kept k0 s) :
    Kept k0 (State.pixTick s t m w1 bands level).1 := by
  unfold State.pixTick
  repeat' (first | with_reducible exact h | with_reducible assumption | (intro _) | (with_reducible apply State.emit_kept)
                 | (with_reducible apply State.stage_kept) | (with_reducible apply State.drainCut_kept) | with_reducible apply Kept.ite | split
                 | (with_reducible apply Kept.foldl) | with_reducible apply Kept.upd | with_reducible rfl)

theorem State.setTck_kept {k0 : State} (s : State) (st : Nat) (h : Kept k0 s) : Kept k0 (State.setTck s st) := by
  unfold State.setTck
  repeat' (first | with_reducible exact h | with_reducible assumption | (intro _) | (with_reducible apply State.modTick_kept)
                 | (with_reducible apply State.raise_kept) | with_reducible apply Kept.ite)

theorem State.openGap_kept {k0 : State} (s : State) (reason : Nat) (h : Kept k0 s) : Kept k0 (State.openGap s reason) := by
  unfold State.openGap
  repeat' (first | with_reducible exact h | with_reducible assumption | (intro _) | (with_reducible apply State.modTick_kept))

theorem State.endGap_kept {k0 : State} (s : State) (enc : B48) (prov : Bool) (h : Kept k0 s) : Kept k0 (State.endGap s enc prov) := by
  unfold State.endGap
  repeat' (first | with_reducible exact h | with_reducible assumption | (intro _) | (with_reducible apply State.modTick_kept)
                 | (with_reducible apply State.gapLines_kept) | with_reducible apply Kept.ite | split)

theorem State.lpllOff_kept {k0 : State} (s : State) (h : Kept k0 s) : Kept k0 (State.lpllOff s) := by
  unfold State.lpllOff
  repeat' (first | with_reducible exact h | with_reducible assumption | (intro _) | (with_reducible apply State.modClk_kept))

theorem State.lpllStart_kept {k0 : State} (s : State) (h : Kept k0 s) : Kept k0 (State.lpllStart s) := by
  unfold State.lpllStart
  repeat' (first | with_reducible exact h | with_reducible assumption | (intro _) | (with_reducible apply State.modClk_kept)
                 | (with_reducible apply State.lpllOff_kept))

theorem State.dueClose_kept {k0 : State} (s : State) (n : Nat) (h : Kept k0 s) : Kept k0 (State.dueClose s n) := by
  unfold State.dueClose
  repeat' (first | with_reducible exact h | with_reducible assumption | (intro _) | (with_reducible apply State.modFab_kept)
                 | with_reducible apply Kept.ite | split | (with_reducible apply Kept.foldl) | with_reducible apply Kept.upd | with_reducible rfl)

theorem State.enterStopped_kept {k0 : State} (s : State) (h : Kept k0 s) : Kept k0 (State.enterStopped s) := by
  unfold State.enterStopped
  repeat' (first | with_reducible exact h | with_reducible assumption | (intro _) | (with_reducible apply State.modTick_kept)
                 | (with_reducible apply State.stopSeq_kept) | (with_reducible apply State.stepStop_kept)
                 | (with_reducible apply State.setTck_kept) | (with_reducible apply State.endGap_kept) | (with_reducible apply State.lpllOff_kept)
                 | (with_reducible apply State.dueClose_kept) | with_reducible apply Kept.ite)

theorem State.startMode_kept {k0 : State} (s : State) (h : Kept k0 s) : Kept k0 (State.startMode s) := by
  unfold State.startMode
  repeat' (first | with_reducible exact h | with_reducible assumption | (intro _) | (with_reducible apply State.modTick_kept)
                 | (with_reducible apply State.modClk_kept) | (with_reducible apply State.minPeriod_kept)
                 | (with_reducible apply State.startSeq_kept) | (with_reducible apply State.setTck_kept)
                 | (with_reducible apply State.openGap_kept) | (with_reducible apply State.lpllStart_kept) | with_reducible apply Kept.ite)

theorem State.changeMode_kept {k0 : State} (s : State) (old : Nat) (h : Kept k0 s) : Kept k0 (State.changeMode s old) := by
  unfold State.changeMode
  repeat' (first | with_reducible exact h | with_reducible assumption | (intro _) | (with_reducible apply State.enterStopped_kept)
                 | (with_reducible apply State.startMode_kept) | with_reducible apply Kept.ite)

theorem State.commitEffect_kept {k0 : State} (s : State) (n : Nat) (enc : B48) (t : Time) (h : Kept k0 s) : Kept k0 (State.commitEffect s n
    enc t) := by
  unfold State.commitEffect
  repeat' (first | with_reducible exact h | with_reducible assumption | (intro _) | (with_reducible apply State.modTick_kept)
                 | (with_reducible apply State.commitRegs_kept) | (with_reducible apply State.raise_kept)
                 | (with_reducible apply State.event_kept) | with_reducible apply Kept.ite)

theorem State.commitDir_kept {k0 : State} (s : State) (atTick : Bool) (h : Kept k0 s) : Kept k0 (State.commitDir s atTick) := by
  unfold State.commitDir
  repeat' (first | with_reducible exact h | with_reducible assumption | (intro _) | (with_reducible apply State.modTick_kept)
                 | (with_reducible apply State.eventNow_kept) | (with_reducible apply State.placeDrains_kept) | with_reducible apply Kept.ite)

theorem State.snapEffect_kept {k0 : State} (s : State) (n : Nat) (enc : B48) (t : Time) (h : Kept k0 s) : Kept k0 (State.snapEffect s n enc t) := by
  unfold State.snapEffect
  repeat' (first | with_reducible exact h | with_reducible assumption | (intro _) | (with_reducible apply State.modTick_kept)
                 | (with_reducible apply State.raise_kept) | (with_reducible apply State.freeze_kept))

theorem State.throttleEffect_kept {k0 : State} (s : State) (n : Nat) (enc : B48) (t : Time) (h : Kept k0 s) : Kept k0 (State.throttleEffect
    s n enc t) := by
  unfold State.throttleEffect
  repeat' (first | with_reducible exact h | with_reducible assumption | (intro _) | (with_reducible apply State.raise_kept)
                 | (with_reducible apply State.logEvent_kept) | (with_reducible apply State.event_kept)
                 | (with_reducible apply State.minPeriod_kept) | with_reducible apply Kept.ite | split | (with_reducible apply Kept.foldl)
                 | with_reducible apply Kept.upd | with_reducible rfl)

theorem State.tickSnap_kept {k0 : State} (s : State) (n : Nat) (enc : B48) (t : Time) (h : Kept k0 s) : Kept k0 (State.tickSnap s n enc t) := by
  unfold State.tickSnap
  repeat' (first | with_reducible exact h | with_reducible assumption | (intro _) | (with_reducible apply State.modHng_kept)
                 | (with_reducible apply State.snapEffect_kept) | with_reducible apply Kept.ite)

theorem State.tickCommit_kept {k0 : State} (s : State) (n : Nat) (enc : B48) (t : Time) (h : Kept k0 s) : Kept k0 (State.tickCommit s n enc t) := by
  unfold State.tickCommit
  repeat' (first | with_reducible exact h | with_reducible assumption | (intro _) | (with_reducible apply State.modTick_kept)
                 | (with_reducible apply State.modHng_kept) | (with_reducible apply State.useFree_kept)
                 | (with_reducible apply State.commitEffect_kept) | (with_reducible apply State.commitDir_kept) | with_reducible apply Kept.ite)

theorem State.tickCounts_kept {k0 : State} (s : State) (c : Nat × Nat) (h : Kept k0 s) : Kept k0 (State.tickCounts s c) := by
  unfold State.tickCounts
  repeat' (first | with_reducible exact h | with_reducible assumption | (intro _) | (with_reducible apply State.modHng_kept))

theorem State.trimStep_kept {k0 : State} (s : State) (h : Kept k0 s) : Kept k0 (State.trimStep s) := by
  unfold State.trimStep
  repeat' (first | with_reducible exact h | with_reducible assumption | (intro _) | (with_reducible apply State.modHng_kept)
                 | (with_reducible apply State.useFree_kept) | with_reducible apply Kept.ite)

theorem State.tickReverse_kept {k0 : State} (s : State) (n : Nat) (enc : B48) (t : Time) (h : Kept k0 s) : Kept k0 (State.tickReverse s n
    enc t) := by
  unfold State.tickReverse
  repeat' (first | with_reducible exact h | with_reducible assumption | (intro _) | (with_reducible apply State.modTick_kept)
                 | (with_reducible apply State.event_kept) | (with_reducible apply State.stepStop_kept) | (with_reducible apply State.setTck_kept)
                 | with_reducible apply Kept.ite)

theorem State.tickEnds_kept {k0 : State} (s : State) (n : Nat) (l : Line) (t : Time) (passed : Bool) (h : Kept k0 s) : Kept k0
    (State.tickEnds s n l t passed) := by
  unfold State.tickEnds
  repeat' (first | with_reducible exact h | with_reducible assumption | (intro _) | (with_reducible apply State.modTick_kept)
                 | (with_reducible apply State.modCal_kept) | (with_reducible apply State.cover_kept) | (with_reducible apply State.failTile_kept)
                 | (with_reducible apply State.failLine_kept) | (with_reducible apply State.gapWhole_kept)
                 | (with_reducible apply State.banksFail_kept) | with_reducible apply Kept.ite | split | (with_reducible apply Kept.foldl))

theorem State.tickSwitch_kept {k0 : State} (s : State) (n : Nat) (enc : B48) (t : Time) (h : Kept k0 s) : Kept k0 (State.tickSwitch s n enc t) := by
  unfold State.tickSwitch
  repeat' (first | with_reducible exact h | with_reducible assumption | (intro _) | (with_reducible apply State.modFlt_kept)
                 | (with_reducible apply State.modEng_kept) | (with_reducible apply State.logEvent_kept) | (with_reducible apply State.event_kept)
                 | with_reducible apply Kept.ite | split | (with_reducible apply Kept.foldl))

theorem State.startEffect_kept {k0 : State} (s : State) (ch n : Nat) (t : Time) (h : Kept k0 s) : Kept k0 (State.startEffect s ch n t) := by
  unfold State.startEffect
  repeat' (first | with_reducible exact h | with_reducible assumption | (intro _) | (with_reducible apply State.modFab_kept)
                 | (with_reducible apply State.modRing_kept) | (with_reducible apply State.modChan_kept) | with_reducible apply Kept.ite | split
                 | (with_reducible apply Kept.foldl) | with_reducible apply Kept.upd | with_reducible rfl)

theorem State.tickStarts_kept {k0 : State} (s : State) (n : Nat) (t : Time) (h : Kept k0 s) : Kept k0 (State.tickStarts s n t) := by
  unfold State.tickStarts
  repeat' (first | with_reducible exact h | with_reducible assumption | (intro _) | (with_reducible apply State.startEffect_kept)
                 | with_reducible apply Kept.ite | split | (with_reducible apply Kept.foldl))

theorem State.clampGap_kept {k0 : State} (s : State) (enc : B48) (h : Kept k0 s) : Kept k0 (State.clampGap s enc) := by
  unfold State.clampGap
  repeat' (first | with_reducible exact h | with_reducible assumption | (intro _) | (with_reducible apply State.modTick_kept)
                 | (with_reducible apply State.modClk_kept) | (with_reducible apply State.at_kept) | (with_reducible apply State.gapLines_kept)
                 | with_reducible apply Kept.ite)

theorem State.tickWalk_kept {k0 : State} (s : State) (n : Nat) (t : Time) (h : Kept k0 s) : Kept k0 (State.tickWalk s n t).1 := by
  unfold State.tickWalk
  exact Kept.upd (Kept.ite (State.useFree_kept _ h) h) rfl rfl rfl rfl rfl rfl rfl rfl rfl

theorem State.flushEnd_kept {k0 : State} (s : State) (h : Kept k0 s) : Kept k0 (State.flushEnd s) := by
  unfold State.flushEnd
  repeat' (first | with_reducible exact h | with_reducible assumption | (intro _) | (with_reducible apply State.setTck_kept)
                 | with_reducible apply Kept.ite)

theorem State.tickReset_kept {k0 : State} (s : State) (t : Time) (h : Kept k0 s) : Kept k0 (State.tickReset s t) := by
  unfold State.tickReset
  repeat' (first | with_reducible exact h | with_reducible assumption | (intro _) | (with_reducible apply State.modHng_kept)
                 | (with_reducible apply State.intReset_kept) | with_reducible apply Kept.ite | split)

theorem State.tickOpen_kept {k0 : State} (s : State) (n : Nat) (t : Time) (enc : B48) (h : Kept k0 s) : Kept k0 (State.tickOpen s n t enc) := by
  unfold State.tickOpen
  extract_lets s1 cnt s2 s3 s4 s5 s6 s7 s8 s9
  have h1 : Kept k0 s1 := State.flushEnd_kept _ (State.at_kept _ _ h)
  have h2 : Kept k0 s2 := State.trimStep_kept _ (State.tickCounts_kept _ _ (State.tickSnap_kept _ _ _ _ h1))
  have h3 : Kept k0 s3 := State.tickCommit_kept _ _ _ _ h2
  have h4 : Kept k0 s4 := Kept.ite (State.setTck_kept _ _ h3) h3
  have h5 : Kept k0 s5 := State.throttleEffect_kept _ _ _ _ h4
  have h6 : Kept k0 s6 := Kept.ite (State.cutFrame_kept _ _ h5) h5
  have h7 : Kept k0 s7 := Kept.ite (State.stepStop_kept _ _ _ (State.swapEffect_kept _ _ _ _ h6)) h6
  have h8 : Kept k0 s8 := State.tickReverse_kept _ _ _ _ h7
  have h9 : Kept k0 s9 := Kept.ite (State.applyEnd_kept _ _ _ h8) h8
  exact State.clampGap_kept _ _ h9

theorem State.tickWake_kept {k0 : State} (s : State) (a : SeqAct) (h : Kept k0 s) : Kept k0 (State.tickWake s a) := by
  unfold State.tickWake
  repeat' (first | with_reducible exact h | with_reducible assumption | (intro _) | (with_reducible apply State.modConv_kept)
                 | with_reducible apply Kept.ite | split | (with_reducible apply Kept.foldl) | with_reducible apply Kept.upd | with_reducible rfl)

theorem State.tickPast_kept {k0 : State} (s : State) (t : Time) (l : Line) (h : Kept k0 s) : Kept k0 (State.tickPast s t l) := by
  unfold State.tickPast
  repeat' (first | with_reducible exact h | with_reducible assumption | (intro _) | (with_reducible apply State.modTick_kept))

theorem State.tickShow_kept {k0 : State} (s : State) (n : Nat) (a : SeqAct) (l : Line) (h : Kept k0 s) : Kept k0 (State.tickShow s n a l) := by
  unfold State.tickShow
  repeat' (first | with_reducible exact h | with_reducible assumption | (intro _) | (with_reducible apply State.emit_kept)
                 | with_reducible apply Kept.ite)

theorem State.takeLine_kept {k0 : State} (s : State) (n : Nat) (t : Time) (enc : B48) (late : Bool) (old : Nat) (a : SeqAct) (passed : Bool)
    (h : Kept k0 s) : Kept k0 (State.takeLine s n t enc late old a passed) := by
  have go : ∀ (x : State) (v), Kept k0 x → Kept k0 (x.modFab fun f => { f with lines := Tbl.set none f.lines n v }) := fun x v hx =>
    State.modFab_kept _ _ hx rfl
  unfold State.takeLine
  extract_lets w tmin woke p l s1 s2 s3 s4
  have h0 : Kept k0 p.1 := State.pixTick_kept _ _ _ _ _ _ (State.tickWake_kept _ _ h)
  have h1 : Kept k0 s1 := State.tickStarts_kept _ _ _ (go _ _ h0)
  have h2 : Kept k0 s2 := State.banksTick_kept _ _ (State.tickPast_kept _ _ _ (State.tickSwitch_kept _ _ _ _ (State.endGap_kept _ _ _ h1)))
  have h3 : Kept k0 s3 := State.tickShow_kept _ _ _ _ (State.tickEnds_kept _ _ _ _ _ h2)
  have h4 : Kept k0 s4 := Kept.ite (State.dueClose_kept _ _ h3) h3
  exact State.tickReset_kept _ _ (State.minPeriod_kept _ (State.changeMode_kept _ _ h4))

theorem State.fireTick_kept {k0 : State} (s : State) (t : Time) (enc : B48) (late : Bool) (h : Kept k0 s) : Kept k0 (State.fireTick s t enc
    late) := by
  exact State.takeLine_kept _ _ _ _ _ _ _ _ (State.tickWalk_kept _ _ _ (State.tickOpen_kept _ _ _ _ h))

theorem State.overrun_kept {k0 : State} (s : State) (inp : Nat) (stamp : Time) (h : Kept k0 s) : Kept k0 (State.overrun s inp stamp) := by
  unfold State.overrun
  repeat' (first | with_reducible exact h | with_reducible assumption | (intro _) | (with_reducible apply State.modTick_kept)
                 | (with_reducible apply State.useFree_kept) | (with_reducible apply State.stageOn_kept))

theorem State.trigger_kept {k0 : State} (s : State) (inp : Nat) (stamp : Time) (h : Kept k0 s) : Kept k0 (State.trigger s inp stamp) := by
  unfold State.trigger
  refine Kept.ite h (Kept.ite (State.modClk_kept _ _ (State.modTick_kept _ _ h)) (Kept.ite (State.overrun_kept _ _ _ h) ?_))
  extract_lets w d edge hold s1
  have h1 : Kept k0 s1 := Kept.ite (State.useFree_kept _ h) h
  clear_value s1
  exact Kept.ite (State.modTick_kept _ _ h1) (Kept.ite (State.fireTick_kept _ _ _ _ (State.modTick_kept _ _ h1)) (State.overrun_kept _ _ _ h1))

theorem State.encMoved_kept {k0 : State} (s : State) (h : Kept k0 s) : Kept k0 (State.encMoved s) := by
  unfold State.encMoved
  repeat' (first | with_reducible exact h | with_reducible assumption | (intro _) | (with_reducible apply State.modTick_kept)
                 | with_reducible apply Kept.ite)

theorem State.toLocking_kept {k0 : State} (s : State) (h : Kept k0 s) : Kept k0 (State.toLocking s) := by
  unfold State.toLocking
  repeat' (first | with_reducible exact h | with_reducible assumption | (intro _) | (with_reducible apply State.modTick_kept)
                 | (with_reducible apply State.setTck_kept) | (with_reducible apply State.openGap_kept)
                 | (with_reducible apply State.lpllStart_kept))

theorem State.clockProvisional_kept {k0 : State} (s : State) (h : Kept k0 s) : Kept k0 (State.clockProvisional s) := by
  unfold State.clockProvisional
  repeat' (first | with_reducible exact h | with_reducible assumption | (intro _) | (with_reducible apply State.modTick_kept)
                 | (with_reducible apply State.modClk_kept) | (with_reducible apply State.gapLines_kept) | with_reducible apply Kept.ite)

theorem State.commitWrite_kept {k0 : State} (s : State) (v : W32) (h : Kept k0 s) : Kept k0 (State.commitWrite s v) := by
  unfold State.commitWrite
  repeat' (first | with_reducible exact h | with_reducible assumption | (intro _) | (with_reducible apply State.modTick_kept)
                 | with_reducible apply Kept.ite)

theorem State.commitUntimed_kept {k0 : State} (s : State) (h : Kept k0 s) : Kept k0 (State.commitUntimed s) := by
  unfold State.commitUntimed
  repeat' (first | with_reducible exact h | with_reducible assumption | (intro _) | (with_reducible apply State.modTick_kept)
                 | (with_reducible apply State.minPeriod_kept) | (with_reducible apply State.changeMode_kept)
                 | (with_reducible apply State.commitEffect_kept) | (with_reducible apply State.commitDir_kept) | with_reducible apply Kept.ite)

theorem State.snapWrite_kept {k0 : State} (s : State) (v : W32) (h : Kept k0 s) : Kept k0 (State.snapWrite s v) := by
  unfold State.snapWrite
  repeat' (first | with_reducible exact h | with_reducible assumption | (intro _) | (with_reducible apply State.modTick_kept)
                 | with_reducible apply Kept.ite)

theorem State.phase_kept {k0 : State} (s : State) (h : Kept k0 s) : Kept k0 (State.phase s) := by
  unfold State.phase
  repeat' (first | with_reducible exact h | with_reducible assumption | (intro _) | (with_reducible apply State.modClk_kept)
                 | (with_reducible apply State.useFree_kept))

theorem State.toClamp_kept {k0 : State} (s : State) (T : Nat) (h : Kept k0 s) : Kept k0 (State.toClamp s T) := by
  unfold State.toClamp
  repeat' (first | with_reducible exact h | with_reducible assumption | (intro _) | (with_reducible apply State.modClk_kept))

theorem State.follow_kept {k0 : State} (s : State) (T : Nat) (pull : Bool) (h : Kept k0 s) : Kept k0 (State.follow s T pull) := by
  unfold State.follow
  repeat' (first | with_reducible exact h | with_reducible assumption | (intro _) | (with_reducible apply State.modClk_kept)
                 | (with_reducible apply State.phase_kept) | (with_reducible apply State.toClamp_kept) | with_reducible apply Kept.ite)

theorem State.holdEntry_kept {k0 : State} (s : State) (h : Kept k0 s) : Kept k0 (State.holdEntry s) := by
  unfold State.holdEntry
  repeat' (first | with_reducible exact h | with_reducible assumption | (intro _) | (with_reducible apply State.modTick_kept)
                 | (with_reducible apply State.modClk_kept) | (with_reducible apply State.raise_kept) | (with_reducible apply State.setTck_kept)
                 | (with_reducible apply State.toLocking_kept) | with_reducible apply Kept.ite)

theorem State.reacquire_kept {k0 : State} (s : State) (h : Kept k0 s) : Kept k0 (State.reacquire s) := by
  unfold State.reacquire
  repeat' (first | with_reducible exact h | with_reducible assumption | (intro _) | (with_reducible apply State.modClk_kept))

theorem State.acqPeriod_kept {k0 : State} (s : State) (T : Nat) (h : Kept k0 s) : Kept k0 (State.acqPeriod s T) := by
  unfold State.acqPeriod
  repeat' (first | with_reducible exact h | with_reducible assumption | (intro _) | (with_reducible apply State.modClk_kept)
                 | (with_reducible apply State.reacquire_kept) | with_reducible apply Kept.ite | split)

theorem State.runPeriod_kept {k0 : State} (s : State) (T : Nat) (h : Kept k0 s) : Kept k0 (State.runPeriod s T) := by
  unfold State.runPeriod
  repeat' (first | with_reducible exact h | with_reducible assumption | (intro _) | (with_reducible apply State.modTick_kept)
                 | (with_reducible apply State.modClk_kept) | (with_reducible apply State.raise_kept) | (with_reducible apply State.setTck_kept)
                 | (with_reducible apply State.follow_kept) | (with_reducible apply State.holdEntry_kept) | with_reducible apply Kept.ite)

theorem State.refEdge_kept {k0 : State} (s : State) (stamp : Time) (h : Kept k0 s) : Kept k0 (State.refEdge s stamp) := by
  unfold State.refEdge
  repeat' (first | with_reducible exact h | with_reducible assumption | (intro _) | (with_reducible apply State.modClk_kept)
                 | (with_reducible apply State.setTck_kept) | (with_reducible apply State.openGap_kept)
                 | (with_reducible apply State.lpllStart_kept) | (with_reducible apply State.phase_kept)
                 | (with_reducible apply State.acqPeriod_kept) | (with_reducible apply State.runPeriod_kept) | with_reducible apply Kept.ite
                 | split)

theorem State.relock_kept {k0 : State} (s : State) (r : Nat) (h : Kept k0 s) : Kept k0 (State.relock s r) := by
  unfold State.relock
  repeat' (first | with_reducible exact h | with_reducible assumption | (intro _) | (with_reducible apply State.modClk_kept))

theorem State.countFailover_kept {k0 : State} (s : State) (h : Kept k0 s) : Kept k0 (State.countFailover s) := by
  unfold State.countFailover
  repeat' (first | with_reducible exact h | with_reducible assumption | (intro _) | (with_reducible apply State.modClk_kept)
                 | (with_reducible apply State.raise_kept))

theorem State.clockFail_kept {k0 : State} (s : State) (lastPass : Time) (h : Kept k0 s) : Kept k0 (State.clockFail s lastPass) := by
  unfold State.clockFail
  repeat' (first | with_reducible exact h | with_reducible assumption | (intro _) | (with_reducible apply State.modLine_kept)
                 | (with_reducible apply State.coverCh_kept) | (with_reducible apply State.failLine_kept) | with_reducible apply Kept.ite | split
                 | (with_reducible apply Kept.foldl))

theorem State.gateCpll_kept {k0 : State} (s : State) (cause : Nat) (start lastPass : Time) (target : Nat) (h : Kept k0 s) : Kept k0
    (State.gateCpll s cause start lastPass target) := by
  unfold State.gateCpll
  repeat' (first | with_reducible exact h | with_reducible assumption | (intro _) | (with_reducible apply State.modTick_kept)
                 | (with_reducible apply State.modTe_kept) | (with_reducible apply State.modClk_kept) | (with_reducible apply State.modHng_kept)
                 | (with_reducible apply State.raise_kept) | (with_reducible apply State.endGap_kept) | (with_reducible apply State.relock_kept)
                 | (with_reducible apply State.clockFail_kept) | with_reducible apply Kept.ite | split | (with_reducible apply Kept.foldl)
                 | with_reducible apply Kept.upd | with_reducible rfl)

theorem State.failover_kept {k0 : State} (s : State) (h : Kept k0 s) : Kept k0 (State.failover s) := by
  unfold State.failover
  repeat' (first | with_reducible exact h | with_reducible assumption | (intro _) | (with_reducible apply State.useFree_kept)
                 | (with_reducible apply State.countFailover_kept) | (with_reducible apply State.gateCpll_kept) | with_reducible apply Kept.ite)

theorem State.refLost_kept {k0 : State} (s : State) (r : Nat) (h : Kept k0 s) : Kept k0 (State.refLost s r) := by
  unfold State.refLost
  repeat' (first | with_reducible exact h | with_reducible assumption | (intro _) | (with_reducible apply State.modClk_kept)
                 | (with_reducible apply State.relock_kept) | (with_reducible apply State.countFailover_kept)
                 | (with_reducible apply State.failover_kept) | with_reducible apply Kept.ite)

theorem State.ungateCpll_kept {k0 : State} (s : State) (h : Kept k0 s) : Kept k0 (State.ungateCpll s) := by
  unfold State.ungateCpll
  repeat' (first | with_reducible exact h | with_reducible assumption | (intro _) | (with_reducible apply State.modClk_kept)
                 | (with_reducible apply State.raise_kept) | (with_reducible apply State.drainPulse_kept))

theorem State.resumeEngs_kept {k0 : State} (s : State) (h : Kept k0 s) : Kept k0 (State.resumeEngs s) := by
  unfold State.resumeEngs
  repeat' (first | with_reducible exact h | with_reducible assumption | (intro _) | (with_reducible apply State.modTe_kept)
                 | with_reducible apply Kept.ite | split | (with_reducible apply Kept.foldl) | with_reducible apply Kept.upd | with_reducible rfl)

theorem State.clockGap_kept {k0 : State} (s : State) (h : Kept k0 s) : Kept k0 (State.clockGap s) := by
  unfold State.clockGap
  repeat' (first | with_reducible exact h | with_reducible assumption | (intro _) | (with_reducible apply State.modTick_kept)
                 | (with_reducible apply State.modClk_kept) | (with_reducible apply State.gapLines_kept) | with_reducible apply Kept.ite)

theorem State.clkRefWrite_kept {k0 : State} (s : State) (w : Wr) (v : W32) (h : Kept k0 s) : Kept k0 (State.clkRefWrite s w v) := by
  unfold State.clkRefWrite
  repeat' (first | with_reducible exact h | with_reducible assumption | (intro _) | (with_reducible apply State.modClk_kept)
                 | (with_reducible apply State.useFree_kept) | (with_reducible apply State.storeReg_kept)
                 | (with_reducible apply State.reject_kept) | (with_reducible apply State.relock_kept)
                 | (with_reducible apply State.gateCpll_kept) | with_reducible apply Kept.ite)

theorem State.clkStatusWrite_kept {k0 : State} (s : State) (v : W32) (h : Kept k0 s) : Kept k0 (State.clkStatusWrite s v) := by
  unfold State.clkStatusWrite
  repeat' (first | with_reducible exact h | with_reducible assumption | (intro _) | (with_reducible apply State.modClk_kept))

theorem State.ungateApll_kept {k0 : State} (s : State) (x : Time) (h : Kept k0 s) : Kept k0 (State.ungateApll s x) := by
  unfold State.ungateApll
  repeat' (first | with_reducible exact h | with_reducible assumption | (intro _) | (with_reducible apply State.modClk_kept)
                 | (with_reducible apply State.modFlt_kept) | (with_reducible apply State.raise_kept) | (with_reducible apply State.logEvent_kept)
                 | (with_reducible apply State.health_kept) | with_reducible apply Kept.ite)

theorem State.asyncEdge_kept {k0 : State} (s : State) (h : Kept k0 s) : Kept k0 (State.asyncEdge s) := by
  unfold State.asyncEdge
  repeat' (first | with_reducible exact h | with_reducible assumption | (intro _) | (with_reducible apply State.modClk_kept)
                 | (with_reducible apply State.useFree_kept) | (with_reducible apply State.setFld_kept) | with_reducible apply Kept.ite)

theorem State.asyncWrite_kept {k0 : State} (s : State) (w : Wr) (v : W32) (h : Kept k0 s) : Kept k0 (State.asyncWrite s w v) := by
  unfold State.asyncWrite
  repeat' (first | with_reducible exact h | with_reducible assumption | (intro _) | (with_reducible apply State.modClk_kept)
                 | (with_reducible apply State.emit_kept) | (with_reducible apply State.storeReg_kept) | (with_reducible apply State.reject_kept)
                 | (with_reducible apply State.asyncEdge_kept) | with_reducible apply Kept.ite)

theorem State.clkOutWrite_kept {k0 : State} (s : State) (j : Nat) (w : Wr) (v : W32) (h : Kept k0 s) : Kept k0 (State.clkOutWrite s j w v) := by
  unfold State.clkOutWrite
  repeat' (first | with_reducible exact h | with_reducible assumption | (intro _) | (with_reducible apply State.emit_kept)
                 | (with_reducible apply State.storeReg_kept) | (with_reducible apply State.reject_kept) | with_reducible apply Kept.ite)

theorem State.mirrorOne_kept {k0 : State} (s : State) (e : Nat) (h : Kept k0 s) : Kept k0 (State.mirrorOne s e) := by
  unfold State.mirrorOne
  repeat' (first | with_reducible exact h | with_reducible assumption | (intro _) | (with_reducible apply State.modPx_kept)
                 | with_reducible apply Kept.ite)

theorem State.mirrors_kept {k0 : State} (s : State) (h : Kept k0 s) : Kept k0 (State.mirrors s) := by
  unfold State.mirrors
  repeat' (first | with_reducible exact h | with_reducible assumption | (intro _) | (with_reducible apply State.mirrorOne_kept)
                 | with_reducible apply Kept.ite | split | (with_reducible apply Kept.foldl))

theorem State.writeCtr_kept {k0 : State} (s : State) (e k : Nat) (v : B48) (h : Kept k0 s) : Kept k0 (State.writeCtr s e k v) := by
  unfold State.writeCtr
  repeat' (first | with_reducible exact h | with_reducible assumption | (intro _) | (with_reducible apply State.modTick_kept)
                 | (with_reducible apply State.modPx_kept) | (with_reducible apply State.mirrors_kept))

theorem State.showOut_kept {k0 : State} (s : State) (e o : Nat) (h : Kept k0 s) : Kept k0 (State.showOut s e o) := by
  unfold State.showOut
  repeat' (first | with_reducible exact h | with_reducible assumption | (intro _) | (with_reducible apply State.emit_kept)
                 | with_reducible apply Kept.ite)

theorem State.showOuts_kept {k0 : State} (s : State) (e : Nat) (h : Kept k0 s) : Kept k0 (State.showOuts s e) := by
  unfold State.showOuts
  repeat' (first | with_reducible exact h | with_reducible assumption | (intro _) | (with_reducible apply State.showOut_kept)
                 | with_reducible apply Kept.ite | split | (with_reducible apply Kept.foldl))

theorem State.driveOut_kept {k0 : State} (s : State) (e o lev : Nat) (h : Kept k0 s) : Kept k0 (State.driveOut s e o lev) := by
  unfold State.driveOut
  repeat' (first | with_reducible exact h | with_reducible assumption | (intro _) | (with_reducible apply State.modPx_kept)
                 | (with_reducible apply State.showOut_kept))

theorem State.idleOuts_kept {k0 : State} (s : State) (e : Nat) (h : Kept k0 s) : Kept k0 (State.idleOuts s e) := by
  unfold State.idleOuts
  repeat' (first | with_reducible exact h | with_reducible assumption | (intro _) | (with_reducible apply State.modPx_kept)
                 | (with_reducible apply State.showOuts_kept))

theorem State.stopOuts_kept {k0 : State} (s : State) (e : Nat) (h : Kept k0 s) : Kept k0 (State.stopOuts s e) := by
  unfold State.stopOuts
  repeat' (first | with_reducible exact h | with_reducible assumption | (intro _) | (with_reducible apply State.idleOuts_kept)
                 | with_reducible apply Kept.ite)

theorem State.pxGo_kept {k0 : State} (s : State) (e pc : Nat) (f : Px → Px) (h : Kept k0 s) : Kept k0 (State.pxGo s e pc f) := by
  unfold State.pxGo
  repeat' (first | with_reducible exact h | with_reducible assumption | (intro _) | (with_reducible apply State.modPx_kept))

theorem State.pxNext_kept {k0 : State} (s : State) (e : Nat) (f : Px → Px) (h : Kept k0 s) : Kept k0 (State.pxNext s e f) := by
  unfold State.pxNext
  repeat' (first | with_reducible exact h | with_reducible assumption | (intro _) | (with_reducible apply State.pxGo_kept))

theorem State.pxBlock_kept {k0 : State} (s : State) (e : Nat) (h : Kept k0 s) : Kept k0 (State.pxBlock s e) := by
  unfold State.pxBlock
  repeat' (first | with_reducible exact h | with_reducible assumption | (intro _) | (with_reducible apply State.modPx_kept))

theorem State.pxFault_kept {k0 : State} (s : State) (e : Nat) (h : Kept k0 s) : Kept k0 (State.pxFault s e) := by
  unfold State.pxFault
  repeat' (first | with_reducible exact h | with_reducible assumption | (intro _) | (with_reducible apply State.modPx_kept)
                 | (with_reducible apply State.raise_kept) | (with_reducible apply State.stopOuts_kept))

theorem State.shiftBit_kept {k0 : State} (s : State) (e n : Nat) (rest : List (Nat × Bool × Time × Bool)) (wait : Bool) (f : Px → Px) (h :
    Kept k0 s) : Kept k0 (State.shiftBit s e n rest wait f) := by
  unfold State.shiftBit
  repeat' (first | with_reducible exact h | with_reducible assumption | (intro _) | (with_reducible apply State.modPx_kept)
                 | (with_reducible apply State.pxNext_kept) | with_reducible apply Kept.ite)

theorem State.shiftStart_kept {k0 : State} (s : State) (e : Nat) (h : Kept k0 s) : Kept k0 (State.shiftStart s e) := by
  unfold State.shiftStart
  repeat' (first | with_reducible exact h | with_reducible assumption | (intro _) | (with_reducible apply State.modPx_kept)
                 | with_reducible apply Kept.ite)

theorem State.lineRefEvent_kept {k0 : State} (s : State) (stamp : Option Time) (h : Kept k0 s) : Kept k0 (State.lineRefEvent s stamp) := by
  unfold State.lineRefEvent
  repeat' (first | with_reducible exact h | with_reducible assumption | (intro _) | (with_reducible apply State.modClk_kept)
                 | (with_reducible apply State.broadcast_kept) | with_reducible apply Kept.ite | split)

theorem State.stageCap_kept {k0 : State} (s : State) (ws : List W64) (h : Kept k0 s) : Kept k0 (State.stageCap s ws) := by
  unfold State.stageCap
  repeat' (first | with_reducible exact h | with_reducible assumption | (intro _) | (with_reducible apply State.modFab_kept)
                 | with_reducible apply Kept.ite | split | (with_reducible apply Kept.foldl) | with_reducible apply Kept.upd | with_reducible rfl)

theorem State.pxHalt_kept {k0 : State} (s : State) (e : Nat) (h : Kept k0 s) : Kept k0 (State.pxHalt s e) := by
  unfold State.pxHalt
  repeat' (first | with_reducible exact h | with_reducible assumption | (intro _) | (with_reducible apply State.modPx_kept)
                 | (with_reducible apply State.stopOuts_kept))

theorem State.pxRun_kept {k0 : State} (s : State) (e pc : Nat) (keep clear : Bool) (h : Kept k0 s) : Kept k0 (State.pxRun s e pc keep clear) := by
  unfold State.pxRun
  repeat' (first | with_reducible exact h | with_reducible assumption | (intro _) | (with_reducible apply State.modTick_kept)
                 | (with_reducible apply State.modPx_kept) | (with_reducible apply State.mirrors_kept)
                 | (with_reducible apply State.idleOuts_kept) | with_reducible apply Kept.ite)

theorem State.progReject_kept {k0 : State} (s : State) (e cause : Nat) (src : BitVec 7) (off : Nat) (h : Kept k0 s) : Kept k0
    (State.progReject s e cause src off) := by
  unfold State.progReject
  repeat' (first | with_reducible exact h | with_reducible assumption | (intro _) | (with_reducible apply State.modPx_kept)
                 | (with_reducible apply State.reject_kept))

theorem State.pxCtlWrite_kept {k0 : State} (s : State) (e : Nat) (w : Wr) (v : W32) (h : Kept k0 s) : Kept k0 (State.pxCtlWrite s e w v) := by
  unfold State.pxCtlWrite
  repeat' (first | with_reducible exact h | with_reducible assumption | (intro _) | (with_reducible apply State.modPx_kept)
                 | (with_reducible apply State.storeReg_kept) | (with_reducible apply State.pxRun_kept)
                 | (with_reducible apply State.progReject_kept) | with_reducible apply Kept.ite)

theorem State.pxStatusWrite_kept {k0 : State} (s : State) (e : Nat) (v : W32) (h : Kept k0 s) : Kept k0 (State.pxStatusWrite s e v) := by
  unfold State.pxStatusWrite
  repeat' (first | with_reducible exact h | with_reducible assumption | (intro _) | (with_reducible apply State.modPx_kept))

theorem State.pxInWrite_kept {k0 : State} (s : State) (e j : Nat) (w : Wr) (v : W32) (h : Kept k0 s) : Kept k0 (State.pxInWrite s e j w v) := by
  unfold State.pxInWrite
  repeat' (first | with_reducible exact h | with_reducible assumption | (intro _) | (with_reducible apply State.modPx_kept)
                 | (with_reducible apply State.storeReg_kept) | (with_reducible apply State.reject_kept) | with_reducible apply Kept.ite)

theorem State.pxConfigWrite_kept {k0 : State} (s : State) (e o : Nat) (w : Wr) (v : W32) (h : Kept k0 s) : Kept k0 (State.pxConfigWrite s e
    o w v) := by
  unfold State.pxConfigWrite
  repeat' (first | with_reducible exact h | with_reducible assumption | (intro _) | (with_reducible apply State.emit_kept)
                 | (with_reducible apply State.storeReg_kept) | (with_reducible apply State.showOuts_kept)
                 | (with_reducible apply State.progReject_kept) | with_reducible apply Kept.ite | split | (with_reducible apply Kept.foldl))

theorem State.pxCntWrite_kept {k0 : State} (s : State) (e k : Nat) (w : Wr) (h : Kept k0 s) : Kept k0 (State.pxCntWrite s e k w) := by
  unfold State.pxCntWrite
  repeat' (first | with_reducible exact h | with_reducible assumption | (intro _) | (with_reducible apply State.reject_kept)
                 | (with_reducible apply State.writeCtr_kept) | (with_reducible apply State.progReject_kept) | with_reducible apply Kept.ite)

theorem State.putResp_kept {k0 : State} (s : State) (bs : List Byte) (h : Kept k0 s) : Kept k0 (State.putResp s bs) := by
  unfold State.putResp
  refine h.put rfl fun h => ⟨h.regs, h.px, h.stripe, h.ring, h.ch, h.banks, h.flash, ?_, h.msix⟩
  have key : ∀ (l : List Nat) (m : Tbl W64), Tbl.wf (fun _ => 0#64) m = true →
      Tbl.wf (fun _ => 0#64) (l.foldl (fun m i => Tbl.set 0 m (i + 1) (BitVec.ofNat 64 (leAt bs (8 * i) 8))) m) = true := by
    intro l
    induction l with
    | nil => exact fun _ h => h
    | cons a r ih => exact fun m hm => ih _ (Tbl.wf_setc _ _ _ _ hm)
  exact key _ _ (Tbl.wf_setc _ _ _ _ h.buf)

theorem State.applyBurns_kept {k0 : State} (s : State) (l : List (Nat × BitVec 256 × BitVec 256)) (h : Kept k0 s) : Kept k0
    (State.applyBurns s l) := by
  exact State.modBoot_kept _ _ h (Boot.burned_mem _ _).1 (Boot.burned_mem _ _).2

theorem State.mbxWrite_kept {k0 : State} (s : State) (w : Wr) (v : W32) (fail : List (Nat × BitVec 256 × BitVec 256)) (re : Option (BitVec
    256 × BitVec 256)) (h : Kept k0 s) : Kept k0 (State.mbxWrite s w v fail re) := by
  unfold State.mbxWrite
  repeat' (first | with_reducible exact h | with_reducible assumption | (intro _) | (with_reducible apply State.modBoot_kept)
                 | (with_reducible apply State.storeReg_kept) | (with_reducible apply State.reject_kept) | (with_reducible apply State.stage_kept)
                 | (with_reducible apply State.intReset_kept) | with_reducible apply Kept.ite | split | (with_reducible apply Kept.foldl)
                 | with_reducible apply Kept.upd | with_reducible rfl)

theorem State.mbxFlash_kept {k0 : State} (s : State) (op len : Nat) (h : Kept k0 s) : Kept k0 (State.mbxFlash s op len).1 := by
  unfold State.mbxFlash
  split
  · exact State.eraseFlash_kept _ _ h
  · exact State.flashPut_kept _ _ _ h

theorem State.setQueue_kept {k0 : State} (s : State) (src : Nat) (l : List QRec) (h : Kept k0 s) : Kept k0 (State.setQueue s src l) := by
  unfold State.setQueue
  repeat' (first | with_reducible exact h | with_reducible assumption | (intro _) | (with_reducible apply State.modFab_kept)
                 | with_reducible apply Kept.ite | split | (with_reducible apply Kept.foldl) | with_reducible apply Kept.upd | with_reducible rfl)

theorem State.endItem_kept {k0 : State} (s : State) (failed : Bool) (reason src : Nat) (ws : List W64) (h : Kept k0 s) : Kept k0
    (State.endItem s failed reason src ws) := by
  unfold State.endItem
  repeat' (first | with_reducible exact h | with_reducible assumption | (intro _) | (with_reducible apply State.coverCh_kept)
                 | with_reducible apply Kept.ite | split | (with_reducible apply Kept.foldl) | with_reducible apply Kept.upd | with_reducible rfl)

theorem State.dropC_kept {k0 : State} (s : State) (e : Nat) (h : Kept k0 s) : Kept k0 (State.dropC s e) := by
  unfold State.dropC
  repeat' (first | with_reducible exact h | with_reducible assumption | (intro _) | (with_reducible apply State.modChan_kept)
                 | (with_reducible apply State.setQueue_kept) | (with_reducible apply State.endItem_kept) | with_reducible apply Kept.ite | split
                 | (with_reducible apply Kept.foldl))

theorem State.sendFlit_kept {k0 : State} (s : State) (src : Nat) (h : Kept k0 s) : Kept k0 (State.sendFlit s src) := by
  unfold State.sendFlit
  repeat' (first | with_reducible exact h | with_reducible assumption | (intro _) | (with_reducible apply State.modFab_kept)
                 | (with_reducible apply State.setQueue_kept) | with_reducible apply Kept.ite | split | (with_reducible apply Kept.foldl)
                 | with_reducible apply Kept.upd | with_reducible rfl)

theorem State.setArb_kept {k0 : State} (s : State) (i : Nat) (a : Arb) (h : Kept k0 s) : Kept k0 (State.setArb s i a) := by
  unfold State.setArb
  repeat' (first | with_reducible exact h | with_reducible assumption | (intro _) | (with_reducible apply State.modFab_kept)
                 | with_reducible apply Kept.ite | split | (with_reducible apply Kept.foldl) | with_reducible apply Kept.upd | with_reducible rfl)

theorem State.lostKernel_kept {k0 : State} (s : State) (src : Nat) (ws : List W64) (h : Kept k0 s) : Kept k0 (State.lostKernel s src ws) := by
  unfold State.lostKernel
  repeat' (first | with_reducible exact h | with_reducible assumption | (intro _) | (with_reducible apply State.modFlt_kept)
                 | (with_reducible apply State.endItem_kept))

theorem State.lostDevice_kept {k0 : State} (s : State) (r : QRec) (h : Kept k0 s) : Kept k0 (State.lostDevice s r) := by
  unfold State.lostDevice
  repeat' (first | with_reducible exact h | with_reducible assumption | (intro _) | (with_reducible apply State.modFlt_kept)
                 | (with_reducible apply State.logEvent_kept) | (with_reducible apply State.stage_kept) | with_reducible apply Kept.ite)

theorem State.enterEgress_kept {k0 : State} (s : State) (src : Nat) (sent : Time) (r : QRec) (h : Kept k0 s) : Kept k0 (State.enterEgress s
    src sent r) := by
  unfold State.enterEgress
  repeat' (first | with_reducible exact h | with_reducible assumption | (intro _) | (with_reducible apply State.modFab_kept)
                 | (with_reducible apply State.modChan_kept) | with_reducible apply Kept.ite | split | (with_reducible apply Kept.foldl)
                 | with_reducible apply Kept.upd | with_reducible rfl)

theorem State.slackWrite_kept {k0 : State} (s : State) (ch : Nat) (v : W32) (h : Kept k0 s) : Kept k0 (State.slackWrite s ch v) := by
  unfold State.slackWrite
  repeat' (first | with_reducible exact h | with_reducible assumption | (intro _) | (with_reducible apply State.modChan_kept)
                 | with_reducible apply Kept.ite)

theorem State.closed_kept {k0 : State} (s : State) (ch c : Nat) (h : Kept k0 s) : Kept k0 (State.closed s ch c) := by
  unfold State.closed
  repeat' (first | with_reducible exact h | with_reducible assumption | (intro _) | (with_reducible apply State.modChan_kept))

theorem State.memWrite_kept {k0 : State} (s : State) (ro : Bool) (a : W64) (bs : List Byte) (fuel : Nat) (h : Kept k0 s) :
    Kept k0 (State.memWrite s ro a bs fuel) := by
  induction fuel generalizing s a bs with
  | zero => exact h
  | succ n ih =>
    unfold State.memWrite
    exact Kept.ite h (ih _ _ _ (State.emit_kept _ _ h))

theorem State.put_kept {k0 : State} (s : State) (ch : Nat) (ws : List W64) (h : Kept k0 s) : Kept k0 (State.put s ch ws) := by
  unfold State.put
  extract_lets r
  split
  · exact h
  · exact State.modRing_kept _ _ _ (State.memWrite_kept _ _ _ _ _ h)

theorem State.place_kept {k0 : State} (s : State) (ch : Nat) (ws : List W64) (fuel : Nat) (h : Kept k0 s) :
    Kept k0 (State.place s ch ws fuel).1 := by
  induction fuel generalizing s with
  | zero => exact h
  | succ n ih =>
    unfold State.place
    extract_lets r b
    split
    · exact h
    · split
      · exact State.put_kept _ _ _ h
      · split
        · exact State.put_kept _ _ _ h
        · exact ih _ (State.put_kept _ _ _ h)

theorem State.padStream_kept {k0 : State} (s : State) (ch : Nat) (h : Kept k0 s) : Kept k0 (State.padStream s ch) := by
  unfold State.padStream
  repeat' (first | with_reducible exact h | with_reducible assumption | (intro _) | (with_reducible apply State.put_kept)
                 | with_reducible apply Kept.ite | split | (with_reducible apply Kept.foldl) | with_reducible apply Kept.upd | with_reducible rfl)

theorem State.chanIrq_kept {k0 : State} (s : State) (ch : Nat) (h : Kept k0 s) : Kept k0 (State.chanIrq s ch) := by
  unfold State.chanIrq
  repeat' (first | with_reducible exact h | with_reducible assumption | (intro _) | (with_reducible apply State.modRing_kept)
                 | (with_reducible apply State.msix_kept) | with_reducible apply Kept.ite)

theorem State.writeback_kept {k0 : State} (s : State) (ch : Nat) (h : Kept k0 s) : Kept k0 (State.writeback s ch) := by
  unfold State.writeback
  repeat' (first | with_reducible exact h | with_reducible assumption | (intro _) | (with_reducible apply State.emit_kept)
                 | (with_reducible apply State.modRing_kept) | (with_reducible apply State.padStream_kept)
                 | (with_reducible apply State.chanIrq_kept))

theorem State.fetchDesc_kept {k0 : State} (s : State) (ch : Nat) (h : Kept k0 s) : Kept k0 (State.fetchDesc s ch) := by
  unfold State.fetchDesc
  repeat' (first | with_reducible exact h | with_reducible assumption | (intro _) | (with_reducible apply State.emit_kept)
                 | (with_reducible apply State.modRing_kept) | with_reducible apply Kept.ite)

theorem State.discardEgress_kept {k0 : State} (s : State) (ch : Nat) (h : Kept k0 s) : Kept k0 (State.discardEgress s ch) := by
  unfold State.discardEgress
  repeat' (first | with_reducible exact h | with_reducible assumption | (intro _) | (with_reducible apply State.modFab_kept)
                 | (with_reducible apply State.modChan_kept) | with_reducible apply Kept.ite | split | (with_reducible apply Kept.foldl)
                 | with_reducible apply Kept.upd | with_reducible rfl)

theorem State.lastWord_kept {k0 : State} (s : State) (ch st : Nat) (h : Kept k0 s) : Kept k0 (State.lastWord s ch st) := by
  unfold State.lastWord
  repeat' (first | with_reducible exact h | with_reducible assumption | (intro _) | (with_reducible apply State.modRing_kept)
                 | (with_reducible apply State.writeback_kept) | with_reducible apply Kept.ite)

theorem State.ringFault_kept {k0 : State} (s : State) (ch code : Nat) (h : Kept k0 s) : Kept k0 (State.ringFault s ch code) := by
  unfold State.ringFault
  repeat' (first | with_reducible exact h | with_reducible assumption | (intro _) | (with_reducible apply State.modRing_kept)
                 | (with_reducible apply State.logEvent_kept) | (with_reducible apply State.discardEgress_kept)
                 | (with_reducible apply State.lastWord_kept) | with_reducible apply Kept.ite)

theorem State.ringStart_kept {k0 : State} (s : State) (ch : Nat) (h : Kept k0 s) : Kept k0 (State.ringStart s ch) := by
  unfold State.ringStart
  repeat' (first | with_reducible exact h | with_reducible assumption | (intro _) | (with_reducible apply State.modRing_kept)
                 | (with_reducible apply State.writeback_kept) | (with_reducible apply State.fetchDesc_kept) | with_reducible apply Kept.ite)

theorem State.ringStop_kept {k0 : State} (s : State) (ch : Nat) (h : Kept k0 s) : Kept k0 (State.ringStop s ch) := by
  unfold State.ringStop
  repeat' (first | with_reducible exact h | with_reducible assumption | (intro _) | (with_reducible apply State.modRing_kept)
                 | (with_reducible apply State.writeback_kept) | with_reducible apply Kept.ite)

theorem State.ringCtlWrite_kept {k0 : State} (s : State) (ch : Nat) (w : Wr) (v : W32) (h : Kept k0 s) : Kept k0 (State.ringCtlWrite s ch w v) := by
  unfold State.ringCtlWrite
  repeat' (first | with_reducible exact h | with_reducible assumption | (intro _) | (with_reducible apply State.modRing_kept)
                 | (with_reducible apply State.storeReg_kept) | (with_reducible apply State.reject_kept)
                 | (with_reducible apply State.ringStart_kept) | (with_reducible apply State.ringStop_kept) | with_reducible apply Kept.ite)

theorem State.ringIdle_kept {k0 : State} (s : State) (ch : Nat) (h : Kept k0 s) : Kept k0 (State.ringIdle s ch) := by
  unfold State.ringIdle
  repeat' (first | with_reducible exact h | with_reducible assumption | (intro _) | (with_reducible apply State.modRing_kept)
                 | (with_reducible apply State.lastWord_kept))

theorem State.tailWrite_kept {k0 : State} (s : State) (ch : Nat) (w : Wr) (v : W32) (h : Kept k0 s) : Kept k0 (State.tailWrite s ch w v) := by
  unfold State.tailWrite
  repeat' (first | with_reducible exact h | with_reducible assumption | (intro _) | (with_reducible apply State.storeReg_kept)
                 | (with_reducible apply State.reject_kept) | (with_reducible apply State.fetchDesc_kept) | with_reducible apply Kept.ite)

theorem State.ringAddrWrite_kept {k0 : State} (s : State) (ch o : Nat) (w : Wr) (v : W32) (h : Kept k0 s) : Kept k0 (State.ringAddrWrite s
    ch o w v) := by
  unfold State.ringAddrWrite
  repeat' (first | with_reducible exact h | with_reducible assumption | (intro _) | (with_reducible apply State.storeReg_kept)
                 | (with_reducible apply State.reject_kept) | with_reducible apply Kept.ite)

theorem State.busOff_kept {k0 : State} (s : State) (h : Kept k0 s) : Kept k0 (State.busOff s) := by
  unfold State.busOff
  repeat' (first | with_reducible exact h | with_reducible assumption | (intro _) | (with_reducible apply State.modHost_kept)
                 | (with_reducible apply State.ringFault_kept) | with_reducible apply Kept.ite | split | (with_reducible apply Kept.foldl)
                 | with_reducible apply Kept.upd | with_reducible rfl)

theorem State.ringKill_kept {k0 : State} (s : State) (ch : Nat) (h : Kept k0 s) : Kept k0 (State.ringKill s ch) := by
  unfold State.ringKill
  repeat' (first | with_reducible exact h | with_reducible assumption | (intro _) | (with_reducible apply State.modRing_kept)
                 | (with_reducible apply State.discardEgress_kept))

theorem State.killRings_kept {k0 : State} (s : State) (h : Kept k0 s) : Kept k0 (State.killRings s) := by
  unfold State.killRings
  repeat' (first | with_reducible exact h | with_reducible assumption | (intro _) | (with_reducible apply State.ringKill_kept)
                 | with_reducible apply Kept.ite | split | (with_reducible apply Kept.foldl))

theorem State.d3Enter_kept {k0 : State} (s : State) (h : Kept k0 s) : Kept k0 (State.d3Enter s) := by
  unfold State.d3Enter
  repeat' (first | with_reducible exact h | with_reducible assumption | (intro _) | (with_reducible apply State.modHost_kept)
                 | (with_reducible apply State.killRings_kept) | with_reducible apply Kept.ite | split | (with_reducible apply Kept.foldl)
                 | with_reducible apply Kept.upd | with_reducible rfl)

theorem State.busOn_kept {k0 : State} (s : State) (h : Kept k0 s) : Kept k0 (State.busOn s) := by
  unfold State.busOn
  repeat' (first | with_reducible exact h | with_reducible assumption | (intro _) | (with_reducible apply State.modHost_kept)
                 | (with_reducible apply State.fetchDesc_kept) | with_reducible apply Kept.ite | split | (with_reducible apply Kept.foldl)
                 | with_reducible apply Kept.upd | with_reducible rfl)

theorem State.cmdWrite_kept {k0 : State} (s : State) (mem bme : Bool) (h : Kept k0 s) : Kept k0 (State.cmdWrite s mem bme) := by
  unfold State.cmdWrite
  repeat' (first | with_reducible exact h | with_reducible assumption | (intro _) | (with_reducible apply State.modHost_kept)
                 | (with_reducible apply State.busOff_kept) | (with_reducible apply State.busOn_kept) | with_reducible apply Kept.ite | split
                 | (with_reducible apply Kept.foldl) | with_reducible apply Kept.upd | with_reducible rfl)

theorem State.msixCtl_kept {k0 : State} (s : State) (en mask : Bool) (h : Kept k0 s) : Kept k0 (State.msixCtl s en mask) := by
  unfold State.msixCtl
  repeat' (first | with_reducible exact h | with_reducible assumption | (intro _) | (with_reducible apply State.modHost_kept)
                 | (with_reducible apply State.msixFree_kept) | with_reducible apply Kept.ite | split | (with_reducible apply Kept.foldl)
                 | with_reducible apply Kept.upd | with_reducible rfl)

theorem State.fnReset_kept {k0 : State} (s : State) (kind : Nat) (h : Kept k0 s) : Kept k0 (State.fnReset s kind) := by
  have go : ∀ x : State, Kept k0 x → Kept k0 (x.modHost fun h => { h with
      ring := [], msix := [], pba := 0, cause := 0, memEn := false, bme := false, msixEn := false, fnMask := false, devCtl := 0x2010,
      d3 := false, rwin := [], rwait := [] }) := fun x hx =>
    hx.put rfl fun h => ⟨h.regs, h.px, h.stripe, rfl, h.ch, h.banks, h.flash, h.buf, rfl⟩
  have regs : ∀ (l : List Nat) (x : State), Kept k0 x → Kept k0 (l.foldl (fun s off => s.putReg off (regReset off)) x) := fun l x hx =>
    Kept.foldl _ _ _ hx fun x a hx => State.putReg_kept _ _ _ hx
  have free : ∀ x : State, Kept k0 x → Kept k0 (if x.seq.held && !bit x.seq.src 6 then x.unlock else x) := fun x hx =>
    Kept.ite (State.unlock_kept _ hx) hx
  have tell : ∀ x : State, Kept k0 x → Kept k0 (if x.hpos.isSome then x.broadcast 0x0C 0 (BitVec.ofNat 64 kind) else x) := fun x hx =>
    Kept.ite (State.broadcast_kept _ _ _ _ hx) hx
  exact tell _ (free _ (go _ (regs _ _ (State.killRings_kept _ h))))

theorem State.flrStart_kept {k0 : State} (s : State) (h : Kept k0 s) : Kept k0 (State.flrStart s) := by
  unfold State.flrStart
  repeat' (first | with_reducible exact h | with_reducible assumption | (intro _) | (with_reducible apply State.modHost_kept)
                 | (with_reducible apply State.fnReset_kept) | with_reducible apply Kept.ite | split | (with_reducible apply Kept.foldl)
                 | with_reducible apply Kept.upd | with_reducible rfl)

theorem State.cfgWrite_kept {k0 : State} (s : State) (off : Nat) (m v : W32) (h : Kept k0 s) : Kept k0 (State.cfgWrite s off m v) := by
  unfold State.cfgWrite
  repeat' (first | with_reducible exact h | with_reducible assumption | (intro _) | (with_reducible apply State.modHost_kept)
                 | (with_reducible apply State.d3Enter_kept) | (with_reducible apply State.cmdWrite_kept)
                 | (with_reducible apply State.msixCtl_kept) | (with_reducible apply State.flrStart_kept) | with_reducible apply Kept.ite | split
                 | (with_reducible apply Kept.foldl) | with_reducible apply Kept.upd | with_reducible rfl)

theorem State.cfgDone_kept {k0 : State} (s : State) (req : CfgReq) (h : Kept k0 s) : Kept k0 (State.cfgDone s req) := by
  unfold State.cfgDone
  repeat' (first | with_reducible exact h | with_reducible assumption | (intro _) | (with_reducible apply State.emit_kept)
                 | (with_reducible apply State.useFree_kept) | (with_reducible apply State.cfgWrite_kept) | with_reducible apply Kept.ite | split)

theorem State.bar2Data_kept {k0 : State} (s : State) (off nb : Nat) (h : Kept k0 s) : Kept k0 (State.bar2Data s off nb) := by
  unfold State.bar2Data
  repeat' (first | with_reducible exact h | with_reducible assumption | (intro _) | (with_reducible apply State.emit_kept)
                 | with_reducible apply Kept.ite | split | (with_reducible apply Kept.foldl) | with_reducible apply Kept.upd | with_reducible rfl)

theorem State.bar2Read_kept {k0 : State} (s : State) (off nb : Nat) (h : Kept k0 s) : Kept k0 (State.bar2Read s off nb) := by
  unfold State.bar2Read
  repeat' (first | with_reducible exact h | with_reducible assumption | (intro _) | (with_reducible apply State.modClk_kept)
                 | (with_reducible apply State.aer_kept) | (with_reducible apply State.bar2Data_kept) | with_reducible apply Kept.ite)

theorem State.compareTime_kept {k0 : State} (s : State) (diff : Int) (h : Kept k0 s) : Kept k0 (State.compareTime s diff) := by
  unfold State.compareTime
  repeat' (first | with_reducible exact h | with_reducible assumption | (intro _) | (with_reducible apply State.modHng_kept)
                 | with_reducible apply Kept.ite | split | (with_reducible apply Kept.foldl) | with_reducible apply Kept.upd | with_reducible rfl)

theorem State.barrierDone_kept {k0 : State} (s : State) (id n : Nat) (h : Kept k0 s) : Kept k0 (State.barrierDone s id n) := by
  unfold State.barrierDone
  repeat' (first | with_reducible exact h | with_reducible assumption | (intro _) | (with_reducible apply State.modHng_kept))

theorem State.barrierTry_kept {k0 : State} (s : State) (h : Kept k0 s) : Kept k0 (State.barrierTry s) := by
  unfold State.barrierTry
  repeat' (first | with_reducible exact h | with_reducible assumption | (intro _) | (with_reducible apply State.broadcast_kept)
                 | (with_reducible apply State.sendTo_kept) | (with_reducible apply State.barrierDone_kept) | with_reducible apply Kept.ite
                 | split)

theorem State.barrierWrite_kept {k0 : State} (s : State) (v : W32) (h : Kept k0 s) : Kept k0 (State.barrierWrite s v) := by
  unfold State.barrierWrite
  repeat' (first | with_reducible exact h | with_reducible assumption | (intro _) | (with_reducible apply State.modHng_kept)
                 | (with_reducible apply State.storeReg_kept) | (with_reducible apply State.barrierTry_kept) | with_reducible apply Kept.ite)

theorem State.setReroute_kept {k0 : State} (s : State) (on : Bool) (h : Kept k0 s) : Kept k0 (State.setReroute s on) := by
  unfold State.setReroute
  repeat' (first | with_reducible exact h | with_reducible assumption | (intro _) | (with_reducible apply State.modHng_kept)
                 | (with_reducible apply State.raise_kept) | (with_reducible apply State.logEvent_kept) | with_reducible apply Kept.ite)

theorem State.markLost_kept {k0 : State} (s : State) (m : W64) (h : Kept k0 s) : Kept k0 (State.markLost s m) := by
  unfold State.markLost
  repeat' (first | with_reducible exact h | with_reducible assumption | (intro _) | (with_reducible apply State.modHng_kept)
                 | (with_reducible apply State.raise_kept) | (with_reducible apply State.unlock_kept) | with_reducible apply Kept.ite)

theorem State.loseAt_kept {k0 : State} (s : State) (q : Nat) (h : Kept k0 s) : Kept k0 (State.loseAt s q) := by
  unfold State.loseAt
  repeat' (first | with_reducible exact h | with_reducible assumption | (intro _) | (with_reducible apply State.barrierTry_kept)
                 | (with_reducible apply State.setReroute_kept) | (with_reducible apply State.markLost_kept))

theorem State.regain_kept {k0 : State} (s : State) (q : Nat) (h : Kept k0 s) : Kept k0 (State.regain s q) := by
  unfold State.regain
  repeat' (first | with_reducible exact h | with_reducible assumption | (intro _) | (with_reducible apply State.modHng_kept)
                 | (with_reducible apply State.setReroute_kept) | with_reducible apply Kept.ite)

theorem State.conflict_kept {k0 : State} (s : State) (p : Bool) (h : Kept k0 s) : Kept k0 (State.conflict s p) := by
  unfold State.conflict
  repeat' (first | with_reducible exact h | with_reducible assumption | (intro _) | (with_reducible apply State.modHng_kept)
                 | with_reducible apply Kept.ite)

theorem State.bcastTx_kept {k0 : State} (s : State) (v : W32) (h : Kept k0 s) : Kept k0 (State.bcastTx s v) := by
  unfold State.bcastTx
  repeat' (first | with_reducible exact h | with_reducible assumption | (intro _) | (with_reducible apply State.broadcast_kept)
                 | with_reducible apply Kept.ite)

theorem State.arm_kept {k0 : State} (s : State) (op : Nat) (x : Time) (src dest : Nat) (all : Bool) (h : Kept k0 s) : Kept k0 (State.arm s
    op x src dest all) := by
  unfold State.arm
  repeat' (first | with_reducible exact h | with_reducible assumption | (intro _) | (with_reducible apply State.modHng_kept))

theorem State.schedWrite_kept {k0 : State} (s : State) (w : Wr) (v : W32) (h : Kept k0 s) : Kept k0 (State.schedWrite s w v) := by
  unfold State.schedWrite
  repeat' (first | with_reducible exact h | with_reducible assumption | (intro _) | (with_reducible apply State.modHng_kept)
                 | (with_reducible apply State.storeReg_kept) | (with_reducible apply State.reject_kept)
                 | (with_reducible apply State.broadcast_kept) | (with_reducible apply State.arm_kept) | with_reducible apply Kept.ite | split)

theorem State.schedCommit_kept {k0 : State} (s : State) (h : Kept k0 s) : Kept k0 (State.schedCommit s) := by
  unfold State.schedCommit
  repeat' (first | with_reducible exact h | with_reducible assumption | (intro _) | (with_reducible apply State.minPeriod_kept)
                 | (with_reducible apply State.changeMode_kept) | (with_reducible apply State.commitEffect_kept)
                 | (with_reducible apply State.commitDir_kept) | with_reducible apply Kept.ite)

theorem State.nextReq_kept {k0 : State} (s : State) (h : Kept k0 s) : Kept k0 (State.nextReq s) := by
  unfold State.nextReq
  repeat' (first | with_reducible exact h | with_reducible assumption | (intro _) | (with_reducible apply State.modHng_kept))

theorem State.sendWrite_kept {k0 : State} (s : State) (q off nb : Nat) (v : W64) (h : Kept k0 s) : Kept k0 (State.sendWrite s q off nb v) := by
  unfold State.sendWrite
  repeat' (first | with_reducible exact h | with_reducible assumption | (intro _) | (with_reducible apply State.sendTo_kept)
                 | (with_reducible apply State.nextReq_kept))

theorem State.sendRead_kept {k0 : State} (s : State) (q off nb : Nat) (h : Kept k0 s) : Kept k0 (State.sendRead s q off nb) := by
  unfold State.sendRead
  repeat' (first | with_reducible exact h | with_reducible assumption | (intro _) | (with_reducible apply State.sendTo_kept)
                 | (with_reducible apply State.nextReq_kept))

theorem State.mntFail_kept {k0 : State} (s : State) (rd : Bool) (h : Kept k0 s) : Kept k0 (State.mntFail s rd) := by
  unfold State.mntFail
  repeat' (first | with_reducible exact h | with_reducible assumption | (intro _) | (with_reducible apply State.modHng_kept)
                 | (with_reducible apply State.raise_kept))

theorem State.mntCtlWrite_kept {k0 : State} (s : State) (w : Wr) (v : W32) (h : Kept k0 s) : Kept k0 (State.mntCtlWrite s w v) := by
  unfold State.mntCtlWrite
  repeat' (first | with_reducible exact h | with_reducible assumption | (intro _) | (with_reducible apply State.modHng_kept)
                 | (with_reducible apply State.storeReg_kept) | (with_reducible apply State.reject_kept)
                 | (with_reducible apply State.sendWrite_kept) | (with_reducible apply State.sendRead_kept)
                 | (with_reducible apply State.mntFail_kept) | with_reducible apply Kept.ite)

theorem State.winData_kept {k0 : State} (s : State) (x nb : Nat) (v : W64) (h : Kept k0 s) : Kept k0 (State.winData s x nb v) := by
  unfold State.winData
  repeat' (first | with_reducible exact h | with_reducible assumption | (intro _) | (with_reducible apply State.emit_kept))

theorem State.winIssue_kept {k0 : State} (s : State) (q x nb : Nat) (h : Kept k0 s) : Kept k0 (State.winIssue s q x nb) := by
  unfold State.winIssue
  repeat' (first | with_reducible exact h | with_reducible assumption | (intro _) | (with_reducible apply State.modHost_kept)
                 | (with_reducible apply State.sendRead_kept) | (with_reducible apply State.winData_kept) | with_reducible apply Kept.ite | split
                 | (with_reducible apply Kept.foldl) | with_reducible apply Kept.upd | with_reducible rfl)

theorem State.winNext_kept {k0 : State} (s : State) (l : List (Nat × Nat × Nat)) (h : Kept k0 s) : Kept k0 (State.winNext s l) := by
  induction l generalizing s with
  | nil => exact State.modHost_kept _ _ h rfl rfl
  | cons a r ih =>
    unfold State.winNext
    exact Kept.ite (ih _ (State.winIssue_kept _ _ _ _ h)) (State.modHost_kept _ _ h rfl rfl)

theorem State.winRead_kept {k0 : State} (s : State) (x nb : Nat) (h : Kept k0 s) : Kept k0 (State.winRead s x nb) := by
  unfold State.winRead
  repeat' (first | with_reducible exact h | with_reducible assumption | (intro _) | (with_reducible apply State.modHost_kept)
                 | (with_reducible apply State.emit_kept) | (with_reducible apply State.aer_kept) | (with_reducible apply State.winData_kept)
                 | (with_reducible apply State.winIssue_kept) | with_reducible apply Kept.ite | split | (with_reducible apply Kept.foldl)
                 | with_reducible apply Kept.upd | with_reducible rfl)

theorem State.winWrite_kept {k0 : State} (s : State) (x : Nat) (w : Wr) (h : Kept k0 s) : Kept k0 (State.winWrite s x w) := by
  unfold State.winWrite
  repeat' (first | with_reducible exact h | with_reducible assumption | (intro _) | (with_reducible apply State.modHost_kept)
                 | (with_reducible apply State.sendWrite_kept) | with_reducible apply Kept.ite | split | (with_reducible apply Kept.foldl)
                 | with_reducible apply Kept.upd | with_reducible rfl)

theorem State.rwinSelWrite_kept {k0 : State} (s : State) (w : Wr) (v : W32) (h : Kept k0 s) : Kept k0 (State.rwinSelWrite s w v) := by
  unfold State.rwinSelWrite
  repeat' (first | with_reducible exact h | with_reducible assumption | (intro _) | (with_reducible apply State.storeReg_kept)
                 | (with_reducible apply State.reject_kept) | with_reducible apply Kept.ite)

theorem State.senseAll_kept {k0 : State} (s : State) (rs : Nat → Reading) (h : Kept k0 s) : Kept k0 (State.senseAll s rs) := by
  unfold State.senseAll
  repeat' (first | with_reducible exact h | with_reducible assumption | (intro _) | (with_reducible apply State.raise_kept)
                 | (with_reducible apply State.logEvent_kept) | with_reducible apply Kept.ite | split | (with_reducible apply Kept.foldl)
                 | with_reducible apply Kept.upd | with_reducible rfl)

theorem State.temps_kept {k0 : State} (s : State) (h : Kept k0 s) : Kept k0 (State.temps s) := by
  unfold State.temps
  repeat' (first | with_reducible exact h | with_reducible assumption | (intro _) | with_reducible apply Kept.ite | split
                 | (with_reducible apply Kept.foldl) | with_reducible apply Kept.upd | with_reducible rfl)

theorem State.warning_kept {k0 : State} (s : State) (h : Kept k0 s) : Kept k0 (State.warning s) := by
  unfold State.warning
  repeat' (first | with_reducible exact h | with_reducible assumption | (intro _) | (with_reducible apply State.raise_kept)
                 | (with_reducible apply State.logEvent_kept) | with_reducible apply Kept.ite | split | (with_reducible apply Kept.foldl)
                 | with_reducible apply Kept.upd | with_reducible rfl)

theorem State.abandonFlash_kept {k0 : State} (s : State) (h : Kept k0 s) : Kept k0 (State.abandonFlash s) := by
  unfold State.abandonFlash
  repeat' (first | with_reducible exact h | with_reducible assumption | (intro _) | (with_reducible apply State.modCal_kept)
                 | (with_reducible apply State.modBoot_kept) | (with_reducible apply State.raise_kept) | with_reducible apply Kept.ite | split
                 | (with_reducible apply Kept.foldl) | with_reducible apply Kept.upd | with_reducible rfl)

theorem State.shutDown_kept {k0 : State} (s : State) (h : Kept k0 s) : Kept k0 (State.shutDown s) := by
  unfold State.shutDown
  repeat' (first | with_reducible exact h | with_reducible assumption | (intro _) | (with_reducible apply State.modPx_kept)
                 | (with_reducible apply State.health_kept) | (with_reducible apply State.enterStopped_kept)
                 | (with_reducible apply State.idleOuts_kept) | (with_reducible apply State.ringStop_kept)
                 | (with_reducible apply State.abandonFlash_kept) | with_reducible apply Kept.ite | split | (with_reducible apply Kept.foldl)
                 | with_reducible apply Kept.upd | with_reducible rfl)

theorem State.decideStep_kept {k0 : State} (s : State) (h : Kept k0 s) : Kept k0 (State.decideStep s) := by
  unfold State.decideStep
  repeat' (first | with_reducible exact h | with_reducible assumption | (intro _) | (with_reducible apply State.minPeriod_kept)
                 | with_reducible apply Kept.ite | split | (with_reducible apply Kept.foldl) | with_reducible apply Kept.upd | with_reducible rfl)

theorem State.eraseAhead_kept {k0 : State} (s : State) (h : Kept k0 s) : Kept k0 (State.eraseAhead s) := by
  unfold State.eraseAhead
  exact Kept.ite h (State.eraseFlash_kept _ _ h)

theorem State.appendRecord_kept {k0 : State} (s : State) (kind health : Nat) (t : Time) (good : Bool) (h : Kept k0 s) : Kept k0
    (State.appendRecord s kind health t good) := by
  unfold State.appendRecord
  repeat' (first | with_reducible exact h | with_reducible assumption | (intro _) | (with_reducible apply State.health_kept)
                 | (with_reducible apply State.flashPut_kept) | (with_reducible apply State.eraseAhead_kept) | with_reducible apply Kept.ite
                 | split | (with_reducible apply Kept.foldl) | with_reducible apply Kept.upd | with_reducible rfl)

theorem State.thAckWrite_kept {k0 : State} (s : State) (v : W32) (h : Kept k0 s) : Kept k0 (State.thAckWrite s v) := by
  unfold State.thAckWrite
  repeat' (first | with_reducible exact h | with_reducible assumption | (intro _) | (with_reducible apply State.modTh_kept)
                 | (with_reducible apply State.logEvent_kept) | with_reducible apply Kept.ite)

theorem State.rearmWrite_kept {k0 : State} (s : State) (w : Wr) (v : W32) (h : Kept k0 s) : Kept k0 (State.rearmWrite s w v) := by
  unfold State.rearmWrite
  repeat' (first | with_reducible exact h | with_reducible assumption | (intro _) | (with_reducible apply State.modTh_kept)
                 | (with_reducible apply State.reject_kept) | with_reducible apply Kept.ite)

theorem State.thMaxWrite_kept {k0 : State} (s : State) (v : W32) (h : Kept k0 s) : Kept k0 (State.thMaxWrite s v) := by
  unfold State.thMaxWrite
  repeat' (first | with_reducible exact h | with_reducible assumption | (intro _) | (with_reducible apply State.modTh_kept)
                 | with_reducible apply Kept.ite)

theorem State.thWrite_kept {k0 : State} (s : State) (off : Nat) (w : Wr) (v : W32) (h : Kept k0 s) : Kept k0 (State.thWrite s off w v) := by
  unfold State.thWrite
  repeat' (first | with_reducible exact h | with_reducible assumption | (intro _) | (with_reducible apply State.modTh_kept)
                 | (with_reducible apply State.storeReg_kept) | (with_reducible apply State.reject_kept) | with_reducible apply Kept.ite)

theorem State.enterFaulted_kept {k0 : State} (s : State) (cause : Nat) (h : Kept k0 s) : Kept k0 (State.enterFaulted s cause) := by
  unfold State.enterFaulted
  repeat' (first | with_reducible exact h | with_reducible assumption | (intro _) | (with_reducible apply State.modFab_kept)
                 | (with_reducible apply State.modFlt_kept) | (with_reducible apply State.modPx_kept) | (with_reducible apply State.logEvent_kept)
                 | (with_reducible apply State.health_kept) | (with_reducible apply State.enterStopped_kept)
                 | (with_reducible apply State.idleOuts_kept) | with_reducible apply Kept.ite | split | (with_reducible apply Kept.foldl)
                 | with_reducible apply Kept.upd | with_reducible rfl)

theorem State.eraseLog_kept {k0 : State} (s : State) (p : Nat) (h : Kept k0 s) : Kept k0 (State.eraseLog s p) := by
  exact State.eraseFlash_kept _ _ h

theorem State.plainWrite_kept {k0 : State} (s : State) (off : Nat) (w : Wr) (v : W32) (h : Kept k0 s) : Kept k0 (State.plainWrite s off w v) := by
  unfold State.plainWrite
  repeat' (first | with_reducible exact h | with_reducible assumption | (intro _) | (with_reducible apply State.modTick_kept)
                 | (with_reducible apply State.storeReg_kept) | (with_reducible apply State.reject_kept)
                 | (with_reducible apply State.health_kept) | with_reducible apply Kept.ite | split)

theorem State.seqStatusWrite_kept {k0 : State} (s : State) (v : W32) (h : Kept k0 s) : Kept k0 (State.seqStatusWrite s v) := by
  unfold State.seqStatusWrite
  repeat' (first | with_reducible exact h | with_reducible assumption | (intro _) | (with_reducible apply State.modSeq_kept))

theorem State.calStatusWrite_kept {k0 : State} (s : State) (v : W32) (h : Kept k0 s) : Kept k0 (State.calStatusWrite s v) := by
  unfold State.calStatusWrite
  repeat' (first | with_reducible exact h | with_reducible assumption | (intro _) | (with_reducible apply State.modCal_kept))

theorem State.causeWrite_kept {k0 : State} (s : State) (v : W32) (h : Kept k0 s) : Kept k0 (State.causeWrite s v) := by
  unfold State.causeWrite
  repeat' (first | with_reducible exact h | with_reducible assumption | (intro _) | (with_reducible apply State.modHost_kept)
                 | with_reducible apply Kept.ite | split | (with_reducible apply Kept.foldl) | with_reducible apply Kept.upd | with_reducible rfl)

theorem State.chanWrite_kept {k0 : State} (s : State) (off : Nat) (w : Wr) (v : W32) (h : Kept k0 s) : Kept k0 (State.chanWrite s off w v) := by
  unfold State.chanWrite
  repeat' (first | with_reducible exact h | with_reducible assumption | (intro _) | (with_reducible apply State.slackWrite_kept)
                 | (with_reducible apply State.ringCtlWrite_kept) | (with_reducible apply State.tailWrite_kept)
                 | (with_reducible apply State.ringAddrWrite_kept) | (with_reducible apply State.plainWrite_kept) | with_reducible apply Kept.ite)

theorem State.pxWrite_kept {k0 : State} (s : State) (off : Nat) (w : Wr) (v : W32) (h : Kept k0 s) : Kept k0 (State.pxWrite s off w v) := by
  unfold State.pxWrite
  repeat' (first | with_reducible exact h | with_reducible assumption | (intro _) | (with_reducible apply State.pxCtlWrite_kept)
                 | (with_reducible apply State.pxStatusWrite_kept) | (with_reducible apply State.pxInWrite_kept)
                 | (with_reducible apply State.pxConfigWrite_kept) | (with_reducible apply State.plainWrite_kept) | with_reducible apply Kept.ite)

theorem State.linkWrite_kept {k0 : State} (s : State) (off : Nat) (w : Wr) (v : W32) (h : Kept k0 s) : Kept k0 (State.linkWrite s off w v) := by
  unfold State.linkWrite
  repeat' (first | with_reducible exact h | with_reducible assumption | (intro _) | (with_reducible apply State.clkRefWrite_kept)
                 | (with_reducible apply State.clkStatusWrite_kept) | (with_reducible apply State.asyncWrite_kept)
                 | (with_reducible apply State.clkOutWrite_kept) | (with_reducible apply State.barrierWrite_kept)
                 | (with_reducible apply State.bcastTx_kept) | (with_reducible apply State.schedWrite_kept)
                 | (with_reducible apply State.mntCtlWrite_kept) | (with_reducible apply State.plainWrite_kept) | with_reducible apply Kept.ite)

theorem State.lineWrite_kept {k0 : State} (s : State) (off : Nat) (w : Wr) (v : W32) (h : Kept k0 s) : Kept k0 (State.lineWrite s off w v) := by
  unfold State.lineWrite
  repeat' (first | with_reducible exact h | with_reducible assumption | (intro _) | (with_reducible apply State.lockWrite_kept)
                 | (with_reducible apply State.bankWrite_kept) | (with_reducible apply State.swapWrite_kept)
                 | (with_reducible apply State.holdTrigger_kept) | (with_reducible apply State.calCmd_kept)
                 | (with_reducible apply State.calTarget_kept) | (with_reducible apply State.teCtlWrite_kept)
                 | (with_reducible apply State.teLoadWrite_kept) | (with_reducible apply State.teCyclesWrite_kept)
                 | (with_reducible apply State.coefSelWrite_kept) | (with_reducible apply State.commitWrite_kept)
                 | (with_reducible apply State.snapWrite_kept) | (with_reducible apply State.plainWrite_kept)
                 | (with_reducible apply State.seqStatusWrite_kept) | (with_reducible apply State.calStatusWrite_kept)
                 | with_reducible apply Kept.ite)

theorem State.pwWrite_kept {k0 : State} (s : State) (off : Nat) (w : Wr) (v : W32) (h : Kept k0 s) : Kept k0 (State.pwWrite s off w v) := by
  unfold State.pwWrite
  repeat' (first | with_reducible exact h | with_reducible assumption | (intro _) | (with_reducible apply State.mbxWrite_kept)
                 | (with_reducible apply State.rwinSelWrite_kept) | (with_reducible apply State.thAckWrite_kept)
                 | (with_reducible apply State.rearmWrite_kept) | (with_reducible apply State.thMaxWrite_kept)
                 | (with_reducible apply State.thWrite_kept) | (with_reducible apply State.plainWrite_kept)
                 | (with_reducible apply State.causeWrite_kept) | (with_reducible apply State.chanWrite_kept)
                 | (with_reducible apply State.pxWrite_kept) | (with_reducible apply State.linkWrite_kept)
                 | (with_reducible apply State.lineWrite_kept) | with_reducible apply Kept.ite)

theorem State.w64Write_kept {k0 : State} (s : State) (off : Nat) (w : Wr) (h : Kept k0 s) : Kept k0 (State.w64Write s off w) := by
  unfold State.w64Write
  exact Kept.ite (State.reject_kept _ _ _ _ h) (Kept.ite (State.pxCntWrite_kept _ _ _ _ h) (Kept.ite (State.modHng_kept _ _ h)
    (Kept.ite (Kept.ite (State.reject_kept _ _ _ _ h) (State.putBuf_kept _ _ _ h)) h)))

theorem State.msixLane_kept {k0 : State} (s : State) (a : Nat) (v : W32) (h : Kept k0 s) : Kept k0 (State.msixLane s a v) := by
  unfold State.msixLane
  exact State.msixFree_kept _ _ (State.putMsix_kept _ _ _ h)

theorem State.msixWrite_kept {k0 : State} (s : State) (a : Nat) (w : Wr) (h : Kept k0 s) : Kept k0 (State.msixWrite s a w) := by
  unfold State.msixWrite
  repeat' (first | with_reducible exact h | with_reducible assumption | (intro _) | (with_reducible apply State.reject_kept)
                 | (with_reducible apply State.msixLane_kept) | with_reducible apply Kept.ite)

theorem State.regWrite_kept {k0 : State} (s : State) (off : Nat) (w : Wr) (h : Kept k0 s) : Kept k0 (State.regWrite s off w) := by
  unfold State.regWrite
  repeat' (first | with_reducible exact h | with_reducible assumption | (intro _) | (with_reducible apply State.reject_kept)
                 | (with_reducible apply State.acceptPW_kept) | (with_reducible apply State.pwWrite_kept)
                 | (with_reducible apply State.w64Write_kept) | (with_reducible apply State.msixWrite_kept) | with_reducible apply Kept.ite
                 | split)

theorem State.busWrite_kept {k0 : State} (s : State) (off : Nat) (w : Wr) (h : Kept k0 s) : Kept k0 (State.busWrite s off w) := by
  unfold State.busWrite
  repeat' (first | with_reducible exact h | with_reducible assumption | (intro _) | (with_reducible apply State.modClk_kept)
                 | (with_reducible apply State.reject_kept) | (with_reducible apply State.aer_kept) | (with_reducible apply State.winWrite_kept)
                 | (with_reducible apply State.regWrite_kept) | with_reducible apply Kept.ite)

theorem State.replayOne_kept {k0 : State} (s : State) (x : Wait) (h : Kept k0 s) : Kept k0 (State.replayOne s x) := by
  unfold State.replayOne
  refine Kept.ite (State.modClk_kept _ _ h) ?_
  split
  · exact State.busWrite_kept _ _ _ h
  · exact State.sendTo_kept _ _ _ _ _ (State.readReg_kept s _ _ _ h)
  · exact Kept.ite (State.bar2Read_kept _ _ _ h) (Kept.ite (State.winRead_kept _ _ _ h) (State.busRead_kept _ _ _ h))

theorem State.replay_kept {k0 : State} (s : State) (h : Kept k0 s) : Kept k0 (State.replay s) := by
  unfold State.replay
  repeat' (first | with_reducible exact h | with_reducible assumption | (intro _) | (with_reducible apply State.modClk_kept)
                 | (with_reducible apply State.replayOne_kept) | with_reducible apply Kept.ite | split | (with_reducible apply Kept.foldl))

theorem State.relFrom_kept {k0 : State} (s : State) (h : Kept k0 s) : Kept k0 (State.relFrom s) := by
  unfold State.relFrom
  repeat' (first | with_reducible exact h | with_reducible assumption | (intro _) | (with_reducible apply State.modHost_kept)
                 | with_reducible apply Kept.ite | split | (with_reducible apply Kept.foldl) | with_reducible apply Kept.upd | with_reducible rfl)

theorem State.modRes_kept {k0 : State} (s : State) (f : SlotRes → SlotRes) (h : Kept k0 s) : Kept k0 (State.modRes s f) := by
  unfold State.modRes
  repeat' (first | with_reducible exact h | with_reducible assumption | (intro _) | (with_reducible apply State.modBoot_kept)
                 | with_reducible apply Kept.ite | split | (with_reducible apply Kept.foldl) | with_reducible apply Kept.upd | with_reducible rfl)

theorem State.maintWait_kept {k0 : State} (s : State) (err : Nat) (h : Kept k0 s) : Kept k0 (State.maintWait s err) := by
  unfold State.maintWait
  repeat' (first | with_reducible exact h | with_reducible assumption | (intro _) | (with_reducible apply State.modBoot_kept)
                 | (with_reducible apply State.stage_kept) | with_reducible apply Kept.ite | split | (with_reducible apply Kept.foldl)
                 | with_reducible apply Kept.upd | with_reducible rfl)

theorem State.failSlot_kept {k0 : State} (s : State) (err : Nat) (h : Kept k0 s) : Kept k0 (State.failSlot s err) := by
  unfold State.failSlot
  repeat' (first | with_reducible exact h | with_reducible assumption | (intro _) | (with_reducible apply State.modBoot_kept)
                 | (with_reducible apply State.intReset_kept) | (with_reducible apply State.modRes_kept)
                 | (with_reducible apply State.maintWait_kept) | with_reducible apply Kept.ite | split | (with_reducible apply Kept.foldl)
                 | with_reducible apply Kept.upd | with_reducible rfl)

theorem State.findLog_kept {k0 : State} (s : State) (h : Kept k0 s) : Kept k0 (State.findLog s) := by
  unfold State.findLog
  repeat' (first | with_reducible exact h | with_reducible assumption | (intro _) | (with_reducible apply State.modFlt_kept))

theorem State.restoreRetired_kept {k0 : State} (s : State) (copy : Option Nat) (h : Kept k0 s) : Kept k0 (State.restoreRetired s copy) := by
  unfold State.restoreRetired
  repeat' (first | with_reducible exact h | with_reducible assumption | (intro _) | (with_reducible apply State.modCal_kept)
                 | (with_reducible apply State.modBank_kept) | with_reducible apply Kept.ite | split | (with_reducible apply Kept.foldl))

theorem State.findRecord_kept {k0 : State} (s : State) (h : Kept k0 s) : Kept k0 (State.findRecord s) := by
  unfold State.findRecord
  repeat' (first | with_reducible exact h | with_reducible assumption | (intro _) | (with_reducible apply State.modTh_kept)
                 | (with_reducible apply State.logEvent_kept) | (with_reducible apply State.eraseAhead_kept) | with_reducible apply Kept.ite
                 | split | (with_reducible apply Kept.foldl) | with_reducible apply Kept.upd | with_reducible rfl)

theorem State.bootBank_kept {k0 : State} (s : State) (t : Nat) (runs : List (Nat × CalRun)) (h : Kept k0 s) : Kept k0 (State.bootBank s t
    runs) := by
  unfold State.bootBank
  repeat' (first | with_reducible exact h | with_reducible assumption | (intro _) | (with_reducible apply State.modBank_kept)
                 | (with_reducible apply State.logEvent_kept) | (with_reducible apply State.reportRetire_kept) | with_reducible apply Kept.ite
                 | split | (with_reducible apply Kept.foldl))

theorem State.loadCanvas_kept {k0 : State} (s : State) (h : Kept k0 s) : Kept k0 (State.loadCanvas s) := by
  unfold State.loadCanvas
  repeat' (first | with_reducible exact h | with_reducible assumption | (intro _) | (with_reducible apply State.modTe_kept)
                 | (with_reducible apply State.putReg_kept) | (with_reducible apply State.storeReg_kept) | with_reducible apply Kept.ite | split
                 | (with_reducible apply Kept.foldl) | with_reducible apply Kept.upd | with_reducible rfl)

theorem State.loadSlots_kept {k0 : State} (s : State) (bad : List Nat) (h : Kept k0 s) : Kept k0 (State.loadSlots s bad) := by
  unfold State.loadSlots
  repeat' (first | with_reducible exact h | with_reducible assumption | (intro _) | (with_reducible apply State.modEng_kept)
                 | (with_reducible apply State.startEng_kept) | (with_reducible apply State.takeover_kept) | with_reducible apply Kept.ite | split
                 | (with_reducible apply Kept.foldl))

theorem State.presets_kept {k0 : State} (s : State) (h : Kept k0 s) : Kept k0 (State.presets s).1 := by
  unfold State.presets
  extract_lets a
  split
  · exact h
  · refine Kept.foldlp _ _ _ h fun p i hp => ?_
    extract_lets off n
    have hn : Kept k0 n := State.regWrite_kept _ _ _ hp
    clear_value n
    split
    · exact hp
    · exact hn

theorem State.enterRun_kept {k0 : State} (s : State) (h : Kept k0 s) : Kept k0 (State.enterRun s) := by
  unfold State.enterRun
  repeat' (first | with_reducible exact h | with_reducible assumption | (intro _) | (with_reducible apply State.modBoot_kept)
                 | (with_reducible apply State.modFlt_kept) | (with_reducible apply State.modTh_kept) | (with_reducible apply State.emit_kept)
                 | (with_reducible apply State.stage_kept) | (with_reducible apply State.health_kept)
                 | (with_reducible apply State.minPeriod_kept) | (with_reducible apply State.freeze_kept)
                 | (with_reducible apply State.startMode_kept) | (with_reducible apply State.idleOuts_kept)
                 | (with_reducible apply State.pxRun_kept) | (with_reducible apply State.modRes_kept) | with_reducible apply Kept.ite | split
                 | (with_reducible apply Kept.foldl) | with_reducible apply Kept.upd | with_reducible rfl)

/-! Commands: what answers a next state, and keeps what every operation keeps. -/

/-- The command answers a next state that keeps what every operation keeps. -/
def Keeps (s : State) (o : Host.Outcome State Fault Refusal) : Prop := ∃ s', o = .next s' ∧ Kept s s'

theorem timed_keeps (t : Time) (s : State) (f : State → State) (hf : ∀ x, Kept s x → Kept s (f x)) : Keeps s (timed t s f) :=
  ⟨_, rfl, Kept.ite (hf _ (State.at_kept _ _ (Kept.refl s))) (Kept.refl s)⟩

theorem inRun_keeps (t : Time) (s : State) (f : State → State) (hf : ∀ x, Kept s x → Kept s (f x)) : Keeps s (inRun t s f) :=
  timed_keeps t s _ fun x hx => Kept.ite (hf x hx) hx

theorem inStage_keeps (t : Time) (n : Nat) (s : State) (f : State → State) (hf : ∀ x, Kept s x → Kept s (f x)) : Keeps s (inStage t n s f) :=
  timed_keeps t s _ fun x hx => Kept.ite (hf x hx) hx

theorem regCmd_keeps (t : Time) (off : Nat) (w : Wr) (s : State) (f : W32 → State → State) (hf : ∀ v x, Kept s x → Kept s (f v x)) :
    Keeps s (regCmd t off w s f) :=
  timed_keeps t s _ fun x hx => State.writePW_kept x off w f hx hf

theorem teOp_keeps (t : Time) (e : Nat) (s : State) (k : State → Engine → State) (hk : ∀ x y, Kept s x → Kept s (k x y)) :
    Keeps s (teOp t e s k) :=
  inRun_keeps t s _ fun _ hx => Kept.ite hx (Kept.ite (State.raiseExc_kept _ _ _ _ _ hx) (Kept.ite (State.raiseExc_kept _ _ _ _ _ hx)
    (Kept.ite (hk _ _ (State.modEng_kept _ _ _ hx)) (hk _ _ hx))))

theorem pxOp_keeps (t : Time) (e : Nat) (s : State) (k : State → Px → State) (hk : ∀ x y, Kept s x → Kept s (k x y)) : Keeps s (pxOp t e s k) :=
  inRun_keeps t s _ fun _ hx => Kept.ite (hk _ _ hx) hx

theorem takeBcast_keeps (t : Time) (p : Bool) (src : BitVec 6) (typ tag : Nat) (payload : W64) (s : State) (f : State → State)
    (hf : ∀ x, Kept s x → Kept s (f x)) : Keeps s (takeBcast t p src typ tag payload s f) :=
  timed_keeps t s _ fun _ hx => Kept.ite hx (Kept.ite (hf _ (State.sendBcast_kept _ _ _ _ hx)) (State.sendBcast_kept _ _ _ _ hx))

theorem takeFrame_keeps (t : Time) (p : Bool) (src dest : BitVec 6) (typ tag : Nat) (payload : W64) (s : State) (f : State → State)
    (hf : ∀ x, Kept s x → Kept s (f x)) : Keeps s (takeFrame t p src dest typ tag payload s f) :=
  timed_keeps t s _ fun _ hx => Kept.ite hx (Kept.ite (hf _ hx) (State.sendFrame_kept _ _ _ _ hx))

end Machine
end Sys2Proof
end

