-- ==== Sys2Proof/Tests/Slice0.lean ====
section
/-! SUPPORT. The model's own tests: commands that are not well formed, single steps on small states, and for every statement with hypotheses a
witness that meets them. -/

set_option maxRecDepth 20000
set_option exponentiation.threshold 1100

namespace Sys2Proof
namespace Tests
open Sys2Proof.Machine

/-- The device in RUN with its clocks locked, everything else as after reset. -/
def up : State := { State.reset with
  boot := { State.reset.boot with stage := 8 }
  clk := { State.reset.clk with cLock := true, aLock := true }
  host := { State.reset.host with memEn := true } }

/-- Registers in force with the given values. -/
def rg (s : State) (l : List (Nat × W32)) : State := l.foldl (fun s p => s.putReg p.1 p.2) s

/-- A line of an ACQUIRE entry over tiles 3 to 5: four positions of band 0, both gains, begun at 50,000. -/
def line4 : Line :=
  { t := 50000, enc := 3, entry := 0, kind := 0, frame := 0, w0 := 0x01000000, w1 := 0, w2 := 0x00C05000, w3 := 0, items := true, chans := 3,
    flags := 0, flushed := 0, tmin := 2000, nodes := [], rel := 0, fail := 0, gap := 0, lost := 0, frs := [], conv := 0, accd := 0, woke := 0, ors := 0,
    defects := 0, pass := 0, gen := 0 }

/-- RUNNING at time 100,000, after the tick of line 4. -/
def run : State := { up with
  now := 100000
  tick := { up.tick with st := 2, line := 5, last := some 50000, shift := some 50000, ticked := true }
  fab := { up.fab with lines := [(4, some line4)] } }

/-- `s` with its tick generator changed. -/
def tk (s : State) (f : Tick → Tick) : State := { s with tick := f s.tick }
/-- `s` with its sequencer changed. -/
def sq (s : State) (f : Seq → Seq) : State := { s with seq := f s.seq }
/-- `s` with its clocks changed. -/
def ck (s : State) (f : Clk → Clk) : State := { s with clk := f s.clk }
/-- `s` with its boot state changed. -/
def bt (s : State) (f : Boot → Boot) : State := { s with boot := f s.boot }
/-- `s` with its fault state changed. -/
def fl (s : State) (f : Flt → Flt) : State := { s with flt := f s.flt }
/-- `s` with its calibration state changed. -/
def kl (s : State) (f : Cal → Cal) : State := { s with cal := f s.cal }
/-- `s` with its host link changed. -/
def ho (s : State) (f : HostLink → HostLink) : State := { s with host := f s.host }
/-- `s` with its fabric changed. -/
def fa (s : State) (f : Fab → Fab) : State := { s with fab := f s.fab }
/-- `s` with its Hinge changed. -/
def hg (s : State) (f : Hinge → Hinge) : State := { s with hng := f s.hng }
/-- `s` with its thermal state changed. -/
def tm (s : State) (f : Therm → Therm) : State := { s with th := f s.th }

/-- A running engine of tile 3 at PC 7 with a few registers. -/
def eng3 : Engine := { Engine.fresh with
  st := 1, tile := 3, pc := 7, w := [(1, 0x0123456789ABCDEF), (2, 0xC008), (3, 65536), (4, 0xE000)], f := 5, lc0 := 5, lc1 := 1, hbT := 90000 }
/-- Engine slot 3 changed by `f`. -/
def en (f : Engine → Engine) : State := { run with te := { run.te with eng := [(3, f eng3)] } }
/-- A slot that holds line 4. -/
def held4 : LSlot := { held := true, rev := false, line := 4, pre := false, pal := false }

/-- A running pin engine at PC 31, with inputs 0 and 2 high. -/
def pin2 : Px := { Px.fresh with st := 1, pc := 31, c := [5, -3, 0, 7], lev := 5, last := [some (90000, true), none, some (3, false), none] }
/-- Pin engine 2 changed by `f`. -/
def pn (f : Px → Px) : State := { run with px := [(2, f pin2)] }

/-- A member at position 2 with both ports UP. -/
def hin : State := hg run fun h => { h with
  up := { Port.fresh with st := 2, pos := some 1, hbT := 99000, high := 3 }
  dn := { Port.fresh with st := 2, pos := some 3, high := 5, hbT := 99000 }
  pos := some 2 }

/-- Channels 0 and 1 on, each with a RUNNING ring that carries lines. -/
def rings (g : Ring) : State := rg (ho run fun h => { h with bme := true, ring := [(0, g), (1, { Ring.fresh with st := 1, carry := true })] })
  [(0x101000, 0x80C00000), (0x101100, 0xC4000000), (0x101048, 0x1000), (0x101058, 0x2000), (0x101068, 5)]
/-- A RUNNING ring. -/
def ring1 : Ring := { Ring.fresh with st := 1, carry := true, tag := 4 }
/-- A legal record of five words for channel `k`, class C or L, with deadline `dl`. -/
def rec5 (c : Bool) (k : BitVec 4) (dl : W32) : QRec :=
  let h : List W64 := [0x01#8 ++ (0#4 ++ k) ++ 4#48, 5, 0, 0]
  { ws := h ++ [trailer h], dl := dl, cls := c, sent := 0, lb := 0, t := 0, dev := false, ue := false }
/-- The state after one command, from the front of the queue. -/
def after (c : Instr) (s : State) : State :=
  match step { s with pending := [c] } with
  | .next t => t
  | _ => s

/-! ### Commands that are not well formed, one for each check -/

theorem smoke_wr : ({ v := 0, nb := 3, src := 0 } : Wr).wf = false ∧ (goodWr 0 0).wf = true := by decide

theorem smoke_writes : ∀ c ∈ [Instr.commitGo 0 { v := 0, nb := 0, src := 0 }, .registerWrite 0 0x20 { v := 0, nb := 3, src := 0 }, .registerWrite 0 0x400000 (goodWr 0 0),
    .bankWrite 0 0x400000 (goodWr 0 0), .clkOutWrite 0 2 (goodWr 0 0), .pxInWrite 0 0 2 (goodWr 0 0), .pxInWrite 0 8 0 (goodWr 0 0), .ringStart 0 16 (goodWr 0 0),
    .pxStart 0 8 (goodWr 0 0), .remoteWindowWrite 0 0x100000 (goodWr 0 0)], c.wf = false := by decide

theorem smoke_writes_late : Instr.wf (.otpBurn 0 (goodWr 0 0) [(64, 0, 0)]) = false ∧ Instr.wf (.pairRepair 0 0x400000 true) = false ∧
    Instr.wf (.thCtlWrite 0 0x400000 (goodWr 0 0)) = false := by decide

theorem smoke_reads : ∀ c ∈ [Instr.seqResRead 0 64 0 8, .seqResRead 0 0 5 4, .pxDataRead 0 0 4 0 8, .pxDataRead 0 0 0 1 8, .bcastRxRead 0 8 1, .remoteWindowRead 0 0x100000 4,
    .remoteWindowRead 0 0 9, .bar0OverlongRead 0 0x400000 9, .bar0OverlongRead 0 0 8, .bar2Write 0 0 9 0, .bar2Write 0 0 0 0], c.wf = false := by decide

theorem smoke_indices : ∀ c ∈ [Instr.teAdd 0 1056 1 2 3 0 0 0, .pxNop 0 8, .egressWrite 0 16 false, .conversionEnd 0 1024 [], .conversionEnd 0 0 (List.replicate 257 0),
    .sliceCheckFail 0 0 256, .recordReassembled 0 1058 false false, .inputEdge 0 0 [⟨4, 0, true, 0, 1⟩], .refAbsent 0 3, .cpllLossOfLock 4 ⟨4, 5⟩, .cpllLossOfLock 9000 ⟨4000, 0⟩,
    .conversionEnd 0 0 [1, 2, 3]], c.wf = false := by decide

theorem smoke_indices_late : Instr.wf (.readoutStageEnd 0 [(1024, 0, { lo := 0, hi := 0, mid := [], chk := false })] []) = false ∧
    Instr.wf (.readoutStageEnd 0 [(0, 9, { lo := 0, hi := 0, mid := [], chk := false })] []) = false ∧ Instr.wf (.readoutStageEnd 0 [] [1056]) = false ∧
    Instr.wf (.thermalSample 0 []) = false ∧ Instr.wf (.linkUp 0 7 4 true) = false ∧ Instr.wf (.linkUp 0 1 3 false) = false ∧ Instr.wf (.mntRd 0 true 1 2 0 ⟨6, 4⟩) = false ∧
    Instr.wf (.mntWr 0 true 1 2 0 ⟨8, 9⟩ 0) = false := by decide

/-! ### The queue -/

/-- The block idles on an empty queue (log entry 2). -/
theorem test_idle : step run = .next run := rfl

theorem test_no_bits : decodeTableWord 32 0x04C32C04 = none := rfl

/-! ### Instruction words (06_tile_engine_isa R198, R206, R209; 11_pin_engines R386) -/

/-- CMP GTU r6, r3, r5 of 16-bit lanes, predicated on flag 0; SHRI r14, r10, 1; BR back by 22; an unlisted opcode and an unlisted function. -/
theorem test_decode_te : decodeTe 0 7 0x04C32C04 = some (.teCmp 0 7 4 6 3 5 2 0 0) ∧ decodeTe 0 7 0x59CA0001 = some (.teShri 0 7 14 10 1) ∧
    decodeTe 0 7 0x1C000000 = none ∧ decodeTe 0 7 0x04000007 = none := by decide

/-- WAIT, GOTO and an unlisted opcode of the pin engines. -/
theorem test_decode_px : (decodePx 0 3 0x21468000).isSome = true ∧ (decodePx 0 3 0x80000000).isSome = true ∧ decodePx 0 3 0xA0000000 = none := by decide

/-! ### The spec's worked examples -/

/-- 07_kernels_records R263: the check value over the bytes of 123456789. -/
theorem test_crc32c : crc32c [0x31, 0x32, 0x33, 0x34, 0x35, 0x36, 0x37, 0x38, 0x39] = 0xE3069283 := by decide

/-- 04_converters, Example: correcting one sample: G and O of the run, and the samples 1,046, 15,426, 9,000, 16,900 and −200. -/
theorem test_correcting_one_sample :
    runResult { lo := 1046 * 16384, hi := 15426 * 16384, mid := [(8236, 16384)], chk := false } (some (17, 32671)) = .pass 19 32668 ∧
      sampleWord false 19 32668 1046 = 256 ∧ sampleWord false 19 32668 15426 = 3840 ∧ sampleWord false 19 32668 9000 = 0x08BF ∧
      sampleWord false 19 32668 16900 = 0x2FFF ∧ sampleWord false 19 32668 (-200) = 0x1000 := by decide

/-- 08_result_fabric, Example: contention at the top arbiter: the contests at 0.00 ns, 0.50 ns and 1.00 ns. -/
theorem test_contention :
    let q := fun (d i : Nat) => ({ urgent := false, d := d, inp := i, src := 0 } : Req)
    let a := Arb.fresh.contest 0 [q 16000 3, q 15200 7, q 1800 12, q 2600 20]
    let b := a.contest 2 [q 16000 3, q 15200 7, q 2600 20]
    let c := b.contest 4 [q 16000 3, q 15200 7]
    a.owner = some 12 ∧ Tbl.get 0 a.back 20 = 1 ∧ b.owner = some 20 ∧ Tbl.get 0 b.back 7 = 4 ∧ c.owner = some 7 ∧ Tbl.get 0 c.m 7 = 0 ∧
      Tbl.get 0 c.m 3 = 3 ∧ Tbl.get 0 c.back 3 = 8 := by decide

/-- 10_clocks, Example: a band for 40 kHz to 60 kHz: its word is a legal band, and one with F_HI above the limit is not. -/
theorem test_band : bandBad 0x8001600FA00088B8 = false ∧ bandBad (0x8001600FA00088B8 + 0x80 * 0x100000) = true := by decide

/-- 12_hinge_array, Example: a scheduled snapshot across eight devices: T is 10,750 ns. -/
theorem test_scheduled_snapshot :
    let s := rg (hg (tk (ck run fun c => { c with tickT := 2000 }) fun k => { k with st := 3, last := some 18500 }) fun h => { h with
      dn := { Port.fresh with st := 2, pos := some 1, high := 7 } }) [(0x1C0000, 0x80000000)]
    { s with now := 20000 }.hCount = 8 ∧ (after (.schedGo 20000 (goodWr 0x80000000 0)) { s with now := 20000 }).hng.schedT = 21500 := by decide

/-- 16_register_index, Example: addressing a register. -/
theorem test_addresses : chOff 1 0x78 = 0x101178 ∧ pairOk 0xF3E1FFEF0C1E0010 = true := by decide

/-- 03_sequence_table, Example: HDR across bands: the words are legal entries and hold no reserved bit. -/
theorem test_hdr_entry : entryBad [(0x32, 1)] 0x0F004040 0x01010100 0x003FF000 = none ∧ (0x0F004040 : W32) &&& entryMask 0 = 0x0F004040 ∧
    (0x01010100 : W32) &&& entryMask 1 = 0x01010100 ∧ (0x003FF000 : W32) &&& entryMask 2 = 0x003FF000 ∧ pairOk 0xF0FFBFBF0F004040 = true := by decide

/-- 03_sequence_table, Example: a reference line every 1,000 lines: the host's read at 1,200.0 µs returns FRESH and clears it. -/
theorem test_result_read :
    let s := after (.seqResRead 100000 1 0 8) (sq run fun q => { q with res := [(1, 0x01D0000000004000)] })
    s.out = [.rdData 0x23008 8 0x01D0000000004000] ∧ Tbl.get 0 s.seq.res 1 = 0x0150000000004000 := by decide

/-- 06_tile_engine_isa, Example: a threshold-count kernel: its words are instructions. -/
theorem test_kernel_words : ([0x8060F000, 0x08630409, 0x55290030, 0x41400004, 0x01295007, 0x59CA0001, 0x49602FFF, 0x10200000, 0x60410070, 0xD4000008, 0x04C32C04,
    0x00843401, 0xCC00FFFA, 0x08840407, 0xA12D0000, 0x180D0800, 0x10010004, 0xC000FFEA] : List W32).all
    (fun w => legalOp w && (decodeTe 0 0 w).isSome) = true := by decide

/-- 11_pin_engines, Example: ×4 quadrature with index and line reference: its words are instructions with no reserved bit. -/
theorem test_pin_words : ([0x21468000, 0x2C000004, 0x3A000000, 0x18D80000, 0x80000000, 0x3A4C0000, 0x40000003] : List W32).all
    (fun w => decide (fld w 31 27 < 0x14) && (w &&& 0x07FFFFFF &&& ~~~pxFields w == 0)) = true := by decide

/-! ### Single commands -/

/-- R16: a write whose halves do not complement is counted and changes nothing else. -/
theorem test_unpaired_write : (after (.registerWrite 100000 0x40020 { v := 9, nb := 8, src := 5 }) run).flt.rej = 1 ∧
    (after (.registerWrite 100000 0x40020 { v := 9, nb := 8, src := 5 }) run).regs = [] := by decide

/-- R33: a tick 1,000 ns after the last shift is admitted, one half a nanosecond earlier is not. -/
theorem test_line_tick : (after (.lineTick 52000) (rg { run with now := 51000 } [(0x10000, 0x40000000)])).tick.line = 6 ∧
    (after (.lineTick 51999) (rg { run with now := 51000 } [(0x10000, 0x40000000)])).tick.line = 5 := by decide

/-- R202: an 8-lane addition wraps in each lane; d may be a source. -/
theorem test_add_wraps : ((after (.teAdd 100000 3 1 1 2 3 0 0) (en fun x => { x with w := [(1, 0xFF01FF7F00FE8001), (2, 0x0101010101010101)] })).eng 3).reg 1 =
    0x0002008001FF8102 := by decide

/-- R206, R208: SUB of a compare mask adds 1 where the sample exceeds the threshold (the kernel example). -/
theorem test_compare_mask : ((after (.teCmp 100000 3 4 6 3 5 2 0 0) (en fun x => { x with w := [(3, 0x0100010001000100), (5, 0x010100FF01000200)] })).eng 3).reg 6 =
    0xFFFF00000000FFFF := by decide

/-- R390: CALC ADV moves c1 toward c0. -/
theorem test_calc_adv : ((after (.pxCalc 100000 2 1 0 3 3) (pn fun p => { p with c := [9, 5, 0, 4] })).pin 2).ctr 1 = 9 ∧
    ((after (.pxCalc 100000 2 1 0 3 3) (pn fun p => { p with c := [0, 5, 0, 4] })).pin 2).ctr 1 = 1 := by decide

/-- R326: STOP puts a RUNNING ring into STOPPING; the other ring goes on. -/
theorem test_ring_stop : ((after (.ringStop 100000 0 (goodWr 0x40000000 0)) (rings ring1)).ring 0).st = 2 ∧
    ((after (.ringStop 100000 0 (goodWr 0x40000000 0)) (rings ring1)).ring 1).st = 1 := by decide
theorem witness_StepKeepsCanon : (∃ s', step { run with pending := [.lineTick 100001] } = .next s') ∧ Canon { run with pending := [.lineTick 100001] } :=
  ⟨⟨_, rfl⟩, by constructor <;> decide⟩

theorem witness_DeadLogicHolds : (bt up fun b => { b with rst := true }).alive = false ∧ (∀ t, Instr.lineTick 5 ≠ .modResetNAssert t) ∧
    (∀ t sel, Instr.lineTick 5 ≠ .modResetNRelease t sel) ∧ (∀ t, Instr.lineTick 5 ≠ .internalResetRelease t) ∧
    (∀ t v, Instr.lineTick 5 ≠ .powerLoss t v) :=
  ⟨by decide, nofun, nofun, nofun, nofun⟩

theorem witness_RejectedWrites : up.alive = true ∧ (∃ v, (up.at 77).live 0x40020 = some (.pw v)) ∧ up.reaches 0x40020 = true ∧ up.reaches 0x20 = true ∧
    up.reaches 0x104030 = true ∧ up.host.memEn = true ∧ (ho up fun h => { h with memEn := false }).host.memEn = false ∧ bit (69 : BitVec 7) 6 = true ∧ pairOk 9 = false ∧ early 0x40020 = false ∧ (bt up fun b => { b with stage := 4 }).running = false ∧
    (tm up fun x => { x with shut := 1 }).th.shut ≠ 0 ∧ up.running = true ∧ up.th.shut = 0 ∧ (ck up fun c => { c with gated := true }).stalls 0x20010 = true ∧
    (ck up fun c => { c with gated := true }).running = true :=
  ⟨by decide, ⟨_, rfl⟩, by decide, by decide, by decide, by decide, by decide, by decide, by decide, by decide, by decide, by decide, by decide, by decide, by decide, by decide⟩

theorem witness_RegisterWriteStores : up.alive = true ∧ (∀ p ∈ [0x40020, 0x104000, 0x104028, 0x1C0000, 0x10008, 0x10018, 0x10020, 0x10028, 0x10030, 0x10068],
    up.reaches p = true) ∧ (up.tick.commit = false ∧ up.hng.aCommit = none) ∧ (tk up fun k => { k with commit := true }).tick.commit = true ∧
    (tk up fun k => { k with commit := true }).reaches 0x10068 = true := by decide

theorem witness_PairScrubAndRepair : (fl up fun f => { f with repair := [0x40020] }).alive = true ∧ (fl up fun f => { f with repair := [0x40020] }).flt.sup = none ∧
    (fl up fun f => { f with repair := [0x40020] }).flt.repair.contains 0x40020 = true ∧ up.flt.repair.contains 0x40020 = false := by decide
theorem witness_SupervisorFaults : run.alive = true ∧ run.flt.faulted = false ∧ run.flt.lastMis = none ∧
    2000000000 ≤ since 2000000005 5 ∧ since 2000000004 5 < 2000000000 ∧ (fl run fun f => { f with lastMis := some 5 }).flt.lastMis = some 5 ∧
    (fl run fun f => { f with sup := some 40051 }).flt.sup = some 40051 ∧ 60000 ≤ since (run.at 100051).now 40051 ∧
    ((5 : Time).toNat < (3000000000 : Time).toNat) := by decide

theorem witness_EventLogWrite :
    let e : LogEnt := { seq := 9, t := 44, line := 7, unit := 3, code := 2, rep := 0, d1 := 1, d2 := 2, d3 := 3 }
    let s := fun (p : Nat) => fl run fun f => { f with pend := [9], log := [(9, some e)], lpos := p }
    (s 766).alive = true ∧ (s 766).flt.pend = 9 :: [] ∧ Tbl.get none (s 766).flt.log (9 % 256) = some e ∧ (s 766).flt.overN = 0 ∧
      (766 + 1) % 1024 ≠ 768 ∧ (s 262143).flt.lpos = 262143 ∧ (262143 + 1) % 1024 ≠ 768 := by decide

theorem witness_Mailbox :
    let s := fun (stage a n : Nat) => bt up fun b => { b with stage := stage, buf := [(0, BitVec.ofNat 64 a), (1, BitVec.ofNat 64 n)] }
    let d := fun (op len res : Nat) (bs : List Byte) => bt (s 8 0x110000 0x10000) fun b => { b with mbx := some (op, len), mbxResp := some (bs, res) }
    (s 8 63 16).alive = true ∧ (s 8 63 16).reaches 0x202000 = true ∧ (s 8 63 16).boot.mbx = none ∧ (s 0x10 3 0).boot.stage = 0x10 ∧ (s 0x11 3 0).boot.stage = 0x11 ∧
      bit (0x84100000 : W32) 31 = true ∧ fld (0x84100000 : W32) 30 25 = 2 ∧ fld (0x84100000 : W32) 24 8 = 0x1000 ∧
      fld (0x92000800 : W32) 30 25 = 9 ∧ 8 ≤ fld (0x92000800 : W32) 24 8 ∧ (s 8 3 0).reqNat 0 ≤ 3 ∧
      (s 8 0x3FF0008 65528).reqNat 0 + (s 8 0x3FF0008 65528).reqNat 8 ≤ 0x04000000 ∧ 65528 < (s 8 0 65529).reqNat 8 ∧ (s 8 63 0).reqNat 0 ≤ 63 ∧
      (d 2 16 0 [1, 2, 3]).boot.mbx = some (2, 16) ∧ (d 2 16 0 [1, 2, 3]).boot.mbxResp = some ([1, 2, 3], 0) ∧
      (d 3 16 0 []).boot.mbx = some (3, 16) ∧ (d 3 16 0 []).boot.mbxResp = some ([], 0) ∧ (d 2 16 0 []).boot.mbxAfter = false ∧
      (let w := kl (bt (d 5 16 0 []) fun b => { b with mbxAfter := true }) fun k => { k with saving := some (1, 9) }
       w.boot.mbxAfter = true ∧ 2 ≤ 5 ∧ 5 ≤ 5 ∧ w.cal.saving ≠ none) ∧
      (let w := kl (d 3 16 0 []) fun k => { k with saving := some (1, 9), saveAfter := true }
       w.boot.mbxAfter = false ∧ w.cal.saveAfter = true ∧ w.cal.saving = some (1, 9) ∧ copyAddr 1 ≤ copyAddr 1 + 0x1FFFFF ∧
         copyAddr 1 + 0x1FFFFF < copyAddr 1 + 0x200000) := by decide

theorem witness_ResetsClear : run.boot.mbx = none ∧ (fl run fun f => { f with ready := true }).boot.mbx = none ∧ run.boot.rst = false ∧ run.th.shdn = false ∧
    (let s := ho (bt run fun b => { b with rst := true }) fun h => { h with perst := true }
     s.boot.mbx = none ∧ s.boot.rst = true ∧ s.host.perst = true ∧ s.th.shdn = false) ∧
    (let s := ho (bt run fun b => { b with intRst := some 3 }) fun h => { h with perst := true }
     s.boot.intRst = some 3 ∧ s.boot.rst = false ∧ s.boot.power = true ∧ s.host.perst = true ∧ 1 ≤ 3 ∧ 3 ≤ 3) := by decide

theorem witness_BootStages :
    let s := fun (n slot : Nat) (todo : List Nat) => bt up fun b => { b with stage := n, slot := slot, todo := todo }
    (s 0 0 [1, 2]).alive = true ∧ (s 0 0 [1, 2]).th.shut = 0 ∧ (s 0 0 [1, 2]).refFirst ≠ 3 ∧ (s 2 0 [1]).boot.todo = 1 :: [] ∧
      (s 2 0 []).boot.todo = [] ∧ ¬((s 2 0 []).boot.strap = 3 ∧ (s 2 0 []).boot.reb = false) ∧ (s 3 1 [1]).boot.todo.drop 1 = [] ∧
      ((s 3 1 [1]).ward (s 3 1 [1]).boot.slot).err ≠ 0 ∧
      (s 5 1 [1]).canvasOk (s 5 1 [1]).boot.body (s 5 1 [1]).boot.bodyLen = false ∧ (s 7 1 []).sec 8 = 0 ∧ (s 7 1 []).refFirst ≠ 3 ∧
      (s 7 1 []).boot.stage = 7 := by decide

theorem witness_LineTickCounts :
    let s := rg run [(0x10000, 0x40000000)]
    let c := tk s fun k => { k with snap := true, commit := true, commitT := 99951 }
    s.running = true ∧ s.mode = 1 ∧ s.tick.st = 2 ∧ s.tick.shift = some 50000 ∧ s.lineGap ≤ since (s.at 100051).now 50000 ∧ s.noTicks = false ∧
      s.clk.lpll ≠ 2 ∧ s.tick.hold = false ∧ s.hng.aReset = none ∧ s.hng.aCommit = none ∧ s.tick.commit = false ∧
      c.tick.snap = true ∧ c.tick.commit = true ∧ 100 ≤ since (c.at 100051).now c.tick.commitT ∧ run.mode ≠ 1 ∧
      s.pix.rows.length = 256 ∧ s.pix.drainT = none ∧ { s.pix with drainT := some 100000 }.drainT = some 100000 ∧ reached 100051 100000 = true := by decide

theorem witness_TriggerGate :
    let r := fun (w : W32) (x : Time) (held : Option Time) =>
      rg (tk run fun k => { k with shift := some x, shiftTmin := 3000, held := held }) [(0x10000, 0x80000000), (0x10008, w)]
    let s := r 100
    let now := ((s 97052 none).at 100051).now
    (s 97052 none).running = true ∧ (s 97052 none).mode = 2 ∧ (s 97052 none).tckSrc = 0 ∧ (0 : BitVec 2).toNat = (s 97052 none).regF 0x10000 24 23 ∧
      (false = ((s 97052 none).regF 0x10000 25 25 == 1)) ∧ bit ((s 97052 none).reg 0x1C0000) 28 = false ∧ (s 97052 none).tick.st = 2 ∧
      (s 97052 none).noTicks = false ∧ (ck (s 97052 none) fun c => { c with gated := true }).noTicks = true ∧
      (s 97052 (some 99990)).tick.held.isSome ∧ (s 97052 none).tick.shift = some 97052 ∧ (s 97052 none).hng.aReset = none ∧
      (s 97052 none).regF 0x10008 12 0 = 100 ∧ (since now 97053 + 1 < 3000 ∧ 3000 ≤ since now 97053 + 200) ∧
      (since now 97252 + 200 < 3000 ∧ since now 97252 + 1 < 3000) ∧ 3000 + 1 < since now 97049 ∧ 3000 ≤ since now 97051 ∧
      (r 0 97052 none).regF 0x10008 12 0 = 0 ∧ 3000 ≤ since now 97052 + 1 := by decide

theorem witness_TickStateChanges :
    let idle := rg (tk run fun k => { k with idleBase := 0 }) [(0x10018, 1)]
    let back := tk run fun k => { k with turn := -4, conf := true }
    let gap := rg (tk run fun k => { k with st := 1, gap := some (2, 3, 4, 5, 0) }) [(0x10000, 0x40000000)]
    let intr := ck run fun c => { c with gated := true, gapT := 5 }
    idle.running = true ∧ idle.regF 0x10018 15 0 ≠ 0 ∧ idle.tick.st ≠ 0 ∧ idle.noTicks = false ∧
      200000 * idle.regF 0x10018 15 0 ≤ since (idle.at 200000).now idle.tick.idleBase ∧
      back.regF 0x10000 27 26 = 0 ∧ ((max 1 (back.regF 0x10028 7 0) : Nat) : Int) ≤ (back.encNow - back.tick.turn).toInt * (if back.tick.conf then 1 else -1) ∧
      (tk run fun k => { k with st := 5, flush := 0 }).tick.st = 5 ∧
      (tk run fun k => { k with st := 3, hold := true, holdN := 256 }).regF 0x10020 15 0 ≤ 256 ∧
      gap.tick.gap = some (2, 3, 4, 5, 0) ∧ 200000 ≤ since (gap.at 200005).now 5 ∧
      intr.running = true ∧ intr.tick.gap = none ∧ intr.noTicks = true ∧ intr.tick.st ≠ 0 ∧ intr.mode ≠ 2 ∧
      200000 ≤ since (intr.at 200005).now intr.clk.gapT ∧ run.tick.st ≠ 4 := by decide

theorem witness_CommitAndSnapshot :
    let c := tk run fun k => { k with commit := true, st := 1, ticked := false }
    let n := tk run fun k => { k with snap := true, snapT := 98051, st := 4 }
    run.alive = true ∧ run.reaches 0x20 = true ∧ run.reaches 0x18 = true ∧ bit (0x80000000 : W32) 31 = true ∧ bit (0x80000000 : W32) 29 = false ∧
      run.tick.commit = false ∧ run.hng.aCommit = none ∧ run.tick.snap = false ∧ c.tick.commit = true ∧ c.noTicks = false ∧ c.tick.st = 1 ∧
      c.tick.ticked = false ∧
      { c with shadow := [(0x10008, cellOf 9)] }.shadow = [(0x10008, cellOf 9)] ∧ n.tick.snap = true ∧ 2000 ≤ since (n.at 100051).now 98051 ∧
      (n.at 100051).settled = true ∧ n.running = true ∧ n.tick.st = 4 ∧ n.noTicks = false ∧ (tm n fun x => { x with kNew := some 3 }).th.kNew = some 3 := by decide

theorem witness_SequenceLock :
    let h := sq run fun q => { q with held := true, src := 5, token := 7, lease := 100051 }
    run.running = true ∧ run.reaches 0x20018 = true ∧ run.seq.held = false ∧ (0x10007 : W32).setWidth 16 ≠ (0 : BitVec 16) ∧
      bit (0x10007 : W32) 31 = false ∧ bit (0x80000007 : W32) 31 = true ∧ (0x10000 : W32).setWidth 16 = (0 : BitVec 16) ∧
      h.running = true ∧ h.reaches 0x20018 = true ∧ h.seq.held = true ∧ h.seq.src = 5 ∧ h.seq.token = (0x80000007 : W32).setWidth 16 ∧
      h.seq.token ≠ (8 : W32).setWidth 16 ∧ h.seq.src ≠ 69 ∧
      since (h.at 100051).now h.seq.lease < 2 ^ 63 ∧ 2 ^ 63 ≤ since (h.at 100050).now h.seq.lease := by decide

theorem witness_BankWritesAndSwap :
    let t := fun (f : Seq → Seq) => rg (sq run f) [(0x21000, 0x01000000), (0x21800, 1), (0x22000, 0x30000000), (0x22800, 1)]
    let h := t fun q => { q with held := true, src := 5, token := 5 }
    let w := t fun q => { q with swap := true }
    let x := t fun q => { q with swap := true, act := true }
    let v := tk (t fun q => { q with swap := true, valid := true }) fun k => { k with st := 0 }
    let bad := fun (s : State) => tableBad s.boot.chains (s.bankLen !s.seq.act) fun n w => s.entW (!s.seq.act) n w
    (63 < 64 ∧ 3 < 4) ∧ h.running = true ∧ h.reaches (bankBase true + 0x20 * 63 + 8 * 3) = true ∧ h.reaches 0x20010 = true ∧ true ≠ h.seq.act ∧
      h.seq.swap = false ∧ h.seq.copy = false ∧ h.seq.held = true ∧
      h.seq.src = 5 ∧ false = h.seq.act ∧ (t id).seq.held = false ∧ bit (0x80000005 : W32) 31 = true ∧ h.seq.token = (0x80000005 : W32).setWidth 16 ∧
      w.seq.swap = true ∧ w.seq.valid = false ∧ bad w = none ∧ x.seq.swap = true ∧ x.seq.valid = false ∧ bad x = some 0x801C0000 ∧
      v.seq.valid = true ∧ v.noTicks = false ∧ v.tick.st = 0 ∧ (t fun q => { q with copy := true }).seq.copy = true := by decide

theorem witness_HoldsAndResults :
    let d : Due := { n := 3, pass := 0, gen := 0, last := 99, w0 := 0x30000007, w2 := 0, ticks := 77 }
    let s := sq run fun q => { q with due := [d] }
    run.running = true ∧ run.reaches 0x20038 = true ∧ run.host.memEn = true ∧ run.stalls (0x23000 + 8 * 63) = false ∧ bit (0x80000000 : W32) 31 = true ∧
      (sq run fun q => { q with ph := 2 }).seq.ph = 2 ∧ (sq run fun q => { q with ph := 2 }).delayOver = true ∧
      s.seq.due.find? (fun d => s.dueReady d) = some d ∧ d.gen = s.seq.gen ∧ d.gen ≠ (sq s fun q => { q with gen := 1 }).seq.gen ∧
      63 < 64 ∧ 1 ≤ 2 ∧ 6 + 2 ≤ 8 := by decide
theorem witness_Converters :
    let c := fun (b : Bank) => rg { run with conv := { run.conv with banks := [(4, b)] } } [(0x10000, 0x40000000), (0x21000, 0x01000000), (0x21010, 0x00C05000), (0x21800, 1)]
    let s := c Bank.fresh
    let t := tk s fun k => { k with line := 4097 }
    let r : CalRun := { lo := 1024 * 16384, hi := 15360 * 16384, mid := [(8192, 100)], chk := false }
    s.running = true ∧ s.clk.gated = false ∧ 5 < 1024 ∧ s.convLine 5 = some (4, line4) ∧ s.line 4 = some line4 ∧ s.serving 5 = some 5 ∧ s.palBusy 5 = false ∧
      (let m := Tbl.get 0 line4.frs 5 + 8 / 8; m ≤ line4.frames ∧ since (s.at 100051).now (line4.tc 5 + BitVec.ofNat 64 (48 * m)) < 2 ^ 63) ∧
      Tbl.get 0 { line4 with frs := [(5, 7)] }.frs 5 + 8 / 8 = { line4 with frs := [(5, 7)] }.frames ∧
      2 ^ 63 ≤ since ({ s with now := 50000 }.at 50001).now (line4.tc 5 + BitVec.ofNat 64 (48 * 1)) ∧ line4.sampleOf 64 = none ∧ line4.sampleOf 63 = some 63 ∧
      (s.bank 4).vacant (63 % 8) = false ∧ 63 < 8 * line4.frames ∧ Tbl.get 0 line4.frs 4 ≤ 63 / 8 ∧ (s.bank 4).st = 0 ∧ (s.bank 4).gone = [] ∧ (s.bank 4).fails = [] ∧
      ((c { Bank.fresh with st := 1 }).bank 4).st = 1 ∧ ((c { Bank.fresh with st := 2 }).bank 4).st = 2 ∧ (0 : Int) ≤ 16381 ∧
      ((c { Bank.fresh with run := [8] }).bank 4).run = 8 :: [] ∧ runResult r (some (0, 32768)) = .pass 0 32768 ∧
      runResult { r with chk := true } (some (0, 32768)) = .fail 6 ∧
      t.tick.last.isSome = true ∧ t.lastLine ≠ 0 ∧ t.lastLine % 4096 = 0 ∧ t.conv.rotLine.toNat ≠ t.lastLine ∧
      s.convLine 9 = none ∧ 4000 ≤ since (s.at 100051).now (s.bank 9).lastConv ∧ s.inFrame 9 = false ∧
      s.mode = 1 ∧ s.nextAct.1.items = true ∧ fld (s.entW s.nextAct.2 s.nextAct.1.entry 2) 31 22 ≤ 3 ∧ 5 ≤ fld (s.entW s.nextAct.2 s.nextAct.1.entry 2) 21 12 := by
  decide

theorem witness_CalibrationCommands :
    let ph := fun (n : Nat) => kl run fun k => { k with step := { k.step with ph := n } }
    let sv := kl (ph 1) fun k => { k with saveBusy := true }
    let st := tk run fun k => { k with st := 0 }
    let ok := kl run fun k => { k with darkOk := 8, flatOk := 0xC0 }
    run.running = true ∧ run.reaches 0x40000 = true ∧ 8 ≤ fld (0x40000000 : W32) 30 27 ∧ fld (0x88FFC000 : W32) 30 27 = 1 ∧
      bit (0x88FFC000 : W32) 31 = true ∧ sv.cal.step.ph ≠ 0 ∧ sv.cal.saveBusy = true ∧ run.cal.step.ph = 0 ∧ run.cal.saveBusy = false ∧ run.tick.st ≠ 0 ∧
      st.tick.st = 0 ∧ st.running = true ∧ fld (0xA0000000 : W32) 30 27 = 4 ∧ 3 < 4 ∧ ok.cal.complete 3 = true ∧ (∀ b, b < 4 → run.cal.complete b = false) ∧
      fld (0xA8000000 : W32) 30 27 = 5 ∧ (ph 2).cal.step.ph ≠ 3 ∧ run.copyCounter 0 = none ∧ run.copyCounter 1 = none ∧
      run.mbxFlashes = false ∧ (bt run fun b => { b with mbx := some (2, 16) }).mbxFlashes = true ∧
      fld (0xB0000000 : W32) 30 27 = 6 ∧ run.bestCopy = none ∧ fld (0xB8000000 : W32) 30 27 = 7 ∧ (ph 2).cal.step.ph = 2 ∧ (ph 3).cal.step.ph = 3 := by
  decide

theorem witness_CalibrationSteps :
    let c := fun (f : CalStep → CalStep) => kl run fun k => { k with darkOk := 1, step := f { k.step with ph := 1, cmd := 2, goT := 48000 } }
    let s := rg (c id) [(0x21800, 1)]
    let e := kl (c fun x => { x with ph := 2, cmd := 1, t0 := 3, t1 := 3, bands := 1 }) fun k => { k with acc := [(3, { n := [4096, 0, 0, 0], pos := [], refs := [] })] }
    let m := c fun x => { x with ph := 2, cmd := 1, execs := 8192, t0 := 3, t1 := 3, bands := 1 }
    s.running = true ∧ s.line s.lastLine = some line4 ∧ s.cal.step.ph = 1 ∧ s.tick.last.isSome = true ∧ line4.entry = s.cal.step.entry ∧ line4.gen = s.seq.gen ∧
      line4.kind ≠ 3 ∧ 2000 ≤ since line4.t s.cal.step.goT ∧ since line4.t s.cal.step.goT < 2 ^ 63 ∧
      (line4.kind = 0 ∧ fld line4.w0 23 22 = 0 ∧ bit line4.w0 21 = false ∧ s.cal.step.entry < s.bankLen s.seq.act ∧
        ∀ b, b < 4 → fld line4.w0 27 24 / 2 ^ b % 2 = 0 ∨ s.cal.darkOk.getLsbD b = true) ∧
      ¬(c id).cal.step.entry < (c id).bankLen (c id).seq.act ∧ 2 ≤ (c fun x => { x with passes := 2 }).cal.step.passes ∧
      1048576 ≤ (c fun x => { x with ticks := 1048576 }).cal.step.ticks ∧ m.cal.step.ph = 2 ∧ 8192 ≤ m.cal.step.execs ∧ m.stepComplete = false ∧
      e.cal.step.ph = 2 ∧ e.stepComplete = true ∧ e.cal.step.cmd = 1 := by decide

theorem witness_PaletteCopies :
    let a := kl run fun k => { k with step := { k.step with ph := 3 }, darkOk := 8, flatOk := 0xC0, darkT := [(4 * 5 + 3, true)], flatT := [(8 * 5 + 2 * 3 + 1, true)] }
    let s := kl run fun k => { k with saving := some (1, 9), rewrite := [3], source := 2, jQueue := [(4, 8, 6, 77)], journal := 2047 }
    let r := kl s fun k => { k with reload := [1023], masterUe := [3], rewrite := [3] }
    run.running = true ∧ a.cal.step.ph = 3 ∧ a.cal.step.left = 0 ∧ a.cal.step.copy = none ∧ 3 < 4 ∧ 1 < 2 ∧ a.cal.complete 3 = true ∧
      Tbl.get false a.cal.darkT (4 * 5 + 3) = true ∧ Tbl.get false a.cal.flatT (8 * 5 + 2 * 3 + 1) = true ∧
      (kl a fun k => { k with step := { k.step with copy := some 1 } }).cal.step.copy = some 1 ∧
      s.cal.saving = some (1, 9) ∧ s.cal.masterUe = [] ∧ s.cal.masterCe = [] ∧ s.cal.reload = [] ∧ s.cal.saveAfter = false ∧
      (let w := bt (kl s fun k => { k with saveAfter := true }) fun b => { b with mbx := some (4, 16) }
       w.cal.saveAfter = true ∧ w.mbxFlashes = true ∧ w.cal.masterUe = []) ∧ r.cal.saving = some (1, 9) ∧ r.cal.masterUe ≠ [] ∧
      s.cal.rewrite.contains 3 = true ∧ s.cal.masterUe.contains 3 = false ∧ s.serving 3 = some 3 ∧ r.cal.rewrite.contains 3 = true ∧
      r.serving 3 = some 3 ∧ r.cal.masterUe.contains 3 = true ∧
      r.cal.reload.contains 1023 = true ∧ r.cal.source = 1 + 1 ∧ 1 < 2 ∧ 1023 < 1024 ∧ s.cal.jQueue = (4, 8, 6, 77) :: [] ∧ s.cal.journal < 2048 := by decide
/-- Slot 3 of `en f` executes. -/
theorem ready (f : Engine → Engine) (h1 : ((en f).eng 3).st = 1) (h2 : ((en f).eng 3).pc = 7) (h3 : ((en f).eng 3).iUe = []) (h4 : ((en f).eng 3).iCe = []) :
    EngineReady (en f) 3 :=
  ⟨rfl, rfl, h1, by rw [h2]; decide, by rw [h3]; rfl, by rw [h4]; rfl⟩

theorem witness_AluInstructions : EngineReady (en id) 3 ∧ ((en id).eng 3).blk = none := ⟨ready id rfl rfl rfl rfl, rfl⟩

theorem witness_Reshaping : EngineReady (en id) 3 ∧ ((en id).eng 3).blk = none ∧ (3 : BitVec 2) ≠ 0 := ⟨ready id rfl rfl rfl rfl, rfl, by decide⟩

theorem witness_ImmediatesAndCompares : EngineReady (en id) 3 ∧ ((en id).eng 3).blk = none ∧
    (let imm : BitVec 16 := 0x307; fld imm 15 10 = 0 ∧ fld imm 7 6 = 0 ∧ fld imm 5 0 < laneW (imm.extractLsb' 8 2)) ∧
    (let imm : BitVec 16 := 0x01FF - 0x1C0 + 0; fld imm 15 12 = 0 ∧ fld imm 5 0 + (fld imm 11 6 + 1) ≤ 64) ∧
    ((6 : BitVec 5).toNat ≤ 6 ∧ (2 : BitVec 2) ≠ 3) ∧ fld (23 : BitVec 5) 4 2 ≤ 5 :=
  ⟨ready id rfl rfl rfl rfl, rfl, by decide⟩

theorem witness_LoadInstructions :
    let f := fun x : Engine => { x with w := [(1, 0xBFF8), (2, 0xC008), (3, 0xD000), (4, 0xF000), (5, 0xC800), (6, 0xCBF8), (7, 0xE000)], slots := [held4, LSlot.free, LSlot.free, LSlot.free], palX := [(0, 5)] }
    let s := fa (en f) fun x => { x with lines := [(4, some { line4 with conv := BitVec.allOnes 1024 })] }
    let x := s.eng 3
    let ea := fun (a : BitVec 5) => (x.reg a + (0 : BitVec 16).signExtend 64).toNat % 65536
    EngineReady s 3 ∧ x.blk = none ∧ (ea 1 < 0xC000 ∧ ea 1 % 8 = 0 ∧ x.dUe.contains (ea 1 / 8) = false) ∧
      (0xC000 ≤ ea 2 ∧ ea 2 < 0xC800 ∧ (x.slots.getD ((ea 2 - 0xC000) / 0x200) LSlot.free) = held4 ∧ s.unwritten x held4 ((ea 2 - 0xC000) % 0x200 / 2) = false ∧
        (en f).unwritten x held4 ((ea 2 - 0xC000) % 0x200 / 2) = true) ∧ (0xE000 ≤ ea 7 ∧ ea 7 < 0xF000 ∧ ea 7 % 8 = 0) ∧
      (0xD000 ≤ ea 3 ∧ ea 3 < 0xE000) ∧ 0xF000 ≤ ea 4 ∧
      (ea 5 % 8 = 0 ∧ 0xC800 ≤ ea 5 ∧ ea 5 < 0xCC00) ∧ s.palWord x 256 ≠ ~~~(s.palWord x 0) ∧
      (ea 6 % 8 = 0 ∧ 0xC800 ≤ ea 6 ∧ ea 6 < 0xCC00) ∧ s.palWord x 511 = ~~~(s.palWord x 255) ∧ s.palWord x 510 = ~~~(s.palWord x 254) :=
  ⟨⟨rfl, rfl, rfl, by decide, rfl, rfl⟩, by decide⟩

theorem witness_Stores :
    let f := fun x : Engine => { x with w := [(1, 0xBFF8), (2, 0xC7FF), (3, 0xDFFC), (4, 0xFFFE), (5, 0xC1F8)], slots := [{ held4 with rev := true }, LSlot.free, LSlot.free, held4] }
    let s := fa (en f) fun x => { x with lines := [(4, some { line4 with conv := BitVec.allOnes 1024 })] }
    let x := s.eng 3
    let ea := fun (a : BitVec 5) => (x.reg a + (0 : BitVec 16).signExtend 64).toNat % 65536
    EngineReady s 3 ∧ x.blk = none ∧ ea 1 % 8 = 0 ∧ ea 1 < 0xC000 ∧ x.dUe.contains (ea 1 / 8) = false ∧
      (0xC000 ≤ ea 2 ∧ ea 2 < 0xC800 ∧ (x.slots.getD ((ea 2 - 0xC000) / 0x200) LSlot.free) = held4 ∧ s.unwritten x held4 ((ea 2 - 0xC000) % 0x200 / 2) = false ∧ held4.rev = false) ∧
      (0xD000 ≤ ea 3 ∧ ea 3 < 0xE000 ∧ ea 3 % 4 = 0) ∧ (0xF000 ≤ ea 4 ∧ ea 4 % 2 = 0) ∧
      (0xC000 ≤ ea 5 ∧ ea 5 < 0xC800 ∧ ea 5 % 8 = 0 ∧ (x.slots.getD ((ea 5 - 0xC000) / 0x200) LSlot.free).held = true ∧
        (x.slots.getD ((ea 5 - 0xC000) / 0x200) LSlot.free).rev = true) :=
  ⟨⟨rfl, rfl, rfl, by decide, rfl, rfl⟩, by decide⟩

theorem witness_AccessChecks :
    let f := fun x : Engine => { x with w := [(1, 0xBFF9), (2, 0xC200), (3, 0xCFFF), (4, 0xEFFF), (5, 0xCC00), (6, 0xBFF8), (7, 0xE001)], dUe := [0xBFF8 / 8, 0xE000 / 8] }
    let x := (en f).eng 3
    let ea := fun (a : BitVec 5) => (x.reg a + (0 : BitVec 16).signExtend 64).toNat % 65536
    EngineReady (en f) 3 ∧ ea 1 % 2 ≠ 0 ∧ (0xC000 ≤ ea 2 ∧ ea 2 < 0xC800 ∧ (x.slots.getD ((ea 2 - 0xC000) / 0x200) LSlot.free).held = false) ∧
      (0xC800 ≤ ea 3 ∧ ea 3 < 0xD000) ∧ (0xE000 ≤ ea 4 ∧ ea 4 < 0xF000) ∧ (ea 5 % 8 = 0 ∧ ¬(0xC800 ≤ ea 5 ∧ ea 5 < 0xCC00)) ∧
      ea 6 < 0xC000 ∧ x.dUe.contains (ea 6 / 8) = true ∧ 0xE000 ≤ ea 7 ∧ ea 7 < 0xF000 ∧ x.dUe.contains (ea 7 / 8) = true :=
  ⟨ready _ rfl rfl rfl rfl, by decide⟩

theorem witness_Branches : EngineReady (en id) 3 ∧ ((en id).eng 3).blk = none ∧
    (let T := fun (imm : BitVec 16) => (((en id).eng 3).pc : Int) + 1 + imm.toInt
     T 0xFFF8 = 0 ∧ T 0xEF7 = 0xEFF ∧ T 0xFFF7 < 0 ∧ 0xEFF < T 0xEF8) ∧ fld (3 : BitVec 5) 4 2 = 0 ∧ fld (1 : BitVec 5) 4 1 = 0 ∧
    ((en id).eng 3).flag ((0 : BitVec 5).setWidth 2) = true ∧ ((en id).eng 3).flag ((1 : BitVec 5).setWidth 2) = false ∧
    1 < ((en id).eng 3).lc0.toNat ∧ ((en id).eng 3).lc1.toNat ≤ 1 :=
  ⟨ready id rfl rfl rfl rfl, rfl, by decide⟩

theorem witness_SystemInstructions : EngineReady (en id) 3 ∧ ((en id).eng 3).blk = none ∧ (en id).th.k = 0 ∧
    (tm (en id) fun x => { x with k := 7 }).th.k ≠ 0 ∧ ((en fun x => { x with w := [(1, 0xEFF)] }).eng 3).reg 1 = 0xEFF ∧
    (((en id).eng 3).reg 3).toNat ≤ 65536 :=
  ⟨ready id rfl rfl rfl rfl, rfl, by decide⟩

theorem witness_PredicationAndIllegal : EngineReady (en id) 3 ∧ (((en id).eng 3).reg 5).toNat ≤ 0xEFF ∧ 0xEFF < (((en id).eng 3).reg 3).toNat ∧ ((en id).eng 3).blk = none ∧ (3 : BitVec 2) ≠ 0 ∧ ((en id).eng 3).flag 1 = false ∧
    ((en id).eng 3).flag 0 = true ∧ 7 ≤ (7 : BitVec 5).toNat ∧ fld (0x400 : BitVec 16) 15 10 ≠ 0 ∧
    laneW ((0x308 : BitVec 16).extractLsb' 8 2) ≤ fld (0x308 : BitVec 16) 5 0 ∧ 64 < fld (0xFC1 : BitVec 16) 5 0 + fld (0xFC1 : BitVec 16) 11 6 + 1 ∧
    fld (0x1000 : BitVec 16) 15 12 ≠ 0 ∧ (1 : BitVec 5) ≠ 0 ∧ 6 ≤ fld (24 : BitVec 5) 4 2 ∧ 10 < (11 : BitVec 16).toNat ∧ 10 < (11 : BitVec 5).toNat ∧
    ((4 : BitVec 5) ≠ 1 ∧ (4 : BitVec 5) ≠ 2 ∧ (4 : BitVec 5) ≠ 3 ∧ (4 : BitVec 5) ≠ 7) ∧
    65536 < (((en fun x => { x with w := [(3, 65537)] }).eng 3).reg 3).toNat ∧
    (let T : Int := (((en id).eng 3).pc : Int) + 1 + (0xEF7 : BitVec 16).toInt; 0 ≤ T ∧ T ≤ 0xEFF) ∧ fld (2 : BitVec 5) 4 1 ≠ 0 ∧ fld (4 : BitVec 5) 4 2 ≠ 0 :=
  ⟨ready id rfl rfl rfl rfl, by decide, by decide, rfl, by decide⟩

theorem witness_EngineExceptions : EngineReady (en id) 3 ∧ (en id).running = true ∧ (en id).noTicks = false ∧ ((en id).eng 3).st = 1 ∧
    legalOp 0xFC000000 = false ∧ 0xF00 ≤ ((en fun x => { x with pc := 0xF00 }).eng 3).pc ∧
    ((en fun x => { x with iUe := [7] }).eng 3).iUe.contains ((en fun x => { x with iUe := [7] }).eng 3).pc = true ∧ ((en id).eng 3).blk = none ∧
    20000 ≤ since ((en id).at 110000).now ((en id).eng 3).hbT ∧ 15 < 16 ∧ 31 < 32 :=
  ⟨ready id rfl rfl rfl rfl, by decide⟩

theorem witness_Lines :
    let f := fun (q : LSlot) (x : Engine) => { x with nextLine := 4, slots := [q, LSlot.free, LSlot.free, LSlot.free], w := [(1, 0), (2, 7)] }
    let s := en (f LSlot.free)
    let done := fa s fun x => { x with lines := [(4, some { line4 with conv := BitVec.allOnes 1024 })] }
    let h := en (f held4)
    let hd := fa h fun x => { x with lines := [(4, some { line4 with conv := BitVec.allOnes 1024 })] }
    EngineReady s 3 ∧ EngineReady h 3 ∧ (s.eng 3).blk = none ∧ s.nextFor (s.eng 3) = some (4, line4) ∧ s.palBusy 3 = false ∧ line4.conv.getLsbD 3 = false ∧ line4.fail.getLsbD 3 = false ∧
      done.nextFor (done.eng 3) = some (4, { line4 with conv := BitVec.allOnes 1024 }) ∧ since (s.at 100000).now (line4.tc 3) < 2 ^ 63 ∧
      2 ^ 63 ≤ since (s.at 100000).now ({ line4 with t := 100001 }.tc 3) ∧ (en fun x => { x with nextLine := 5 }).nextFor ((en fun x => { x with nextLine := 5 }).eng 3) = none ∧
      ((s.eng 3).slot 1).held = false ∧ (h.eng 3).slot 1 = held4 ∧ h.line held4.line = some line4 ∧ h.converting (h.eng 3) held4 = true ∧
      hd.converting (hd.eng 3) held4 = false ∧ held4.rev = false ∧ held4.pal = false ∧ line4.kind ≠ 1 ∧
      ((h.eng 3).reg 2).toNat < { line4 with frs := [(3, 8)] }.framesIn 3 ∧ ¬((h.eng 3).reg 2).toNat < line4.framesIn 3 ∧
      line4.items = true ∧ line4.first ≤ 3 ∧ 3 ≤ line4.last ∧ { held4 with pal := true }.pal = true ∧ ({ held4 with rev := true } : LSlot).rev = true :=
  ⟨ready _ rfl rfl rfl rfl, ready _ rfl rfl rfl rfl, by decide⟩
theorem witness_Ports :
    let cv : Cover := { failed := true, reason := 9, code := 0, line := 4, count := 1, t0 := 3, t1 := 3, chans := 2 }
    let s := fun (tile : Nat) (blk : Option Blk) (fifo : Tbl (List (Time × W64))) => let s := en fun x => { x with tile := tile, blk := blk }
      { s with te := { s.te with fifo := fifo } }
    let k : Blk := { t := 90000, op := 4, d := 3, lim := 10051 }
    let rs := fun (len : Nat) (q : List QRec) =>
      let s := en fun x => { x with w := [(1, 0xD000), (2, 0xDFE0)], slots := [held4, LSlot.free, LSlot.free, LSlot.free], dmem := [(0xD006, 1), (0xD007, 1), (0xD008, BitVec.ofNat 8 len), (0xD009, BitVec.ofNat 8 (len / 256))] }
      rg (ho (fa s fun x => { x with q := [(3, q)] }) fun h => { h with ring := [(0, ring1), (1, ring1)] }) [(0x101000, 0x80C00000), (0x101100, 0xC4000000)]
    let z := rs 5 []
    let x := z.eng 3
    EngineReady (s 1023 none []) 3 ∧ EngineReady z 3 ∧ ((s 1023 none []).eng 3).tile = 1023 ∧ ((s 0 none []).eng 3).tile = 0 ∧
      (s 31 none [(62, List.replicate 15 (5, 6))]).fifo (fifoKey 31 true) = List.replicate 15 (5, 6) ∧
      16 ≤ ((s 31 none [(62, List.replicate 16 (5, 6))]).fifo (fifoKey 31 true)).length ∧
      (s 31 none [(63, [(100000, 6)])]).fifo (fifoKey 32 false) = (100000, 6) :: [] ∧ since ((s 31 none []).at 0).now 100000 < 2 ^ 63 ∧
      2 ^ 63 ≤ since ((s 31 none []).at 0).now 100001 ∧ (s 31 none []).fifo (fifoKey 32 false) = [] ∧
      ((s 31 (some k) []).eng 3).blk = some k ∧ k.lim ≤ since ((s 31 none []).at 100051).now k.t ∧
      x.blk = none ∧ (0xD000 ≤ (x.reg 1).toNat ∧ (x.reg 1).toNat ≤ 0xDFFF ∧ (x.reg 1).toNat % 8 = 0 ∧ z.dRead x ((x.reg 1).toNat + 8) 2 = 5 ∧
        z.dRead x (x.reg 1).toNat 8 = 2 ^ 56 + 2 ^ 48 ∧ (x.slot 0).held = true) ∧ (rs 512 []).dRead ((rs 512 []).eng 3) 0xD008 2 = 512 ∧
      (∀ i, i < 5 - 1 → x.dUe.contains (0xD000 / 8 + i) = false) ∧ (x.slot 0).rev = false ∧ (x.slot 0).pre = false ∧ z.line (x.slot 0).line = some line4 ∧
      8 * 5 ≤ z.queueFree 3 ∧ z.carries 1 4 = true ∧ z.voided 4 3 1 = false ∧
      (fa z fun x => { x with covers := [cv] }).voided 4 3 1 = true ∧ z.carries 2 4 = false ∧
      (rs 5 [{ rec5 false 0 0 with ws := List.replicate 508 0 }]).queueFree 3 < 8 * 5 :=
  ⟨⟨rfl, rfl, rfl, by decide, rfl, rfl⟩, ⟨rfl, rfl, rfl, by decide, rfl, rfl⟩, by decide⟩

theorem witness_EngineSupervision :
    let s := fun (f : Engine → Engine) => en f
    let sp : State := { run with te := { run.te with eng := [(32, eng3)], stripe := [(0, { Stripe.fresh with used := true, k := 4 })] } }
    let z := bt (tk run fun k => { k with st := 0 }) fun b => { b with permO := 1, permS := 3 }
    (s id).running = true ∧ (s id).noTicks = false ∧ ((s id).eng 3).st = 1 ∧
      ((s fun x => { x with blk := some { t := 98051, op := 0, d := 0, lim := 5 } }).eng 3).blk = some { t := 98051, op := 0, d := 0, lim := 5 } ∧
      2000 ≤ since ((s id).at 100051).now 98051 ∧ ((s fun x => { x with st := 2, kcnt := 2 }).eng 3).st = 2 ∧
      (rg (s id) [(0x50000, 0x300)]).regF 0x50000 15 8 = 3 ∧ (rg (s id) [(0x50000, 0)]).regF 0x50000 15 8 = 0 ∧
      (({ sp with te := { sp.te with eng := [] } }).eng 32).st = 0 ∧ 32 % 33 = 32 ∧ sp.te.loadBusy = false ∧ (sp.stripe (32 / 33)).used = true ∧
      (s id).reaches 0x50000 = true ∧ fld (0x80010000 : W32) 30 16 ≠ 0 ∧ (s id).reaches 0x50030 = true ∧ (s id).te.loadBusy = false ∧
      z.tick.st = 0 ∧ bit (z.boot.permO &&& z.boot.permS) 0 = true ∧ (s id).tick.st ≠ 0 ∧ bit ((s id).boot.permO &&& (s id).boot.permS) 0 = false ∧
      ({ run with te := { run.te with loadBusy := true } }).te.waitLoad = [] ∧ z.cal.masterCe = [] ∧ z.cal.masterUe = [] ∧ z.te.loadBusy = false ∧ (s id).reaches 0x50028 = true ∧ bit (1 : W32) 0 = true ∧
      (s id).serving ((s id).eng 3).tile = some 3 ∧ (s id).tick.last.isSome = true ∧ (tk run fun k => { k with line := 7 }).line 4 = some line4 ∧
      4 + 2 ≤ (tk run fun k => { k with line := 7 }).lastLine := by decide

theorem witness_RecordFlow :
    let l := { line4 with rel := BitVec.allOnes 1024 }
    let h : List W64 := [0x0401000000000004, 6, 0, 0, 0]
    let c : Contrib := { line := 4, tile := 3, ch := 1, flags := 2, pairs := [] }
    let s := fun (f : Fab → Fab) => fa (rings ring1) fun x => f { x with lines := [(4, some l)] }
    let a := s fun x => { x with contrib := [c] }
    let d := s fun x => { x with closeDue := [(1, 4)] }
    let p := fun (r : QRec) => s fun x => { x with spine := [(3, 700000, r)] }
    let sc : QRec := { rec5 false 0 800000 with ws := h ++ [trailer h] }
    a.running = true ∧ a.clk.gated = false ∧ a.flt.faulted = false ∧ a.flt.sup = none ∧ a.line 4 = some l ∧ l.closed = true ∧ a.carries 1 4 = true ∧ a.statCrossing 1 4 = false ∧
      c ∈ a.fab.contrib ∧ d.fab.closeDue.find? (fun p => p.1 == 1) = some (1, 4) ∧ d.onWay 1 4 = false ∧ d.openUpTo 1 4 = false ∧ d.clk.intr = none ∧
      2000 ≤ since (d.at 100051).now l.t ∧ d.chanOn 1 = true ∧ (rg d [(0x101100, 0)]).chanOn 1 = false ∧ 1055 < 1056 ∧ ((s id).at 100051).urgentSrc 1055 = false ∧
      (p (rec5 false 0 800000)).fab.spine.find? (fun p => p.1 == 3) = some (3, 700000, rec5 false 0 800000) ∧ recOk (rec5 false 0 800000).ws = true ∧
      (p (rec5 false 0 800000)).takes (rec5 false 0 800000) = true ∧ ((rec5 false 0 699999).dl - (700000 : Time).setWidth 32).toInt < 0 ∧
      (p (rec5 true 5 0)).takes (rec5 true 5 0) = false ∧ (rec5 false 0 800000).contrib = false ∧
      sc.contrib = true ∧ (p sc).takes sc = true ∧ recOk sc.ws = true ∧ (s id).reaches 0x101F28 = true := by decide

theorem witness_SpineArbitration :
    let r := rec5 false 0 800000
    let s := fa (rings ring1) fun x => { x with q := [(1056, [r])], arb := [(32, { Arb.fresh with formed := [0] })] }
    let a : Req := { urgent := true, d := 9, inp := 3, src := 3 }
    let b : Req := { urgent := false, d := 9, inp := 2, src := 2 }
    s.running = true ∧ s.clk.gated = false ∧ s.fab.q = [(1056, [r])] ∧ r.sent = 0 ∧ r.cls = false ∧ r.bytes ≤ 64 ∧ (s.arb 32).owner = none ∧
      (s.arb 32).formed = [0] ∧ Tbl.get 0 (s.arb 32).back 0 ≤ s.fab.cyc ∧ s.fillL + s.fillC < 0x100000 ∧ (∀ k, k < 32 → (s.arb k).owner = none) ∧
      a.urgent = true ∧ b.urgent = false ∧ a.inp ≠ b.inp ∧ a.before b = true := by decide

theorem witness_RingStates :
    let s := fun (g : Ring) => rings g
    (s Ring.fresh).alive = true ∧ 15 < 16 ∧ (s Ring.fresh).reaches (chOff 0 0x40) = true ∧ fld (0xA8000000 : W32) 29 26 ≤ 10 ∧ ((s Ring.fresh).ring 0).st = 0 ∧
      bit (0xA8000000 : W32) 31 = true ∧ (s Ring.fresh).reg (chOff 0 0x48) ≠ 0 ∧ (s Ring.fresh).reg (chOff 0 0x58) ≠ 0 ∧
      (run.reg (chOff 0 0x48) = 0 ∧ run.reg (chOff 0 0x50) = 0) ∧ ((s ring1).ring 0).st = 1 ∧ bit (0x40000000 : W32) 31 = false ∧ bit (0x40000000 : W32) 30 = true ∧
      fld (0x40000000 : W32) 29 26 = (s ring1).regF (chOff 0 0x40) 29 26 ∧ fld (0x44000000 : W32) 29 26 ≠ (s ring1).regF (chOff 0 0x40) 29 26 ∧
      ((s { ring1 with st := 3 }).ring 0).st = 3 ∧ ((s { ring1 with startT := some 98051 }).ring 0).startT = some 98051 ∧ 2000 ≤ since ((s ring1).at 100051).now 98051 ∧
      ((s ring1).at 100051).settled = true ∧ ((s { ring1 with st := 2, stop := some (5, 4), startLine := 4 }).ring 0).stop = some (5, 4) ∧ (s ring1).noTicks = false ∧
      2000000 ≤ since ((s ring1).at 2000005).now 5 ∧ (s ring1).reaches (chOff 0 0x68) = true ∧
      (fld (63 : W32) 15 0 + 65536 - ((s ring1).ring 0).head) % 65536 ≤ (s ring1).entries 0 - 1 ∧
      (s ring1).entries 0 - 1 < (fld (64 : W32) 15 0 + 65536 - ((s ring1).ring 0).head) % 65536 := by decide

theorem witness_RingStream :
    let e : ERec := { r := rec5 true 0 4, src := 3, t := 9 }
    let s := fun (g : Ring) => fa (rings g) fun x => { x with egress := [e] }
    let f := s { ring1 with inFl := some (4, 1, true) }
    let w := s { ring1 with desc := [(0x9000, 4096)], used := 4056 }
    let v := rg (s { ring1 with head := 5 }) [(0x104000, 0x01000000)]
    f.alive = true ∧ 0 < 16 ∧ (f.ring 0).inFl = some (4, 1, true) ∧ (f.ring 0).st = 1 ∧ ((s { ring1 with inFl := some (4, 1, false) }).ring 0).inFl = some (4, 1, false) ∧
      checkDescs ([((0x1000 : W64), (0x1000000 : W64))].take 1) = .inr [(0x1000, 16777216)] ∧ checkDescs ([((0x1000 : W64), (0x1001000 : W64))].take 1) = .inl 4 ∧
      (∀ c, c < 16 → (w.nextOut c).all (fun q => !(w.at 0).before q e) = true) ∧ w.nextOut 0 = some e ∧ w.host.bme = true ∧ w.clk.gated = false ∧ (w.ring 0).desc = (0x9000, 4096) :: [] ∧ (w.ring 0).used ≤ 4096 ∧
      (∀ c, c < 16 → c = 0 ∨ w.nextOut c = none) ∧ (w.at 0).before e e = false ∧ 8 * e.r.ws.length = 4096 - (w.ring 0).used ∧
      (s { ring1 with wbDue := true }).wbReady 0 = true ∧ ((s { ring1 with wbDue := true }).ring 0).desc = [] ∧
      ((s { ring1 with irqT := some 5, irqHeld := true }).ring 0).irqT = some 5 ∧ (s ring1).holdoff 0 ≤ since ((s ring1).at 100000).now 5 ∧
      v.fab.egress.find? (fun r => recCh r.r.ws == 0 && r.r.cls && !r.r.dev) = some e ∧ (v.ring 0).st = 1 ∧ v.starved 0 = true ∧
      2000 * v.regF 0x104000 31 24 ≤ since (v.at 100000).now e.t := by decide
theorem witness_FunctionResets :
    run.alive = true ∧ run.host.perst = false ∧ (ho run fun h => { h with perst := true }).host.perst = true ∧ run.host.d3 = false ∧
      (sq run fun q => { q with held := true, src := 3 }).seq.held = true ∧ bit (sq run fun q => { q with held := true, src := 3 }).seq.src 6 = false ∧
      bit (sq run fun q => { q with src := 64 }).seq.src 6 = true ∧ 0x10000 ∉ fnRegs ∧ (1 ≤ 6 ∧ 6 ≤ 6) ∧ 16 ∈ [1, 2, 4, 8, 16] := by decide

theorem witness_HostRequests :
    let m : Msix := { addr := 4, data := 5, mask := false }
    let h := ho run fun h => { h with bme := true, msixEn := true, msix := [(63, m)] }
    run.alive = true ∧ run.host.perst = false ∧ (ho run fun h => { h with flrBusy := true }).host.flrBusy = true ∧ run.host.flrBusy = false ∧
      (ho run fun h => { h with ready := true }).host.ready = true ∧ 200000000 ≤ since (run.at 200000000).now run.host.relT ∧ 8 < 5 % 8 + 4 ∧
      run.host.memEn = true ∧ (ho run fun h => { h with memEn := false }).host.memEn = false ∧ (ho h fun h => { h with fnMask := true }).host.fnMask = true ∧
      h.host.fnMask = false ∧ m.mask = false ∧
      run.running = true ∧ run.te.loadBusy = false ∧ 0x2104000 ≤ 0x2104FF8 ∧ 0x2104FF8 + 8 ≤ 0x2105000 ∧ 0x2100000 ≤ 0x2103BFC ∧
      0x2103BFC + 4 ≤ 0x2103C00 ∧ 0x2103BFC % 4 = 0 ∧ (bt run fun b => { b with stage := 7 }).running = false ∧
      h.host.bme = true ∧ h.host.msixEn = true ∧ Tbl.get Msix.masked h.host.msix 63 = m ∧ Tbl.get Msix.masked h.host.msix 0 = Msix.masked := by decide

theorem witness_ReferenceSources :
    let c := fun (f : Clk → Clk) => ck run f
    let k := c fun c => { c with gated := true, relockT := 60051, intr := some 5, absent := 6 }
    let k2 := c fun c => { c with gated := true, cLock := false, intr := some 5, ref := 2 }
    let k3 := rg (c fun c => { c with gated := true, again := true }) [(0x180008, 0x40000000)]
    let g := c fun c => { c with gated := true, ref := 3, absent := 7, intr := some 5 }
    (2 : BitVec 2) ≠ 3 ∧ run.alive = true ∧ bit run.clk.absent 2 = false ∧ run.clk.ref ≠ 2 ∧ run.clk.ref = 0 ∧ run.clk.cLock = true ∧
      (k.clk.intr = some 5 ∧ bit k.clk.absent 0 = false ∧ k.clk.ref = (0 : BitVec 2).toNat ∧ k2.clk.cLock = false ∧ k2.clk.intr = some 5) ∧ k3.clk.again = true ∧
      k3.refAfter k3.clk.ref ≠ 3 ∧ (rg k2 [(0x180008, 0x80000000)]).primary = 1 ∧ k2.clk.ref ≠ 0 ∧ bit k2.clk.absent 0 = false ∧
      bit (c fun c => { c with absent := 4 }).clk.absent 2 = true ∧ run.clk.gated = false ∧
      (bit g.clk.absent 0 = true ∧ bit g.clk.absent 1 = true ∧ bit g.clk.absent 2 = true ∧ g.clk.gated = true ∧ g.clk.ref = 3) ∧
      bit run.clk.absent 0 = false ∧ (-32768 : Int) ≤ -301 ∧ (32767 : Int) ≤ 32767 ∧ k.clk.gated = true ∧ k.clk.ref ≠ 3 ∧
      40000 ≤ since (k.at 100051).now k.clk.relockT ∧ k.refAfter k.clk.ref = 3 ∧ k.refFirst ≠ 3 ∧
      (rg (c fun c => { c with gated := true }) [(0x180008, 0x40000000)]).refAfter 0 ≠ 3 ∧ k.clk.again = false ∧
      run.reaches 0x180008 = true ∧ fld (0x80000000 : W32) 31 31 = 1 ∧ run.hng.up.st = 0 ∧ fld (0x20000000 : W32) 31 31 = 0 ∧ bit (0x20000000 : W32) 29 = true ∧
      bit (c fun c => { c with absent := 1 }).clk.absent 0 = true ∧ (c fun c => { c with ref := 2 }).clk.ref ≠ 0 := by decide

theorem witness_ClockInterruptions :
    let c := fun (f : Clk → Clk) => ck run f
    let w : Wait := { t := 10051, off := 0x20010, nb := 8, w := none, rem := none }
    run.alive = true ∧ run.clk.cLock = true ∧ run.clk.ref ≠ 3 ∧ since (run.at 100051).now 98051 ≤ 4000 ∧
      (c fun c => { c with gated := true }).clk.gated = true ∧ run.th.shut = 0 ∧ run.clk.wait = [] ∧
      (c fun c => { c with intr := some 20050 }).clk.intr = some 20050 ∧ run.clk.gated = false ∧ bit run.clk.absent run.clk.ref = false ∧
      80000 < since (run.at 100051).now 20050 ∧ (c fun c => { c with wait := [w] }).clk.wait = w :: [] ∧ 90000 ≤ since (run.at 100051).now w.t ∧
      w.w = none ∧ w.rem = none ∧ since (run.at 100050).now w.t < 90000 ∧ ({ w with rem := some (3, 9) } : Wait).rem = some (3, 9) ∧ ({ w with w := some (goodWr 5 1) } : Wait).w = some (goodWr 5 1) ∧ run.clk.aLock = true ∧ run.clk.aGated = none ∧
      (c fun c => { c with aGated := some 5 }).clk.aGated = some 5 := by decide

theorem witness_LinePll :
    let c := fun (st : Nat) (f : Clk → Clk) => rg (tk (ck run fun c => f { c with
      refQ := [some 100051], lastRef := some 95051, tickT := 5000, prev := 5000 }) fun k => { k with st := st })
      [(0x10000, 0x40000000), (0x10020, 5), (0x180100, 0xA00186A0), (0x180104, 0x80000DBB)]
    let a := c 1 fun c => { c with lpll := 1 }
    let l := c 2 fun c => { c with lpll := 2 }
    let h := c 3 fun c => { c with lpll := 4 }
    let T := since (100051 : Time) 95051
    a.running = true ∧ a.noTicks = false ∧ (c 2 fun c => { c with refQ := [none] }).clk.refQ = none :: [] ∧ a.clk.refQ = some 100051 :: [] ∧
      a.clk.lastRef = some 95051 ∧ T ≠ 0 ∧ ¬(a.tick.st = 4 ∧ a.clk.lpll = 4) ∧ a.clk.lpll = 1 ∧ a.clk.t0 = 0 ∧ a.clk.prev ≠ 0 ∧ off2 T a.clk.prev = false ∧
      a.selBand T = some 0 ∧ off2 5000 5102 = false ∧ off2 5000 5103 = true ∧ l.clk.lpll = 2 ∧ l.bandExit T = false ∧ l.capT ≤ T ∧
      l.tick.st = 2 ∧ l.tick.hold = false ∧ l.regF 0x10020 15 0 ≠ 0 ∧ (rg l [(0x10020, 0)]).regF 0x10020 15 0 = 0 ∧
      5 * l.clk.prev ≤ 4 * since (l.at 101301).now 95051 ∧ 4 * since (l.at 101300).now 95051 < 5 * l.clk.prev ∧ l.tckSrc = 0 ∧
      (let r := rg (ck l fun c => { c with refHops := 2 }) [(0x10000, 0x50000000)]
       r.tckSrc ≠ 0 ∧ 5 * r.clk.prev + 320 * r.clk.refHops ≤ 4 * since (r.at 101461).now 95051 ∧
         4 * since (r.at 101460).now 95051 < 5 * r.clk.prev + 320 * r.clk.refHops) ∧
      (c 1 fun c => { c with lpll := 1, good := 4 }).tick.st = 1 ∧ 4 ≤ (c 1 fun c => { c with lpll := 1, good := 4 }).clk.good ∧
      a.tick.flushAb = false ∧ (tk a fun k => { k with flushAb := true }).tick.flushAb = true ∧
      h.clk.lpll = 4 ∧ h.tick.st = 3 ∧ h.bandExit T = false ∧ off2 T h.clk.tickT = false ∧ off2 T (c 3 fun c => { c with lpll := 4, tickT := 5200 }).clk.tickT = true ∧
      ¬(h.tick.st = 4 ∧ h.clk.lpll = 4) := by decide

theorem witness_AsyncAndClkout :
    let s := fun (st : Nat) (w : W32) => rg (tk run fun k => { k with st := st }) [(0x180040, w)]
    (s 4 0x90000000).running = true ∧ (s 4 0x90000000).reaches 0x180040 = true ∧ (s 4 0x90000000).reaches (0x180050 + 8 * 1) = true ∧ (s 4 0x90000000).regF 0x180040 31 31 = 1 ∧
      (s 4 0x90000000).tick.st = 4 ∧ (s 0 0x80000000).tick.st = 0 ∧ (s 4 0x90000000).noTicks = false ∧ (s 4 0x90000000).regF 0x180040 29 28 = 1 ∧
      (s 2 0x80000000).regF 0x180040 29 28 ≠ 1 ∧ ¬((s 2 0x80000000).tick.st = 0 ∨ (s 2 0x80000000).tick.st = 4) ∧ fld (0x30000000 : W32) 29 28 = 3 ∧
      fld (0xE0000000 : W32) 29 28 = 2 ∧ bit (0xE0000000 : W32) 30 = true ∧ fld (0xE0000000 : W32) 31 31 = 1 ∧ fld (0x60000000 : W32) 31 31 = 0 ∧ 1 < 2 ∧
      250000000 * fld (0x0001E000 : W32) 28 13 < run.clkSrcHz (fld (0x0001E000 : W32) 30 29) ∧
      ¬(fld (0x00020000 : W32) 30 29 = 3 ∨ fld (0x00020000 : W32) 28 13 = 0 ∨
        250000000 * fld (0x00020000 : W32) 28 13 < run.clkSrcHz (fld (0x00020000 : W32) 30 29)) := by decide

theorem witness_Thermal :
    let s := fun (f : Therm → Therm) => rg (tm run f) [(0x1E0000, 0x55850064)]
    let rs : List Reading := List.replicate 40 { v := 400, c := ~~~400 }
    let rd := fun (i : Nat) => (rs.set 3 { v := 0, c := 0 }).getD i { v := 0, c := 0 }
    (s id).alive = true ∧ (s id).clk.aGated = none ∧ (s id).th.shut = 0 ∧ (s id).senActive 34 = true ∧ (s id).senActive 39 = true ∧
      (((s id).at 100051).senCauses rd).getD 3 0 = 4 ∧ (((s id).at 100051).senCauses rd).getD 20 0 = 0 ∧ ((s id).sen 39).sub = false ∧
      (bt (s id) fun b => { b with stage := 5 }).senActive 3 = false ∧ (s fun x => { x with shut := 1, shutT := 5 }).th.shut = 1 ∧
      2000000 ≤ since ((s id).at 2000005).now 5 ∧ (s fun x => { x with shut := 2, recPos := 510 }).th.shut = 2 ∧ (510 + 1) % 512 ≠ 0 ∧
      (s id).reaches 0x1E0018 = true ∧ bit (0x80000000 : W32) 31 = true ∧ (s id).reaches 0x1E0020 = true ∧
      ((s fun x => { x with rearm := true, tc := 1279 }).th.rearm = true ∧ (s fun x => { x with rearm := true, tc := 1279 }).subMap = [] ∧
        (1279 : Int) < 16 * (((s id).regF 0x1E0000 31 24 : Int) - (s id).regF 0x1E0000 20 16)) ∧ (s id).th.rearm = false ∧
      (s fun x => { x with rearming := true }).th.rearming = true ∧ (s id).reaches 0x1E0030 = true ∧ (s id).reaches 0x1E0000 = true ∧
      fld (0x3B216900 : W32) 31 24 < 60 ∧
      (let v : W32 := 0x60216900
       ¬(fld v 31 24 < 60 ∨ 100 < fld v 31 24 ∨ fld v 23 21 = 0 ∨ fld v 20 16 = 0 ∨ fld v 15 8 < 90 ∨ 105 < fld v 15 8 ∨ fld v 15 8 - 2 < fld v 31 24 + 7 * fld v 23 21)) := by
  decide
/-- Pin engine 2 of `pn f` executes. -/
theorem pinReady (f : Px → Px) (h : ((pn f).pin 2).st = 1) : PinReady (pn f) 2 := ⟨rfl, by decide, h, rfl⟩

theorem witness_PinCounterWrites : PinReady (pn id) 2 ∧ ((pn id).pin 2).c.length = 4 ∧ ((pn id).pin 2).mode.length = 4 ∧ ((pn id).pin 2).modeOf 3 ≠ 6 ∧
    (let m := (pn fun p => { p with mode := [(0, 0, 0, 0), (0, 0, 0, 0), (0, 0, 0, 0), (6, 0, 0, 4)] })
     PinReady m 2 ∧ (m.pin 2).modeOf 3 = 6 ∧ (m.pin ((m.pin 2).mode.getD 3 (0, 0, 0, 0)).2.2.2).modeOf 0 ≠ 6 ∧
      (m.pin 7).mode.any (fun k => k.1 == 6) = false ∧ (m.pin 2).mode.length = 4) ∧
    (((pn id).pin 2).ctr 1).toInt < (((pn id).pin 2).ctr 0).toInt ∧ ((pn id).pin 2).ctr 3 ≠ 0 ∧ ((pn fun p => { p with full := 3 }).pin 2).full = 3 ∧
    ((pn fun p => { p with full := 2 }).pin 2).full.getLsbD 1 = true ∧ ((pn fun p => { p with full := 1 }).pin 2).full.getLsbD 0 = true ∧
    (6 : BitVec 3) ≠ 7 ∧ ¬((6 : BitVec 3) = 6 ∧ (2 : BitVec 3).toNat = 2 ∧ (1 : BitVec 2) = 0) :=
  ⟨pinReady id rfl, by decide, by decide, by decide, ⟨pinReady _ rfl, by decide⟩, by decide⟩

theorem witness_PinFlow :
    let b := pn fun p => { p with blk := some 99000, seen := [(0, true, 99500, true)], outs := [some 2, none, none, some 1] }
    PinReady (pn id) 2 ∧ PinReady b 2 ∧ (15 : BitVec 4) ≠ 0 ∧ (3 : BitVec 2) ≠ 0 ∧ ((pn id).pin 2).blk = none ∧ (b.pin 2).blk = some 99000 ∧
      (b.pin 2).seen.find? (fun x => (1 : BitVec 4).getLsbD x.1 && (1 : BitVec 2).getLsbD (if x.2.1 then 0 else 1)) = some (0, true, 99500, true) ∧
      (b.pin 2).seen.find? (fun x => (14 : BitVec 4).getLsbD x.1 && (1 : BitVec 2).getLsbD (if x.2.1 then 0 else 1)) = none ∧
      ((pn id).pin 2).lev.getLsbD 2 = true ∧ ((pn id).pin 2).lev.getLsbD 3 ≠ true ∧
      (0 ≤ (((pn id).pin 2).ctr 0 - ((pn id).pin 2).ctr 0).toInt) ∧ ¬((((pn id).pin 2).ctr 0 - ((pn id).pin 2).ctr 1).toInt ≤ 0) ∧
      (7 : BitVec 3) ≠ 4 ∧ ((pn fun p => { p with c := [0, 0, 0, 0] }).pin 2).ctr 3 = 0 ∧ (b.pin 2).outs.length = 4 ∧ (rg b [(pxBase 2 + 0x28, 0x00002300)]).outSel 2 3 < 36 ∧
      36 ≤ b.outSel 2 3 ∧
      b.pxCycles 2 99000 + 125 ≤ b.pxCycles 2 (b.at 100000).now ∧ b.pxCycles 2 (b.at 100000).now < b.pxCycles 2 99000 + 126 ∧
      0x14 ≤ fld (0xA0000000 : W32) 31 27 ∧ ((1 : W32) &&& 0x07FFFFFF &&& ~~~pxFields 1) ≠ 0 ∧ 5 ≤ (5 : BitVec 3).toNat ∧
      ((6 : BitVec 3) = 6 ∧ (2 : BitVec 3).toNat = 2 ∧ (0 : BitVec 2) = 0) :=
  ⟨pinReady _ rfl, pinReady _ rfl, by decide⟩

theorem witness_PinData :
    let r := pn fun p => { p with resume := true, shc := 63, blk := some 99000, seen := [(2, true, 99500, true)], evtT := some 99969, edge := some (5, false) }
    let f := fa (pn id) fun x => { x with q := [(1057, List.replicate 16 { rec5 false 0 0 with ws := [0, 0, 0, 0, 0x0040000000000000] })] }
    let e := rg (pn id) [(0x20000, 0x10000000), (0x10000, 0x40200000)]
    PinReady (pn id) 2 ∧ PinReady r 2 ∧ PinReady f 2 ∧ (r.pin 2).shc + 1 = 64 ∧ (r.pin 2).blk = some 99000 ∧ takeRise (r.pin 2).seen 2 = some [] ∧
      takeRise (r.pin 2).seen 1 = none ∧ ((pn id).pin 2).blk = none ∧ ((pn id).pin 2).full ≠ 3 ∧ ((pn fun p => { p with full := 3 }).pin 2).full = 3 ∧
      (r.pin 2).edge = some (5, false) ∧ ((pn id).pin 2).edge = none ∧ ((pn id).pin 2).last.getD 2 none = some (3, false) ∧
      ((pn id).pin 2).last.getD 3 none = none ∧ (r.pin 2).evtT = some 99969 ∧ since (r.at 100000).now 99969 < 32 ∧ 32 ≤ since (r.at 100001).now 99969 ∧
      (e.mode = 1 ∧ e.tckSrc = 0 ∧ e.regF 0x10000 22 20 = 2) ∧ e.regF 0x20000 30 27 = 2 ∧ (sq e fun q => { q with ph := 1 }).seq.ph = 1 ∧ e.seq.ph ≠ 1 ∧
      (pn id).regF 0x20000 30 27 ≠ 2 ∧ (6 : BitVec 3) ≠ 7 ∧ 16 ≤ f.capLen 2 ∧ (pn id).capLen 2 < 16 :=
  ⟨pinReady _ rfl, pinReady _ rfl, ⟨rfl, by decide, rfl, rfl⟩, by decide⟩

theorem witness_InputEdges :
    let m := pn fun p => { p with mode := [(5, 1, 3, 0), (0, 0, 0, 0), (0, 0, 0, 0), (0, 0, 0, 0)], xen := true, xi := 3 }
    let s := rg m [(pxBase 2 + 0x18, 0x00108300), (pxBase 2 + 0x20, 0x00302000)]
    let pass := fun (g : PinEdge) => fld (s.reg (pxBase 2 + 0x18)) (31 - 6 * g.i) (26 - 6 * g.i) = g.src ∧
      fld (s.reg (pxBase 2 + 0x20)) (31 - 4 * g.i) (28 - 4 * g.i) < g.held
    let level := fun (g : PinEdge) => (g.lev && g.src != 63) != bit (s.reg (pxBase 2 + 0x20)) (12 + g.i)
    s.running = true ∧ s.clk.aGated = none ∧ s.pin 2 = m.pin 2 ∧ pass ⟨3, 3, true, 99990, 1⟩ ∧ level ⟨3, 3, true, 99990, 1⟩ = true ∧
      pass ⟨1, 1, false, 99990, 1⟩ ∧ level ⟨1, 1, false, 99990, 1⟩ = true ∧ ¬pass ⟨2, 2, true, 99990, 3⟩ ∧ ¬pass ⟨3, 2, true, 99990, 9⟩ ∧
      level ⟨0, 63, true, 99990, 1⟩ = false ∧ m.running = true ∧ m.clk.aGated = none ∧ 2 < 8 ∧ (m.pin 2).c.length = 4 ∧ 3 < 4 ∧ (m.pin 2).lev.getLsbD 3 ≠ true ∧ (m.pin 2).last.getD 3 none = none ∧
      (m.pin 2).last.getD 0 none = some (90000, true) ∧ 16 ≤ since (90016 : Time) 90000 ∧ since (90015 : Time) 90000 < 16 ∧ (m.pin 2).lev.getLsbD 0 = true ∧
      (m.pin 2).mode.getD 0 (0, 0, 0, 0) = (5, 1, 3, 0) ∧ (1 : Nat) ≠ 3 ∧ (m.pin 2).xen = true ∧ (m.pin 2).xi = 3 ∧ ((pn id).pin 2).xen = false ∧
      (∀ j, j < 8 → (m.pin j).mode.any (fun m => m.1 == 6) = false) ∧ (m.pin 2).lev.getLsbD 1 ≠ true ∧ (m.pin 2).last.getD 1 none = none ∧ 3 ≤ 5 ∧ 5 ≤ 5 ∧
      (m.pin 2).mode = [(5, 1, 3, 0), (0, 0, 0, 0), (0, 0, 0, 0), (0, 0, 0, 0)] := by decide

theorem witness_PinHostAccess :
    let s := pn fun p => { p with st := 0 }
    s.running = true ∧ 7 < 8 ∧ s.reaches (pxBase 2) = true ∧ bit (0xC0000000 : W32) 31 = true ∧ bit (0xC0000000 : W32) 30 = true ∧
      bit (0xBF800000 : W32) 30 = false ∧ bit (0xBF800000 : W32) 29 = true ∧ bit (0xBF800000 : W32) 28 = true ∧ bit (0x80000000 : W32) 29 = false ∧
      (s.pin 2).st ≠ 1 ∧ bit (0x40000000 : W32) 31 = false ∧ ((pn id).pin 2).st = 1 ∧ ((pn fun p => { p with stopReq := true }).pin 2).stopReq = true ∧ 1 < 2 ∧
      s.reaches (pxBase 2 + 0x50) = true ∧ ((pn fun p => { p with full := 2 }).pin 2).full.getLsbD 1 = true ∧ (s.pin 2).full.getLsbD 1 = false ∧
      pxConfigOff 0x1F8 = true ∧ s.reaches (pxBase 2 + 0x1F8) = true ∧ pxConfigOff 0x10 = true ∧ fld (0xFFFF : W32) 31 16 = 0 ∧
      (3 < 4 ∧ 36 ≤ fld (0x00002400 : W32) (31 - 6 * 3) (26 - 6 * 3) ∧ fld (0x00003E00 : W32) (31 - 6 * 3) (26 - 6 * 3) < 63 ∧
        52 ≤ fld (0x00003400 : W32) (31 - 6 * 3) (26 - 6 * 3)) ∧
      s.pxBad 2 0x1F8 0 = false ∧ s.reaches (pxBase 2 + 0xA8) = true ∧ (s.pin 2).modeOf 3 ≠ 6 ∧ (s.pin 2).c.length = 4 ∧ 6 + 2 ≤ 8 ∧
      s.host.memEn = true ∧ s.stalls (pxBase 2 + 0xD8) = false := by decide

theorem witness_HingeLinkFrames :
    let s := fun (f : Port → Port) => hg hin fun h => { h with up := f h.up }
    hin.alive = true ∧ hin.clk.aGated = none ∧ ((s fun p => { p with st := 1, marks := 15 }).port false).st = 1 ∧
      ((s fun p => { p with st := 1, marks := 15 }).port false).marks < 16 ∧ (hin.port false).st ≠ 0 ∧ (hin.port false).st ≠ 4 ∧
      ((s fun p => { p with st := 3, marks := 16, markSum := 380 * 32 }).port false).marks = 16 ∧ (hin.port false).marks ≠ 16 ∧ (hin.port false).st = 2 ∧
      (rg hin [(0x1C0000, 0x80000000)]).isRoot = true ∧ hin.isRoot = false ∧ false = hin.alignPort ∧ true ≠ hin.alignPort ∧ hin.freeTime = false ∧
      (rg hin [(0x1C0000, 0x80000000)]).freeTime = true ∧ (hg hin fun h => { h with lost := 1 }).freeTime = true ∧
      (-32768 : Int) ≤ 50 * ((99960 : W64) + 80 - (hin.at 100051).now).toInt + 7 ∧ 50 * ((99960 : W64) + 80 - (hin.at 100051).now).toInt + 7 ≤ 32767 := by decide

theorem witness_HingeBroadcasts :
    let r := rg hin [(0x10000, 0x50000000)]
    let d := rg hin [(0x10000, 0x90000000)]
    let src := rg hin [(0x1C0000, 0x10000000)]
    hin.alive = true ∧ ((hin.port false).st = 2 ∧ hin.clk.aGated = none ∧ hin.closure false = false) ∧
      ¬((hg hin fun h => { h with up := { h.up with st := 3 } }).port false).st = 2 ∧ (hg hin fun h => { h with pos := none }).hpos = none ∧
      (hg hin fun h => { h with pos := none }).closure false = false ∧ hin.hpos ≠ none ∧ bit (hin.reg 0x1C0000) 28 = false ∧
      (r.running = true ∧ r.mode = 1 ∧ r.tckSrc = 1) ∧ (d.running = true ∧ d.mode = 2 ∧ d.tckSrc = 1) ∧ hin.mode = 0 ∧
      bit (src.reg 0x1C0000) 28 = true ∧ (src.port false).st = 2 ∧ hin.reaches 0x1C0038 = true ∧ hin.host.memEn = true ∧ hin.running = true ∧ 0 < 2 ∧ 6 + 2 ≤ 8 := by decide

theorem witness_PartnerLoss :
    let s := fun (f : Port → Port) => hg hin fun h => { h with up := f h.up }
    let r := rg hin [(0x10000, 0xA0000000)]
    let l := sq hin fun q => { q with held := true, src := 67 }
    hin.alive = true ∧ (hin.port false).st = 2 ∧ (hin.port false).lost = false ∧ 8000 ≤ since (hin.at 107000).now (hin.port false).hbT ∧ hin.clk.aGated = none ∧
      since (hin.at 106999).now (hin.port false).hbT < 8000 ∧ hin.alignPort = false ∧ hin.isRoot = false ∧ (hin.port false).pos = some 1 ∧ hin.hpos = some 2 ∧
      ((hin.port true).st = 2 ∧ hin.closure true = false) ∧ (r.regF 0x10000 29 28 = 2 ∧ r.regF 0x10030 0 0 = 0) ∧
      ((s fun p => { p with lost := true, runT := some 5 }).port false).runT = some 5 ∧ 200000 ≤ since (hin.at 200005).now 5 ∧ hin.closure false = false ∧
      hin.ringed = false ∧ (2 < 3 ∧ 3 < 5 ∧ 5 ≤ hin.hTop) ∧ l.seq.held = true ∧ bit l.seq.src 6 = true ∧ fld l.seq.src 5 0 = 3 ∧ (3 : BitVec 6).toNat = 3 := by decide

theorem witness_Barriers :
    let e := hg hin fun h => { h with up := { h.up with st := 0 }, dn := { h.dn with st := 0, pos := none, high := 0 } }
    let one := hg hin fun h => { h with dn := { h.dn with st := 0, pos := none, high := 0 } }
    let root := rg (hg hin fun h => { h with up := Port.fresh, bWait := true }) [(0x1C0000, 0x80000000), (0x1C0048, 5)]
    hin.alive = true ∧ hin.reaches 0x1C0048 = true ∧ bit (0x80000005 : W32) 31 = true ∧ bit (0x20000005 : W32) 31 = false ∧
      (hg hin fun h => { h with pos := none }).hpos = none ∧
      (let r := rg e [(0x1C0000, 0x80000000)]; r.hpos = some 0 ∧ ∀ q, q < 64 → r.route q = none) ∧
      (one.hpos = some 2 ∧ one.route 0 = some false ∧ ∀ q, q < 64 → one.route q = none ∨ one.route q = one.route 0) ∧
      hin.hears false = true ∧ hin.hpos ≠ none ∧ hin.hpos ≠ some (3 : BitVec 6).toNat ∧ hin.hng.bWait = false ∧ root.hears true = true ∧
      root.hng.bWait = true ∧ root.regF 0x1C0048 7 0 = (5 : Byte).toNat ∧ root.hpos = some 0 ∧ root.route 3 = some true ∧
      (∀ q, q < 64 → root.route q ≠ some false) ∧ hin.closure false = false := by decide

theorem witness_ScheduledOperations :
    let a := fun (x : Time) => hg hin fun h => { h with aReset := some (x, 2, 2, false) }
    let t := tk (ck hin fun c => { c with tickT := 5000 }) fun k => { k with st := 3 }
    hin.alive = true ∧ hin.reaches 0x1C0050 = true ∧ fld (0xE0000000 : W32) 30 29 = 3 ∧ fld (0xC0100010 : W32) 30 29 = 2 ∧ bit (0xC0100010 : W32) 31 = true ∧
      (hg hin fun h => { h with pos := none }).hpos = none ∧ (a 5).armed 2 ≠ none ∧ hin.hpos = some 2 ∧ hin.armed 2 = none ∧
      (t.tick.st = 3 ∧ t.clk.tickT ≠ 0 ∧ t.tick.last = some 50000) ∧ hin.clk.tickT = 0 ∧ (hin.port true).st = 2 ∧ hin.closure true = false ∧
      hin.hears false = true ∧ hin.closure false = false ∧ (2 : BitVec 2) ≠ 3 ∧ reached 100050 (hin.at 100051).now = false ∧
      reached 100051 (hin.at 100051).now = true ∧ reached 100051 100052 = false ∧ reached 100053 100052 = true ∧ reached (hin.at 100051).now 98051 = true ∧ (a 100052).armed (2 : BitVec 2).toNat = some (100052, 2) ∧
      hin.clk.lastInv = none ∧ hin.noTicks = false ∧ 2000 ≤ since (hin.at 100051).now 98051 ∧
      (hg hin fun h => { h with aSnap := some (98051, 3) }).hng.aSnap = some (98051, 3) ∧
      (hg hin fun h => { h with aCommit := some (98051, 3) }).hng.aCommit = some (98051, 3) ∧ (a 98051).hng.aReset = some (98051, 2, 2, false) ∧
      reached (hin.at 100051).now 100052 = false ∧
      (hg hin fun h => { h with aSnap := some (100052, 3) }).hng.aReset = none := by decide

theorem witness_RemoteAccess :
    let sel := rg hin [(0x104030, 0x86000000), (0x1C0070, 0x0C000010)]
    let full := ho sel fun h => { h with rwin := (List.range 8).map fun i => (i, 8 * i, 8, 60051) }
    let m := hg hin fun h => { h with mnt := some (5, 60051) }
    hin.alive = true ∧ hin.clk.aGated = none ∧ hin.host.memEn = true ∧ (ho hin fun h => { h with memEn := false }).host.memEn = false ∧ hin.host.rwait = [] ∧ 0xFFFFC < 0x100000 ∧ 0xFFFFC % 8 + 4 ≤ 8 ∧ bit (hin.reg 0x104030) 31 = false ∧ bit (sel.reg 0x104030) 31 = true ∧
      sel.host.rwait = [] ∧ sel.host.rwin.length < 8 ∧ sel.route (fld (sel.reg 0x104030) 30 25) = some true ∧ hin.route 2 = none ∧ 8 ≤ full.host.rwin.length ∧
      full.host.rwin.head? = some (0, 0, 8, 60051) ∧ 40000 ≤ since (full.at 100051).now 60051 ∧ since (full.at 100050).now 60051 < 40000 ∧
      hin.reaches 0x104030 = true ∧ full.host.rwin ≠ [] ∧ hin.host.rwin = [] ∧ hin.reaches 0x1C0068 = true ∧ bit (0xC0000000 : W32) 31 = true ∧
      m.hng.mnt = some ((5 : BitVec 11).toNat, 60051) ∧ hin.hng.mnt = none ∧ sel.route (sel.regF 0x1C0070 31 26) = some true ∧
      hin.route (hin.regF 0x1C0070 31 26) = some false ∧ (rg hin [(0x1C0070, 0x08000000)]).route 2 = none ∧ (hin.port false).st = 2 ∧
      hin.hpos = some (2 : BitVec 6).toNat ∧ hin.hpos ≠ some (3 : BitVec 6).toNat ∧ (hin.port true).st = 2 ∧ early (0x200000 - 0x200000 % 8) = true ∧
      hin.running = true ∧ hin.stalls 0x10000 = false ∧ (ho hin fun h => { h with rwin := [(5, 0x10, 4, 60051)] }).host.rwin = [(5, 0x10, 4, 60051)] := by decide

end Tests
end Sys2Proof
end

/-! Writes that do not reach their register (00_scope R16; 09_host_link R309, R313; 10_clocks R360, R363; 15_thermal R507). -/

namespace Sys2Proof
namespace Machine

/-! The gates in front of a register. -/

/-- `State.reaches` as separate facts: Memory Space is enabled, the block responds, its clocks run. -/
theorem State.reaches_iff (s : State) (off : Nat) :
    s.reaches off = true ↔ s.host.memEn = true ∧ (early off = true ∨ s.running = true ∧ s.th.shut = 0) ∧ s.stalls off = false := by
  simp [State.reaches, and_assoc]

/-- The block of `off` responds: the test of cause 4, which `State.writePW` and `State.busWrite` share, does not fire. -/
theorem responds_gate {s : State} {off : Nat} (h : early off = true ∨ s.running = true ∧ s.th.shut = 0) :
    ¬(!early off && (!s.running || s.th.shut != 0)) = true := by
  rcases h with he | ⟨hr, hs⟩
  · simp [he]
  · simp [hr, hs]

/-- A write of another device, or any write while Memory Space is enabled, is no Unsupported Request. -/
theorem heard_gate {s : State} {w : Wr} (h : s.host.memEn = true ∨ bit w.src 6 = true) : ¬(isLocal w && !s.host.memEn) = true := by
  rcases h with hm | hb
  · simp [hm]
  · simp [isLocal, hb]

/-- The offset a rejected write inside BAR0 leaves in FLT_REJECT_INFO is its own. -/
theorem State.reject_of_lt (s : State) (cause : Nat) (src : BitVec 7) {off : Nat} (h : off < 2 ^ 22) :
    s.reject cause src off =
      { s with flt := { s.flt with rej := s.flt.rej + 1, info := pack 64 [(cause, 60), (src.toNat, 53), (off, 0)] } } := by
  simp only [State.reject, State.modFlt, Nat.mod_eq_of_lt h]

/-! A write to a PW register. -/

theorem State.acceptPW_width (s : State) (off : Nat) {w : Wr} (f : W32 → State) (h : w.nb ≠ 8) : s.acceptPW off w f = s.reject 2 w.src off := by
  simp [State.acceptPW, h]

theorem State.acceptPW_unpaired (s : State) (off : Nat) {w : Wr} (f : W32 → State) (h8 : w.nb = 8) (h : pairOk w.v = false) :
    s.acceptPW off w f = s.reject 1 w.src off := by
  simp [State.acceptPW, h8, h]

/-- A command whose write reaches its PW register: the acceptance rule decides. -/
theorem regCmd_reaches {s : State} (ha : s.alive = true) {off : Nat} (h : s.reaches off = true) (t : Time) (w : Wr) (f : W32 → State → State) :
    regCmd t off w s f = .next ((s.at t).acceptPW off w fun v => f v (s.at t)) := by
  obtain ⟨hmem, hresp, hstall⟩ := (s.reaches_iff off).1 h
  rw [regCmd, timed_alive ha, State.writePW, if_neg (heard_gate (s := s.at t) (.inl hmem)), if_neg (responds_gate (s := s.at t) hresp),
    State.stalls_at, hstall, if_neg Bool.false_ne_true]

/-- `c` is a write of `w` to the PW register at BAR0 offset `off`, whatever the state. -/
structure IsPairWrite (c : Instr) (t : Time) (off : Nat) (w : Wr) : Prop where
  lt : off < 2 ^ 22
  exec_eq : ∃ f, ∀ s, exec c s = regCmd t off w s f

/-- The commands named after a PW register of their own, one for each kind, write that register. -/
theorem isPairWrite_commands (t : Time) (w : Wr) :
    ∀ p ∈ [(Instr.commitGo t w, 0x20), (.snapshotTake t w, 0x18), (.seqSwapGo t w, 0x20010), (.lockAcquire t w, 0x20018),
        (.holdTrigFire t w, 0x20038), (.dark t w, 0x40000), (.restartAll t w, 0x50000), (.teLoadGo t w, 0x50030), (.teCyclesClear t w, 0x50028),
        (.ringStart t 3 w, 0x101340), (.tailWrite t 3 w, 0x101368), (.slackClear t 3 w, 0x101328), (.fire t w, 0x180040),
        (.clkRefSrcWrite t w, 0x180008), (.pxStart t 2 w, 0x1A0800), (.barrierEnter t w, 0x1C0048), (.schedGo t w, 0x1C0050),
        (.mntRead t w, 0x1C0068), (.hngBcastTx t w, 0x1C0038), (.thAck t w, 0x1E0018), (.rearm t w, 0x1E0020), (.attest t w, 0x202000),
        (.rwinSelWrite t w, 0x104030)], IsPairWrite p.1 t p.2 w := by
  simp only [List.forall_mem_cons, List.not_mem_nil, false_implies, implies_true, and_true]
  and_intros <;> exact ⟨by decide, ⟨_, fun _ => rfl⟩⟩

/-- A pair write that reaches its register and is not one 64-bit write is rejected for its width. -/
theorem IsPairWrite.exec_width {c : Instr} {t : Time} {off : Nat} {w : Wr} (hc : IsPairWrite c t off w) {s : State} (ha : s.alive = true)
    (h : s.reaches off = true) (hw : w.nb ≠ 8) : exec c s = .next ((s.at t).reject 2 w.src off) := by
  obtain ⟨f, hf⟩ := hc.exec_eq
  rw [hf, regCmd_reaches ha h, State.acceptPW_width _ _ _ hw]

/-- A pair write that reaches its register and whose halves do not complement is rejected for its pair. -/
theorem IsPairWrite.exec_unpaired {c : Instr} {t : Time} {off : Nat} {w : Wr} (hc : IsPairWrite c t off w) {s : State} (ha : s.alive = true)
    (h : s.reaches off = true) (h8 : w.nb = 8) (hp : pairOk w.v = false) : exec c s = .next ((s.at t).reject 1 w.src off) := by
  obtain ⟨f, hf⟩ := hc.exec_eq
  rw [hf, regCmd_reaches ha h, State.acceptPW_unpaired _ _ _ h8 hp]

/-! REGISTER_WRITE. -/

theorem exec_registerWrite {s : State} (ha : s.alive = true) (t : Time) (off : Nat) (w : Wr) :
    exec (.registerWrite t off w) s = .next ((s.at t).busWrite off w) := timed_alive ha t fun s => s.busWrite off w

section BusWrite
variable {s : State} {off : Nat} {w : Wr}

theorem State.busWrite_disabled (hm : s.host.memEn = false) (hb : bit w.src 6 = false) : s.busWrite off w = s.aer 20 := by
  simp [State.busWrite, isLocal, hm, hb]

theorem State.busWrite_closed (hlt : off < 0x300000) (hh : s.host.memEn = true ∨ bit w.src 6 = true) (he : early off = false)
    (hc : s.running = false ∨ s.th.shut ≠ 0) : s.busWrite off w = s.reject 4 w.src off := by
  have hgate : (!early off && (!s.running || s.th.shut != 0)) = true := by simpa [he] using hc
  rw [State.busWrite, if_neg (heard_gate hh), if_neg (by omega), if_neg (by omega), if_pos hgate]

/-- Inside the registers, a write whose block responds waits while its clocks are gated, and otherwise reaches its register. -/
theorem State.busWrite_open (hlt : off < 0x300000) (hh : s.host.memEn = true ∨ bit w.src 6 = true)
    (hr : early off = true ∨ s.running = true ∧ s.th.shut = 0) :
    s.busWrite off w =
      if s.stalls off then s.modClk fun c => { c with wait := c.wait ++ [{ t := s.now, off := off, nb := w.nb, w := some w, rem := none }] }
      else s.regWrite off w := by
  rw [State.busWrite, if_neg (heard_gate hh), if_neg (by omega), if_neg (by omega), if_neg (responds_gate hr)]

/-- The MSI-X PBA is a plain 64-bit register. -/
theorem State.live_pba (s : State) : s.live 0x109000 = some (.w64 s.host.pba) := rfl

/-- A write whose first byte lies in a PW register takes neither the path of the MSI-X table nor that of the PBA. -/
theorem State.regWrite_pw {v : W32} (hm : ¬(0x108000 ≤ off ∧ off < 0x108400)) (hl : s.live (off - off % 8) = some (.pw v)) :
    s.regWrite off w = if off % 8 ≠ 0 then s.reject 2 w.src off else s.acceptPW off w fun v => s.pwWrite off w v := by
  have hpba : ¬(0x109000 ≤ off ∧ off < 0x109008) := by
    intro h
    rw [show off - off % 8 = 0x109000 by omega, State.live_pba] at hl
    cases hl
  unfold State.regWrite
  rw [if_neg (by simpa using hm), if_neg (by simp only [Bool.and_eq_true, decide_eq_true_eq]; tauto), hl]
  simp

/-- A write into a PW register that is not one aligned 64-bit write is rejected for its width. -/
theorem State.regWrite_width {v : W32} (hm : ¬(0x108000 ≤ off ∧ off < 0x108400)) (hl : s.live (off - off % 8) = some (.pw v))
    (hw : w.nb ≠ 8 ∨ off % 8 ≠ 0) : s.regWrite off w = s.reject 2 w.src off := by
  rw [State.regWrite_pw hm hl]
  split
  · rfl
  · next h8 => exact State.acceptPW_width _ _ _ (hw.resolve_right h8)

/-- An aligned 64-bit write to a PW register whose halves do not complement is rejected for its pair. -/
theorem State.regWrite_unpaired {v : W32} (hm : ¬(0x108000 ≤ off ∧ off < 0x108400)) (hl : s.live (off - off % 8) = some (.pw v))
    (h8 : w.nb = 8) (ho : off % 8 = 0) (hp : pairOk w.v = false) : s.regWrite off w = s.reject 1 w.src off := by
  rw [State.regWrite_pw hm hl, if_neg (by simpa using ho), State.acceptPW_unpaired _ _ _ h8 hp]

end BusWrite

/-- A REGISTER_WRITE that reaches its register. -/
theorem exec_registerWrite_reaches {s : State} (ha : s.alive = true) {off : Nat} (hlt : off < 0x300000) (h : s.reaches off = true) (t : Time)
    (w : Wr) : exec (.registerWrite t off w) s = .next ((s.at t).regWrite off w) := by
  obtain ⟨hmem, hresp, hstall⟩ := (s.reaches_iff off).1 h
  rw [exec_registerWrite ha, State.busWrite_open (s := s.at t) hlt (.inl hmem) hresp, State.stalls_at, hstall, if_neg Bool.false_ne_true]

/-- Settles O7: each gate in front of a register is one case of `State.busWrite` and `State.writePW`. -/
theorem rejectedWrites : Obligations.RejectedWrites := by
  unfold Obligations.RejectedWrites
  refine ⟨fun s t w ha => ?_, fun s t off w ha hlt => ⟨fun hheard => ⟨fun he hc => ?_, fun hr hst => ?_⟩, fun hm hb => ?_⟩⟩
  · intro rejected
    have rejected_of : ∀ {c off cause}, off < 2 ^ 22 → exec c s = .next ((s.at t).reject cause w.src off) → rejected c off cause :=
      fun hoff h => h.trans (congrArg _ (State.reject_of_lt _ _ _ hoff))
    refine ⟨fun off v hlt hmsix hlive hreach => ?_, fun p hp hreach => ?_⟩
    · have hexec := exec_registerWrite_reaches ha hlt hreach t w
      have hoff : off < 2 ^ 22 := by omega
      exact ⟨fun hw => rejected_of hoff (by rw [hexec, State.regWrite_width hmsix hlive hw]),
        fun h8 ho hpair => rejected_of hoff (by rw [hexec, State.regWrite_unpaired hmsix hlive h8 ho hpair])⟩
    · have hc := isPairWrite_commands t w p hp
      exact ⟨fun hw => rejected_of hc.lt (hc.exec_width ha hreach hw), fun h8 hpair => rejected_of hc.lt (hc.exec_unpaired ha hreach h8 hpair)⟩
  · rw [exec_registerWrite ha, State.busWrite_closed (s := s.at t) hlt hheard he hc]
    rfl
  · rw [exec_registerWrite ha, State.busWrite_open (s := s.at t) hlt hheard hr, State.stalls_at, hst, if_pos rfl]
    rfl
  · rw [exec_registerWrite ha, State.busWrite_disabled (s := s.at t) hm hb, State.aer_eq]
    rfl

end Machine
end Sys2Proof

/-! The sequence table: its lock, writes to its banks, and their swap (03_sequence_table R111 to R122). -/

namespace Sys2Proof
namespace Machine

/-! What interrupts, event records and T_min leave unchanged. -/

/-- A message changes the host link but for its cause bits, and what the block shows. -/
theorem State.msix_frame (s : State) (v : Nat) : ∃ h o, s.msix v = { s with host := h, out := o } ∧ h.cause = s.host.cause := by
  have send : ∃ h o, s.msixSend v = { s with host := h, out := o } ∧ h.cause = s.host.cause := by
    unfold State.msixSend
    split <;> exact ⟨_, _, rfl, rfl⟩
  unfold State.msix
  dsimp only
  split_ifs
  · exact ⟨_, _, rfl, rfl⟩
  · exact ⟨_, _, rfl, rfl⟩
  · exact send

/-- An event of vectors 16 to 27 leaves its cause bit set, and changes nothing outside the host link and what the block shows. -/
theorem State.raise_frame (s : State) {v : Nat} (hv : v < 28) :
    ∃ h o, s.raise v = { s with host := h, out := o } ∧ h.cause.getLsbD (v - 16) = true := by
  unfold State.raise
  split
  · next hset => exact ⟨_, _, rfl, hset⟩
  · obtain ⟨h, o, heq, hc⟩ := (s.modHost fun h => { h with cause := h.cause ||| (1#12 <<< (v - 16)) }).msix_frame v
    refine ⟨h, o, heq, ?_⟩
    simp [hc, show v - 16 < 12 by omega]

/-- A staged device record changes the result fabric only. -/
theorem State.stage_frame (s : State) (ws : List W64) : ∃ f, s.stage ws = { s with fab := f } := by
  unfold State.stage
  split_ifs <;> exact ⟨_, rfl⟩

/-- Records staged on any of the channels change the result fabric only. -/
theorem State.stageOn_frame (s : State) (ok : State → Nat → Bool) (mk : Nat → List W64) : ∃ f, s.stageOn ok mk = { s with fab := f } := by
  unfold State.stageOn
  generalize List.range 16 = chans
  induction chans generalizing s with
  | nil => exact ⟨_, rfl⟩
  | cons ch chans ih =>
    rw [List.foldl_cons]
    split
    · obtain ⟨f, hf⟩ := s.stage_frame (mk ch)
      rw [hf]
      exact ih _
    · exact ih s

/-- An EVENT record changes the result fabric, and uses one free value. -/
theorem State.event_frame (s : State) (code line : Nat) (enc : B48) (time : Time) (d1 d2 : Nat) :
    ∃ f, s.event code line enc time d1 d2 = { s with fab := f, free := s.free + 1 } := s.useFree.stageOn_frame _ _

/-- NEXT and WORST computed again: nothing else changes. -/
theorem State.minPeriod_frame (s : State) :
    s.minPeriod = { s with tick := { s.tick with next := s.minPeriod.tick.next, worst := s.minPeriod.tick.worst } } := rfl

/-! The lock (R118 to R120, R122). -/

/-- The lock of a held table is given up, and edits that no swap waits for are discarded by a copy. -/
theorem State.unlock_held {s : State} (hh : s.seq.held = true) : s.unlock = { s with
    seq := { s.seq with held := false, token := 0, src := 0, lease := 0, copy := s.seq.copy || !s.seq.swap } } := if_pos hh

/-- A write refused for the lock counts in SEQ_REJECT.LOCK and in GLB_WRITE_REJECT. -/
theorem State.seqReject_of_lt (s : State) (cause : Nat) (src : BitVec 7) {off : Nat} (h : off < 2 ^ 22) : s.seqReject cause src off = { s with
    seq := { s.seq with rejLock := s.seq.rejLock + 1 }
    flt := { s.flt with rej := s.flt.rej + 1, info := pack 64 [(cause, 60), (src.toNat, 53), (off, 0)] } } := State.reject_of_lt _ _ _ h

section LockWrite

variable {s : State} {w : Wr} {v : W32}

theorem State.lockWrite_acquire (hh : s.seq.held = false) (ht : (v.setWidth 16 : BitVec 16) ≠ 0) (hr : bit v 31 = false) :
    s.lockWrite w v = (s.modSeq fun q => { q with held := true, token := v.setWidth 16, src := w.src }).renew :=
  if_pos (by simpa [hh, hr] using ht)

theorem State.lockWrite_holder (hh : s.seq.held = true) (hs : s.seq.src = w.src) (ht : s.seq.token = v.setWidth 16) :
    s.lockWrite w v = if bit v 31 then s.unlock else s.renew := by
  simp [State.lockWrite, hh, hs, ht]

/-- A write that neither acquires the lock nor comes from its holder. -/
theorem State.lockWrite_rejected (h : (s.seq.held = false ∧ ((v.setWidth 16 : BitVec 16) = 0 ∨ bit v 31 = true)) ∨
    (s.seq.held = true ∧ (s.seq.src ≠ w.src ∨ s.seq.token ≠ v.setWidth 16))) : s.lockWrite w v = s.seqReject 5 w.src 0x20018 := by
  rcases h with ⟨hh, ht | hr⟩ | ⟨hh, hs | ht⟩
  · simp [State.lockWrite, hh, ht]
  · simp [State.lockWrite, hh, hr]
  · simp [State.lockWrite, hh, hs]
  · simp [State.lockWrite, hh, ht]

end LockWrite

/-- The three commands of the lock are one write to SEQ_LOCK: its fields say which operation it is. -/
theorem exec_lockCommands (t : Time) (w : Wr) (s : State) :
    ∀ c ∈ [Instr.lockAcquire t w, .lockRenew t w, .lockRelease t w], exec c s = regCmd t 0x20018 w s fun v s => s.lockWrite w v := by
  simp only [List.forall_mem_cons, List.not_mem_nil, false_implies, implies_true, and_true]
  and_intros <;> rfl

/-- The lease of a held table that has run out gives the lock up. -/
theorem exec_leaseExpiry {s : State} (hr : s.running = true) (t : Time) : exec (.leaseExpiry t) s =
    .next (if s.seq.held && reached (s.at t).now s.seq.lease then (s.at t).unlock else s.at t) := inRun_running hr t _

/-- Settles O19: the operations of SEQ_LOCK are the cases of `State.lockWrite`, and the lease is `State.unlock`. -/
theorem sequenceLock : Obligations.SequenceLock := by
  unfold Obligations.SequenceLock
  intro s t v src hr
  refine ⟨fun hreach c hc => ?_, fun hh hl => ?_, fun hl => ?_⟩
  · rw [exec_lockCommands t _ s c hc, regCmd_good (State.alive_of_running hr) _ hreach]
    refine ⟨fun hh ht hrel => ?_, fun hh hs ht => ?_, fun hbad => ?_⟩
    · rw [State.lockWrite_acquire (s := s.at t) (w := goodWr v src) hh ht hrel]
      rfl
    · rw [State.lockWrite_holder (s := s.at t) (w := goodWr v src) hh hs ht, State.unlock_held (s := s.at t) hh]
      split <;> rfl
    · rw [State.lockWrite_rejected (s := s.at t) (w := goodWr v src) hbad, State.seqReject_of_lt _ _ _ (by decide)]
      rfl
  · rw [exec_leaseExpiry hr, if_pos (by rw [hh, reached, decide_eq_true hl]; rfl), State.unlock_held (s := s.at t) hh]
    rfl
  · rw [exec_leaseExpiry hr, if_neg (by rw [reached, decide_eq_false hl.not_gt, Bool.and_false]; exact Bool.false_ne_true)]

/-! Writes to a bank (R99, R111, R112, R120). -/

/-- A register of the sensor blocks is reached only in a live device: those blocks do not respond before RUN. -/
theorem State.alive_of_reaches {s : State} {off : Nat} (he : early off = false) (h : s.reaches off = true) : s.alive = true := by
  obtain ⟨-, hresp, -⟩ := (s.reaches_iff off).1 h
  rw [he] at hresp
  exact State.alive_of_running (hresp.resolve_left Bool.false_ne_true).1

/-- Word `j` of entry `n` of a bank is a register of its own: its place tells its bank, and that it stores the bits of word `j`. -/
theorem entryWord_offset {b : Bool} {n j off : Nat} (hn : n < 64) (hj : j < 4) (h : off = bankBase b + 0x20 * n + 8 * j) :
    0x21000 ≤ off ∧ off < 0x23000 ∧ decide (0x22000 ≤ off) = b ∧ rwReg off = some (0, entryMask j, false) := by
  have hword : off % 32 / 8 = j ∧ off % 8 = 0 := by cases b <;> simp only [bankBase] at h <;> simp at h <;> omega
  have hbank : (0x21000 ≤ off ∧ off < 0x21800 ∧ b = false) ∨ (0x22000 ≤ off ∧ off < 0x22800 ∧ b = true) := by
    cases b <;> simp only [bankBase] at h <;> simp at h ⊢ <;> omega
  unfold rwReg
  rcases hbank with ⟨hlo, hhi, rfl⟩ | ⟨hlo, hhi, rfl⟩
  · exact ⟨by omega, by omega, decide_eq_false (by omega), by simp [hword, hlo, hhi]⟩
  · exact ⟨by omega, by omega, decide_eq_true (by omega), by simp [hword, hlo, hhi]⟩

/-- A paired BANK_WRITE that reaches an entry word. -/
theorem exec_bankWrite_entry {s : State} {off : Nat} {r : W32 × W32 × Bool} (hlo : 0x21000 ≤ off) (hhi : off < 0x23000) (hrw : rwReg off = some r)
    (h : s.reaches off = true) (t : Time) (v : W32) (src : BitVec 7) :
    exec (.bankWrite t off (goodWr v src)) s = .next ((s.at t).bankWrite off (goodWr v src) v) := by
  have he : early off = false := by simp [early]; omega
  have hexec : exec (.bankWrite t off (goodWr v src)) s = execBankWrite t off (goodWr v src) s := rfl
  rw [hexec, execBankWrite, regCmd_good (State.alive_of_reaches he h) _ h, hrw]
  simp [hlo, hhi]

/-- A stored write of a register that is not banked puts its stored bits in force, and takes the place of a pending repair. -/
theorem State.storeReg_unbanked (s : State) {off : Nat} {r m : W32} (hrw : rwReg off = some (r, m, false)) (v : W32) :
    s.storeReg off v = { s.putReg off (v &&& m) with flt := { s.flt with repair := s.flt.repair.filter (· != off) } } := by
  simp [State.storeReg, hrw]

section BankWrite

variable {s : State} {off : Nat} {w : Wr} {v : W32}

/-- A write to the active bank, or during a swap or a copy, is rejected with cause 4. -/
theorem State.bankWrite_busy (h : decide (0x22000 ≤ off) = s.seq.act ∨ s.seq.swap = true ∨ s.seq.copy = true) :
    s.bankWrite off w v = (s.modSeq fun q => { q with rejBank := q.rejBank + 1 }).reject 4 w.src off :=
  if_pos (by simpa [or_assoc] using h)

/-- A write to the inactive bank by another source than the lock's holder is rejected with cause 5. -/
theorem State.bankWrite_stranger (ha : decide (0x22000 ≤ off) ≠ s.seq.act) (hs : s.seq.swap = false) (hc : s.seq.copy = false)
    (h : s.seq.held = false ∨ s.seq.src ≠ w.src) : s.bankWrite off w v = s.seqReject 5 w.src off := by
  unfold State.bankWrite
  rw [if_neg (by simpa [hs, hc] using ha), if_pos (by simpa [imp_iff_not_or] using h)]

/-- The holder's write to the inactive bank stores the stored bits of the word, and renews the lease. -/
theorem State.bankWrite_holder {r m : W32} (hrw : rwReg off = some (r, m, false)) (hoff : off ≠ 0x20020) (ha : decide (0x22000 ≤ off) ≠ s.seq.act)
    (hs : s.seq.swap = false) (hc : s.seq.copy = false) (hh : s.seq.held = true) (hsrc : s.seq.src = w.src) :
    s.bankWrite off w v = { s.putReg off (v &&& m) with
      seq := { s.seq with edited := true, lease := s.now + BitVec.ofNat 64 (s.regF 0x20020 15 0 * 2000000) }
      flt := { s.flt with repair := s.flt.repair.filter (· != off) } } := by
  have hlease : (s.putReg off (v &&& m)).regF 0x20020 15 0 = s.regF 0x20020 15 0 := congrArg (fld · 15 0) (s.reg_putReg_ne off _ _ hoff.symm)
  unfold State.bankWrite
  rw [if_neg (by simpa [hs, hc] using ha), if_neg (by simp [hh, hsrc]), s.storeReg_unbanked hrw, ← hlease]
  rfl

end BankWrite

/-! The swap (R113 to R117, R122). -/

@[simp] theorem State.bankLen_at (s : State) (t : Time) (b : Bool) : (s.at t).bankLen b = s.bankLen b := rfl
@[simp] theorem State.entW_at (s : State) (t : Time) (b : Bool) (n j : Nat) : (s.at t).entW b n j = s.entW b n j := rfl

/-- GO by the lock's holder, with no swap or copy in progress, starts the swap and renews the lease. -/
theorem State.swapWrite_go {s : State} {w : Wr} {v : W32} (hg : bit v 31 = true) (hh : s.seq.held = true) (hs : s.seq.src = w.src)
    (ht : s.seq.token = v.setWidth 16) (hswap : s.seq.swap = false) (hc : s.seq.copy = false) : s.swapWrite w v =
      (s.modSeq fun q => { q with swap := true, valid := false, invalid := false, early := s.regF 0x20000 31 31 == 1 }).renew := by
  simp [State.swapWrite, hg, hh, hs, ht, hswap, hc]

/-- What holds of the default and of every entry of a table holds of whatever is read from it. -/
theorem Tbl.get_of_forall {α : Type} {P : α → Prop} {d : α} {t : Tbl α} (hd : P d) (h : ∀ p ∈ t, P p.2) (k : Nat) : P (Tbl.get d t k) := by
  induction t with
  | nil => exact hd
  | cons p r ih =>
    obtain ⟨j, x⟩ := p
    obtain ⟨hx, hr⟩ := List.forall_mem_cons.1 h
    rw [Tbl.get]
    split
    · exact hx
    · exact ih hr

/-- Every result register loses VALID (bit 54) and FRESH (bit 55) at a swap. -/
theorem swapSeq_tidy_res (q : Seq) (n : Nat) :
    (Tbl.get 0 (swapSeq q).tidy.res n).getLsbD 54 = false ∧ (Tbl.get 0 (swapSeq q).tidy.res n).getLsbD 55 = false := by
  refine Tbl.get_of_forall (P := fun x : W64 => x.getLsbD 54 = false ∧ x.getLsbD 55 = false) (by decide) (fun p hp => ?_) n
  obtain ⟨p₀, -, rfl⟩ := List.mem_map.1 (List.mem_of_mem_filter hp)
  simp

/-- A swap that takes effect: the sequencer starts with the other bank, an EVENT record is made, and vector 17 is raised. -/
theorem State.swapEffect_frame (s : State) (n : Nat) (enc : B48) (t : Time) : ∃ f h o, s.swapEffect n enc t =
    { s with seq := (swapSeq s.seq).tidy, fab := f, host := h, out := o, free := s.free + 1 } ∧ h.cause.getLsbD 1 = true := by
  obtain ⟨f, hf⟩ := State.event_frame (s.modSeq fun q => (swapSeq q).tidy) 0x03 n enc t (!s.seq.act).toNat 0
  obtain ⟨h, o, hr, hc⟩ := State.raise_frame ((s.modSeq fun q => (swapSeq q).tidy).event 0x03 n enc t (!s.seq.act).toNat 0) (v := 17) (by decide)
  have hswap : s.swapEffect n enc t = ((s.modSeq fun q => (swapSeq q).tidy).event 0x03 n enc t (!s.seq.act).toNat 0).raise 17 := rfl
  refine ⟨f, h, o, ?_, hc⟩
  rw [hswap, hr, hf]
  rfl

/-- Words put 8 bytes apart read as they were put. -/
theorem State.reg_foldl_putReg (s : State) (base : Nat) (word : Nat → W32) {k i : Nat} (hi : i < k) :
    ((List.range k).foldl (fun s i => s.putReg (base + 8 * i) (word i)) s).reg (base + 8 * i) = word i := by
  induction k with
  | zero => omega
  | succ k ih =>
    rw [List.range_succ, List.foldl_append, List.foldl_cons, List.foldl_nil]
    rcases Nat.lt_succ_iff_lt_or_eq.1 hi with hlt | rfl
    · rw [State.reg_putReg_ne _ _ _ _ (by omega), ih hlt]
    · exact State.reg_putReg_same ..

/-- Words put one after the other change the registers only. -/
theorem State.foldl_putReg_frame (s : State) (off : Nat → Nat) (word : Nat → W32) (is : List Nat) :
    ∃ r, is.foldl (fun s i => s.putReg (off i) (word i)) s = { s with regs := r } := by
  induction is generalizing s with
  | nil => exact ⟨_, rfl⟩
  | cons i is ih => exact ih _

/-- The copy changes registers only, and leaves the words and the length of the inactive bank equal to those of the active one. -/
theorem State.copyBank_frame (s : State) : ∃ r, s.copyBank = { s with regs := r } ∧
    ∀ i, i < 257 → { s with regs := r }.reg (bankBase (!s.seq.act) + 8 * i) = s.reg (bankBase s.seq.act + 8 * i) := by
  obtain ⟨r, hr⟩ := s.foldl_putReg_frame (bankBase (!s.seq.act) + 8 * ·) (fun i => s.reg (bankBase s.seq.act + 8 * i)) (List.range 257)
  refine ⟨r, hr, fun i hi => ?_⟩
  rw [← hr]
  exact s.reg_foldl_putReg _ _ hi

theorem exec_seqSwapGo (t : Time) (w : Wr) (s : State) : exec (.seqSwapGo t w) s = regCmd t 0x20010 w s fun v s => s.swapWrite w v := rfl

theorem exec_swapValidated (t : Time) (s : State) : exec (.swapValidated t) s = execSwapValidated t s := rfl
theorem exec_swapNoTick (t : Time) (s : State) : exec (.swapNoTick t) s = execSwapNoTick t s := rfl
theorem exec_copyComplete (t : Time) (s : State) : exec (.copyComplete t) s = execCopyComplete t s := rfl

section SwapEvents

variable {s : State} (hr : s.running = true) (t : Time)
include hr

/-- A legal table: the swap is validated. -/
theorem exec_swapValidated_legal (hs : s.seq.swap = true) (hv : s.seq.valid = false)
    (hbad : tableBad s.boot.chains (s.bankLen !s.seq.act) (fun n w => s.entW (!s.seq.act) n w) = none) :
    exec (.swapValidated t) s = .next (((s.at t).modSeq fun q => { q with valid := true }).minPeriod) := by
  rw [exec_swapValidated, execSwapValidated, inRun_running hr]
  simp [hs, hv, hbad]

/-- An illegal table: the swap ends. -/
theorem exec_swapValidated_illegal (hs : s.seq.swap = true) (hv : s.seq.valid = false) {x : W32}
    (hbad : tableBad s.boot.chains (s.bankLen !s.seq.act) (fun n w => s.entW (!s.seq.act) n w) = some x) : exec (.swapValidated t) s =
      .next (((s.at t).modSeq fun q => { q with swap := false, early := false, invalid := true, bad := x }).raise 17) := by
  rw [exec_swapValidated, execSwapValidated, inRun_running hr]
  simp [hs, hv, hbad]

/-- A validated swap takes effect at once where no tick is to be waited for. -/
theorem exec_swapNoTick_due (hs : s.seq.swap = true) (hv : s.seq.valid = true) (hn : s.noTicks = false)
    (hst : s.tick.st = 0 ∨ (s.tick.st = 1 ∧ s.tick.ticked = false)) :
    exec (.swapNoTick t) s = .next (((s.at t).swapEffect s.tick.line.toNat s.encNow (s.at t).now).minPeriod) := by
  obtain ⟨hgate, hintr⟩ := Bool.or_eq_false_iff.1 hn
  rw [exec_swapNoTick, execSwapNoTick, inRun_running hr, if_pos]
  · rfl
  · simpa [hs, hv, hgate, Option.isSome_eq_false_iff.1 hintr] using hst

/-- The end of a copy: edits it discarded are reported. -/
theorem exec_copyComplete_busy (hc : s.seq.copy = true) : exec (.copyComplete t) s =
    .next (let s1 := (s.at t).copyBank.modSeq fun q => { q with copy := false, discarded := q.discarded || q.edited, edited := false }
      if s.seq.edited then s1.raise 17 else s1) := by
  rw [exec_copyComplete, execCopyComplete, inRun_running hr, if_pos (show (s.at t).seq.copy = true from hc)]
  rfl

end SwapEvents

/-- Settles O20: the cases of `State.bankWrite` for a write to a bank, and one lemma for each step of the swap. -/
theorem bankWritesAndSwap : Obligations.BankWritesAndSwap := by
  unfold Obligations.BankWritesAndSwap
  refine ⟨?_, ?_⟩
  · intro s t v src n j b hn hj q off hreach lease rejected
    obtain ⟨hlo, hhi, hbank, hrw⟩ := entryWord_offset (off := off) hn hj rfl
    have hexec := exec_bankWrite_entry hlo hhi hrw hreach t v src
    have hoff : off < 2 ^ 22 := by omega
    refine ⟨fun ha hs hc hh hsrc => ?_, fun hbusy => ?_, fun ha hs hc hl => ?_⟩
    · rw [State.bankWrite_holder (s := s.at t) (w := goodWr v src) hrw (by omega) (by rwa [hbank]) hs hc hh hsrc] at hexec
      exact ⟨_, hexec, State.reg_putReg_same .., fun o ho => State.reg_putReg_ne (s.at t) off o _ ho, rfl⟩
    · rw [State.bankWrite_busy (s := s.at t) (by rwa [hbank]), State.reject_of_lt _ _ _ hoff] at hexec
      exact hexec
    · rw [State.bankWrite_stranger (s := s.at t) (w := goodWr v src) (by rwa [hbank]) hs hc hl, State.seqReject_of_lt _ _ _ hoff] at hexec
      exact hexec
  · intro s t v src hr
    refine ⟨fun hreach hg hh hs ht hswap hc => ?_, fun hswap hv hbad => ?_, fun x hswap hv hbad => ?_, fun hswap hv hn hst => ?_, fun hc => ?_⟩
    · rw [exec_seqSwapGo, regCmd_good (State.alive_of_running hr) _ hreach,
        State.swapWrite_go (s := s.at t) (w := goodWr v src) hg hh hs ht hswap hc]
      rfl
    · exact ⟨_, exec_swapValidated_legal hr t hswap hv hbad, rfl⟩
    · obtain ⟨h, o, heq, hcause⟩ := State.raise_frame
        ((s.at t).modSeq fun q => { q with swap := false, early := false, invalid := true, bad := x }) (v := 17) (by decide)
      refine ⟨_, exec_swapValidated_illegal hr t hswap hv hbad, ?_⟩
      rw [heq]
      exact ⟨rfl, hcause, rfl⟩
    · obtain ⟨f, h, o, heq, hcause⟩ := (s.at t).swapEffect_frame s.tick.line.toNat s.encNow (s.at t).now
      refine ⟨_, exec_swapNoTick_due hr t hswap hv hn hst, ?_⟩
      rw [State.minPeriod_frame, heq]
      exact ⟨rfl, rfl, rfl, rfl, swapSeq_tidy_res s.seq, hcause, rfl⟩
    · obtain ⟨r, heq, hcopied⟩ := (s.at t).copyBank_frame
      refine ⟨_, exec_copyComplete_busy hr t hc, ?_⟩
      rw [heq]
      dsimp only
      split
      · obtain ⟨h, o, hraise, -⟩ := State.raise_frame (({ s.at t with regs := r }).modSeq fun q =>
          { q with copy := false, discarded := q.discarded || q.edited, edited := false }) (v := 17) (by decide)
        rw [hraise]
        exact ⟨hcopied, rfl, rfl⟩
      · exact ⟨hcopied, rfl, rfl⟩

end Machine
end Sys2Proof

/-! Predicated forms of engine instructions, and the fields that make one ILLEGAL (06_tile_engine_isa R190, R199 to R211, R226, R233). -/

namespace Sys2Proof
namespace Machine

/-! The predicate of an R-form instruction (R199 to R201). -/

section Predicate

variable (s : State) (e : Nat) (x : Engine) (lanes : Bool) (ln : BitVec 2) {fl : BitVec 2} (k : State)

theorem rForm_reserved (fl : BitVec 2) : rForm s e x lanes ln 3 fl k = s.raiseExc e 1 0 0 := rfl

theorem rForm_unconditional_flag (h : fl ≠ 0) : rForm s e x lanes ln 0 fl k = s.raiseExc e 1 0 0 := by
  rw [rForm, if_pos (by simpa using h)]

theorem rForm_ifSet_false (h : x.flag fl = false) : rForm s e x lanes ln 1 fl k = s.doneEng e 1 id := by
  simp [rForm, h]

theorem rForm_ifClear_false (h : x.flag fl = true) : rForm s e x lanes ln 2 fl k = s.doneEng e 1 id := by
  simp [rForm, h]

theorem rForm_ifSet_true (h : x.flag fl = true) : rForm s e x lanes ln 1 fl k = rForm s e x lanes ln 0 0 k := by
  simp [rForm, h]

theorem rForm_ifClear_true (h : x.flag fl = false) : rForm s e x lanes ln 2 fl k = rForm s e x lanes ln 0 0 k := by
  simp [rForm, h]

theorem rForm_laneless {ln : BitVec 2} (h : ln ≠ 0) : rForm s e x false ln 0 0 k = s.raiseExc e 1 0 0 := by
  rw [rForm, if_neg (by decide), if_neg (by simp), if_pos (by simpa using h)]

end Predicate

/-- An instruction that was not blocked and has no effect is only counted. -/
theorem Engine.done_id {x : Engine} (hb : x.blk = none) (now : Time) (cyc : Nat) : x.done now cyc true id = x.after cyc := by
  simp [Engine.done, Engine.after, hb]

/-- The instruction raises ILLEGAL (R233), and does nothing else. -/
def RaisesIllegal (s : State) (t : Time) (e : Nat) (c : Instr) : Prop := exec c s = .next ((s.at t).raiseExc e 1 0 0)

/-- In state `s` the instruction with the fields `c`, lane mode, condition and flag index, is governed by `rForm`: its predicate is decided before
anything else of it, and what it does when taken depends on its lane mode alone. -/
def RunsRForm (s : State) (t : Time) (e : Nat) (lanes : Bool) (c : BitVec 2 → BitVec 2 → BitVec 2 → Instr) : Prop :=
  ∃ k : BitVec 2 → State, ∀ ln pc fl, exec (c ln pc fl) s = .next (rForm (s.at t) e (s.eng e) lanes ln pc fl (k ln))

section RunsRForm

variable {s : State} {t : Time} {e : Nat} {lanes : Bool} {c : BitVec 2 → BitVec 2 → BitVec 2 → Instr}

/-- An instruction of a ready engine whose meaning `m` starts with `rForm`. -/
theorem runsRForm_of_ready (h : EngineReady s e) (m : BitVec 2 → BitVec 2 → BitVec 2 → State → Host.Outcome State Fault Refusal)
    (k : BitVec 2 → State → Engine → State) (hc : ∀ ln pc fl, exec (c ln pc fl) s = m ln pc fl s)
    (hm : ∀ ln pc fl, m ln pc fl s = teOp t e s fun s x => rForm s e x lanes ln pc fl (k ln s x)) : RunsRForm s t e lanes c :=
  ⟨fun ln => k ln (s.at t) (s.eng e), fun ln pc fl => (hc ln pc fl).trans ((hm ln pc fl).trans (teOp_ready h t _))⟩

/-- The clauses of R199 to R201 on the predicate, one for each condition and value of the flag. -/
theorem RunsRForm.predicated (hc : RunsRForm s t e lanes c) (hb : (s.eng e).blk = none) (ln fl : BitVec 2) :
    RaisesIllegal s t e (c ln 3 fl) ∧
    (fl ≠ 0 → RaisesIllegal s t e (c ln 0 fl)) ∧
    ((s.eng e).flag fl = false → ∃ s', exec (c ln 1 fl) s = .next s' ∧ EngineWent s s' t e ((s.eng e).after 1)) ∧
    ((s.eng e).flag fl = true → ∃ s', exec (c ln 2 fl) s = .next s' ∧ EngineWent s s' t e ((s.eng e).after 1)) ∧
    ((s.eng e).flag fl = true → exec (c ln 1 fl) s = exec (c ln 0 0) s) ∧
    ((s.eng e).flag fl = false → exec (c ln 2 fl) s = exec (c ln 0 0) s) := by
  obtain ⟨k, hk⟩ := hc
  have skipped : EngineWent s ((s.at t).doneEng e 1 id) t e ((s.eng e).after 1) := doneEng_went t 1 id (Engine.done_id hb _ 1).symm
  refine ⟨?_, fun h => ?_, fun h => ⟨_, ?_, skipped⟩, fun h => ⟨_, ?_, skipped⟩, fun h => ?_, fun h => ?_⟩
  · rw [RaisesIllegal, hk, rForm_reserved]
  · rw [RaisesIllegal, hk, rForm_unconditional_flag _ _ _ _ _ _ h]
  · rw [hk, rForm_ifSet_false _ _ _ _ _ _ h]
  · rw [hk, rForm_ifClear_false _ _ _ _ _ _ h]
  · rw [hk, hk, rForm_ifSet_true _ _ _ _ _ _ h]
  · rw [hk, hk, rForm_ifClear_true _ _ _ _ _ _ h]

/-- R200: a row without lanes allows lane mode 0 alone. -/
theorem RunsRForm.illegal_lane (hc : RunsRForm s t e false c) {ln : BitVec 2} (h : ln ≠ 0) : RaisesIllegal s t e (c ln 0 0) := by
  obtain ⟨k, hk⟩ := hc
  rw [RaisesIllegal, hk, rForm_laneless _ _ _ _ h]

end RunsRForm

/-- An instruction of a ready engine whose meaning `m` finds its fields illegal. -/
theorem illegal_of_ready {s : State} {t : Time} {e : Nat} (h : EngineReady s e) {c : Instr} (m : Host.Outcome State Fault Refusal)
    {k : State → Engine → State} (hc : exec c s = m) (hm : m = teOp t e s k) (hk : k (s.at t) (s.eng e) = (s.at t).raiseExc e 1 0 0) :
    RaisesIllegal s t e c := by
  rw [RaisesIllegal, hc, hm, teOp_ready h, hk]

/-! The rows that can be predicated. -/

/-- The rows of opcode 0x00 that have no lanes (R205). -/
def teBitwiseForms : List RForm := [.teAnd, .teOr, .teXor, .teAndn, .teBsel]

/-- The rows of opcodes 0x03 to 0x06 that can be predicated, RET apart; none has lanes (R211, R214, R222, R226). -/
def tePlainForms : List RForm :=
  [.teMfs, .teMts, .teNop, .teHb, .teBrk, .teLacq, .teLacqe, .teLwait, .teLwaitf, .teLrel, .teLkill, .teNsendw, .teNsende, .teNrecvw, .teNrecve,
   .teRsend, .teRsendt]

section Rows

variable {s : State} {e : Nat} (h : EngineReady s e) (t : Time) (d a b : BitVec 5)
include h

theorem teAlu_runsRForm {c : BitVec 2 → BitVec 2 → BitVec 2 → Instr} {lanes : Bool} {cyc : Nat} {f : Nat → W64 → W64 → W64 → W64}
    (hc : ∀ ln pc fl, exec (c ln pc fl) s = teAlu t e d a b ln pc fl lanes cyc f s) : RunsRForm s t e lanes c :=
  runsRForm_of_ready h _ _ hc fun _ _ _ => rfl

theorem teReshape_runsRForm {c : BitVec 2 → BitVec 2 → BitVec 2 → Instr} {any : Bool} {f : Nat → W64 → W64 → W64}
    (hc : ∀ ln pc fl, exec (c ln pc fl) s = teReshape t e d a b ln pc fl any f s) : RunsRForm s t e true c :=
  runsRForm_of_ready h _ _ hc fun _ _ _ => rfl

theorem teAluForms_runsRForm : ∀ c ∈ teAluForms, ∃ lanes, RunsRForm s t e lanes (c t e d a b) := by
  simp only [teAluForms, List.forall_mem_cons, List.not_mem_nil, false_implies, implies_true, and_true]
  and_intros <;> exact ⟨_, teAlu_runsRForm h t d a b fun _ _ _ => rfl⟩

theorem teShapeForms_runsRForm : ∀ c ∈ teShapeForms, RunsRForm s t e true (c t e d a b) := by
  simp only [teShapeForms, List.forall_mem_cons, List.not_mem_nil, false_implies, implies_true, and_true]
  and_intros <;> exact teReshape_runsRForm h t d a b fun _ _ _ => rfl

theorem teBitwiseForms_runsRForm : ∀ c ∈ teBitwiseForms, RunsRForm s t e false (c t e d a b) := by
  simp only [teBitwiseForms, List.forall_mem_cons, List.not_mem_nil, false_implies, implies_true, and_true]
  and_intros <;> exact teAlu_runsRForm h t d a b fun _ _ _ => rfl

theorem tePlainForms_runsRForm : ∀ c ∈ tePlainForms, RunsRForm s t e false (c t e d a b) := by
  simp only [tePlainForms, List.forall_mem_cons, List.not_mem_nil, false_implies, implies_true, and_true]
  and_intros
  · exact runsRForm_of_ready h (execTeMfs t e d a b) _ (fun _ _ _ => rfl) fun _ _ _ => rfl
  · exact runsRForm_of_ready h (execTeMts t e d a b) _ (fun _ _ _ => rfl) fun _ _ _ => rfl
  · exact runsRForm_of_ready h (execTeNop t e d a b) _ (fun _ _ _ => rfl) fun _ _ _ => rfl
  · exact runsRForm_of_ready h (execTeHb t e d a b) _ (fun _ _ _ => rfl) fun _ _ _ => rfl
  · exact runsRForm_of_ready h (execTeBrk t e d a b) _ (fun _ _ _ => rfl) fun _ _ _ => rfl
  · exact runsRForm_of_ready h (teAcq t e false d · · ·) _ (fun _ _ _ => rfl) fun _ _ _ => rfl
  · exact runsRForm_of_ready h (teAcq t e true d · · ·) _ (fun _ _ _ => rfl) fun _ _ _ => rfl
  · exact runsRForm_of_ready h (execTeLwait t e d a b) _ (fun _ _ _ => rfl) fun _ _ _ => rfl
  · exact runsRForm_of_ready h (execTeLwaitf t e d a b) _ (fun _ _ _ => rfl) fun _ _ _ => rfl
  · exact runsRForm_of_ready h (execTeLrel t e d a b) _ (fun _ _ _ => rfl) fun _ _ _ => rfl
  · exact runsRForm_of_ready h (execTeLkill t e d a b) _ (fun _ _ _ => rfl) fun _ _ _ => rfl
  · exact runsRForm_of_ready h (teSend t e false a · · ·) _ (fun _ _ _ => rfl) fun _ _ _ => rfl
  · exact runsRForm_of_ready h (teSend t e true a · · ·) _ (fun _ _ _ => rfl) fun _ _ _ => rfl
  · exact runsRForm_of_ready h (teRecv t e false d · · ·) _ (fun _ _ _ => rfl) fun _ _ _ => rfl
  · exact runsRForm_of_ready h (teRecv t e true d · · ·) _ (fun _ _ _ => rfl) fun _ _ _ => rfl
  · exact runsRForm_of_ready h (execTeRsend t e d a b) _ (fun _ _ _ => rfl) fun _ _ _ => rfl
  · exact runsRForm_of_ready h (execTeRsendt t e d a b) _ (fun _ _ _ => rfl) fun _ _ _ => rfl

/-- Every row of R-form that can be predicated, RET apart. -/
theorem predicableForms_runsRForm : ∀ c ∈ teAluForms ++ teShapeForms ++ tePlainForms, ∃ lanes, RunsRForm s t e lanes (c t e d a b) :=
  List.forall_mem_append.2 ⟨List.forall_mem_append.2 ⟨teAluForms_runsRForm h t d a b, fun c hc => ⟨_, teShapeForms_runsRForm h t d a b c hc⟩⟩,
    fun c hc => ⟨_, tePlainForms_runsRForm h t d a b c hc⟩⟩

theorem lanelessForms_runsRForm : ∀ c ∈ teBitwiseForms ++ tePlainForms, RunsRForm s t e false (c t e d a b) :=
  List.forall_mem_append.2 ⟨teBitwiseForms_runsRForm h t d a b, tePlainForms_runsRForm h t d a b⟩

theorem exec_teRet (ln pc fl : BitVec 2) : exec (.teRet t e d a b ln pc fl) s =
    .next (if 0xEFF < ((s.eng e).reg a).toNat && rTaken (s.eng e) pc fl then (s.at t).raiseExc e 2 0 0
      else rForm (s.at t) e (s.eng e) false ln pc fl ((s.at t).doneEng e 2 fun y => { y with pc := ((s.eng e).reg a).toNat })) := by
  have hexec : exec (.teRet t e d a b ln pc fl) s = execTeRet t e d a b ln pc fl s := rfl
  rw [hexec, execTeRet, teOp_ready h]

/-- RET to a target inside the kernel image is a row without lanes as the others are. -/
theorem teRet_runsRForm (ha : ((s.eng e).reg a).toNat ≤ 0xEFF) : RunsRForm s t e false (.teRet t e d a b) :=
  ⟨fun _ => _, fun ln pc fl => by rw [exec_teRet h, if_neg (by simp [ha])]⟩

/-- R233: FETCH comes before ILLEGAL. -/
theorem teRet_fetch (ha : 0xEFF < ((s.eng e).reg a).toNat) (ln fl : BitVec 2) :
    exec (.teRet t e d a b ln 0 fl) s = .next ((s.at t).raiseExc e 2 0 0) := by
  rw [exec_teRet h, if_pos (by simp [ha, rTaken])]

/-- The rows that cannot be predicated: a condition or a lane mode other than 0 is ILLEGAL (R199, R211, R214, R226). -/
theorem unpredicable_illegal {ln pc : BitVec 2} (hl : pc ≠ 0 ∨ ln ≠ 0) (fl : BitVec 2) : ∀ c ∈ [Instr.teKb, .teLtest, .teRtry, .teRtryt],
    RaisesIllegal s t e (c t e d a b ln pc fl) := by
  have hbits : (pc != 0 || ln != 0) = true := by simpa using hl
  have hkb : (pc != 0 || fl != 0 || ln != 0) = true := by rw [Bool.or_right_comm, hbits, Bool.true_or]
  simp only [List.forall_mem_cons, List.not_mem_nil, false_implies, implies_true, and_true]
  refine ⟨?_, ?_, ?_, ?_⟩
  · exact illegal_of_ready h (execTeKb t e d a b ln pc fl s) rfl rfl (if_pos hkb)
  · exact illegal_of_ready h (execTeLtest t e d a b ln pc fl s) rfl rfl (if_pos hbits)
  · exact illegal_of_ready h (execTeRtry t e d a b ln pc fl s) rfl rfl (if_pos hbits)
  · exact illegal_of_ready h (execTeRtryt t e d a b ln pc fl s) rfl rfl (if_pos hbits)

end Rows

/-! Fields that are not legal (R190, R203, R206 to R208, R210). -/

theorem cmpCond_unlisted {fn : Nat} (h : 7 ≤ fn) (w x y : Nat) : cmpCond fn w x y = none := by
  obtain ⟨n, rfl⟩ := Nat.exists_eq_add_of_le' h
  rfl

theorem State.special_unlisted (s : State) (e : Nat) (x : Engine) {i : Nat} (h : 10 < i) : s.special e x i = none := by
  obtain ⟨n, rfl⟩ := Nat.exists_eq_add_of_le' h
  rfl

theorem shiftOk_eq_false {imm : BitVec 16} (h : fld imm 15 10 ≠ 0 ∨ fld imm 7 6 ≠ 0 ∨ laneW (imm.extractLsb' 8 2) ≤ fld imm 5 0) :
    shiftOk imm = false := by
  rcases h with h | h | h
  · simp [shiftOk, h]
  · simp [shiftOk, h]
  · simp [shiftOk, h]

theorem extOk_eq_false {imm : BitVec 16} (h : fld imm 15 12 ≠ 0 ∨ 64 < fld imm 5 0 + fld imm 11 6 + 1) : extOk imm = false := by
  rcases h with h | h
  · simp [extOk, h]
  · rw [extOk, decide_eq_false h.not_ge, Bool.and_false]

/-- Two fields that a row fixes: one of them is another. -/
theorem fields_eq_false {α β : Type} [BEq α] [LawfulBEq α] [BEq β] [LawfulBEq β] {x m : α} {y n : β} (h : x ≠ m ∨ y ≠ n) :
    (x == m && y == n) = false := by
  rcases h with h | h
  · rw [beq_false_of_ne h, Bool.false_and]
  · rw [beq_false_of_ne h, Bool.and_false]

theorem target_isNone_eq_false {pc : Nat} {imm : BitVec 16} (hlo : 0 ≤ (pc : Int) + 1 + imm.toInt) (hhi : (pc : Int) + 1 + imm.toInt ≤ 0xEFF) :
    (target pc imm).isNone = false := by
  simp [target, hlo, hhi]

section Illegal

variable {s : State} {e : Nat} (h : EngineReady s e) (t : Time)
include h

theorem teImm_illegal {c : Instr} {d : BitVec 5} {ok : Bool} {f : Engine → W64} (hok : ok = false) (m : Host.Outcome State Fault Refusal)
    (hc : exec c s = m) (hm : m = teImm t e d ok f s) : RaisesIllegal s t e c :=
  illegal_of_ready h m hc hm (if_neg (by simp [hok]))

theorem teShiftForms_illegal {imm : BitVec 16} (hbad : fld imm 15 10 ≠ 0 ∨ fld imm 7 6 ≠ 0 ∨ laneW (imm.extractLsb' 8 2) ≤ fld imm 5 0)
    (d a : BitVec 5) : RaisesIllegal s t e (.teShli t e d a imm) ∧
    RaisesIllegal s t e (.teShri t e d a imm) ∧ RaisesIllegal s t e (.teSari t e d a imm) :=
  have hok := shiftOk_eq_false hbad
  ⟨teImm_illegal h t hok (execTeShli t e d a imm s) rfl rfl, teImm_illegal h t hok (execTeShri t e d a imm s) rfl rfl,
    teImm_illegal h t hok (execTeSari t e d a imm s) rfl rfl⟩

theorem teExtractForms_illegal {imm : BitVec 16} (hbad : fld imm 15 12 ≠ 0 ∨ 64 < fld imm 5 0 + fld imm 11 6 + 1) (d a : BitVec 5) :
    RaisesIllegal s t e (.teExtu t e d a imm) ∧ RaisesIllegal s t e (.teExts t e d a imm) :=
  have hok := extOk_eq_false hbad
  ⟨teImm_illegal h t hok (execTeExtu t e d a imm s) rfl rfl, teImm_illegal h t hok (execTeExts t e d a imm s) rfl rfl⟩

theorem teLui_illegal {a : BitVec 5} (hbad : a ≠ 0) (d : BitVec 5) (imm : BitVec 16) : RaisesIllegal s t e (.teLui t e d a imm) :=
  teImm_illegal h t (beq_false_of_ne hbad) (execTeLui t e d a imm s) rfl rfl

/-- UNPK and PACK have no lane mode 0b00 (R207). -/
theorem teReshape_illegal {c : Instr} {d a b : BitVec 5} {f : Nat → W64 → W64 → W64}
    (hc : exec c s = teReshape t e d a b 0 0 0 false f s) : RaisesIllegal s t e c := by
  refine illegal_of_ready h _ hc rfl ?_
  rw [rForm_lanes]
  rfl

/-- R210, R233: a field not 0 is ILLEGAL where the target is inside the kernel image, taken or not. -/
theorem teBranch_illegal {c : Instr} {imm : BitVec 16} {ok : Bool} {take : Engine → Bool} {cyc cycNot : Nat} {f : Engine → Engine}
    (hT : (target (s.eng e).pc imm).isNone = false) (hok : ok = false) (m : Host.Outcome State Fault Refusal) (hc : exec c s = m)
    (hm : m = teBranch t e imm ok take cyc cycNot f s) : RaisesIllegal s t e c :=
  illegal_of_ready h m hc hm ((if_neg (by simp [hT])).trans (if_pos (by simp [hok])))

/-- A mode of the flag, or a condition, that R206 does not list. -/
theorem teCmp_illegal {fn : BitVec 5} {sel : BitVec 2} (hbad : sel = 3 ∨ 7 ≤ fn.toNat) (d a b : BitVec 5) (ln fl : BitVec 2) :
    RaisesIllegal s t e (.teCmp t e fn d a b ln sel fl) := by
  refine illegal_of_ready h (execTeCmp t e fn d a b ln sel fl s) rfl rfl (if_pos ?_)
  rcases hbad with rfl | hfn
  · rfl
  · simp [cmpCond_unlisted hfn]

theorem teUnpackForms_illegal (d a b : BitVec 5) : ∀ c ∈ [Instr.teUnpklu, .teUnpkhu, .teUnpkls, .teUnpkhs, .tePackus, .tePackss, .tePackt],
    RaisesIllegal s t e (c t e d a b 0 0 0) := by
  simp only [List.forall_mem_cons, List.not_mem_nil, false_implies, implies_true, and_true]
  and_intros <;> exact teReshape_illegal h t (d := d) (a := a) (b := b) rfl

theorem teLcset_illegal {d a : BitVec 5} (hbad : a ≠ 0 ∨ fld d 4 1 ≠ 0) (imm : BitVec 16) : RaisesIllegal s t e (.teLcset t e d a imm) :=
  illegal_of_ready h (execTeLcset t e d a imm s) rfl rfl (if_neg (by simp only [fields_eq_false hbad.symm, Bool.false_eq_true, not_false_eq_true]))

theorem teCmpi_illegal {d : BitVec 5} (hbad : 6 ≤ fld d 4 2) (a : BitVec 5) (imm : BitVec 16) : RaisesIllegal s t e (.teCmpi t e d a imm) :=
  illegal_of_ready h (execTeCmpi t e d a imm s) rfl rfl (if_pos hbad)

theorem teLinfo_illegal {imm : BitVec 16} (hbad : 10 < imm.toNat) (d a : BitVec 5) : RaisesIllegal s t e (.teLinfo t e d a imm) :=
  illegal_of_ready h (execTeLinfo t e d a imm s) rfl rfl (if_pos hbad)

theorem teMfs_illegal {a : BitVec 5} (hbad : 10 < a.toNat) (d b : BitVec 5) : RaisesIllegal s t e (.teMfs t e d a b 0 0 0) := by
  refine illegal_of_ready h (execTeMfs t e d a b 0 0 0 s) rfl rfl ?_
  rw [rForm_plain, State.special_unlisted _ _ _ hbad]

theorem exec_teMts (d a b : BitVec 5) : exec (.teMts t e d a b 0 0 0) s =
    .next (if (d == 1 || d == 2) && ((s.eng e).reg a).toNat ≤ 65536 then
        (s.at t).doneEng e 1 fun y => y.setLc (d == 2) (((s.eng e).reg a).setWidth 17)
      else if d == 3 then (s.at t).doneEng e 1 fun y => { y with f := ((s.eng e).reg a).setWidth 4 }
      else if d == 7 then (s.at t).doneEng e 1 fun y => { y with nst := ((s.eng e).reg a).setWidth 4 }
      else (s.at t).raiseExc e 1 0 0) := by
  have hexec : exec (.teMts t e d a b 0 0 0) s = execTeMts t e d a b 0 0 0 s := rfl
  rw [hexec, execTeMts, teOp_ready h, rForm_plain]

/-- MTS writes LC0, LC1, F and NST alone (R190). -/
theorem teMts_illegal_register {d : BitVec 5} (hbad : d ≠ 1 ∧ d ≠ 2 ∧ d ≠ 3 ∧ d ≠ 7) (a b : BitVec 5) :
    RaisesIllegal s t e (.teMts t e d a b 0 0 0) := by
  obtain ⟨h1, h2, h3, h7⟩ := hbad
  rw [RaisesIllegal, exec_teMts h, beq_false_of_ne h1, beq_false_of_ne h2, beq_false_of_ne h3, beq_false_of_ne h7]
  rfl

/-- A loop counter holds at most 65,536 (R190). -/
theorem teMts_illegal_count {a : BitVec 5} (hbad : 65536 < ((s.eng e).reg a).toNat) {d : BitVec 5} (hd : d = 1 ∨ d = 2) (b : BitVec 5) :
    RaisesIllegal s t e (.teMts t e d a b 0 0 0) := by
  rw [RaisesIllegal, exec_teMts h, decide_eq_false hbad.not_ge, Bool.and_false]
  rcases hd with rfl | rfl
  · rfl
  · rfl

end Illegal

/-- Settles O34: the rows that can be predicated are governed by `rForm`, whose cases are R199 to R201; every other form checks its fields first. -/
theorem predicationAndIllegal : Obligations.PredicationAndIllegal := by
  unfold Obligations.PredicationAndIllegal
  refine ⟨?_, ?_⟩
  · intro s t e d a b ln fl h hb x illegal predicated
    refine ⟨fun c hc => ?_, fun c hc hln => ?_, fun ha => ?_, fun ha => ?_, fun c hc => ?_⟩
    · obtain ⟨lanes, hrow⟩ := predicableForms_runsRForm h t d a b c hc
      exact hrow.predicated hb ln fl
    · exact (lanelessForms_runsRForm h t d a b c hc).illegal_lane hln
    · have hrow := teRet_runsRForm h t d a b ha
      exact ⟨hrow.predicated hb ln fl, hrow.illegal_lane⟩
    · exact teRet_fetch h t d a b ha ln fl
    · exact ⟨unpredicable_illegal h t d a b (.inl (by decide)) fl c hc, fun hln => unpredicable_illegal h t d a b (.inr hln) fl c hc⟩
  · intro s t e fn d a b ln sel fl imm h _ illegal T
    refine ⟨fun hbad => teCmp_illegal h t hbad d a b ln fl, teUnpackForms_illegal h t d a b, fun hbad => teShiftForms_illegal h t hbad d a,
      fun hbad => teExtractForms_illegal h t hbad d a, fun hbad => teLui_illegal h t hbad d imm,
      fun hbad => teLcset_illegal h t hbad imm, fun hbad => teCmpi_illegal h t hbad a imm, fun hbad => teLinfo_illegal h t hbad d a,
      fun hbad => teMfs_illegal h t hbad d b, fun hbad => teMts_illegal_register h t hbad a b, fun hbad => ?_, fun ⟨hlo, hhi⟩ => ?_⟩
    · exact ⟨teMts_illegal_count h t hbad (.inl rfl) b, teMts_illegal_count h t hbad (.inr rfl) b⟩
    · have hin := target_isNone_eq_false hlo hhi
      refine ⟨fun hbad => ?_, fun ha => ?_, fun hbad => ?_, fun hbad => ?_⟩
      · exact teBranch_illegal h t hin (fields_eq_false hbad) (execTeBr t e d a imm s) rfl rfl
      · exact teBranch_illegal h t hin (beq_false_of_ne ha) (execTeCall t e d a imm s) rfl rfl
      · have hok := fields_eq_false hbad
        exact ⟨teBranch_illegal h t hin hok (execTeBf t e d a imm s) rfl rfl, teBranch_illegal h t hin hok (execTeBnf t e d a imm s) rfl rfl⟩
      · exact teBranch_illegal h t hin (fields_eq_false hbad) (execTeLoop t e d a imm s) rfl rfl

end Machine
end Sys2Proof

/-! START, STOP and host access of the pin engines (11_pin_engines R380, R389, R392, R399, R400, R402 to R404). -/

namespace Sys2Proof
namespace Machine

/-! The registers of a pin engine. -/

/-- The block of pin engine `e` takes 0x400 bytes: an offset in it tells the engine and the register. -/
theorem pxBase_offset {e o : Nat} (he : e < 8) (ho : o < 0x400) :
    0x1A0000 ≤ pxBase e + o ∧ pxBase e + o < 0x1A2000 ∧ (pxBase e + o - 0x1A0000) / 0x400 = e ∧ (pxBase e + o) % 0x400 = o := by
  unfold pxBase
  omega

/-- A pin engine responds in RUN only. -/
theorem early_pxBase {e o : Nat} (he : e < 8) (ho : o < 0x400) : early (pxBase e + o) = false := by
  obtain ⟨hlo, hhi, -, -⟩ := pxBase_offset he ho
  simp [early]
  omega

theorem rwReg_pxBase {e o : Nat} (he : e < 8) (ho : o < 0x400) (h8 : o % 8 = 0) : rwReg (pxBase e + o) = pxReg o := by
  obtain ⟨hlo, hhi, -, hoff⟩ := pxBase_offset he ho
  have hword : (pxBase e + o) % 8 = 0 := by omega
  unfold rwReg
  rw [hoff, if_neg (by simpa using hword), if_neg (by simp; omega), if_neg (by simp; omega), if_pos (by simp; omega)]

/-- The registers written under R403 store their written fields and are not banked. -/
theorem pxConfigOff_reg {o : Nat} (h : pxConfigOff o = true) :
    o < 0x400 ∧ o % 8 = 0 ∧ pxReg o = some ((((pxReg o).map (·.1)).getD 0), ((pxReg o).map (·.2.1)).getD 0, false) := by
  simp only [pxConfigOff, Bool.and_eq_true, Bool.or_eq_true, beq_iff_eq, decide_eq_true_eq] at h
  obtain ⟨h8, ((((rfl | rfl) | rfl) | rfl) | rfl) | ⟨hlo, hhi⟩⟩ := h
  · decide
  · decide
  · decide
  · decide
  · decide
  · refine ⟨by omega, h8, ?_⟩
    have hne : ∀ k, k < 0x100 → (o == k) = false := fun k hk => beq_false_of_ne (by omega)
    have hprog : pxReg o = some (0x98000000, 0xFFFFFFFF, false) := by simp [pxReg, hne, hlo, hhi]
    rw [hprog]
    rfl

/-- A stored write leaves the pin engines and the time as they are. -/
theorem State.storeReg_px_now (s : State) (off : Nat) (v : W32) : (s.storeReg off v).px = s.px ∧ (s.storeReg off v).now = s.now := by
  unfold State.storeReg
  split
  · exact ⟨rfl, rfl⟩
  · split <;> exact ⟨rfl, rfl⟩

@[simp] theorem State.storeReg_px (s : State) (off : Nat) (v : W32) : (s.storeReg off v).px = s.px := (s.storeReg_px_now off v).1
@[simp] theorem State.storeReg_now (s : State) (off : Nat) (v : W32) : (s.storeReg off v).now = s.now := (s.storeReg_px_now off v).2

@[simp] theorem State.pin_storeReg (s : State) (off e : Nat) (v : W32) : (s.storeReg off v).pin e = s.pin e := by
  rw [State.pin, State.storeReg_px, State.pin]

/-- A stored write of a register of a pin engine: its stored bits are in force, no other register changes. -/
theorem State.storeReg_pinEngine (s : State) {e o : Nat} {r m : W32} (he : e < 8) (ho : o < 0x400) (h8 : o % 8 = 0)
    (hpx : pxReg o = some (r, m, false)) (v : W32) :
    s.storeReg (pxBase e + o) v = { s with
        regs := (s.storeReg (pxBase e + o) v).regs
        flt := { s.flt with repair := s.flt.repair.filter (· != pxBase e + o) } } ∧
      (s.storeReg (pxBase e + o) v).reg (pxBase e + o) = v &&& m ∧
      ∀ i, i ≠ pxBase e + o → (s.storeReg (pxBase e + o) v).reg i = s.reg i := by
  rw [s.storeReg_unbanked ((rwReg_pxBase he ho h8).trans hpx)]
  exact ⟨rfl, s.reg_putReg_same _ _, fun i hi => s.reg_putReg_ne _ i _ hi⟩

/-- A stored write that marks an engine changes no other one. -/
theorem State.storeReg_modPx_pins (s : State) (off : Nat) (v : W32) (e : Nat) (f : Px → Px) :
    ((s.storeReg off v).modPx e f).pin e = f (s.pin e) ∧ ∀ i, i ≠ e → ((s.storeReg off v).modPx e f).pin i = s.pin i :=
  ⟨by rw [State.pin_modPx_same, State.pin_storeReg], fun i hi => by rw [State.pin_modPx_ne _ _ _ _ hi, State.pin_storeReg]⟩

/-! What a rejected write leaves. -/

/-- A write rejected with a mark `f` in its engine changes that engine and the count of rejected writes. -/
theorem gives_reject {c : Instr} {s : State} {t : Time} {e off cause : Nat} {src : BitVec 7} {f : Px → Px} (hoff : off < 2 ^ 22)
    (h : exec c s = .next (((s.at t).modPx e f).reject cause src off)) :
    Gives c s fun s' => s'.pin e = f (s.pin e) ∧ (∀ i, i ≠ e → s'.pin i = s.pin i) ∧ s' = { s.at t with
      px := s'.px, flt := { s.flt with rej := s.flt.rej + 1, info := pack 64 [(cause, 60), (src.toNat, 53), (off, 0)] } } := by
  rw [State.reject_of_lt _ _ _ hoff] at h
  exact ⟨_, h, (s.at t).pin_modPx_same e f, fun i hi => (s.at t).pin_modPx_ne e i f hi, rfl⟩

/-! Outputs are shown on pins: nothing in the block changes. -/

/-- Steps that only show something, one after the other, only show something. -/
theorem State.foldl_out_frame {α : Type} {f : State → α → State} (hf : ∀ s a, ∃ o, f s a = { s with out := o }) (s : State) (as : List α) :
    ∃ o, as.foldl f s = { s with out := o } := by
  induction as generalizing s with
  | nil => exact ⟨_, rfl⟩
  | cons a as ih =>
    obtain ⟨o, ho⟩ := hf s a
    rw [List.foldl_cons, ho]
    exact ih _

theorem State.showOuts_frame (s : State) (e : Nat) : ∃ o, s.showOuts e = { s with out := o } := by
  refine State.foldl_out_frame (fun s k => ?_) s _
  unfold State.showOut
  split
  · exact ⟨_, rfl⟩
  · exact ⟨_, rfl⟩

/-! Mirrored counters (R389). -/

/-- `q` is `p` but for its counters that mirror another one. -/
structure Px.MirroredFrom (p q : Px) : Prop where
  rest : q = { p with c := q.c, cnt := q.cnt, down := q.down }
  unmirrored : p.mode.any (fun m => m.1 == 6) = false → q = p
  kept : p.c.length = 4 → q.c.length = 4 ∧ ∀ k, p.modeOf k ≠ 6 → q.ctr k = p.ctr k

theorem Px.MirroredFrom.refl (p : Px) : p.MirroredFrom p := ⟨rfl, fun _ => rfl, fun h => ⟨h, fun _ _ => rfl⟩⟩

theorem Px.MirroredFrom.mode_eq {p q : Px} (h : p.MirroredFrom q) : q.mode = p.mode := by rw [h.rest]

theorem Px.MirroredFrom.modeOf_eq {p q : Px} (h : p.MirroredFrom q) (k : Nat) : q.modeOf k = p.modeOf k := by
  rw [Px.modeOf, h.mode_eq, Px.modeOf]

theorem Px.MirroredFrom.trans {p q r : Px} (hpq : p.MirroredFrom q) (hqr : q.MirroredFrom r) : p.MirroredFrom r := by
  refine ⟨?_, fun hmode => ?_, fun hlen => ?_⟩
  · calc r = { q with c := r.c, cnt := r.cnt, down := r.down } := hqr.rest
      _ = { p with c := r.c, cnt := r.cnt, down := r.down } := by rw [hpq.rest]
  · rw [hqr.unmirrored (by rwa [hpq.mode_eq]), hpq.unmirrored hmode]
  · obtain ⟨hq, hkeptq⟩ := hpq.kept hlen
    obtain ⟨hr, hkeptr⟩ := hqr.kept hq
    exact ⟨hr, fun k hk => (hkeptr k (by rwa [hpq.modeOf_eq])).trans (hkeptq k hk)⟩

/-- The mirrors of one engine take their values: that engine changes, and no other. -/
theorem State.mirrorOne_frame (s : State) (i : Nat) :
    (∃ px, s.mirrorOne i = { s with px := px }) ∧ ∀ e, (s.pin e).MirroredFrom ((s.mirrorOne i).pin e) := by
  unfold State.mirrorOne
  dsimp only
  split
  · next hany =>
    refine ⟨⟨_, rfl⟩, fun e => ?_⟩
    by_cases he : e = i
    · subst he
      rw [State.pin_modPx_same]
      refine ⟨rfl, fun hnone => ?_, fun hlen => ⟨by simp, fun k hk => ?_⟩⟩
      · rw [hnone] at hany
        exact absurd hany Bool.false_ne_true
      · by_cases hlt : k < 4
        · simp [Px.ctr, hlt, hk]
        · simp [Px.ctr, hlen, hlt]
    · rw [State.pin_modPx_ne _ _ _ _ he]
      exact .refl _
  · exact ⟨⟨_, rfl⟩, fun _ => .refl _⟩

/-- The mirrors of every engine take their values: nothing else changes. -/
theorem State.mirrors_frame (s : State) : (∃ px, s.mirrors = { s with px := px }) ∧ ∀ e, (s.pin e).MirroredFrom (s.mirrors.pin e) := by
  unfold State.mirrors
  generalize List.range 64 = is
  induction is generalizing s with
  | nil => exact ⟨⟨_, rfl⟩, fun _ => .refl _⟩
  | cons i is ih =>
    obtain ⟨⟨_, hone⟩, hpin⟩ := s.mirrorOne_frame (i % 8)
    obtain ⟨⟨px, hrest⟩, hpins⟩ := ih (s.mirrorOne (i % 8))
    rw [List.foldl_cons]
    exact ⟨⟨px, by rw [hrest, hone]⟩, fun e => (hpin e).trans (hpins e)⟩

/-- A written counter of an engine, before mirrors take their values: a mirror ignores the write. -/
def Px.writeCtr (p : Px) (k : Nat) (v : B48) : Px := if p.modeOf k == 6 then p else { p with c := upd p.c k fun _ => v }

theorem Px.writeCtr_unmirrored {p : Px} {k : Nat} (h : p.modeOf k ≠ 6) (v : B48) : p.writeCtr k v = { p with c := upd p.c k fun _ => v } :=
  if_neg (by simpa using h)

theorem State.writeCtr_eq (s : State) (e k : Nat) (v : B48) : s.writeCtr e k v =
    (s.modPx e fun p => p.writeCtr k v).mirrors.modTick fun x =>
      { x with turn := x.turn + ((s.modPx e fun p => p.writeCtr k v).mirrors.encNow - s.encNow) } := rfl

/-- A counter that is no mirror takes the value written; the counters of its engine that are no mirrors keep theirs. -/
theorem State.writeCtr_frame (s : State) {e k : Nat} (v : B48) (hk : k < 4) (hmode : (s.pin e).modeOf k ≠ 6) (hlen : (s.pin e).c.length = 4) :
    let s' := s.writeCtr e k v
    (s'.pin e).ctr k = v ∧ (∀ j, j ≠ k → (s.pin e).modeOf j ≠ 6 → (s'.pin e).ctr j = (s.pin e).ctr j) ∧ (s'.pin e).mode = (s.pin e).mode ∧
      s' = { s with px := s'.px, tick := { s.tick with turn := s'.tick.turn } } := by
  obtain ⟨⟨px, hrest⟩, hmirrors⟩ := (s.modPx e fun p => p.writeCtr k v).mirrors_frame
  have hp := hmirrors e
  rw [State.pin_modPx_same, Px.writeCtr_unmirrored hmode, hrest] at hp
  obtain ⟨-, hkept⟩ := hp.kept (by simp [upd, hlen])
  rw [State.writeCtr_eq, hrest]
  refine ⟨(hkept k hmode).trans ?_, fun j hj hjm => (hkept j hjm).trans ?_, hp.mode_eq, rfl⟩
  · simp [Px.ctr, upd, hlen, hk]
  · simp [Px.ctr, upd, hj.symm]

/-! START and STOP (R402, R404). -/

/-- A START with RESET_CNT clears the counters and their modes (R392). -/
def Px.cleared (p : Px) : Px := { p with c := List.replicate 4 0, mode := List.replicate 4 (0, 0, 0, 0), xen := false }

/-- The engine as a START at `now` leaves it, its outputs apart (R404). -/
def Px.started (p : Px) (pc : Nat) (keep : Bool) (now : Time) : Px :=
  { p with st := 1, cause := 0, pc := pc % 32, sh := if keep then p.sh else 0, shc := if keep then p.shc else 0, resume := keep, edge := none,
           startT := now, blk := none, seen := [], stopReq := false }

/-- Every output of the engine is at its idle level. -/
def Px.idle (p : Px) : Px := { p with outs := List.replicate 4 none }

theorem State.idleOuts_frame (s : State) (e : Nat) : ∃ o, s.idleOuts e = { s.modPx e Px.idle with out := o } := State.showOuts_frame _ e

theorem State.idleOuts_pin (s : State) (e : Nat) :
    (s.idleOuts e).pin e = (s.pin e).idle ∧ (∀ i, i ≠ e → (s.idleOuts e).pin i = s.pin i) ∧ ∀ off, (s.idleOuts e).reg off = s.reg off := by
  obtain ⟨o, ho⟩ := s.idleOuts_frame e
  rw [ho]
  exact ⟨s.pin_modPx_same e _, fun i hi => s.pin_modPx_ne e i _ hi, fun _ => rfl⟩

/-- A START without RESET_CNT changes its engine alone. -/
theorem State.pxRun_keeping (s : State) (e pc : Nat) (keep : Bool) :
    let s' := s.pxRun e pc keep false
    s'.pin e = ((s.pin e).started pc keep s.now).idle ∧ (∀ i, i ≠ e → s'.pin i = s.pin i) ∧ ∀ off, s'.reg off = s.reg off := by
  have hrun : s.pxRun e pc keep false = (s.modPx e fun p => p.started pc keep s.now).idleOuts e := rfl
  obtain ⟨hself, hothers, hreg⟩ := (s.modPx e fun p => p.started pc keep s.now).idleOuts_pin e
  rw [hrun]
  refine ⟨?_, fun i hi => ?_, hreg⟩
  · rw [hself, State.pin_modPx_same]
  · rw [hothers i hi, State.pin_modPx_ne _ _ _ _ hi]

theorem State.pxRun_true (s : State) (e pc : Nat) (keep : Bool) : s.pxRun e pc keep true =
    ((s.modPx e fun p => p.cleared.started pc keep s.now).mirrors.modTick fun k =>
      { k with turn := k.turn + ((s.modPx e fun p => p.cleared.started pc keep s.now).mirrors.encNow - s.encNow) }).idleOuts e := rfl

/-- A START with RESET_CNT: no counter of the engine is a mirror any more, so that mirrors taking their values leave it. -/
theorem State.pxRun_clearing (s : State) (e pc : Nat) (keep : Bool) :
    let s' := s.pxRun e pc keep true
    s'.pin e = ((s.pin e).cleared.started pc keep s.now).idle ∧ ∀ off, s'.reg off = s.reg off := by
  obtain ⟨⟨px, hrest⟩, hmirrors⟩ := (s.modPx e fun p => p.cleared.started pc keep s.now).mirrors_frame
  have hsame := hmirrors e
  rw [State.pin_modPx_same, hrest] at hsame
  rw [State.pxRun_true, hrest]
  dsimp only
  obtain ⟨hself, -, hreg⟩ := State.idleOuts_pin (State.modTick _ _) e
  exact ⟨hself.trans (congrArg Px.idle (hsame.unmirrored rfl)), hreg⟩

/-- What a START leaves of its engine, of the others and of the registers (R392, R404). -/
theorem State.pxRun_frame (s : State) (e pc : Nat) (keep clear : Bool) :
    let s' := s.pxRun e pc keep clear
    s'.pin e = ((if clear then (s.pin e).cleared else s.pin e).started pc keep s.now).idle ∧
      (clear = false → ∀ i, i ≠ e → s'.pin i = s.pin i) ∧ ∀ off, s'.reg off = s.reg off := by
  cases clear with
  | false =>
    obtain ⟨hself, hothers, hreg⟩ := s.pxRun_keeping e pc keep
    exact ⟨hself, fun _ => hothers, hreg⟩
  | true =>
    obtain ⟨hself, hreg⟩ := s.pxRun_clearing e pc keep
    exact ⟨hself, fun h => absurd h.symm Bool.false_ne_true, hreg⟩

/-- The commands of PX_CTL are one write: its fields say which operation it is. -/
theorem exec_pxControl {e : Nat} (he : e < 8) (t : Time) (w : Wr) (s : State) :
    ∀ c ∈ [Instr.pxStart t e w, .pxStop t e w], exec c s = regCmd t (pxBase e) w s fun v s => s.pxCtlWrite e w v := by
  simp only [List.forall_mem_cons, List.not_mem_nil, false_implies, implies_true, and_true]
  exact ⟨if_pos he, if_pos he⟩

section Control

variable (s : State) {e : Nat} (w : Wr) {v : W32}

theorem State.pxCtlWrite_both (h31 : bit v 31 = true) (h30 : bit v 30 = true) :
    s.pxCtlWrite e w v = (s.modPx e fun p => { p with progRej := true }).reject 3 w.src (pxBase e) := by
  simp [State.pxCtlWrite, h31, h30, State.progReject]

/-- START without STOP, outside RUNNING: the fields are stored and the engine starts (R404). -/
theorem State.pxCtlWrite_start (he : e < 8) (h31 : bit v 31 = true) (h30 : bit v 30 = false) (hst : (s.pin e).st ≠ 1) :
    let s' := s.pxCtlWrite e w v
    s'.pin e = ((if bit v 28 then (s.pin e).cleared else s.pin e).started (if bit v 29 then (s.pin e).pc else fld v 27 23) (bit v 29) s.now).idle ∧
      (bit v 28 = false → ∀ i, i ≠ e → s'.pin i = s.pin i) ∧
      s'.reg (pxBase e) = v &&& 0x3F800000 ∧ ∀ off, off ≠ pxBase e → s'.reg off = s.reg off := by
  have hwrite : s.pxCtlWrite e w v =
      (s.storeReg (pxBase e) v).pxRun e (if bit v 29 then (s.pin e).pc else fld v 27 23) (bit v 29) (bit v 28) := by
    simp [State.pxCtlWrite, h31, h30, hst]
  obtain ⟨-, hself, hreg⟩ := s.storeReg_pinEngine he (o := 0) (by decide) rfl rfl v
  rw [hwrite]
  obtain ⟨hpin, hothers, hregs⟩ :=
    (s.storeReg (pxBase e) v).pxRun_frame e (if bit v 29 then (s.pin e).pc else fld v 27 23) (bit v 29) (bit v 28)
  simp only [State.pin_storeReg, State.storeReg_now] at hpin hothers
  exact ⟨hpin, hothers, (hregs _).trans hself, fun off hoff => (hregs off).trans (hreg off hoff)⟩

theorem State.pxCtlWrite_stop (h31 : bit v 31 = false) (h30 : bit v 30 = true) (hst : (s.pin e).st = 1) :
    s.pxCtlWrite e w v = (s.storeReg (pxBase e) v).modPx e fun p => { p with stopReq := true } := by
  simp [State.pxCtlWrite, h31, h30, hst]

/-- A STOP outside RUNNING stores the fields and has no other effect (R402). -/
theorem State.pxCtlWrite_stop_idle (h31 : bit v 31 = false) (hst : (s.pin e).st ≠ 1) : s.pxCtlWrite e w v = s.storeReg (pxBase e) v := by
  simp [State.pxCtlWrite, h31, hst]

end Control

/-- The engine stopped, its outputs apart: PC keeps its index (R402). -/
def Px.halted (p : Px) : Px := { p with st := 0, blk := none, seen := [], stopReq := false }

theorem State.pxHalt_eq (s : State) (e : Nat) :
    s.pxHalt e = if bit (s.reg (pxBase e + 0x30)) 23 then (s.modPx e Px.halted).idleOuts e else s.modPx e Px.halted := rfl

/-- The end of a STOP: the outputs take their idle levels where STOP_ACT = 1, and keep their levels otherwise. -/
theorem State.pxHalt_frame (s : State) (e : Nat) :
    let s' := s.pxHalt e
    s'.pin e = { (s.pin e).halted with
      outs := if bit (s.reg (pxBase e + 0x30)) 23 then List.replicate 4 none else (s.pin e).outs } ∧
    (∀ i, i ≠ e → s'.pin i = s.pin i) ∧ s' = { s with px := s'.px, out := s'.out } := by
  have hself : (s.modPx e Px.halted).pin e = (s.pin e).halted := s.pin_modPx_same e _
  have hothers : ∀ i, i ≠ e → (s.modPx e Px.halted).pin i = s.pin i := fun i hi => s.pin_modPx_ne e i _ hi
  rw [State.pxHalt_eq]
  split
  · obtain ⟨hidle, hidleOthers, -⟩ := (s.modPx e Px.halted).idleOuts_pin e
    obtain ⟨o, ho⟩ := (s.modPx e Px.halted).idleOuts_frame e
    refine ⟨?_, fun i hi => (hidleOthers i hi).trans (hothers i hi), ?_⟩
    · rw [hidle, hself]
      rfl
    · rw [ho]
      rfl
  · exact ⟨hself, hothers, rfl⟩

theorem exec_pxStopEffect {s : State} {e : Nat} (h : PinReady s e) (hreq : (s.pin e).stopReq = true) (t : Time) :
    exec (.pxStopEffect t e) s = .next ((s.at t).pxHalt e) := by
  have hexec : exec (.pxStopEffect t e) s = execPxStopEffect t e s := rfl
  rw [hexec, execPxStopEffect, pxOp_ready h, if_pos hreq]

/-! Host writes (R392, R400, R403) and reads (R399). -/

theorem exec_pxInWrite {s : State} (ha : s.alive = true) {e j : Nat} (he : e < 8) (hj : j < 2) (h : s.reaches (pxBase e + 0x48 + 8 * j) = true)
    (t : Time) (v : W32) (src : BitVec 7) :
    exec (.pxInWrite t e j (goodWr v src)) s = .next ((s.at t).pxInWrite e j (goodWr v src) v) := by
  have hexec : exec (.pxInWrite t e j (goodWr v src)) s = execPxInWrite t e j (goodWr v src) s := rfl
  rw [hexec, execPxInWrite, if_pos (by simp [he, hj]), regCmd_good ha _ h]

theorem exec_pxConfigWrite {s : State} (ha : s.alive = true) {e o : Nat} (he : e < 8) (hcfg : pxConfigOff o = true)
    (h : s.reaches (pxBase e + o) = true) (t : Time) (v : W32) (src : BitVec 7) :
    exec (.pxConfigWrite t (pxBase e + o) (goodWr v src)) s = .next ((s.at t).pxConfigWrite e o (goodWr v src) v) := by
  obtain ⟨hlo, hhi, hengine, hoff⟩ := pxBase_offset he (pxConfigOff_reg hcfg).1
  have hexec : exec (.pxConfigWrite t (pxBase e + o) (goodWr v src)) s = execPxConfigWrite t (pxBase e + o) (goodWr v src) s := rfl
  rw [hexec, execPxConfigWrite, hengine, hoff, if_pos (by simp [hlo, hhi, hcfg]), regCmd_good ha _ h]

section ConfigWrite

variable (s : State) {e o : Nat} (w : Wr) {v : W32}

theorem State.pxConfigWrite_running (hst : (s.pin e).st = 1) :
    s.pxConfigWrite e o w v = (s.modPx e fun p => { p with progRej := true }).reject 4 w.src (pxBase e + o) := if_pos (by simp [hst])

theorem State.pxConfigWrite_bad (hst : (s.pin e).st ≠ 1) (hbad : s.pxBad e o v = true) :
    s.pxConfigWrite e o w v = (s.modPx e fun p => { p with progRej := true }).reject 3 w.src (pxBase e + o) := by
  simp [State.pxConfigWrite, hst, hbad, State.progReject]

/-- A legal value is stored; what a change of PX_OUTSEL or PX_OUTCFG does to the pins is shown. -/
theorem State.pxConfigWrite_good (hst : (s.pin e).st ≠ 1) (hbad : s.pxBad e o v = false) :
    ∃ out, s.pxConfigWrite e o w v = { s.storeReg (pxBase e + o) v with out := out } := by
  unfold State.pxConfigWrite
  rw [if_neg (by simpa using hst), hbad, if_neg Bool.false_ne_true]
  dsimp only
  split_ifs
  · obtain ⟨out, hrel⟩ := State.foldl_out_frame (f := fun s x => s.emit (.pin x 2)) (fun _ _ => ⟨_, rfl⟩) (s.storeReg (pxBase e + o) v)
      ((sels (s.reg (pxBase e + o))).filter fun x => x < 36 && !(sels v).contains x)
    rw [hrel]
    exact State.showOuts_frame _ e
  · exact State.showOuts_frame _ e
  · exact ⟨_, rfl⟩

end ConfigWrite

theorem fld_mem_sels (v : W32) {i : Nat} (hi : i < 4) : fld v (31 - 6 * i) (26 - 6 * i) ∈ sels v :=
  List.mem_map.2 ⟨i, List.mem_range.2 hi, rfl⟩

/-- INT = 0, a pin code that is no pin, and an input code that is no source break their register's rule (R380, R381, R386). -/
theorem State.pxBad_of_rule (s : State) (e : Nat) {o : Nat} {v : W32} (h : (o = 0x10 ∧ fld v 31 16 = 0) ∨
    (o = 0x28 ∧ ∃ i, i < 4 ∧ 36 ≤ fld v (31 - 6 * i) (26 - 6 * i) ∧ fld v (31 - 6 * i) (26 - 6 * i) < 63) ∨
    (o = 0x18 ∧ ∃ i, i < 4 ∧ 52 ≤ fld v (31 - 6 * i) (26 - 6 * i) ∧ fld v (31 - 6 * i) (26 - 6 * i) < 63)) : s.pxBad e o v = true := by
  rcases h with ⟨rfl, hint⟩ | ⟨rfl, i, hi, hlo, hhi⟩ | ⟨rfl, i, hi, hlo, hhi⟩
  · simp [State.pxBad, hint]
  · have hpin : ((sels v).filter (· != 63)).any (fun x => decide (36 ≤ x) || (((List.range 8).filter (· != e)).flatMap fun f =>
        (sels (s.reg (pxBase f + 0x28))).filter (· != 63)).contains x) = true :=
      List.any_eq_true.2 ⟨_, List.mem_filter.2 ⟨fld_mem_sels v hi, by simpa using hhi.ne⟩, by simp [hlo]⟩
    exact (congrArg (· || _) hpin).trans (Bool.true_or _)
  · exact List.any_eq_true.2 ⟨_, fld_mem_sels v hi, by simp [hlo, Nat.le_of_lt_succ hhi]⟩

/-- A 64-bit write that reaches PX_CNT[k]. -/
theorem exec_pxCntWrite {s : State} {e k : Nat} (he : e < 8) (hk : k < 4) (h : s.reaches (pxBase e + 0x90 + 8 * k) = true) (t : Time) (w : Wr) :
    exec (.pxConfigWrite t (pxBase e + 0x90 + 8 * k) w) s = .next ((s.at t).pxCntWrite e k w) := by
  have hadd : pxBase e + 0x90 + 8 * k = pxBase e + (0x90 + 8 * k) := Nat.add_assoc ..
  obtain ⟨hlo, hhi, hengine, hoff⟩ := pxBase_offset he (o := 0x90 + 8 * k) (by omega)
  rw [hadd] at h ⊢
  have hearly := early_pxBase he (o := 0x90 + 8 * k) (by omega)
  obtain ⟨hmem, hresp, hstall⟩ := (s.reaches_iff _).1 h
  obtain ⟨hrun, hshut⟩ := hresp.resolve_left (by simp [hearly])
  have hcfg : pxConfigOff (0x90 + 8 * k) = false := by
    simp [pxConfigOff]
    omega
  have hk' : (0x90 + 8 * k - 0x90) / 8 = k := by omega
  have hexec : exec (.pxConfigWrite t (pxBase e + (0x90 + 8 * k)) w) s = execPxConfigWrite t (pxBase e + (0x90 + 8 * k)) w s := rfl
  rw [hexec, execPxConfigWrite, hengine, hoff, hcfg, if_neg (by simp), if_pos (by simp; omega), timed_alive (State.alive_of_running hrun), hk',
    if_neg (by simp [hmem]), if_neg (by simp [hrun, hshut]), if_neg (by simp [hstall])]

theorem State.pxInWrite_full (s : State) {e j : Nat} (w : Wr) {v : W32} (h : (s.pin e).full.getLsbD j = true) :
    s.pxInWrite e j w v = (s.modPx e fun p => { p with inRej := p.inRej + 1 }).reject 4 w.src (pxBase e + 0x48 + 8 * j) := if_pos h

theorem State.pxInWrite_empty (s : State) {e j : Nat} (w : Wr) {v : W32} (h : (s.pin e).full.getLsbD j = false) :
    s.pxInWrite e j w v = (s.storeReg (pxBase e + 0x48 + 8 * j) v).modPx e fun p => { p with full := p.full ||| (1#2 <<< j) } :=
  if_neg (by simp [h])

/-- PX_IN[j] stores every bit. -/
theorem State.storeReg_pxIn (s : State) {e j : Nat} (he : e < 8) (hj : j < 2) (v : W32) :
    (s.storeReg (pxBase e + 0x48 + 8 * j) v).reg (pxBase e + 0x48 + 8 * j) = v ∧
      ∀ i, i ≠ pxBase e + 0x48 + 8 * j → (s.storeReg (pxBase e + 0x48 + 8 * j) v).reg i = s.reg i := by
  have hpx : pxReg (0x48 + 8 * j) = some (0, BitVec.allOnes 32, false) := by
    interval_cases j <;> rfl
  obtain ⟨-, hself, hregs⟩ := s.storeReg_pinEngine he (o := 0x48 + 8 * j) (by omega) (by omega) hpx v
  rw [Nat.add_assoc]
  exact ⟨hself.trans BitVec.and_allOnes, hregs⟩

section CounterWrite

variable (s : State) {e k : Nat} {w : Wr} (h8 : w.nb = 8)
include h8

theorem State.pxCntWrite_running (hst : (s.pin e).st = 1) :
    s.pxCntWrite e k w = (s.modPx e fun p => { p with progRej := true }).reject 4 w.src (pxBase e + 0x90 + 8 * k) := by
  simp [State.pxCntWrite, h8, hst, State.progReject]

theorem State.pxCntWrite_stopped (hst : (s.pin e).st ≠ 1) : s.pxCntWrite e k w = s.writeCtr e k (w.v.setWidth 48) := by
  simp [State.pxCntWrite, h8, hst]

end CounterWrite

/-! A read of PX_DATA (R399). -/

/-- A read inside one register of a running device. -/
theorem State.busRead_running {s : State} {off lo nb : Nat} (hrun : s.running = true) (hmem : s.host.memEn = true) (hstall : s.stalls off = false)
    (h8 : off % 8 = 0) (hnb : 0 < nb) (hlen : lo + nb ≤ 8) :
    s.busRead (off + lo) nb = (s.readEffect off lo nb).emit (.rdData (off + lo) nb (narrow (s.readWord off) lo nb)) := by
  have hlo : (off + lo) % 8 = lo := by omega
  simp only [State.busRead, hlo, Nat.add_sub_cancel]
  rw [if_neg (by simp [hmem]), if_neg (by simp; omega), if_neg (by simp [hstall])]
  simp [State.readReg, hrun]

/-- PX_DATA registers are no snapshot registers. -/
theorem pxData_not_snap : ∀ e < 8, ∀ m < 4, snapRegs.contains (pxBase e + (0xC0 + 8 * m)) = false := by decide

theorem State.live_pxData (s : State) {e m : Nat} (he : e < 8) (hm : m < 4) :
    s.live (pxBase e + (0xC0 + 8 * m)) = some (.w64 ((s.pin e).data.getD m 0)) := by
  obtain ⟨hlo, hhi, hengine, hoff⟩ := pxBase_offset he (o := 0xC0 + 8 * m) (by omega)
  have hpx : s.pxLive e (0xC0 + 8 * m) = some (.w64 ((s.pin e).data.getD m 0)) := by
    interval_cases m <;> rfl
  have hcomposed : s.composed (pxBase e + (0xC0 + 8 * m)) = some (.w64 ((s.pin e).data.getD m 0)) := by
    unfold State.composed
    generalize pxBase e + (0xC0 + 8 * m) = off at *
    simp only [hengine, hoff, hpx]
    rw [if_neg (by simp; omega)]
    repeat rw [if_neg (by omega)]
    rw [if_pos (by omega), if_pos (by omega)]
  unfold State.live
  rw [hcomposed]

theorem State.readWord_pxData (s : State) {e m : Nat} (he : e < 8) (hm : m < 4) :
    s.readWord (pxBase e + (0xC0 + 8 * m)) = (s.pin e).data.getD m 0 := by
  rw [State.readWord, s.live_pxData he hm]
  exact if_neg (by rw [pxData_not_snap e he m hm]; exact Bool.false_ne_true)

/-- A read that covers FRESH (bit 55, in byte 6) clears it; no other read changes the engine. -/
theorem State.readEffect_pxData (s : State) {e m : Nat} (he : e < 8) (hm : m < 4) (lo nb : Nat) :
    let s' := s.readEffect (pxBase e + (0xC0 + 8 * m)) lo nb
    (s'.pin e).data = (if lo ≤ 6 ∧ 6 < lo + nb then (s.pin e).data.modify m fun x => x &&& ~~~(1#64 <<< 55) else (s.pin e).data) ∧
      (∀ i, i ≠ e → s'.pin i = s.pin i) ∧ s' = { s with px := s'.px } := by
  obtain ⟨hlo, hhi, hengine, hoff⟩ := pxBase_offset he (o := 0xC0 + 8 * m) (by omega)
  have hm' : (0xC0 + 8 * m - 0xC0) / 8 = m := by omega
  unfold State.readEffect
  simp only [hengine, hoff, hm']
  by_cases hcover : lo ≤ 6 ∧ 6 < lo + nb
  · rw [if_neg (by simpa using hcover), if_neg (by simp; omega), if_pos (by simp; omega), if_pos hcover, State.pin_modPx_same]
    exact ⟨rfl, fun i hi => s.pin_modPx_ne e i _ hi, rfl⟩
  · rw [if_pos (by simpa [imp_iff_not_or] using hcover), if_neg hcover]
    exact ⟨rfl, fun _ _ => rfl, rfl⟩

theorem exec_pxDataRead {s : State} {e m lo nb : Nat} (hrun : s.running = true) (he : e < 8) (hm : m < 4) (hnb : 0 < nb) (hlen : lo + nb ≤ 8)
    (hmem : s.host.memEn = true) (hstall : s.stalls (pxBase e + 0xC0 + 8 * m) = false) (t : Time) : exec (.pxDataRead t e m lo nb) s =
      .next (((s.at t).readEffect (pxBase e + (0xC0 + 8 * m)) lo nb).emit
        (.rdData (pxBase e + 0xC0 + 8 * m + lo) nb (narrow ((s.pin e).data.getD m 0) lo nb))) := by
  have hadd : pxBase e + 0xC0 + 8 * m = pxBase e + (0xC0 + 8 * m) := Nat.add_assoc ..
  rw [hadd] at hstall ⊢
  have hexec : exec (.pxDataRead t e m lo nb) s = execPxDataRead t e m lo nb s := rfl
  have hlo : lo < 8 := by omega
  have h8 : (pxBase e + (0xC0 + 8 * m)) % 8 = 0 := by unfold pxBase; omega
  rw [hexec, execPxDataRead, timed_alive (State.alive_of_running hrun), if_pos (by simp [he, hm, hlo]), hadd,
    State.busRead_running (s := s.at t) hrun hmem hstall h8 hnb hlen, State.readWord_pxData _ he hm]
  rfl

theorem fld_lt {n : Nat} (w : BitVec n) (hi lo : Nat) : fld w hi lo < 2 ^ (hi + 1 - lo) := Nat.mod_lt _ (Nat.two_pow_pos _)

/-- Settles O54: the cases of a write to PX_CTL, PX_IN, a configuration register and PX_CNT, the end of a STOP, and the read of PX_DATA. -/
theorem pinHostAccess : Obligations.PinHostAccess := by
  unfold Obligations.PinHostAccess
  intro s t e v src hrun he p w others rejected
  have ha := State.alive_of_running hrun
  have hbase : pxBase e < 0x200000 := (pxBase_offset he (o := 0) (by decide)).2.1.trans (by decide)
  refine ⟨fun hreach => ?_, fun hclk hst hreq => ?_, fun j hj hreach => ?_, fun o hcfg hreach => ?_, fun k x hk hreach => ?_,
    fun m lo nb hm hnb hlen hmem hstall => ?_⟩
  · have hctl : ∀ c ∈ [Instr.pxStart t e w, .pxStop t e w], exec c s = .next ((s.at t).pxCtlWrite e w v) := fun c hc =>
      (exec_pxControl he t w s c hc).trans (regCmd_good ha _ hreach t v src _)
    have hstart := hctl (.pxStart t e w) (.head _)
    have hstop := hctl (.pxStop t e w) (.tail _ (.head _))
    obtain ⟨hstored, hself, hreg⟩ := (s.at t).storeReg_pinEngine he (o := 0) (by decide) rfl rfl v
    simp only [Nat.add_zero] at hstored hself hreg
    refine ⟨fun h31 h30 => ?_, fun h31 h30 hst => ?_, fun h31 h30 hst => ?_, fun h31 h30 hst => ?_⟩
    · rw [State.pxCtlWrite_both _ _ h31 h30] at hstart
      exact gives_reject (by omega) hstart
    · obtain ⟨hpin, hothers, hctlReg, hregs⟩ := (s.at t).pxCtlWrite_start w he h31 h30 hst
      refine ⟨_, hstart, ?_⟩
      dsimp only
      rw [hpin]
      refine ⟨rfl, rfl, rfl, rfl, rfl, rfl, fun h29 => ?_, fun h29 => ?_, fun h28 => ?_, fun h28 => ?_, ?_, hctlReg, hregs⟩
      · rw [h29]
        have hpc : fld v 27 23 % 32 = fld v 27 23 := Nat.mod_eq_of_lt (fld_lt v 27 23)
        cases bit v 28 <;> exact ⟨hpc, rfl, rfl⟩
      · rw [h29]
        cases bit v 28 <;> exact ⟨rfl, rfl, rfl⟩
      · rw [h28]
        exact ⟨rfl, rfl, rfl, hothers h28⟩
      · rw [h28]
        exact ⟨rfl, rfl, rfl⟩
      · cases bit v 28 <;> rfl
    · rw [State.pxCtlWrite_stop (s.at t) _ h31 h30 hst] at hstop
      obtain ⟨hpin, hothers⟩ := (s.at t).storeReg_modPx_pins (pxBase e) v e fun p => { p with stopReq := true }
      refine ⟨_, hstop, hpin, hothers, hself, ?_⟩
      rw [hstored]
      rfl
    · rw [State.pxCtlWrite_stop_idle (s.at t) _ h31 hst] at hstop
      exact ⟨_, hstop, (s.at t).storeReg_px _ v, hself⟩
  · exact ⟨_, exec_pxStopEffect ⟨hrun, he, hst, hclk⟩ hreq t, (s.at t).pxHalt_frame e⟩
  · have hexec := exec_pxInWrite ha he hj hreach t v src
    refine ⟨fun hfull => ?_, fun hempty => ?_⟩
    · rw [State.pxInWrite_full (s.at t) _ hfull] at hexec
      exact gives_reject (by omega) hexec
    · rw [State.pxInWrite_empty (s.at t) _ hempty] at hexec
      obtain ⟨hreg, hregs⟩ := (s.at t).storeReg_pxIn he hj v
      obtain ⟨hpin, hothers⟩ :=
        (s.at t).storeReg_modPx_pins (pxBase e + 0x48 + 8 * j) v e fun p => { p with full := p.full ||| (1#2 <<< j) }
      exact ⟨_, hexec, hreg, hpin, hothers, hregs⟩
  · obtain ⟨ho, h8, hpx⟩ := pxConfigOff_reg hcfg
    have hexec := exec_pxConfigWrite ha he hcfg hreach t v src
    refine ⟨fun hst => ?_, fun hst hrule => ?_, fun hst hgood => ?_⟩
    · rw [State.pxConfigWrite_running (s.at t) _ hst] at hexec
      exact gives_reject (by omega) hexec
    · rw [State.pxConfigWrite_bad (s.at t) _ hst (State.pxBad_of_rule _ _ hrule)] at hexec
      exact gives_reject (by omega) hexec
    · obtain ⟨out, hstore⟩ := (s.at t).pxConfigWrite_good w hst hgood
      obtain ⟨-, hself, hregs⟩ := (s.at t).storeReg_pinEngine he ho h8 hpx v
      exact ⟨_, hexec.trans (congrArg _ hstore), hself, hregs, (s.at t).storeReg_px _ v⟩
  · have hexec := exec_pxCntWrite he hk hreach t { v := x, nb := 8, src := src }
    refine ⟨fun hst => ?_, fun hst hmode hlen => ?_⟩
    · rw [State.pxCntWrite_running (s.at t) rfl hst] at hexec
      exact gives_reject (by omega) hexec
    · rw [State.pxCntWrite_stopped (s.at t) rfl hst] at hexec
      have hframe := (s.at t).writeCtr_frame (x.setWidth 48) hk hmode hlen
      dsimp only at hframe hexec
      generalize (s.at t).writeCtr e k (x.setWidth 48) = s' at hframe hexec
      exact ⟨s', hexec, hframe⟩
  · have hexec := exec_pxDataRead hrun he hm hnb hlen hmem hstall t
    obtain ⟨hdata, hothers, hframe⟩ := (s.at t).readEffect_pxData he hm lo nb
    refine ⟨_, hexec, ?_, hdata, hothers, ?_⟩
    · rw [hframe]
      rfl
    · rw [hframe]
      rfl

end Machine
end Sys2Proof

/-! What every step keeps, and what a command does while the logic is off (13_boot_security R438; 17_electrical_mechanical R525). -/

namespace Sys2Proof
namespace Machine

/-- The commands that have an effect while the logic is off: the reset pin, the end of the internal reset, a loss of power. -/
def Instr.wakes : Instr → Bool
  | .modResetNAssert _ | .modResetNRelease _ _ | .internalResetRelease _ | .powerLoss _ _ => true
  | _ => false

/-- What a command answers from `s`: a next state that keeps the queue and the canonical form, and, unless it is one that `wakes` the logic, the
same state while the logic is off. -/
structure Acts (s : State) (wakes : Bool) (o : Host.Outcome State Fault Refusal) : Prop where
  keeps : Keeps s o
  idle : wakes = false → s.alive = false → o = .next s

section Frames

variable (t : Time) (s : State) {wk : Bool}

theorem timed_acts (f : State → State) (hf : ∀ x, Kept s x → Kept s (f x)) : Acts s wk (timed t s f) :=
  ⟨timed_keeps t s f hf, fun _ h => timed_dead h t f⟩

theorem inRun_acts (f : State → State) (hf : ∀ x, Kept s x → Kept s (f x)) : Acts s wk (inRun t s f) :=
  ⟨inRun_keeps t s f hf, fun _ h => timed_dead h t _⟩

theorem inStage_acts (n : Nat) (f : State → State) (hf : ∀ x, Kept s x → Kept s (f x)) : Acts s wk (inStage t n s f) :=
  ⟨inStage_keeps t n s f hf, fun _ h => timed_dead h t _⟩

theorem regCmd_acts (off : Nat) (x : Wr) (f : W32 → State → State) (hf : ∀ v x, Kept s x → Kept s (f v x)) : Acts s wk (regCmd t off x s f) :=
  ⟨regCmd_keeps t off x s f hf, fun _ h => timed_dead h t _⟩

theorem teOp_acts (e : Nat) (k : State → Engine → State) (hk : ∀ x y, Kept s x → Kept s (k x y)) : Acts s wk (teOp t e s k) :=
  ⟨teOp_keeps t e s k hk, fun _ h => timed_dead h t _⟩

theorem pxOp_acts (e : Nat) (k : State → Px → State) (hk : ∀ x y, Kept s x → Kept s (k x y)) : Acts s wk (pxOp t e s k) :=
  ⟨pxOp_keeps t e s k hk, fun _ h => timed_dead h t _⟩

theorem takeBcast_acts (p : Bool) (src : BitVec 6) (typ tag : Nat) (payload : W64) (f : State → State) (hf : ∀ x, Kept s x → Kept s (f x)) :
    Acts s wk (takeBcast t p src typ tag payload s f) :=
  ⟨takeBcast_keeps t p src typ tag payload s f hf, fun _ h => timed_dead h t _⟩

theorem takeFrame_acts (p : Bool) (src dest : BitVec 6) (typ tag : Nat) (payload : W64) (f : State → State)
    (hf : ∀ x, Kept s x → Kept s (f x)) : Acts s wk (takeFrame t p src dest typ tag payload s f) :=
  ⟨takeFrame_keeps t p src dest typ tag payload s f hf, fun _ h => timed_dead h t _⟩

end Frames

theorem Acts.ite {s : State} {wk : Bool} {a b : Host.Outcome State Fault Refusal} {c : Prop} [Decidable c] (ha : Acts s wk a)
    (hb : Acts s wk b) : Acts s wk (if c then a else b) := by
  split
  · exact ha
  · exact hb

theorem teAlu_acts (t : Time) (e : Nat) (d a b : BitVec 5) (ln pc fl : BitVec 2) (lanes : Bool) (cyc : Nat) (f : Nat → W64 → W64 → W64 → W64)
    (s : State) {wk : Bool} : Acts s wk (teAlu t e d a b ln pc fl lanes cyc f s) :=
  teOp_acts _ _ _ _ fun _ _ hx => rForm_kept _ _ _ _ _ _ _ _ hx (State.doneEng_kept _ _ _ _ hx)

theorem teReshape_acts (t : Time) (e : Nat) (d a b : BitVec 5) (ln pc fl : BitVec 2) (any : Bool) (f : Nat → W64 → W64 → W64) (s : State) {wk :
    Bool} :
    Acts s wk (teReshape t e d a b ln pc fl any f s) :=
  teOp_acts _ _ _ _ fun _ _ hx => rForm_kept _ _ _ _ _ _ _ _ hx (Kept.ite (State.raiseExc_kept _ _ _ _ _ hx) (State.doneEng_kept _ _ _ _ hx))

theorem teImm_acts (t : Time) (e : Nat) (d : BitVec 5) (ok : Bool) (f : Engine → W64) (s : State) {wk : Bool} : Acts s wk (teImm t e d ok f s) :=
  teOp_acts _ _ _ _ fun _ _ hx => Kept.ite (State.doneEng_kept _ _ _ _ hx) (State.raiseExc_kept _ _ _ _ _ hx)

theorem teLoad_acts (t : Time) (e : Nat) (d a : BitVec 5) (imm : BitVec 16) (n : Nat) (ext : W64 → W64) (s : State) {wk : Bool} :
    Acts s wk (teLoad t e d a imm n ext s) :=
  teOp_acts _ _ _ _ fun x y hx => Kept.ite (State.raiseExc_kept _ _ _ _ _ hx) (by
    split
    · exact Kept.ite (State.raiseExc_kept _ _ _ _ _ hx) (State.doneEng_kept _ _ _ _ hx)
    · exact Kept.ite (State.raiseExc_kept _ _ _ _ _ hx) (State.doneEng_kept _ _ _ _ (State.useFree_kept _ hx))
    · exact State.raiseExc_kept _ _ _ _ _ hx)

theorem teStore_acts (t : Time) (e : Nat) (d a : BitVec 5) (imm : BitVec 16) (n cyc : Nat) (s : State) {wk : Bool} :
    Acts s wk (teStore t e d a imm n cyc s) :=
  teOp_acts _ _ _ _ fun x y hx => Kept.ite (State.raiseExc_kept _ _ _ _ _ hx) (by
    split
    · exact Kept.ite (State.raiseExc_kept _ _ _ _ _ hx) (State.doneEng_kept _ _ _ _ hx)
    · exact State.doneEng_kept _ _ _ _ hx
    · exact State.raiseExc_kept _ _ _ _ _ hx)

theorem teBranch_acts (t : Time) (e : Nat) (imm : BitVec 16) (ok : Bool) (take : Engine → Bool) (cyc cycNot : Nat) (f : Engine → Engine)
    (s : State) {wk : Bool} : Acts s wk (teBranch t e imm ok take cyc cycNot f s) :=
  teOp_acts _ _ _ _ fun _ _ hx => Kept.ite (State.raiseExc_kept _ _ _ _ _ hx) (Kept.ite (State.raiseExc_kept _ _ _ _ _ hx) (Kept.ite
    (State.doneEng_kept _ _ _ _ hx) (State.doneEng_kept _ _ _ _ hx)))

theorem teSend_acts (t : Time) (e : Nat) (east : Bool) (a : BitVec 5) (ln pc fl : BitVec 2) (s : State) {wk : Bool} :
    Acts s wk (teSend t e east a ln pc fl s) :=
  teOp_acts _ _ _ _ fun _ _ hx => rForm_kept _ _ _ _ _ _ _ _ hx (Kept.ite (State.doneEng_kept _ _ _ _ hx) (Kept.ite
    (State.blockEng_kept _ _ _ _ hx) (State.doneEng_kept _ _ _ _ (State.setFifo_kept _ _ _ hx))))

theorem teRecv_acts (t : Time) (e : Nat) (east : Bool) (d : BitVec 5) (ln pc fl : BitVec 2) (s : State) {wk : Bool} :
    Acts s wk (teRecv t e east d ln pc fl s) :=
  teOp_acts _ _ _ _ fun x y hx => rForm_kept _ _ _ _ _ _ _ _ hx (Kept.ite (State.doneEng_kept _ _ _ _ hx) (by
    dsimp only
    generalize State.fifo _ _ = q
    split
    · exact Kept.ite (State.doneEng_kept _ _ _ _ (State.setFifo_kept _ _ _ hx)) (State.blockEng_kept _ _ _ _ hx)
    · exact State.blockEng_kept _ _ _ _ hx))

theorem teAcq_acts (t : Time) (e : Nat) (early : Bool) (d : BitVec 5) (ln pc fl : BitVec 2) (s : State) {wk : Bool} :
    Acts s wk (teAcq t e early d ln pc fl s) :=
  teOp_acts _ _ _ _ fun x y hx => rForm_kept _ _ _ _ _ _ _ _ hx (by
    extract_lets x' wait
    have hx' : Kept s x' := Kept.ite (State.noteCycles_kept _ _ _ hx) hx
    have hw : Kept s wait := State.accumulate_kept _ _ (State.blockEng_kept _ _ _ _ hx')
    split
    · exact hw
    · exact Kept.ite (State.modEng_kept _ _ _ (Kept.ite (State.cover_kept _ _ _ _ _ _ _ hx') hx')) hw)

theorem HostLink.stage_ring (h : HostLink) (off : Nat) (b : Byte) : (h.stage off b).ring = h.ring := by
  unfold HostLink.stage
  split_ifs <;> rfl

theorem HostLink.stage_msix (h : HostLink) (off : Nat) (b : Byte) : (h.stage off b).msix = h.msix := by
  unfold HostLink.stage
  split_ifs <;> rfl

theorem State.putCell_kept {k0 : State} (s : State) (off : Nat) (c : RegCell) (h : Kept k0 s) :
    Kept k0 { s with regs := Tbl.set (cellOf (regReset off)) s.regs off c } :=
  h.put rfl fun h => { h with regs := Tbl.wf_set _ _ _ _ h.regs }

theorem State.setStage_kept {k0 : State} (s : State) (n : Nat) (h : Kept k0 s) : Kept k0 (s.modBoot fun b => { b with stage := n }) :=
  State.modBoot_kept s _ h rfl rfl

/-- A dark step that ends well only changes the calibration block. -/
theorem State.darkEnd_kept {k0 s x : State} (h : Kept k0 s) (hx : s.darkEnd = .ok x) : Kept k0 x := by
  unfold State.darkEnd at hx
  extract_lets st ts res light defect base w1 f at hx
  clear_value light defect
  split at hx
  · cases hx
  · cases hx
  · injection hx with hx
    subst hx
    exact State.modCal_kept _ _ (Kept.foldl _ _ _ h fun _ _ h => Kept.foldl _ _ _ h fun _ _ h =>
      Kept.foldl _ _ _ (State.modCal_kept _ _ h) fun _ _ => State.modCal_kept _ _)

/-- A flat step that ends well only changes the calibration block. -/
theorem State.flatEnd_kept {k0 s x : State} {g : Nat} (h : Kept k0 s) (hx : s.flatEnd g = .ok x) : Kept k0 x := by
  unfold State.flatEnd at hx
  extract_lets st ts target pos dark gOf gBad res satCols level nonu unst defect f at hx
  clear_value level nonu unst defect
  split at hx
  · cases hx
  · split at hx
    · cases hx
    · cases hx
    · cases hx
    · cases hx
    · injection hx with hx
      subst hx
      exact State.modCal_kept _ _ (Kept.foldl _ _ _ h fun _ _ h => Kept.foldl _ _ _ h fun _ _ h =>
        Kept.foldl _ _ _ h fun _ _ => State.modCal_kept _ _)

theorem execLineTick_acts (t : Time) (s : State) {wk : Bool} : Acts s wk (execLineTick t s) :=
  inRun_acts _ _ _ fun _ hx => Kept.ite (State.fireTick_kept _ _ _ _ hx) hx

theorem execTriggerEdge_acts (t : Time) (inp : BitVec 2) (falling : Bool) (s : State) {wk : Bool} : Acts s wk (execTriggerEdge t inp falling s) :=
  inRun_acts _ _ _ fun _ hx => Kept.ite (State.trigger_kept _ _ _ (Kept.ite (State.broadcast_kept _ _ _ _ hx) hx)) hx

theorem execHoldGateOpen_acts (t : Time) (s : State) {wk : Bool} : Acts s wk (execHoldGateOpen t s) :=
  inRun_acts _ _ _ fun x hx => by
    split
    · refine Kept.ite ?_ hx
      extract_lets lat enc n x1
      have h1 : Kept s x1 := State.fireTick_kept _ _ _ _ (State.modTick_kept _ _ hx)
      exact Kept.ite (State.event_kept _ _ _ _ _ _ _ (State.modTick_kept _ _ h1)) h1
    · exact hx

theorem execSlotReleaseDeadline_acts (t : Time) (e : Nat) (s : State) {wk : Bool} : Acts s wk (execSlotReleaseDeadline t e s) :=
  inRun_acts _ _ _ fun _ hx => Kept.ite (State.modEng_kept _ _ _ (Kept.foldl _ _ _ hx fun _ _ => State.failTile_kept _ _ _ _ _)) hx

theorem execIdleFlush_acts (t : Time) (s : State) {wk : Bool} : Acts s wk (execIdleFlush t s) :=
  inRun_acts _ _ _ fun _ hx => Kept.ite (Kept.ite (State.setTck_kept _ _ (State.modTick_kept _ _ (State.drainPulse_kept _ hx)))
    (State.modTick_kept _ _ (State.drainPulse_kept _ hx))) hx

theorem execReversalConfirmed_acts (t : Time) (s : State) {wk : Bool} : Acts s wk (execReversalConfirmed t s) :=
  inRun_acts _ _ _ fun _ hx => Kept.ite (State.minPeriod_kept _ (State.modTick_kept _ _ hx)) hx

theorem execDirectionFlushEnd_acts (t : Time) (s : State) {wk : Bool} : Acts s wk (execDirectionFlushEnd t s) :=
  inRun_acts _ _ _ fun _ hx => State.flushEnd_kept _ hx

theorem execLineReference_acts (t : Time) (s : State) {wk : Bool} : Acts s wk (execLineReference t s) :=
  inRun_acts _ _ _ fun x hx => by
    split
    · exact hx
    · extract_lets x1
      have h1 : Kept s x1 := State.modClk_kept _ _ hx
      split
      · exact Kept.ite h1 (State.refEdge_kept _ _ h1)
      · exact h1

theorem execReferenceLoss_acts (t : Time) (s : State) {wk : Bool} : Acts s wk (execReferenceLoss t s) :=
  inRun_acts _ _ _ fun _ hx => Kept.ite hx (Kept.ite (Kept.ite (State.reacquire_kept _ hx) hx) (Kept.ite (State.holdEntry_kept _ hx) hx))

theorem execLpllLock_acts (t : Time) (s : State) {wk : Bool} : Acts s wk (execLpllLock t s) :=
  inRun_acts _ _ _ fun _ hx => Kept.ite hx (Kept.ite (State.setTck_kept _ _ (State.modTick_kept _ _ (State.modTick_kept _ _ (State.raise_kept _ _
    (State.modClk_kept _ _ (Kept.ite (State.toClamp_kept _ _ hx) (State.modClk_kept _ _ hx))))))) (State.setTck_kept _ _ (State.modTick_kept _ _
      (State.modTick_kept _ _ (State.raise_kept _ _ (State.modClk_kept _ _ (Kept.ite (State.toClamp_kept _ _ hx) (State.modClk_kept _ _ hx))))))))

theorem execHoldoverLinesReached_acts (t : Time) (s : State) {wk : Bool} : Acts s wk (execHoldoverLinesReached t s) :=
  inRun_acts _ _ _ fun _ hx => Kept.ite (State.toLocking_kept _ hx) hx

theorem execGapProvisional_acts (t : Time) (s : State) {wk : Bool} : Acts s wk (execGapProvisional t s) :=
  inRun_acts _ _ _ fun x hx => by
    split
    · exact Kept.ite (State.endGap_kept _ _ _ hx) hx
    · exact Kept.ite (State.clockProvisional_kept _ hx) hx

theorem execCommitGo_acts (t : Time) (w : Wr) (s : State) {wk : Bool} : Acts s wk (execCommitGo t w s) :=
  regCmd_acts _ _ _ _ _ fun _ _ hx => State.commitWrite_kept _ _ hx

theorem execCommitNoTick_acts (t : Time) (s : State) {wk : Bool} : Acts s wk (execCommitNoTick t s) :=
  timed_acts _ _ _ fun _ hx => Kept.ite (State.commitUntimed_kept _ hx) hx

theorem execSnapshotTake_acts (t : Time) (w : Wr) (s : State) {wk : Bool} : Acts s wk (execSnapshotTake t w s) :=
  regCmd_acts _ _ _ _ _ fun _ _ hx => State.snapWrite_kept _ _ hx

theorem execSnapshotNoTick_acts (t : Time) (s : State) {wk : Bool} : Acts s wk (execSnapshotNoTick t s) :=
  timed_acts _ _ _ fun _ hx => Kept.ite (State.snapEffect_kept _ _ _ _ hx) hx

theorem execBankWrite_acts (t : Time) (off : Nat) (w : Wr) (s : State) {wk : Bool} : Acts s wk (execBankWrite t off w s) :=
  regCmd_acts _ _ _ _ _ fun v x hx => by
    split
    · exact Kept.ite (State.bankWrite_kept _ _ _ _ hx) hx
    · exact State.reject_kept _ _ _ _ hx

theorem execSeqSwapGo_acts (t : Time) (w : Wr) (s : State) {wk : Bool} : Acts s wk (execSeqSwapGo t w s) :=
  regCmd_acts _ _ _ _ _ fun _ _ hx => State.swapWrite_kept _ _ _ hx

theorem execSwapValidated_acts (t : Time) (s : State) {wk : Bool} : Acts s wk (execSwapValidated t s) :=
  inRun_acts _ _ _ fun x hx => Kept.ite (by
    dsimp only
    split
    · exact State.minPeriod_kept _ (State.modSeq_kept _ _ hx)
    · exact State.raise_kept _ _ (State.modSeq_kept _ _ hx)) hx

theorem execSwapNoTick_acts (t : Time) (s : State) {wk : Bool} : Acts s wk (execSwapNoTick t s) :=
  inRun_acts _ _ _ fun _ hx => Kept.ite (State.minPeriod_kept _ (State.swapEffect_kept _ _ _ _ hx)) hx

theorem execCopyComplete_acts (t : Time) (s : State) {wk : Bool} : Acts s wk (execCopyComplete t s) :=
  inRun_acts _ _ _ fun _ hx => Kept.ite (Kept.ite (State.raise_kept _ _ (State.modSeq_kept _ _ (State.copyBank_kept _ hx))) (State.modSeq_kept _ _
    (State.copyBank_kept _ hx))) hx

theorem execLockAcquire_acts (t : Time) (w : Wr) (s : State) {wk : Bool} : Acts s wk (execLockAcquire t w s) :=
  regCmd_acts _ _ _ _ _ fun _ _ hx => State.lockWrite_kept _ _ _ hx

theorem execLockRenew_acts (t : Time) (w : Wr) (s : State) {wk : Bool} : Acts s wk (execLockRenew t w s) :=
  regCmd_acts _ _ _ _ _ fun _ _ hx => State.lockWrite_kept _ _ _ hx

theorem execLockRelease_acts (t : Time) (w : Wr) (s : State) {wk : Bool} : Acts s wk (execLockRelease t w s) :=
  regCmd_acts _ _ _ _ _ fun _ _ hx => State.lockWrite_kept _ _ _ hx

theorem execLeaseExpiry_acts (t : Time) (s : State) {wk : Bool} : Acts s wk (execLeaseExpiry t s) :=
  inRun_acts _ _ _ fun _ hx => Kept.ite (State.unlock_kept _ hx) hx

theorem execHoldTrigFire_acts (t : Time) (w : Wr) (s : State) {wk : Bool} : Acts s wk (execHoldTrigFire t w s) :=
  regCmd_acts _ _ _ _ _ fun _ _ hx => Kept.ite (State.holdTrigger_kept _ hx) hx

theorem execDelayExpiry_acts (t : Time) (s : State) {wk : Bool} : Acts s wk (execDelayExpiry t s) :=
  inRun_acts _ _ _ fun _ hx => Kept.ite (State.modSeq_kept _ _ hx) hx

theorem execSeqResUpdate_acts (t : Time) (s : State) {wk : Bool} : Acts s wk (execSeqResUpdate t s) :=
  inRun_acts _ _ _ fun x hx => by
    split
    · exact State.modSeq_kept _ _ (State.resUpdate_kept _ _ hx)
    · exact hx

theorem execSeqResRead_acts (t : Time) (n lo nb : Nat) (s : State) {wk : Bool} : Acts s wk (execSeqResRead t n lo nb s) :=
  timed_acts _ _ _ fun _ hx => Kept.ite (State.busRead_kept _ _ _ hx) hx

theorem execConversionEnd_acts (t : Time) (tile : Nat) (xs : List Int) (s : State) {wk : Bool} : Acts s wk (execConversionEnd t tile xs s) :=
  inRun_acts _ _ _ fun x hx => by
    split
    · next n l _ =>
      refine Kept.ite hx ?_
      extract_lets b words1 words x1 ors x2
      have h1 : Kept s x1 := by
        unfold x1
        split
        · exact State.slotWrite_kept _ _ _ _ hx
        · exact hx
      have h2 : Kept s x2 := State.modLine_kept _ _ _ h1
      exact Kept.ite (State.convDone_kept _ _ _ h2) h2
    · exact hx

theorem execSliceCheckFail_acts (t : Time) (tile j : Nat) (s : State) {wk : Bool} : Acts s wk (execSliceCheckFail t tile j s) :=
  inRun_acts _ _ _ fun x hx => by
    dsimp only
    split
    · exact Kept.ite hx (State.cover_kept _ _ _ _ _ _ _ (State.modBank_kept _ _ _ (State.modConv_kept _ _ hx rfl)))
    · exact hx

theorem execRotation_acts (t : Time) (s : State) {wk : Bool} : Acts s wk (execRotation t s) :=
  inRun_acts _ _ _ fun _ hx => Kept.ite (Kept.foldl _ _ _ (State.modConv_kept _ _ hx rfl) fun _ _ hx =>
    Kept.ite hx (Kept.ite (State.modConv_kept _ _ (State.modBank_kept _ _ _ hx) rfl) (State.modBank_kept _ _ _ hx))) hx

theorem execCalRunEnd_acts (t : Time) (tile : Nat) (run : CalRun) (s : State) {wk : Bool} : Acts s wk (execCalRunEnd t tile run s) :=
  inRun_acts _ _ _ fun x hx => by
    dsimp only
    split
    · refine Kept.ite hx ?_
      split
      · exact State.modBank_kept _ _ _ hx
      · exact State.reportRetire_kept _ _ _ _ _ _ (State.modBank_kept _ _ _ hx)
    · exact hx

theorem execBankPowerDown_acts (t : Time) (tile : Nat) (s : State) {wk : Bool} : Acts s wk (execBankPowerDown t tile s) :=
  inRun_acts _ _ _ fun _ hx => Kept.ite (State.minPeriod_kept _ (State.modConv_kept _ _ hx rfl)) hx

theorem execBankWakeAhead_acts (t : Time) (tile : Nat) (s : State) {wk : Bool} : Acts s wk (execBankWakeAhead t tile s) :=
  inRun_acts _ _ _ fun _ hx => Kept.ite (State.minPeriod_kept _ (State.modConv_kept _ _ hx rfl)) hx

theorem execDark_acts (t : Time) (w : Wr) (s : State) {wk : Bool} : Acts s wk (execDark t w s) :=
  regCmd_acts _ _ _ _ _ fun _ _ hx => State.calCmd_kept _ _ _ hx

theorem execFlatHg_acts (t : Time) (w : Wr) (s : State) {wk : Bool} : Acts s wk (execFlatHg t w s) :=
  regCmd_acts _ _ _ _ _ fun _ _ hx => State.calCmd_kept _ _ _ hx

theorem execFlatLg_acts (t : Time) (w : Wr) (s : State) {wk : Bool} : Acts s wk (execFlatLg t w s) :=
  regCmd_acts _ _ _ _ _ fun _ _ hx => State.calCmd_kept _ _ _ hx

theorem execApply_acts (t : Time) (w : Wr) (s : State) {wk : Bool} : Acts s wk (execApply t w s) :=
  regCmd_acts _ _ _ _ _ fun _ _ hx => State.calCmd_kept _ _ _ hx

theorem execSave_acts (t : Time) (w : Wr) (s : State) {wk : Bool} : Acts s wk (execSave t w s) :=
  regCmd_acts _ _ _ _ _ fun _ _ hx => State.calCmd_kept _ _ _ hx

theorem execRestore_acts (t : Time) (w : Wr) (s : State) {wk : Bool} : Acts s wk (execRestore t w s) :=
  regCmd_acts _ _ _ _ _ fun _ _ hx => State.calCmd_kept _ _ _ hx

theorem execAbort_acts (t : Time) (w : Wr) (s : State) {wk : Bool} : Acts s wk (execAbort t w s) :=
  regCmd_acts _ _ _ _ _ fun _ _ hx => State.calCmd_kept _ _ _ hx

theorem execCalStepStart_acts (t : Time) (s : State) {wk : Bool} : Acts s wk (execCalStepStart t s) :=
  inRun_acts _ _ _ fun x hx => by
    dsimp only
    split
    · exact Kept.ite (State.stepStart_kept _ _ _ hx) hx
    · exact hx

theorem execCalStepPendingTimeout_acts (t : Time) (s : State) {wk : Bool} : Acts s wk (execCalStepPendingTimeout t s) :=
  inRun_acts _ _ _ fun _ hx => Kept.ite (State.stepFail_kept _ _ _ _ _ hx) hx

theorem execCalStepEnd_acts (t : Time) (s : State) {wk : Bool} : Acts s wk (execCalStepEnd t s) :=
  inRun_acts _ _ _ fun x hx => by
    refine Kept.ite ?_ hx
    split
    · exact State.stepFail_kept _ _ _ _ _ hx
    · next x1 heq =>
      refine State.calIdle_kept _ ?_
      split at heq
      · exact State.darkEnd_kept hx heq
      · exact State.flatEnd_kept hx heq

theorem execCalStepTimeout_acts (t : Time) (s : State) {wk : Bool} : Acts s wk (execCalStepTimeout t s) :=
  inRun_acts _ _ _ fun _ hx => Kept.ite (State.stepFail_kept _ _ _ _ _ hx) hx

theorem execApplyLoadEnd_acts (t : Time) (s : State) {wk : Bool} : Acts s wk (execApplyLoadEnd t s) :=
  inRun_acts _ _ _ fun _ hx => Kept.ite (State.applyEnd_kept _ _ _ hx) hx

theorem execSaveEnd_acts (t : Time) (good : Bool) (s : State) {wk : Bool} : Acts s wk (execSaveEnd t good s) :=
  inRun_acts _ _ _ fun x hx => by
    split
    · extract_lets x1 x2 img
      have h1 : Kept s x1 := State.readMasters_kept _ hx
      have h2 : Kept s x2 := State.modBoot_kept _ _ h1 rfl rfl
      exact Kept.ite h1 (State.raise_kept _ _ (Kept.ite (State.modCal_kept _ _ (State.flashPut_kept _ _ _ h2)) (State.calFailed_kept _ _ _ _ _
        (State.modCal_kept _ _ h2))))
    · exact hx

theorem execPaletteRewriteEnd_acts (t : Time) (tile : Nat) (s : State) {wk : Bool} : Acts s wk (execPaletteRewriteEnd t tile s) :=
  inRun_acts _ _ _ fun _ hx => Kept.ite (State.writeRegion_kept _ _ (State.readMaster_kept _ _ (State.modCal_kept _ _ hx))) hx

theorem execMasterReloadEnd_acts (t : Time) (tile : Nat) (s : State) {wk : Bool} : Acts s wk (execMasterReloadEnd t tile s) :=
  inRun_acts _ _ _ fun x hx => by
    exact Kept.ite (State.writeRegion_kept _ _ (Kept.foldl _ _ _ (State.modCal_kept _ _ hx) fun _ _ => State.putCoef_kept _ _ _ _)) hx

theorem execJournalAppend_acts (t : Time) (good : Bool) (s : State) {wk : Bool} : Acts s wk (execJournalAppend t good s) :=
  timed_acts _ _ _ fun x hx => by
    split
    · exact Kept.ite (State.modCal_kept _ _ (State.flashPut_kept _ _ _ hx)) hx
    · exact hx

theorem execTeCmp_acts (t : Time) (e : Nat) (fn d a b : BitVec 5) (ln pc fl : BitVec 2) (s : State) {wk : Bool} : Acts s wk
    (execTeCmp t e fn d a b ln pc fl s) :=
  teOp_acts _ _ _ _ fun _ _ hx => Kept.ite (State.raiseExc_kept _ _ _ _ _ hx) (State.doneEng_kept _ _ _ _ hx)

theorem execTeCmpi_acts (t : Time) (e : Nat) (d a : BitVec 5) (imm : BitVec 16) (s : State) {wk : Bool} : Acts s wk (execTeCmpi t e d a imm s) :=
  teOp_acts _ _ _ _ fun _ _ hx => Kept.ite (State.raiseExc_kept _ _ _ _ _ hx) (State.doneEng_kept _ _ _ _ hx)

theorem execTeLinfo_acts (t : Time) (e : Nat) (d a : BitVec 5) (imm : BitVec 16) (s : State) {wk : Bool} : Acts s wk (execTeLinfo t e d a imm s) :=
  teOp_acts _ _ _ _ fun x y hx => Kept.ite (State.raiseExc_kept _ _ _ _ _ hx) (Kept.ite (State.raiseExc_kept _ _ _ _ _ hx) (by
    split
    · exact State.doneEng_kept _ _ _ _ hx
    · exact State.doneEng_kept _ _ _ _ hx))

theorem execTePld_acts (t : Time) (e : Nat) (d a : BitVec 5) (imm : BitVec 16) (s : State) {wk : Bool} : Acts s wk (execTePld t e d a imm s) :=
  teOp_acts _ _ _ _ fun _ _ hx => Kept.ite (State.raiseExc_kept _ _ _ _ _ hx) (Kept.ite (State.raiseExc_kept _ _ _ _ _ hx) (Kept.ite
    (State.askRewrite_kept _ _ (State.doneEng_kept _ _ _ _ hx)) (State.doneEng_kept _ _ _ _ hx)))

theorem execTeLcset_acts (t : Time) (e : Nat) (d a : BitVec 5) (imm : BitVec 16) (s : State) {wk : Bool} : Acts s wk (execTeLcset t e d a imm s) :=
  teOp_acts _ _ _ _ fun _ _ hx => Kept.ite (State.doneEng_kept _ _ _ _ hx) (State.raiseExc_kept _ _ _ _ _ hx)

theorem execTeNop_acts (t : Time) (e : Nat) (_d _a _b : BitVec 5) (ln pc fl : BitVec 2) (s : State) {wk : Bool} : Acts s wk
    (execTeNop t e _d _a _b ln pc fl s) :=
  teOp_acts _ _ _ _ fun _ _ hx => rForm_kept _ _ _ _ _ _ _ _ hx (State.doneEng_kept _ _ _ _ hx)

theorem execTeMfs_acts (t : Time) (e : Nat) (d a _b : BitVec 5) (ln pc fl : BitVec 2) (s : State) {wk : Bool} :
    Acts s wk (execTeMfs t e d a _b ln pc fl s) :=
  teOp_acts _ _ _ _ fun x y hx => rForm_kept _ _ _ _ _ _ _ _ hx (by
    split
    · exact State.doneEng_kept _ _ _ _ (Kept.ite (State.useFree_kept _ hx) hx)
    · exact State.raiseExc_kept _ _ _ _ _ hx)

theorem execTeMts_acts (t : Time) (e : Nat) (d a _b : BitVec 5) (ln pc fl : BitVec 2) (s : State) {wk : Bool} :
    Acts s wk (execTeMts t e d a _b ln pc fl s) :=
  teOp_acts _ _ _ _ fun _ _ hx => rForm_kept _ _ _ _ _ _ _ _ hx (Kept.ite (State.doneEng_kept _ _ _ _ hx) (Kept.ite
    (State.doneEng_kept _ _ _ _ hx) (Kept.ite (State.doneEng_kept _ _ _ _ hx) (State.raiseExc_kept _ _ _ _ _ hx))))

theorem execTeHb_acts (t : Time) (e : Nat) (_d _a _b : BitVec 5) (ln pc fl : BitVec 2) (s : State) {wk : Bool} :
    Acts s wk (execTeHb t e _d _a _b ln pc fl s) :=
  teOp_acts _ _ _ _ fun _ _ hx => rForm_kept _ _ _ _ _ _ _ _ hx (State.doneEng_kept _ _ _ _ hx)

theorem execTeKb_acts (t : Time) (e : Nat) (_d _a _b : BitVec 5) (ln pc fl : BitVec 2) (s : State) {wk : Bool} :
    Acts s wk (execTeKb t e _d _a _b ln pc fl s) :=
  teOp_acts _ _ _ _ fun _ _ hx => Kept.ite (State.raiseExc_kept _ _ _ _ _ hx) (Kept.ite (State.modEng_kept _ _ _ hx) (State.blockEng_kept _ _ _ _ hx))

theorem execTeBrk_acts (t : Time) (e : Nat) (_d _a b : BitVec 5) (ln pc fl : BitVec 2) (s : State) {wk : Bool} :
    Acts s wk (execTeBrk t e _d _a b ln pc fl s) :=
  teOp_acts _ _ _ _ fun _ _ hx => rForm_kept _ _ _ _ _ _ _ _ hx (State.raiseExc_kept _ _ _ _ _ hx)

theorem execTeRet_acts (t : Time) (e : Nat) (_d a _b : BitVec 5) (ln pc fl : BitVec 2) (s : State) {wk : Bool} :
    Acts s wk (execTeRet t e _d a _b ln pc fl s) :=
  teOp_acts _ _ _ _ fun _ _ hx => Kept.ite (State.raiseExc_kept _ _ _ _ _ hx) (rForm_kept _ _ _ _ _ _ _ _ hx (State.doneEng_kept _ _ _ _ hx))

theorem execTeLwait_acts (t : Time) (e : Nat) (_d a _b : BitVec 5) (ln pc fl : BitVec 2) (s : State) {wk : Bool} : Acts s wk
    (execTeLwait t e _d a _b ln pc fl s) :=
  teOp_acts _ _ _ _ fun _ _ hx => rForm_kept _ _ _ _ _ _ _ _ hx (Kept.ite (State.raiseExc_kept _ _ _ _ _ hx) (Kept.ite
    (State.doneWait_kept _ _ hx) (State.blockEng_kept _ _ _ _ hx)))

theorem execTeLwaitf_acts (t : Time) (e : Nat) (_d a b : BitVec 5) (ln pc fl : BitVec 2) (s : State) {wk : Bool} : Acts s wk
    (execTeLwaitf t e _d a b ln pc fl s) :=
  teOp_acts _ _ _ _ fun x y hx => rForm_kept _ _ _ _ _ _ _ _ hx (Kept.ite (State.raiseExc_kept _ _ _ _ _ hx) (Kept.ite
    (State.doneWait_kept _ _ hx) (by
    split
    · exact Kept.ite (State.doneWait_kept _ _ hx) (State.blockEng_kept _ _ _ _ hx)
    · exact State.doneWait_kept _ _ hx)))

theorem execTeLrel_acts (t : Time) (e : Nat) (_d a _b : BitVec 5) (ln pc fl : BitVec 2) (s : State) {wk : Bool} : Acts s wk
    (execTeLrel t e _d a _b ln pc fl s) :=
  teOp_acts _ _ _ _ fun x y hx => rForm_kept _ _ _ _ _ _ _ _ hx (by
    extract_lets sl q x1 p x2
    have h1 : Kept s x1 := State.modEng_kept _ _ _ hx
    have hp : Kept s p.1 := by
      unfold p
      split
      · split
        · exact State.driftRoutine_kept _ _ _ _ h1
        · exact h1
      · exact h1
    have h2 : Kept s x2 := Kept.ite (State.failTile_kept _ _ _ _ _ hp) (State.releaseTile_kept _ _ _ hp)
    exact Kept.ite (State.raiseExc_kept _ _ _ _ _ hx) (Kept.ite (State.freeSlot_kept _ _ _ _ h1) (State.freeSlot_kept _ _ _ _ h2)))

theorem execTeLtest_acts (t : Time) (e : Nat) (_d a _b : BitVec 5) (ln pc fl : BitVec 2) (s : State) {wk : Bool} : Acts s wk
    (execTeLtest t e _d a _b ln pc fl s) :=
  teOp_acts _ _ _ _ fun _ _ hx => Kept.ite (State.raiseExc_kept _ _ _ _ _ hx) (State.doneEng_kept _ _ _ _ hx)

theorem execTeLkill_acts (t : Time) (e : Nat) (_d a b : BitVec 5) (ln pc fl : BitVec 2) (s : State) {wk : Bool} : Acts s wk
    (execTeLkill t e _d a b ln pc fl s) :=
  teOp_acts _ _ _ _ fun _ _ hx => rForm_kept _ _ _ _ _ _ _ _ hx (Kept.ite (State.raiseExc_kept _ _ _ _ _ hx) (Kept.ite
    (State.freeSlot_kept _ _ _ _ hx) (State.freeSlot_kept _ _ _ _ (Kept.ite (State.failTile_kept _ _ _ _ _ hx) (State.failTile_kept _ _ _ _ _ hx)))))

theorem execNbTimeout_acts (t : Time) (e : Nat) (s : State) {wk : Bool} : Acts s wk (execNbTimeout t e s) :=
  inRun_acts _ _ _ fun x hx => by
    split
    · exact Kept.ite hx (Kept.ite (State.doneEng_kept _ _ _ _ hx) (Kept.ite (State.doneEng_kept _ _ _ _ hx) hx))
    · exact hx

theorem execTeRsend_acts (t : Time) (e : Nat) (_d a b : BitVec 5) (ln pc fl : BitVec 2) (s : State) {wk : Bool} : Acts s wk
    (execTeRsend t e _d a b ln pc fl s) :=
  teOp_acts _ _ _ _ fun _ _ hx => rForm_kept _ _ _ _ _ _ _ _ hx (tePort_kept _ _ _ _ _ _ _ hx)

theorem execTeRsendt_acts (t : Time) (e : Nat) (_d a b : BitVec 5) (ln pc fl : BitVec 2) (s : State) {wk : Bool} : Acts s wk
    (execTeRsendt t e _d a b ln pc fl s) :=
  teOp_acts _ _ _ _ fun _ _ hx => rForm_kept _ _ _ _ _ _ _ _ hx (tePort_kept _ _ _ _ _ _ _ hx)

theorem execTeRtry_acts (t : Time) (e : Nat) (_d a b : BitVec 5) (ln pc fl : BitVec 2) (s : State) {wk : Bool} :
    Acts s wk (execTeRtry t e _d a b ln pc fl s) :=
  teOp_acts _ _ _ _ fun _ _ hx => Kept.ite (State.raiseExc_kept _ _ _ _ _ hx) (tePort_kept _ _ _ _ _ _ _ hx)

theorem execTeRtryt_acts (t : Time) (e : Nat) (_d a b : BitVec 5) (ln pc fl : BitVec 2) (s : State) {wk : Bool} : Acts s wk
    (execTeRtryt t e _d a b ln pc fl s) :=
  teOp_acts _ _ _ _ fun _ _ hx => Kept.ite (State.raiseExc_kept _ _ _ _ _ hx) (tePort_kept _ _ _ _ _ _ _ hx)

theorem execBlockedHeartbeat_acts (t : Time) (e : Nat) (s : State) {wk : Bool} : Acts s wk (execBlockedHeartbeat t e s) :=
  inRun_acts _ _ _ fun x hx => by
    split
    · exact Kept.ite (State.modEng_kept _ _ _ hx) hx
    · exact hx

theorem execEngineHang_acts (t : Time) (e : Nat) (s : State) {wk : Bool} : Acts s wk (execEngineHang t e s) :=
  inRun_acts _ _ _ fun _ hx => Kept.ite (State.raiseExc_kept _ _ _ _ _ hx) hx

theorem execPortCheckFail_acts (t : Time) (e : Nat) (s : State) {wk : Bool} : Acts s wk (execPortCheckFail t e s) :=
  inRun_acts _ _ _ fun _ hx => Kept.ite (State.raiseExc_kept _ _ _ _ _ hx) hx

theorem execEngineRestartEnd_acts (t : Time) (e : Nat) (s : State) {wk : Bool} : Acts s wk (execEngineRestartEnd t e s) :=
  inRun_acts _ _ _ fun _ hx => Kept.ite hx (Kept.ite (State.raise_kept _ _ (State.logEvent_kept _ _ _ _ _ _ (State.failOpen_kept _ _ _ _
    (State.modEng_kept _ _ _ hx)))) (State.startEng_kept _ _ (State.modEng_kept _ _ _ hx)))

theorem execSpareLoadEnd_acts (t : Time) (e : Nat) (s : State) {wk : Bool} : Acts s wk (execSpareLoadEnd t e s) :=
  inRun_acts _ _ _ fun _ hx => Kept.ite hx (State.readMaster_kept _ _ (State.modCal_kept _ _ (State.modEng_kept _ _ _ (State.startEng_kept _ _ hx))))

theorem execRestartAll_acts (t : Time) (w : Wr) (s : State) {wk : Bool} : Acts s wk (execRestartAll t w s) :=
  regCmd_acts _ _ _ _ _ fun _ _ hx => State.teCtlWrite_kept _ _ _ hx

theorem execTeLoadGo_acts (t : Time) (w : Wr) (s : State) {wk : Bool} : Acts s wk (execTeLoadGo t w s) :=
  regCmd_acts _ _ _ _ _ fun _ _ hx => State.teLoadWrite_kept _ _ hx

theorem execTeLoadEnd_acts (t : Time) (s : State) {wk : Bool} : Acts s wk (execTeLoadEnd t s) :=
  inRun_acts _ _ _ fun _ hx => Kept.ite (State.raise_kept _ _ (Kept.foldl _ _ _ (State.modTe_kept _ _ hx rfl) fun _ _ hx =>
    Kept.ite hx (Kept.ite (State.modEng_kept _ _ _ hx) (State.startEng_kept _ _ (State.modEng_kept _ _ _ hx))))) hx

theorem execTeCyclesClear_acts (t : Time) (w : Wr) (s : State) {wk : Bool} : Acts s wk (execTeCyclesClear t w s) :=
  regCmd_acts _ _ _ _ _ fun _ _ hx => State.teCyclesWrite_kept _ _ hx

theorem execStatCombine_acts (t : Time) (line : Nat) (s : State) {wk : Bool} : Acts s wk (execStatCombine t line s) :=
  inRun_acts _ _ _ fun x hx => by
    split
    · refine Kept.ite (Kept.foldl _ _ _ hx fun y ch hy => ?_) hx
      extract_lets cs y1
      have h1 : Kept s y1 := State.modFab_kept _ _ hy rfl
      exact Kept.ite hy (Kept.ite (State.stage_kept _ _ h1) h1)
    · exact hx

theorem execClose_acts (t : Time) (ch : Nat) (s : State) {wk : Bool} : Acts s wk (execClose t ch s) :=
  inRun_acts _ _ _ fun x hx => by
    split
    · refine Kept.ite hx ?_
      extract_lets x1
      have h1 : Kept s x1 := State.modFab_kept _ _ hx rfl
      exact Kept.ite (State.useFree_kept _ (State.closed_kept _ _ _ (State.stage_kept _ _ h1))) h1
    · exact hx

theorem execClassCDrop_acts (t : Time) (e : Nat) (s : State) {wk : Bool} : Acts s wk (execClassCDrop t e s) :=
  inRun_acts _ _ _ fun _ hx => Kept.ite (State.dropC_kept _ _ hx) hx

theorem execRecordReassembled_acts (t : Time) (src : Nat) (ue bad : Bool) (s : State) {wk : Bool} :
    Acts s wk (execRecordReassembled t src ue bad s) :=
  inRun_acts _ _ _ fun x hx => by
    split
    · exact hx
    · extract_lets r x1 ch hitUe x2 x3 x4
      have h1 : Kept s x1 := State.modFab_kept _ _ hx rfl
      have h2 : Kept s x2 := Kept.ite (State.logEvent_kept _ _ _ _ _ _ (State.modFlt_kept _ _ h1)) h1
      have h3 : Kept s x3 := Kept.ite (State.modFlt_kept _ _ h2) h2
      have h4 : Kept s x4 := Kept.ite h3 (State.logEvent_kept _ _ _ _ _ _ h3)
      exact Kept.ite (Kept.ite (State.lostDevice_kept _ _ h3) (State.lostKernel_kept _ _ _ h4))
        (Kept.ite (Kept.ite (State.modChan_kept _ _ _ h3) (State.loseRec_kept _ _ _ _ h3)) (State.enterEgress_kept _ _ _ _ h3))

theorem execSlackClear_acts (t : Time) (ch : Nat) (w : Wr) (s : State) {wk : Bool} : Acts s wk (execSlackClear t ch w s) :=
  Acts.ite (regCmd_acts _ _ _ _ _ fun _ _ hx => State.slackWrite_kept _ _ _ hx) (timed_acts _ _ _ fun _ hx => hx)

theorem execEgressWrite_acts (t : Time) (ch : Nat) (ue : Bool) (s : State) {wk : Bool} : Acts s wk (execEgressWrite t ch ue s) :=
  timed_acts _ _ _ fun x hx => by
    split
    · exact hx
    · extract_lets first out off x1 p
      have ho : Kept s out := State.modFab_kept _ _ hx rfl
      have h1 : Kept s x1 := State.logEvent_kept _ _ _ _ _ _ (State.modFlt_kept _ _ (State.useFree_kept _ ho))
      have hp : Kept s p.1 := State.place_kept _ _ _ _ ho
      refine Kept.ite hx (Kept.ite (Kept.ite (State.lostDevice_kept _ _ h1) (State.lostKernel_kept _ _ _ h1)) (Kept.ite (State.fetchDesc_kept _ _
        (State.modChan_kept _ _ _ hp)) ?_))
      exact State.fetchDesc_kept _ _ ⟨hp.queue, fun c => have y := hp.canon c; { y with ch := (hx.canon c).ch }⟩

theorem execStarvedDrop_acts (t : Time) (ch : Nat) (s : State) {wk : Bool} : Acts s wk (execStarvedDrop t ch s) :=
  timed_acts _ _ _ fun x hx => by
    split
    · exact Kept.ite (State.endItem_kept _ _ _ _ _ (State.modRing_kept _ _ _ (State.modFab_kept _ _ hx rfl))) hx
    · exact hx

theorem execWriteback_acts (t : Time) (ch : Nat) (s : State) {wk : Bool} : Acts s wk (execWriteback t ch s) :=
  timed_acts _ _ _ fun _ hx => Kept.ite (State.writeback_kept _ _ hx) hx

theorem execIrqHoldoffEnd_acts (t : Time) (ch : Nat) (s : State) {wk : Bool} : Acts s wk (execIrqHoldoffEnd t ch s) :=
  timed_acts _ _ _ fun x hx => by
    split
    · exact Kept.ite (State.msix_kept _ _ (State.modRing_kept _ _ _ hx)) hx
    · exact hx

theorem execRingStart_acts (t : Time) (ch : Nat) (w : Wr) (s : State) {wk : Bool} : Acts s wk (execRingStart t ch w s) :=
  Acts.ite (regCmd_acts _ _ _ _ _ fun _ _ hx => State.ringCtlWrite_kept _ _ _ _ hx) (timed_acts _ _ _ fun _ hx => hx)

theorem execRingStartEffect_acts (t : Time) (ch : Nat) (s : State) {wk : Bool} : Acts s wk (execRingStartEffect t ch s) :=
  timed_acts _ _ _ fun x hx => by
    split
    · exact Kept.ite (State.startEffect_kept _ _ _ _ hx) hx
    · exact hx

theorem execRingStop_acts (t : Time) (ch : Nat) (w : Wr) (s : State) {wk : Bool} : Acts s wk (execRingStop t ch w s) :=
  Acts.ite (regCmd_acts _ _ _ _ _ fun _ _ hx => State.ringCtlWrite_kept _ _ _ _ hx) (timed_acts _ _ _ fun _ hx => hx)

theorem execStoppingDrained_acts (t : Time) (ch : Nat) (s : State) {wk : Bool} : Acts s wk (execStoppingDrained t ch s) :=
  timed_acts _ _ _ fun x hx => by
    split
    · extract_lets c any old
      refine Kept.ite hx (Kept.ite (State.ringIdle_kept _ _ hx) (Kept.ite hx (Kept.ite (State.ringIdle_kept _ _ hx) (Kept.ite ?_ hx))))
      exact State.ringIdle_kept _ _ (State.modFab_kept _ _ (State.modChan_kept _ _ _ (State.closed_kept _ _ _ (State.place_kept _ _ _ _
        (State.useFree_kept _ hx)))) rfl)
    · exact hx

theorem execStoppingTimeout_acts (t : Time) (ch : Nat) (s : State) {wk : Bool} : Acts s wk (execStoppingTimeout t ch s) :=
  timed_acts _ _ _ fun x hx => by
    split
    · exact Kept.ite (State.ringIdle_kept _ _ (State.discardEgress_kept _ _ hx)) hx
    · exact hx

theorem execTailWrite_acts (t : Time) (ch : Nat) (w : Wr) (s : State) {wk : Bool} : Acts s wk (execTailWrite t ch w s) :=
  Acts.ite (regCmd_acts _ _ _ _ _ fun _ _ hx => State.tailWrite_kept _ _ _ _ hx) (timed_acts _ _ _ fun _ hx => hx)

theorem execDescriptorFetchDone_acts (t : Time) (ch : Nat) (r : FetchEnd) (s : State) {wk : Bool} : Acts s wk (execDescriptorFetchDone t ch r s) :=
  timed_acts _ _ _ fun x hx => by
    split
    · exact hx
    · split
      · exact State.ringFault_kept _ _ _ (Kept.ite (State.aer_kept _ _ hx) hx)
      · exact Kept.ite (State.ringFault_kept _ _ _ (State.aer_kept _ _ hx)) (State.emit_kept _ _ (State.modRing_kept _ _ _ (State.aer_kept _ _ hx)))
      · split
        · exact State.ringFault_kept _ _ _ hx
        · exact State.fetchDesc_kept _ _ (State.modRing_kept _ _ _ hx)

theorem execBusMasterDisable_acts (t : Time) (s : State) {wk : Bool} : Acts s wk (execBusMasterDisable t s) :=
  timed_acts _ _ _ fun _ hx => State.busOff_kept _ hx

theorem execConfigRequest_acts (t : Time) (req : CfgReq) (s : State) {wk : Bool} : Acts s wk (execConfigRequest t req s) :=
  timed_acts _ _ _ fun _ hx => Kept.ite hx (Kept.ite (State.emit_kept _ _ hx) (Kept.ite (State.cfgDone_kept _ _ hx) (Kept.ite
    (State.cfgDone_kept _ _ (State.modHost_kept _ _ (Kept.ite hx (State.useFree_kept _ hx)) rfl rfl)) (State.emit_kept _ _
      (State.useFree_kept _ hx)))))

theorem execBar0OverlongRead_acts (t : Time) (off nb : Nat) (s : State) {wk : Bool} : Acts s wk (execBar0OverlongRead t off nb s) :=
  timed_acts _ _ _ fun _ hx => Kept.ite (State.busRead_kept _ _ _ hx) hx

theorem execBar2Write_acts (t : Time) (off nb : Nat) (v : W64) (s : State) {wk : Bool} : Acts s wk (execBar2Write t off nb v s) :=
  timed_acts _ _ _ fun x hx => by
    exact Kept.ite (State.aer_kept _ _ hx) (Kept.ite (State.reject_kept _ _ _ _ hx) (Kept.ite (Kept.foldl _ _ _ hx fun _ _ hy =>
      State.modHost_kept _ _ hy (HostLink.stage_ring ..) (HostLink.stage_msix ..)) (State.reject_kept _ _ _ _ hx)))

theorem execFlr_acts (t : Time) (s : State) {wk : Bool} : Acts s wk (execFlr t s) :=
  timed_acts _ _ _ fun _ hx => State.flrStart_kept _ hx

theorem execFlrComplete_acts (t : Time) (s : State) {wk : Bool} : Acts s wk (execFlrComplete t s) :=
  timed_acts _ _ _ fun _ hx => State.modHost_kept _ _ hx rfl rfl

theorem execHotReset_acts (t : Time) (s : State) {wk : Bool} : Acts s wk (execHotReset t s) :=
  timed_acts _ _ _ fun _ hx => State.modHost_kept _ _ (State.fnReset_kept _ _ hx) rfl rfl

theorem execLinkDown_acts (t : Time) (s : State) {wk : Bool} : Acts s wk (execLinkDown t s) :=
  timed_acts _ _ _ fun _ hx => State.modHost_kept _ _ (State.fnReset_kept _ _ hx) rfl rfl

theorem execPciePerstN_acts (t : Time) (s : State) {wk : Bool} : Acts s wk (execPciePerstN t s) :=
  timed_acts _ _ _ fun _ hx => Kept.ite hx (State.modHost_kept _ _ (State.fnReset_kept _ _ hx) rfl rfl)

theorem execD3hotEntry_acts (t : Time) (s : State) {wk : Bool} : Acts s wk (execD3hotEntry t s) :=
  timed_acts _ _ _ fun _ hx => State.d3Enter_kept _ hx

theorem execRwinSelWrite_acts (t : Time) (w : Wr) (s : State) {wk : Bool} : Acts s wk (execRwinSelWrite t w s) :=
  regCmd_acts _ _ _ _ _ fun _ _ hx => State.rwinSelWrite_kept _ _ _ hx

theorem execRemoteWindowWrite_acts (t : Time) (x : Nat) (w : Wr) (s : State) {wk : Bool} : Acts s wk (execRemoteWindowWrite t x w s) :=
  timed_acts _ _ _ fun _ hx => Kept.ite hx (Kept.ite (State.aer_kept _ _ hx) (Kept.ite (State.modClk_kept _ _ hx) (State.winWrite_kept _ _ _ hx)))

theorem execRemoteWindowRead_acts (t : Time) (x nb : Nat) (s : State) {wk : Bool} : Acts s wk (execRemoteWindowRead t x nb s) :=
  timed_acts _ _ _ fun _ hx => Kept.ite hx (Kept.ite (State.aer_kept _ _ hx) (Kept.ite (State.modClk_kept _ _ hx) (State.winRead_kept _ _ _ hx)))

theorem execRemoteReadTimeout_acts (t : Time) (s : State) {wk : Bool} : Acts s wk (execRemoteReadTimeout t s) :=
  timed_acts _ _ _ fun x hx => by
    split
    · exact Kept.ite hx (State.winNext_kept _ _ (State.winData_kept _ _ _ _ (State.modHost_kept _ _ hx rfl rfl)))
    · exact hx

theorem execRefAbsent_acts (t : Time) (r : BitVec 2) (s : State) {wk : Bool} : Acts s wk (execRefAbsent t r s) :=
  timed_acts _ _ _ fun _ hx => Kept.ite hx (State.refLost_kept _ _ hx)

theorem execRefPresent_acts (t : Time) (r : BitVec 2) (s : State) {wk : Bool} : Acts s wk (execRefPresent t r s) :=
  timed_acts _ _ _ fun _ hx => Kept.ite hx (Kept.ite (State.relock_kept _ _ (State.modClk_kept _ _ hx)) (State.modClk_kept _ _ hx))

theorem execRefMonitorMeasure_acts (t : Time) (ppm : Int) (s : State) {wk : Bool} : Acts s wk (execRefMonitorMeasure t ppm s) :=
  timed_acts _ _ _ fun _ hx => Kept.ite hx (State.modClk_kept _ _ hx)

theorem execCpllLossOfLock_acts (t : Time) (loss : LockLoss) (s : State) {wk : Bool} : Acts s wk (execCpllLossOfLock t loss s) :=
  timed_acts _ _ _ fun _ hx => Kept.ite (State.gateCpll_kept _ _ _ _ _ hx) hx

theorem execRelockTimeout_acts (t : Time) (s : State) {wk : Bool} : Acts s wk (execRelockTimeout t s) :=
  timed_acts _ _ _ fun _ hx => Kept.ite hx (Kept.ite (State.relock_kept _ _ (State.modClk_kept _ _ hx)) (Kept.ite (State.relock_kept _ _ hx)
    (State.relock_kept _ _ (State.modClk_kept _ _ (State.countFailover_kept _ hx)))))

theorem execCpllLock_acts (t : Time) (s : State) {wk : Bool} : Acts s wk (execCpllLock t s) :=
  timed_acts _ _ _ fun _ hx => Kept.ite (State.replay_kept _ (State.ungateCpll_kept _ hx)) hx

theorem execInterruptionEnd_acts (t : Time) (s : State) {wk : Bool} : Acts s wk (execInterruptionEnd t s) :=
  timed_acts _ _ _ fun x hx => by
    split
    · exact hx
    · refine Kept.ite hx ?_
      extract_lets ns cause now x1 x2 x3
      have h1 : Kept s x1 := State.modTick_kept _ _ (State.resumeEngs_kept _ (State.clockGap_kept _ hx))
      have h2 : Kept s x2 := State.modClk_kept _ _ h1
      have h3 : Kept s x3 := State.logEvent_kept _ _ _ _ _ _ (Kept.ite (State.openGap_kept _ _ h2) h2)
      exact Kept.ite (State.health_kept _ (State.modFlt_kept _ _ h3)) h3

theorem execInterruptionLong_acts (t : Time) (s : State) {wk : Bool} : Acts s wk (execInterruptionLong t s) :=
  timed_acts _ _ _ fun _ hx => Kept.ite (State.health_kept _ (State.modFlt_kept _ _ hx)) hx

theorem execGatedAccessTimeout_acts (t : Time) (s : State) {wk : Bool} : Acts s wk (execGatedAccessTimeout t s) :=
  timed_acts _ _ _ fun x hx => by
    split
    · refine Kept.ite hx ?_
      extract_lets x1
      have h1 : Kept s x1 := State.modClk_kept _ _ hx
      split
      · exact State.reject_kept _ _ _ _ h1
      · exact State.sendTo_kept _ _ _ _ _ h1
      · exact State.emit_kept _ _ h1
    · exact hx

theorem execRevert_acts (t : Time) (w : Wr) (s : State) {wk : Bool} : Acts s wk (execRevert t w s) :=
  regCmd_acts _ _ _ _ _ fun _ _ hx => State.clkRefWrite_kept _ _ _ hx

theorem execClkRefSrcWrite_acts (t : Time) (w : Wr) (s : State) {wk : Bool} : Acts s wk (execClkRefSrcWrite t w s) :=
  regCmd_acts _ _ _ _ _ fun _ _ hx => State.clkRefWrite_kept _ _ _ hx

theorem execApllLossOfLock_acts (t : Time) (s : State) {wk : Bool} : Acts s wk (execApllLossOfLock t s) :=
  timed_acts _ _ _ fun _ hx => Kept.ite (State.raise_kept _ _ (State.modClk_kept _ _ hx)) hx

theorem execApllLock_acts (t : Time) (s : State) {wk : Bool} : Acts s wk (execApllLock t s) :=
  timed_acts _ _ _ fun x hx => by
    split
    · exact State.replay_kept _ (State.ungateApll_kept _ _ hx)
    · exact hx

theorem execAsyncEdge_acts (t : Time) (s : State) {wk : Bool} : Acts s wk (execAsyncEdge t s) :=
  inRun_acts _ _ _ fun _ hx => State.asyncEdge_kept _ (Kept.ite (State.emit_kept _ _ hx) hx)

theorem execFire_acts (t : Time) (w : Wr) (s : State) {wk : Bool} : Acts s wk (execFire t w s) :=
  regCmd_acts _ _ _ _ _ fun _ _ hx => State.asyncWrite_kept _ _ _ hx

theorem execClkOutWrite_acts (t : Time) (j : Nat) (w : Wr) (s : State) {wk : Bool} : Acts s wk (execClkOutWrite t j w s) :=
  Acts.ite (regCmd_acts _ _ _ _ _ fun _ _ hx => State.clkOutWrite_kept _ _ _ _ hx) (timed_acts _ _ _ fun _ hx => hx)

theorem execInputEdge_acts (t : Time) (e : Nat) (es : List PinEdge) (s : State) {wk : Bool} : Acts s wk (execInputEdge t e es s) :=
  inRun_acts _ _ _ fun x hx => by
    refine Kept.ite hx ?_
    extract_lets acc chg old x1 x2 hit x3
    have h2 : Kept s x2 := State.mirrors_kept _ (State.modPx_kept _ _ _ hx)
    have h3 : Kept s x3 := by
      unfold x3
      clear_value hit
      split
      · exact Kept.ite (State.modPx_kept _ _ _ h2) h2
      · exact h2
    exact Kept.ite h3 (State.encMoved_kept _ h3)

theorem execPxNop_acts (t : Time) (e : Nat) (s : State) {wk : Bool} : Acts s wk (execPxNop t e s) :=
  pxOp_acts _ _ _ _ fun _ _ hx => State.pxNext_kept _ _ _ hx

theorem execPxWaite_acts (t : Time) (e : Nat) (mask : BitVec 4) (edge : BitVec 2) (s : State) {wk : Bool} : Acts s wk (execPxWaite t e mask edge s) :=
  pxOp_acts _ _ _ _ fun x y hx => Kept.ite (State.pxFault_kept _ _ hx) (Kept.ite (State.pxBlock_kept _ _ hx) (by
    split
    · exact State.pxNext_kept _ _ _ hx
    · exact hx))

theorem execPxWaitl_acts (t : Time) (e : Nat) (i : BitVec 2) (level : Bool) (s : State) {wk : Bool} : Acts s wk (execPxWaitl t e i level s) :=
  pxOp_acts _ _ _ _ fun _ _ hx => Kept.ite (State.pxNext_kept _ _ _ hx) (State.pxBlock_kept _ _ hx)

theorem execPxWaitc_acts (t : Time) (e : Nat) (a b c cond : BitVec 2) (s : State) {wk : Bool} : Acts s wk (execPxWaitc t e a b c cond s) :=
  pxOp_acts _ _ _ _ fun _ _ hx => Kept.ite (State.pxNext_kept _ _ _ hx) (State.pxBlock_kept _ _ hx)

theorem execPxCnt_acts (t : Time) (e : Nat) (k : BitVec 2) (mode : BitVec 3) (a b x : BitVec 2) (xen : Bool) (eng : BitVec 3)
    (s : State) {wk : Bool} : Acts s wk (execPxCnt t e k mode a b x xen eng s) :=
  pxOp_acts _ _ _ _ fun _ _ hx => Kept.ite (State.pxFault_kept _ _ hx) (State.mirrors_kept _ (State.pxNext_kept _ _ _ hx))

theorem execPxLdi_acts (t : Time) (e : Nat) (k : BitVec 2) (imm : BitVec 24) (s : State) {wk : Bool} : Acts s wk (execPxLdi t e k imm s) :=
  pxOp_acts _ _ _ _ fun _ _ hx => State.pxNext_kept _ _ _ (State.writeCtr_kept _ _ _ _ hx)

theorem execPxAddi_acts (t : Time) (e : Nat) (k : BitVec 2) (imm : BitVec 24) (s : State) {wk : Bool} : Acts s wk (execPxAddi t e k imm s) :=
  pxOp_acts _ _ _ _ fun _ _ hx => State.pxNext_kept _ _ _ (State.writeCtr_kept _ _ _ _ hx)

theorem execPxCalc_acts (t : Time) (e : Nat) (d a b : BitVec 2) (op : BitVec 3) (s : State) {wk : Bool} : Acts s wk (execPxCalc t e d a b op s) :=
  pxOp_acts _ _ _ _ fun _ _ hx => Kept.ite (State.pxFault_kept _ _ hx) (State.pxNext_kept _ _ _ (State.writeCtr_kept _ _ _ _ hx))

theorem execPxJmp_acts (t : Time) (e : Nat) (cond : BitVec 3) (n : BitVec 2) (target : BitVec 5) (s : State) {wk : Bool} : Acts s wk
    (execPxJmp t e cond n target s) :=
  pxOp_acts _ _ _ _ fun _ _ hx => Kept.ite (State.pxFault_kept _ _ hx) (Kept.ite (State.pxGo_kept _ _ _ _ (Kept.ite
    (State.writeCtr_kept _ _ _ _ hx) hx)) (State.pxNext_kept _ _ _ hx))

theorem execPxOut_acts (t : Time) (e : Nat) (o act : BitVec 2) (s : State) {wk : Bool} : Acts s wk (execPxOut t e o act s) :=
  pxOp_acts _ _ _ _ fun _ _ hx => State.driveOut_kept _ _ _ _ (State.pxNext_kept _ _ _ hx)

theorem execPxDly_acts (t : Time) (e : Nat) (src : Bool) (k : BitVec 2) (n : BitVec 24) (s : State) {wk : Bool} :
    Acts s wk (execPxDly t e src k n s) :=
  pxOp_acts _ _ _ _ fun x y hx => by
    dsimp only
    split
    · exact Kept.ite (State.pxNext_kept _ _ _ hx) (State.pxBlock_kept _ _ hx)
    · exact Kept.ite (State.pxNext_kept _ _ _ hx) hx

theorem execPxShin_acts (t : Time) (e : Nat) (i : BitVec 2) (clk : Bool) (ci : BitVec 2) (n : BitVec 6) (s : State) {wk : Bool} : Acts s wk
    (execPxShin t e i clk ci n s) :=
  pxOp_acts _ _ _ _ fun x y hx => by
    have hs := State.shiftStart_kept _ e hx
    dsimp only
    refine Kept.ite (State.pxNext_kept _ _ _ hs) (Kept.ite (State.shiftBit_kept _ _ _ _ _ _ hs) (Kept.ite (State.pxBlock_kept _ _ hs) ?_))
    split
    · exact State.shiftBit_kept _ _ _ _ _ _ hs
    · exact hs

theorem execPxShout_acts (t : Time) (e : Nat) (o : BitVec 2) (clk : Bool) (ci : BitVec 2) (n : BitVec 6) (s : State) {wk : Bool} : Acts s wk
    (execPxShout t e o clk ci n s) :=
  pxOp_acts _ _ _ _ fun x y hx => by
    have hs := State.shiftStart_kept _ e hx
    dsimp only
    refine Kept.ite (State.pxNext_kept _ _ _ hs) (Kept.ite (State.driveOut_kept _ _ _ _ (State.shiftBit_kept _ _ _ _ _ _ hs)) ?_)
    split
    · exact State.driveOut_kept _ _ _ _ (State.shiftBit_kept _ _ _ _ _ _ hs)
    · exact hs

theorem execPxXsh_acts (t : Time) (e : Nat) (op k : BitVec 2) (s : State) {wk : Bool} : Acts s wk (execPxXsh t e op k s) :=
  pxOp_acts _ _ _ _ fun _ _ hx => Kept.ite (State.pxFault_kept _ _ hx) (Kept.ite (State.pxNext_kept _ _ _ hx) (Kept.ite
    (State.pxNext_kept _ _ _ hx) (State.pxNext_kept _ _ _ (State.writeCtr_kept _ _ _ _ hx))))

theorem execPxGet_acts (t : Time) (e : Nat) (dst : Bool) (k : BitVec 2) (w j : Bool) (s : State) {wk : Bool} :
    Acts s wk (execPxGet t e dst k w j s) :=
  pxOp_acts _ _ _ _ fun _ _ hx => Kept.ite (State.pxFault_kept _ _ hx) (Kept.ite (State.pxBlock_kept _ _ hx) (Kept.ite (State.pxNext_kept _ _ _
    (State.modPx_kept _ _ _ hx)) (State.pxNext_kept _ _ _ (State.writeCtr_kept _ _ _ _ (State.modPx_kept _ _ _ hx)))))

theorem execPxPut_acts (t : Time) (e : Nat) (m : BitVec 2) (src : BitVec 3) (i : BitVec 2) (s : State) {wk : Bool} :
    Acts s wk (execPxPut t e m src i s) :=
  pxOp_acts _ _ _ _ fun _ _ hx => Kept.ite (State.pxFault_kept _ _ hx) (State.pxNext_kept _ _ _ hx)

theorem execPxEvt_acts (t : Time) (e : Nat) (imm : Bool) (s : State) {wk : Bool} : Acts s wk (execPxEvt t e imm s) :=
  pxOp_acts _ _ _ _ fun _ _ hx => Kept.ite (State.pxBlock_kept _ _ hx) (Kept.ite (State.holdTrigger_kept _ (Kept.ite (State.lineRefEvent_kept _ _
    (State.emit_kept _ _ (State.pxNext_kept _ _ _ hx))) (State.emit_kept _ _ (State.pxNext_kept _ _ _ hx)))) (Kept.ite
      (State.lineRefEvent_kept _ _ (State.emit_kept _ _ (State.pxNext_kept _ _ _ hx))) (State.emit_kept _ _ (State.pxNext_kept _ _ _ hx))))

theorem execPxCap_acts (t : Time) (e : Nat) (src : BitVec 3) (i : BitVec 2) (s : State) {wk : Bool} : Acts s wk (execPxCap t e src i s) :=
  pxOp_acts _ _ _ _ fun _ _ hx => Kept.ite (State.pxFault_kept _ _ hx) (Kept.ite (State.pxBlock_kept _ _ hx) (State.pxNext_kept _ _ _
    (State.useFree_kept _ (Kept.foldl _ _ _ hx fun _ _ hx => Kept.ite (State.stageCap_kept _ _ hx) hx))))

theorem execPxIrq_acts (t : Time) (e : Nat) (code : Byte) (s : State) {wk : Bool} : Acts s wk (execPxIrq t e code s) :=
  pxOp_acts _ _ _ _ fun _ _ hx => State.raise_kept _ _ (State.pxNext_kept _ _ _ hx)

theorem execPxHalt_acts (t : Time) (e : Nat) (s : State) {wk : Bool} : Acts s wk (execPxHalt t e s) :=
  pxOp_acts _ _ _ _ fun _ _ hx => State.pxHalt_kept _ _ hx

theorem execPxStart_acts (t : Time) (e : Nat) (w : Wr) (s : State) {wk : Bool} : Acts s wk (execPxStart t e w s) :=
  Acts.ite (regCmd_acts _ _ _ _ _ fun _ _ hx => State.pxCtlWrite_kept _ _ _ _ hx) (timed_acts _ _ _ fun _ hx => hx)

theorem execPxStop_acts (t : Time) (e : Nat) (w : Wr) (s : State) {wk : Bool} : Acts s wk (execPxStop t e w s) :=
  Acts.ite (regCmd_acts _ _ _ _ _ fun _ _ hx => State.pxCtlWrite_kept _ _ _ _ hx) (timed_acts _ _ _ fun _ hx => hx)

theorem execPxStopEffect_acts (t : Time) (e : Nat) (s : State) {wk : Bool} : Acts s wk (execPxStopEffect t e s) :=
  pxOp_acts _ _ _ _ fun _ _ hx => Kept.ite (State.pxHalt_kept _ _ hx) hx

theorem execPxInWrite_acts (t : Time) (e j : Nat) (w : Wr) (s : State) {wk : Bool} : Acts s wk (execPxInWrite t e j w s) :=
  Acts.ite (regCmd_acts _ _ _ _ _ fun _ _ hx => State.pxInWrite_kept _ _ _ _ _ hx) (timed_acts _ _ _ fun _ hx => hx)

theorem execPxConfigWrite_acts (t : Time) (off : Nat) (w : Wr) (s : State) {wk : Bool} : Acts s wk (execPxConfigWrite t off w s) :=
  Acts.ite (regCmd_acts _ _ _ _ _ fun _ _ hx => State.pxConfigWrite_kept _ _ _ _ _ hx) (Acts.ite (timed_acts _ _ _ fun _ hx =>
    Kept.ite (State.aer_kept _ _ hx) (Kept.ite (State.reject_kept _ _ _ _ hx) (Kept.ite (State.modClk_kept _ _ hx)
      (State.pxCntWrite_kept _ _ _ _ hx)))) (timed_acts _ _ _ fun _ hx => hx))

theorem execPxDataRead_acts (t : Time) (e m lo nb : Nat) (s : State) {wk : Bool} : Acts s wk (execPxDataRead t e m lo nb s) :=
  timed_acts _ _ _ fun _ hx => Kept.ite (State.busRead_kept _ _ _ hx) hx

theorem execPortUp_acts (t : Time) (port : Bool) (s : State) {wk : Bool} : Acts s wk (execPortUp t port s) :=
  timed_acts _ _ _ fun _ hx => Kept.ite (State.modPort_kept _ _ _ hx) hx

theorem execMark_acts (t : Time) (port : Bool) (returned : Bool) (echo : W64) (rtt : Nat) (s : State) {wk : Bool} : Acts s wk
    (execMark t port returned echo rtt s) :=
  timed_acts _ _ _ fun _ hx => Kept.ite hx (Kept.ite (State.emit_kept _ _ hx) (State.modPort_kept _ _ _ hx))

theorem execHeartbeatSend_acts (t : Time) (s : State) {wk : Bool} : Acts s wk (execHeartbeatSend t s) :=
  timed_acts _ _ _ fun _ hx => Kept.ite hx (State.sendFrame_kept _ _ _ _ (State.sendFrame_kept _ _ _ _ hx))

theorem execHeartbeat_acts (t : Time) (port : Bool) (high : BitVec 6) (_al posValid : Bool) (src : BitVec 6) (sent : W64) (fine : Int)
    (s : State) {wk : Bool} : Acts s wk (execHeartbeat t port high _al posValid src sent fine s) :=
  timed_acts _ _ _ fun _ hx => Kept.ite hx (Kept.ite (Kept.ite (State.modPort_kept _ _ _ hx) (State.modHng_kept _ _
    (State.modPort_kept _ _ _ hx))) (State.compareTime_kept _ _ (Kept.ite (State.modPort_kept _ _ _ hx) (State.modHng_kept _ _
      (State.modPort_kept _ _ _ hx)))))

theorem execPartnerLost_acts (t : Time) (port : Bool) (s : State) {wk : Bool} : Acts s wk (execPartnerLost t port s) :=
  timed_acts _ _ _ fun x hx => by
    refine Kept.ite hx ?_
    extract_lets align clos x1 x2 q x3 x4 x5 x6
    have h3 : Kept s x3 := State.logEvent_kept _ _ _ _ _ _ (State.modHng_kept _ _ (State.modPort_kept _ _ _ hx))
    have h4 : Kept s x4 := State.sendBcast_kept _ _ _ _ h3
    have h5 : Kept s x5 := Kept.ite (Kept.ite (State.markLost_kept _ _ h4) (State.loseAt_kept _ _ h4)) (State.raise_kept _ _ h3)
    have h6 : Kept s x6 := Kept.ite (State.enterStopped_kept _ h5) h5
    exact Kept.ite h6 (State.refLost_kept _ _ h6)

theorem execPartnerRejoin_acts (t : Time) (port : Bool) (s : State) {wk : Bool} : Acts s wk (execPartnerRejoin t port s) :=
  timed_acts _ _ _ fun x hx => by
    refine Kept.ite ?_ hx
    extract_lets q x1
    have h1 : Kept s x1 := State.logEvent_kept _ _ _ _ _ _ (State.modPort_kept _ _ _ hx)
    exact Kept.ite (State.regain_kept _ _ (State.sendBcast_kept _ _ _ _ h1)) h1

theorem execRef_acts (t : Time) (port : Bool) (src : BitVec 6) (stamp : W64) (s : State) {wk : Bool} : Acts s wk (execRef t port src stamp s) :=
  Acts.ite (timed_acts _ _ _ fun _ => State.conflict_kept _ _) (takeBcast_acts _ _ _ _ _ _ _ _ fun _ hx => Kept.ite (State.modClk_kept _ _ hx) hx)

theorem execTrig_acts (t : Time) (port : Bool) (src : BitVec 6) (stamp : W64) (s : State) {wk : Bool} : Acts s wk (execTrig t port src stamp s) :=
  Acts.ite (timed_acts _ _ _ fun _ => State.conflict_kept _ _) (takeBcast_acts _ _ _ _ _ _ _ _ fun _ hx =>
    Kept.ite (State.trigger_kept _ _ _ (State.useFree_kept _ hx)) hx)

theorem execBcast_acts (t : Time) (port : Bool) (src : BitVec 6) (v : W32) (s : State) {wk : Bool} : Acts s wk (execBcast t port src v s) :=
  takeBcast_acts _ _ _ _ _ _ _ _ fun _ hx => State.modHng_kept _ _ hx

theorem execBarrierGather_acts (t : Time) (port : Bool) (src : BitVec 6) (id : Byte) (n : BitVec 7) (s : State) {wk : Bool} : Acts s wk
    (execBarrierGather t port src id n s) :=
  timed_acts _ _ _ fun _ hx => Kept.ite hx (State.barrierTry_kept _ (State.modHng_kept _ _ hx))

theorem execBarrierRelease_acts (t : Time) (port : Bool) (src : BitVec 6) (id : Byte) (n : BitVec 7) (s : State) {wk : Bool} : Acts s wk
    (execBarrierRelease t port src id n s) :=
  takeBcast_acts _ _ _ _ _ _ _ _ fun _ hx => Kept.ite (State.barrierDone_kept _ _ _ hx) (State.modHng_kept _ _ hx)

theorem execSched_acts (t : Time) (port : Bool) (src : BitVec 6) (op : BitVec 2) (dest : BitVec 6) (all : Bool) (at' : W64) (s : State) {wk :
    Bool} : Acts s wk
    (execSched t port src op dest all at' s) :=
  takeBcast_acts _ _ _ _ _ _ _ _ fun x hx => Kept.ite hx (Kept.ite (State.modHng_kept _ _ hx) (by
    split
    · exact State.arm_kept _ _ _ _ _ _ hx
    · extract_lets new x1
      have h1 : Kept s x1 := State.modHng_kept _ _ hx
      exact Kept.ite (State.arm_kept _ _ _ _ _ _ h1) h1))

theorem execSchedDeadline_acts (t : Time) (s : State) {wk : Bool} : Acts s wk (execSchedDeadline t s) :=
  timed_acts _ _ _ fun x hx => by
    extract_lets due d0 d1 d2 late x1 x2 x3
    have h1 : Kept s x1 := State.modHng_kept _ _ hx
    have h2 : Kept s x2 := Kept.ite (State.snapEffect_kept _ _ _ _ (State.modHng_kept _ _ h1)) h1
    have h3 : Kept s x3 := Kept.ite (State.schedCommit_kept _ (State.modHng_kept _ _ h2)) h2
    exact Kept.ite (State.tickReset_kept _ _ h3) h3

theorem execMntRd_acts (t : Time) (port : Bool) (src dest : BitVec 6) (req : BitVec 11) (acc : Access) (s : State) {wk : Bool} : Acts s wk
    (execMntRd t port src dest req acc s) :=
  takeFrame_acts _ _ _ _ _ _ _ _ _ fun _ hx => Kept.ite (State.modClk_kept _ _ hx) (State.sendTo_kept _ _ _ _ _ (State.readReg_kept _ _ _ _ hx))

theorem execMntWr_acts (t : Time) (port : Bool) (src dest : BitVec 6) (req : BitVec 11) (acc : Access) (v : W64) (s : State) {wk : Bool} : Acts s wk
    (execMntWr t port src dest req acc v s) :=
  timed_acts _ _ _ fun _ hx => Kept.ite hx (Kept.ite (State.busWrite_kept _ _ _ hx) (State.sendFrame_kept _ _ _ _ (State.sendFrame_kept _ _ _ _ hx)))

theorem execMntData_acts (t : Time) (port : Bool) (src dest : BitVec 6) (req : BitVec 11) (err : Bool) (v : W64) (s : State) {wk : Bool} : Acts s wk
    (execMntData t port src dest req err v s) :=
  takeFrame_acts _ _ _ _ _ _ _ _ _ fun x hx => by
    extract_lets v
    split
    · exact State.winNext_kept _ _ (State.winData_kept _ _ _ _ (State.modHost_kept _ _ hx rfl rfl))
    · exact Kept.ite (Kept.ite (State.mntFail_kept _ _ hx) (State.modHng_kept _ _ hx)) hx

theorem execLoss_acts (t : Time) (port : Bool) (src : BitVec 6) (lost : Bool) (pos : BitVec 6) (s : State) {wk : Bool} : Acts s wk
    (execLoss t port src lost pos s) :=
  takeBcast_acts _ _ _ _ _ _ _ _ fun _ hx => Kept.ite (State.loseAt_kept _ _ hx) (State.regain_kept _ _ hx)

theorem execPcieEvt_acts (t : Time) (port : Bool) (src : BitVec 6) (kind : BitVec 2) (s : State) {wk : Bool} :
    Acts s wk (execPcieEvt t port src kind s) :=
  takeBcast_acts _ _ _ _ _ _ _ _ fun _ hx => Kept.ite (State.unlock_kept _ hx) hx

theorem execHngBcastTx_acts (t : Time) (w : Wr) (s : State) {wk : Bool} : Acts s wk (execHngBcastTx t w s) :=
  regCmd_acts _ _ _ _ _ fun _ _ hx => State.bcastTx_kept _ _ hx

theorem execBcastRxRead_acts (t : Time) (lo nb : Nat) (s : State) {wk : Bool} : Acts s wk (execBcastRxRead t lo nb s) :=
  timed_acts _ _ _ fun _ hx => State.busRead_kept _ _ _ hx

theorem execBarrierEnter_acts (t : Time) (w : Wr) (s : State) {wk : Bool} : Acts s wk (execBarrierEnter t w s) :=
  regCmd_acts _ _ _ _ _ fun _ _ hx => State.barrierWrite_kept _ _ hx

theorem execSchedGo_acts (t : Time) (w : Wr) (s : State) {wk : Bool} : Acts s wk (execSchedGo t w s) :=
  regCmd_acts _ _ _ _ _ fun _ _ hx => State.schedWrite_kept _ _ _ hx

theorem execMntRead_acts (t : Time) (w : Wr) (s : State) {wk : Bool} : Acts s wk (execMntRead t w s) :=
  regCmd_acts _ _ _ _ _ fun _ _ hx => State.mntCtlWrite_kept _ _ _ hx

theorem execMntWrite_acts (t : Time) (w : Wr) (s : State) {wk : Bool} : Acts s wk (execMntWrite t w s) :=
  regCmd_acts _ _ _ _ _ fun _ _ hx => State.mntCtlWrite_kept _ _ _ hx

theorem execMntTimeout_acts (t : Time) (s : State) {wk : Bool} : Acts s wk (execMntTimeout t s) :=
  timed_acts _ _ _ fun x hx => by
    split
    · exact Kept.ite (State.mntFail_kept _ _ hx) hx
    · exact hx

theorem execModResetNAssert_keeps (t : Time) (s : State) : Keeps s (execModResetNAssert t s) :=
  ⟨_, rfl, Kept.ite (Kept.refl s) (State.modBoot_kept _ _ (State.cleared_kept _ (State.dropPins_kept _ (State.cutMailbox_kept _
    (Kept.refl s)))) rfl rfl)⟩

theorem execModResetNRelease_keeps (t : Time) (sel : BitVec 2) (s : State) : Keeps s (execModResetNRelease t sel s) :=
  ⟨_, rfl, Kept.ite (Kept.refl s) (Kept.ite (State.emit_kept _ _ (State.modTh_kept _ _ (State.relFrom_kept _ (State.modBoot_kept _ _
    (Kept.refl s) rfl rfl)))) (State.relFrom_kept _ (State.modBoot_kept _ _ (Kept.refl s) rfl rfl)))⟩

theorem execResetStageEnd_acts (t : Time) (s : State) {wk : Bool} : Acts s wk (execResetStageEnd t s) :=
  inStage_acts _ _ _ _ fun _ hx => Kept.ite hx (State.modBoot_kept _ _ (State.modClk_kept _ _ hx) rfl rfl)

theorem execRomStageEnd_acts (t : Time) (s : State) {wk : Bool} : Acts s wk (execRomStageEnd t s) :=
  inStage_acts _ _ _ _ fun _ hx => State.modHng_kept _ _ (State.modBoot_kept _ _ hx rfl rfl)

theorem execFlashStageEnd_acts (t : Time) (readOk : Bool) (s : State) {wk : Bool} : Acts s wk (execFlashStageEnd t readOk s) :=
  inStage_acts _ _ _ _ fun x hx => by
    extract_lets x1 x2 x3
    have h2 : Kept s x2 := Kept.foldl _ _ _ (State.findLog_kept _ hx) fun _ _ hy => Kept.ite (State.logEvent_kept _ _ _ _ _ _ hy) (Kept.ite
      (State.logEvent_kept _ _ _ _ _ _ hy) hy)
    have h3 : Kept s x3 := Kept.ite (State.logEvent_kept _ _ _ _ _ _ h2) h2
    clear_value x3
    split
    · exact Kept.ite (Kept.ite (State.maintWait_kept _ _ h3) (State.modBoot_kept _ _ h3 rfl rfl)) (State.maintWait_kept _ _ h3)
    · next sl r _ =>
      have h4 := State.modRes_kept _ (fun r => { r with tried := true }) (State.modBoot_kept x3 (fun b =>
        { b with slot := sl, fall := decide (0 < b.tries), tries := b.tries + 1 }) h3 rfl rfl)
      exact Kept.ite (State.modBoot_kept _ _ h4 rfl rfl) (State.failSlot_kept _ _ h4)

theorem execWardEnd_acts (t : Time) (readOk : Bool) (s : State) {wk : Bool} : Acts s wk (execWardEnd t readOk s) :=
  inStage_acts _ _ _ _ fun _ hx => Kept.ite (State.failSlot_kept _ _ hx) (Kept.ite (State.failSlot_kept _ _ (State.modRes_kept _ _ hx))
    (State.modBoot_kept _ _ (State.modRes_kept _ _ hx) rfl rfl))

theorem execFirmwareStageEnd_acts (t : Time) (readOk testOk : Bool) (s : State) {wk : Bool} : Acts s wk (execFirmwareStageEnd t readOk testOk s) :=
  inStage_acts _ _ _ _ fun _ hx => Kept.ite (State.failSlot_kept _ _ hx) (Kept.ite (State.maintWait_kept _ _ hx) (State.modBoot_kept _ _ hx rfl rfl))

theorem execCanvasStageEnd_acts (t : Time) (readOk : Bool) (s : State) {wk : Bool} : Acts s wk (execCanvasStageEnd t readOk s) :=
  inStage_acts _ _ _ _ fun x hx => by
    extract_lets x1 sys x2 x3
    have h2 : Kept s x2 := State.modBoot_kept _ _ (State.modBoot_kept _ _ hx rfl rfl) rfl rfl
    have h3 : Kept s x3 := Kept.foldl _ _ _ h2 fun _ _ => State.putReg_kept _ _ _
    exact Kept.ite (State.failSlot_kept _ _ hx) (Kept.ite (State.failSlot_kept _ _ hx) (State.setFld_kept _ _ _ _ _ (State.setFld_kept _ _ _ _ _
      (State.setFld_kept _ _ _ _ _ (State.setFld_kept _ _ _ _ _ h3)))))

theorem execPaletteStageEnd_acts (t : Time) (readOk : Bool) (s : State) {wk : Bool} : Acts s wk (execPaletteStageEnd t readOk s) :=
  inStage_acts _ _ _ _ fun x hx => by
    refine Kept.ite (State.failSlot_kept _ _ hx) ?_
    extract_lets x1
    have h1 : Kept s x1 := by
      unfold x1
      split
      · exact State.restoreRetired_kept _ _ (State.loadCopy_kept _ _ _ hx)
      · exact State.restoreRetired_kept _ _ (State.logEvent_kept _ _ _ _ _ _ (State.noCopy_kept _ hx))
    exact State.setStage_kept _ _ (State.findRecord_kept _ h1)

theorem execReadoutStageEnd_acts (t : Time) (runs : List (Nat × Nat × CalRun)) (badSlots : List Nat) (s : State) {wk : Bool} : Acts s wk
    (execReadoutStageEnd t runs badSlots s) :=
  inStage_acts _ _ _ _ fun x hx => by
    refine Kept.ite hx ?_
    extract_lets x1 x2 x3 p
    have h2 : Kept s x2 := State.loadSlots_kept _ _ (State.loadCanvas_kept _ (State.modClk_kept _ _ hx))
    clear_value x2
    have h3 : Kept s x3 := Kept.foldl _ _ _ h2 fun _ _ => State.bootBank_kept _ _ _
    clear_value x3
    have hp : Kept s p.1 := State.presets_kept _ h3
    clear_value p
    exact Kept.ite (State.failSlot_kept _ _ hp) (State.enterRun_kept _ (Kept.ite hp (State.commitUntimed_kept _ hp)))

theorem execReadoutBringupTimeout_acts (t : Time) (s : State) {wk : Bool} : Acts s wk (execReadoutBringupTimeout t s) :=
  inStage_acts _ _ _ _ fun _ hx => State.maintWait_kept _ _ hx

theorem execAttest_acts (t : Time) (w : Wr) (s : State) {wk : Bool} : Acts s wk (execAttest t w s) :=
  regCmd_acts _ _ _ _ _ fun _ _ hx => State.mbxWrite_kept _ _ _ _ _ hx

theorem execFlashRead_acts (t : Time) (w : Wr) (s : State) {wk : Bool} : Acts s wk (execFlashRead t w s) :=
  regCmd_acts _ _ _ _ _ fun _ _ hx => State.mbxWrite_kept _ _ _ _ _ hx

theorem execFlashErase_acts (t : Time) (w : Wr) (s : State) {wk : Bool} : Acts s wk (execFlashErase t w s) :=
  regCmd_acts _ _ _ _ _ fun _ _ hx => State.mbxWrite_kept _ _ _ _ _ hx

theorem execFlashWrite_acts (t : Time) (w : Wr) (s : State) {wk : Bool} : Acts s wk (execFlashWrite t w s) :=
  regCmd_acts _ _ _ _ _ fun _ _ hx => State.mbxWrite_kept _ _ _ _ _ hx

theorem execVerifySlot_acts (t : Time) (w : Wr) (s : State) {wk : Bool} : Acts s wk (execVerifySlot t w s) :=
  regCmd_acts _ _ _ _ _ fun _ _ hx => State.mbxWrite_kept _ _ _ _ _ hx

theorem execOtpBurn_acts (t : Time) (w : Wr) (fail : List (Nat × BitVec 256 × BitVec 256)) (s : State) {wk : Bool} :
    Acts s wk (execOtpBurn t w fail s) :=
  regCmd_acts _ _ _ _ _ fun _ _ hx => State.mbxWrite_kept _ _ _ _ _ hx

theorem execOtpRead_acts (t : Time) (w : Wr) (s : State) {wk : Bool} : Acts s wk (execOtpRead t w s) :=
  regCmd_acts _ _ _ _ _ fun _ _ hx => State.mbxWrite_kept _ _ _ _ _ hx

theorem execOtpReburn_acts (t : Time) (w : Wr) (n m : BitVec 256) (s : State) {wk : Bool} : Acts s wk (execOtpReburn t w n m s) :=
  regCmd_acts _ _ _ _ _ fun _ _ hx => State.mbxWrite_kept _ _ _ _ _ hx

theorem execReboot_acts (t : Time) (w : Wr) (s : State) {wk : Bool} : Acts s wk (execReboot t w s) :=
  regCmd_acts _ _ _ _ _ fun _ _ hx => State.mbxWrite_kept _ _ _ _ _ hx

theorem execMailboxCommandEnd_acts (t : Time) (flashOk : Bool) (s : State) {wk : Bool} : Acts s wk (execMailboxCommandEnd t flashOk s) :=
  timed_acts _ _ _ fun x hx => by
    split
    · next op len bs res _ _ =>
      refine Kept.ite hx ?_
      extract_lets bs' wr r x1
      have hr : Kept s r.1 := by
        unfold r
        split
        · exact State.mbxFlash_kept _ _ _ hx
        · split
          · exact State.flashFree_kept _ _ _ hx
          · exact State.applyBurns_kept _ _ hx
      have h1 : Kept s x1 := State.putResp_kept _ _ hr
      exact State.raise_kept _ _ (State.saveStart_kept _ (State.modBoot_kept _ _ h1 rfl rfl))
    · exact hx

theorem execPairScrub_acts (t : Time) (s : State) {wk : Bool} : Acts s wk (execPairScrub t s) :=
  timed_acts _ _ _ fun _ hx => State.modFlt_kept _ _ hx

theorem execPairRepair_acts (t : Time) (off : Nat) (shadow : Bool) (s : State) {wk : Bool} : Acts s wk (execPairRepair t off shadow s) :=
  timed_acts _ _ _ fun x hx => by
    refine Kept.ite hx ?_
    extract_lets c x1 x2
    have h1 : Kept s x1 := State.modFlt_kept _ _ hx
    have h2 : Kept s x2 := by
      refine Kept.ite ?_ ?_
      · exact Kept.upd h1 rfl rfl rfl rfl rfl rfl rfl rfl rfl
      · exact State.putCell_kept _ _ _ h1
    exact State.logEvent_kept _ _ _ _ _ _ h2

theorem execLockstepMismatch_acts (t : Time) (s : State) {wk : Bool} : Acts s wk (execLockstepMismatch t s) :=
  timed_acts _ _ _ fun x hx => by
    refine Kept.ite hx ?_
    extract_lets again x1
    have h1 : Kept s x1 := State.modFlt_kept _ _ hx
    exact Kept.ite (State.enterFaulted_kept _ _ h1) (State.modFlt_kept _ _ h1)

theorem execSupervisorRestartEnd_acts (t : Time) (s : State) {wk : Bool} : Acts s wk (execSupervisorRestartEnd t s) :=
  timed_acts _ _ _ fun x hx => by
    split
    · exact State.replay_kept _ (State.logEvent_kept _ _ _ _ _ _ (Kept.foldl _ _ _ (State.modFab_kept _ _ (State.modFlt_kept _ _ hx) rfl) fun _ _ =>
      State.stage_kept _ _))
    · exact hx

theorem execSupervisorRestartTimeout_acts (t : Time) (s : State) {wk : Bool} : Acts s wk (execSupervisorRestartTimeout t s) :=
  timed_acts _ _ _ fun x hx => by
    split
    · exact Kept.ite (State.enterFaulted_kept _ _ hx) hx
    · exact hx

theorem execStateMemoryUe_acts (t : Time) (s : State) {wk : Bool} : Acts s wk (execStateMemoryUe t s) :=
  timed_acts _ _ _ fun _ hx => Kept.ite (State.modFlt_kept _ _ hx) (State.enterFaulted_kept _ _ (State.modFlt_kept _ _ hx))

theorem execLogEntryWrite_acts (t : Time) (good : Bool) (s : State) {wk : Bool} : Acts s wk (execLogEntryWrite t good s) :=
  timed_acts _ _ _ fun x hx => by
    split
    · exact hx
    · extract_lets p bs x1 x2 n
      have h1 : Kept s x1 := State.modFlt_kept _ _ (State.flashPut_kept _ _ _ hx)
      have h2 : Kept s x2 := Kept.ite (State.eraseLog_kept _ _ h1) h1
      exact Kept.ite (State.modFlt_kept _ _ (State.eraseLog_kept _ _ hx)) (Kept.ite h2 (State.logEvent_kept _ _ _ _ _ _ (State.modFlt_kept _ _ h2)))

theorem execThermalSample_acts (t : Time) (rs : List Reading) (s : State) {wk : Bool} : Acts s wk (execThermalSample t rs s) :=
  timed_acts _ _ _ fun _ hx => Kept.ite hx (Kept.ite (State.shutDown_kept _ (State.modTh_kept _ (fun h => { h with hotN :=
    _ }) (State.warning_kept _ (State.temps_kept _ (State.senseAll_kept _ _ hx))))) (State.decideStep_kept _ (State.modTh_kept _ (fun h =>
      { h with hotN := _ }) (State.warning_kept _ (State.temps_kept _ (State.senseAll_kept _ _ hx))))))

theorem execShutdownDrainEnd_acts (t : Time) (s : State) {wk : Bool} : Acts s wk (execShutdownDrainEnd t s) :=
  timed_acts _ _ _ fun _ hx => Kept.ite (State.modTh_kept _ _ (State.modClk_kept _ _ (Kept.foldl _ _ _ hx fun _ _ hx =>
    State.ringIdle_kept _ _ (State.discardEgress_kept _ _ hx)))) hx

theorem execShutdownRecordWritten_acts (t : Time) (good : Bool) (s : State) {wk : Bool} : Acts s wk (execShutdownRecordWritten t good s) :=
  timed_acts _ _ _ fun _ hx => Kept.ite hx (State.emit_kept _ _ (State.modTh_kept _ _ (State.modHng_kept _ _ (State.modHost_kept _ _
    (State.appendRecord_kept _ _ _ _ _ hx) rfl rfl))))

theorem execThAck_acts (t : Time) (w : Wr) (s : State) {wk : Bool} : Acts s wk (execThAck t w s) :=
  regCmd_acts _ _ _ _ _ fun _ _ hx => State.thAckWrite_kept _ _ hx

theorem execRearm_acts (t : Time) (w : Wr) (s : State) {wk : Bool} : Acts s wk (execRearm t w s) :=
  regCmd_acts _ _ _ _ _ fun _ _ hx => State.rearmWrite_kept _ _ _ hx

theorem execRearmRecordWritten_acts (t : Time) (s : State) {wk : Bool} : Acts s wk (execRearmRecordWritten t s) :=
  timed_acts _ _ _ fun _ hx => Kept.ite (State.startMode_kept _ (State.modTh_kept _ _ (State.logEvent_kept _ _ _ _ _ _
    (State.appendRecord_kept _ _ _ _ _ hx)))) hx

theorem execThMaxClear_acts (t : Time) (w : Wr) (s : State) {wk : Bool} : Acts s wk (execThMaxClear t w s) :=
  regCmd_acts _ _ _ _ _ fun _ _ hx => State.thMaxWrite_kept _ _ hx

theorem execThCtlWrite_acts (t : Time) (off : Nat) (w : Wr) (s : State) {wk : Bool} : Acts s wk (execThCtlWrite t off w s) :=
  Acts.ite (regCmd_acts _ _ _ _ _ fun _ _ hx => State.thWrite_kept _ _ _ _ hx) (timed_acts _ _ _ fun _ hx => hx)

theorem execRegisterWrite_acts (t : Time) (off : Nat) (w : Wr) (s : State) {wk : Bool} : Acts s wk (execRegisterWrite t off w s) :=
  timed_acts _ _ _ fun _ hx => State.busWrite_kept _ _ _ hx

theorem execArbitrationCycle_acts (t : Time) (s : State) {wk : Bool} : Acts s wk (execArbitrationCycle t s) :=
  inRun_acts _ _ _ fun x hx => by
    refine Kept.ite hx ?_
    extract_lets c x1 margin x2 top r x3 r1 x4 x5 a x6
    have h1 : Kept s x1 := Kept.foldl _ _ _ hx fun _ _ hy => Kept.ite (State.dropC_kept _ _ hy) hy
    have h2 : Kept s x2 := Kept.foldl _ _ _ h1 fun _ _ hy => State.modFab_kept _ _ (State.setArb_kept _ _ _ hy) rfl
    clear_value x2
    have h3 : Kept s x3 := State.modFab_kept _ _ (State.setArb_kept _ _ _ h2) rfl
    have h4 : Kept s x4 := by
      unfold x4
      split
      · exact Kept.ite (State.setArb_kept _ _ _ (State.sendFlit_kept _ _ h3)) (State.setArb_kept _ _ _ (State.setArb_kept _ _ _
        (State.sendFlit_kept _ _ h3)))
      · exact h3
    have h5 : Kept s x5 := Kept.foldl _ _ _ h4 fun _ _ => State.setArb_kept _ _ _
    have h6 : Kept s x6 := State.setArb_kept _ _ _ h5
    clear_value x6
    exact State.modFab_kept _ _ h6 rfl

theorem execLinkUp_acts (t : Time) (speed width : Nat) (flit : Bool) (s : State) {wk : Bool} : Acts s wk (execLinkUp t speed width flit s) :=
  timed_acts _ _ _ fun _ hx => Kept.ite hx (State.modHost_kept _ _ hx rfl rfl)

theorem execPciePerstNRelease_acts (t : Time) (s : State) {wk : Bool} : Acts s wk (execPciePerstNRelease t s) :=
  timed_acts _ _ _ fun _ hx => Kept.ite (State.modHost_kept _ _ hx rfl rfl) hx

theorem execPowerLoss_keeps (t : Time) (vddio : Bool) (s : State) : Keeps s (execPowerLoss t vddio s) :=
  ⟨_, rfl, Kept.ite (State.emit_kept _ _ (State.modTh_kept _ _ (State.modBoot_kept _ _ (State.cleared_kept _ (State.dropPins_kept _
    (State.cutMailbox_kept _ (Kept.refl s)))) rfl rfl))) (State.modBoot_kept _ _ (State.cleared_kept _ (State.dropPins_kept _
      (State.cutMailbox_kept _ (Kept.refl s)))) rfl rfl)⟩

theorem execInternalResetRelease_keeps (t : Time) (s : State) : Keeps s (execInternalResetRelease t s) :=
  ⟨_, rfl, by
    split
    · exact Kept.refl s
    · refine Kept.ite (Kept.refl s) ?_
      extract_lets x1
      have h1 : Kept s x1 := State.relFrom_kept _ (State.modBoot_kept _ _ (Kept.refl s) rfl rfl)
      exact Kept.ite h1 (Kept.ite (State.modBoot_kept _ _ h1 rfl rfl) (State.modBoot_kept _ _ h1 rfl rfl))⟩

theorem execFrameDiscard_acts (t : Time) (port : Bool) (lanes : BitVec 2) (s : State) {wk : Bool} : Acts s wk (execFrameDiscard t port lanes s) :=
  timed_acts _ _ _ fun _ hx => Kept.ite hx (Kept.ite (State.modHng_kept _ _ hx) (State.modHng_kept _ _ hx))

theorem execIllegalOpcode_acts (t : Time) (e : Nat) (w : W32) (s : State) {wk : Bool} : Acts s wk (execIllegalOpcode t e w s) :=
  teOp_acts _ _ _ _ fun _ _ hx => Kept.ite hx (State.raiseExc_kept _ _ _ _ _ hx)

theorem execPxIllegalInstruction_acts (t : Time) (e : Nat) (w : W32) (s : State) {wk : Bool} : Acts s wk (execPxIllegalInstruction t e w s) :=
  pxOp_acts _ _ _ _ fun _ _ hx => Kept.ite (State.pxFault_kept _ _ hx) hx

theorem execThrottleChangeNoTick_acts (t : Time) (s : State) {wk : Bool} : Acts s wk (execThrottleChangeNoTick t s) :=
  inRun_acts _ _ _ fun _ hx => Kept.ite (State.throttleEffect_kept _ _ _ _ hx) hx

/-- Every command completes, keeps what every operation keeps, and has no effect while the logic is off, but for those that wake it. -/
theorem exec_acts (c : Instr) (s : State) : Acts s (Instr.wakes c) (exec c s) := by
  cases c with
  | lineTick t => exact execLineTick_acts t s
  | triggerEdge t inp falling => exact execTriggerEdge_acts t inp falling s
  | holdGateOpen t => exact execHoldGateOpen_acts t s
  | slotReleaseDeadline t e => exact execSlotReleaseDeadline_acts t e s
  | idleFlush t => exact execIdleFlush_acts t s
  | reversalConfirmed t => exact execReversalConfirmed_acts t s
  | directionFlushEnd t => exact execDirectionFlushEnd_acts t s
  | lineReference t => exact execLineReference_acts t s
  | referenceLoss t => exact execReferenceLoss_acts t s
  | lpllLock t => exact execLpllLock_acts t s
  | holdoverLinesReached t => exact execHoldoverLinesReached_acts t s
  | gapProvisional t => exact execGapProvisional_acts t s
  | commitGo t w => exact execCommitGo_acts t w s
  | commitNoTick t => exact execCommitNoTick_acts t s
  | snapshotTake t w => exact execSnapshotTake_acts t w s
  | snapshotNoTick t => exact execSnapshotNoTick_acts t s
  | bankWrite t off w => exact execBankWrite_acts t off w s
  | seqSwapGo t w => exact execSeqSwapGo_acts t w s
  | swapValidated t => exact execSwapValidated_acts t s
  | swapNoTick t => exact execSwapNoTick_acts t s
  | copyComplete t => exact execCopyComplete_acts t s
  | lockAcquire t w => exact execLockAcquire_acts t w s
  | lockRenew t w => exact execLockRenew_acts t w s
  | lockRelease t w => exact execLockRelease_acts t w s
  | leaseExpiry t => exact execLeaseExpiry_acts t s
  | holdTrigFire t w => exact execHoldTrigFire_acts t w s
  | delayExpiry t => exact execDelayExpiry_acts t s
  | seqResUpdate t => exact execSeqResUpdate_acts t s
  | seqResRead t n lo nb => exact execSeqResRead_acts t n lo nb s
  | conversionEnd t tile xs => exact execConversionEnd_acts t tile xs s
  | sliceCheckFail t tile j => exact execSliceCheckFail_acts t tile j s
  | rotation t => exact execRotation_acts t s
  | calRunEnd t tile run => exact execCalRunEnd_acts t tile run s
  | bankPowerDown t tile => exact execBankPowerDown_acts t tile s
  | bankWakeAhead t tile => exact execBankWakeAhead_acts t tile s
  | dark t w => exact execDark_acts t w s
  | flatHg t w => exact execFlatHg_acts t w s
  | flatLg t w => exact execFlatLg_acts t w s
  | apply t w => exact execApply_acts t w s
  | save t w => exact execSave_acts t w s
  | restore t w => exact execRestore_acts t w s
  | abort t w => exact execAbort_acts t w s
  | calStepStart t => exact execCalStepStart_acts t s
  | calStepPendingTimeout t => exact execCalStepPendingTimeout_acts t s
  | calStepEnd t => exact execCalStepEnd_acts t s
  | calStepTimeout t => exact execCalStepTimeout_acts t s
  | applyLoadEnd t => exact execApplyLoadEnd_acts t s
  | saveEnd t good => exact execSaveEnd_acts t good s
  | paletteRewriteEnd t tile => exact execPaletteRewriteEnd_acts t tile s
  | masterReloadEnd t tile => exact execMasterReloadEnd_acts t tile s
  | journalAppend t good => exact execJournalAppend_acts t good s
  | teAdd t e d a b ln pc fl => exact (teAlu_acts .. : Acts s _ (execTeAdd t e d a b ln pc fl s))
  | teSub t e d a b ln pc fl => exact (teAlu_acts .. : Acts s _ (execTeSub t e d a b ln pc fl s))
  | teAdds t e d a b ln pc fl => exact (teAlu_acts .. : Acts s _ (execTeAdds t e d a b ln pc fl s))
  | teAddus t e d a b ln pc fl => exact (teAlu_acts .. : Acts s _ (execTeAddus t e d a b ln pc fl s))
  | teSubs t e d a b ln pc fl => exact (teAlu_acts .. : Acts s _ (execTeSubs t e d a b ln pc fl s))
  | teSubus t e d a b ln pc fl => exact (teAlu_acts .. : Acts s _ (execTeSubus t e d a b ln pc fl s))
  | teAnd t e d a b ln pc fl => exact (teAlu_acts .. : Acts s _ (execTeAnd t e d a b ln pc fl s))
  | teOr t e d a b ln pc fl => exact (teAlu_acts .. : Acts s _ (execTeOr t e d a b ln pc fl s))
  | teXor t e d a b ln pc fl => exact (teAlu_acts .. : Acts s _ (execTeXor t e d a b ln pc fl s))
  | teAndn t e d a b ln pc fl => exact (teAlu_acts .. : Acts s _ (execTeAndn t e d a b ln pc fl s))
  | teShl t e d a b ln pc fl => exact (teAlu_acts .. : Acts s _ (execTeShl t e d a b ln pc fl s))
  | teShr t e d a b ln pc fl => exact (teAlu_acts .. : Acts s _ (execTeShr t e d a b ln pc fl s))
  | teSar t e d a b ln pc fl => exact (teAlu_acts .. : Acts s _ (execTeSar t e d a b ln pc fl s))
  | teMin t e d a b ln pc fl => exact (teAlu_acts .. : Acts s _ (execTeMin t e d a b ln pc fl s))
  | teMax t e d a b ln pc fl => exact (teAlu_acts .. : Acts s _ (execTeMax t e d a b ln pc fl s))
  | teMinu t e d a b ln pc fl => exact (teAlu_acts .. : Acts s _ (execTeMinu t e d a b ln pc fl s))
  | teMaxu t e d a b ln pc fl => exact (teAlu_acts .. : Acts s _ (execTeMaxu t e d a b ln pc fl s))
  | teAbsd t e d a b ln pc fl => exact (teAlu_acts .. : Acts s _ (execTeAbsd t e d a b ln pc fl s))
  | teAvgu t e d a b ln pc fl => exact (teAlu_acts .. : Acts s _ (execTeAvgu t e d a b ln pc fl s))
  | teBsel t e d a b ln pc fl => exact (teAlu_acts .. : Acts s _ (execTeBsel t e d a b ln pc fl s))
  | teMul t e d a b ln pc fl => exact (teAlu_acts .. : Acts s _ (execTeMul t e d a b ln pc fl s))
  | teMulhs t e d a b ln pc fl => exact (teAlu_acts .. : Acts s _ (execTeMulhs t e d a b ln pc fl s))
  | teMulhu t e d a b ln pc fl => exact (teAlu_acts .. : Acts s _ (execTeMulhu t e d a b ln pc fl s))
  | teMac t e d a b ln pc fl => exact (teAlu_acts .. : Acts s _ (execTeMac t e d a b ln pc fl s))
  | teCmp t e fn d a b ln pc fl => exact execTeCmp_acts t e fn d a b ln pc fl s
  | teUnpklu t e d a b ln pc fl => exact (teReshape_acts .. : Acts s _ (execTeUnpklu t e d a b ln pc fl s))
  | teUnpkhu t e d a b ln pc fl => exact (teReshape_acts .. : Acts s _ (execTeUnpkhu t e d a b ln pc fl s))
  | teUnpkls t e d a b ln pc fl => exact (teReshape_acts .. : Acts s _ (execTeUnpkls t e d a b ln pc fl s))
  | teUnpkhs t e d a b ln pc fl => exact (teReshape_acts .. : Acts s _ (execTeUnpkhs t e d a b ln pc fl s))
  | tePackus t e d a b ln pc fl => exact (teReshape_acts .. : Acts s _ (execTePackus t e d a b ln pc fl s))
  | tePackss t e d a b ln pc fl => exact (teReshape_acts .. : Acts s _ (execTePackss t e d a b ln pc fl s))
  | tePackt t e d a b ln pc fl => exact (teReshape_acts .. : Acts s _ (execTePackt t e d a b ln pc fl s))
  | teHaddu t e d a b ln pc fl => exact (teReshape_acts .. : Acts s _ (execTeHaddu t e d a b ln pc fl s))
  | teHadds t e d a b ln pc fl => exact (teReshape_acts .. : Acts s _ (execTeHadds t e d a b ln pc fl s))
  | teSplat t e d a b ln pc fl => exact (teReshape_acts .. : Acts s _ (execTeSplat t e d a b ln pc fl s))
  | teClz t e d a b ln pc fl => exact (teReshape_acts .. : Acts s _ (execTeClz t e d a b ln pc fl s))
  | tePopc t e d a b ln pc fl => exact (teReshape_acts .. : Acts s _ (execTePopc t e d a b ln pc fl s))
  | teAddi t e d a imm => exact (teImm_acts .. : Acts s _ (execTeAddi t e d a imm s))
  | teAndi t e d a imm => exact (teImm_acts .. : Acts s _ (execTeAndi t e d a imm s))
  | teOri t e d a imm => exact (teImm_acts .. : Acts s _ (execTeOri t e d a imm s))
  | teXori t e d a imm => exact (teImm_acts .. : Acts s _ (execTeXori t e d a imm s))
  | teLui t e d a imm => exact (teImm_acts .. : Acts s _ (execTeLui t e d a imm s))
  | teShli t e d a imm => exact (teImm_acts .. : Acts s _ (execTeShli t e d a imm s))
  | teShri t e d a imm => exact (teImm_acts .. : Acts s _ (execTeShri t e d a imm s))
  | teSari t e d a imm => exact (teImm_acts .. : Acts s _ (execTeSari t e d a imm s))
  | teExtu t e d a imm => exact (teImm_acts .. : Acts s _ (execTeExtu t e d a imm s))
  | teExts t e d a imm => exact (teImm_acts .. : Acts s _ (execTeExts t e d a imm s))
  | teCmpi t e d a imm => exact execTeCmpi_acts t e d a imm s
  | teLinfo t e d a imm => exact execTeLinfo_acts t e d a imm s
  | teLd64 t e d a imm => exact (teLoad_acts .. : Acts s _ (execTeLd64 t e d a imm s))
  | teLd32u t e d a imm => exact (teLoad_acts .. : Acts s _ (execTeLd32u t e d a imm s))
  | teLd32s t e d a imm => exact (teLoad_acts .. : Acts s _ (execTeLd32s t e d a imm s))
  | teLd16u t e d a imm => exact (teLoad_acts .. : Acts s _ (execTeLd16u t e d a imm s))
  | teLd16s t e d a imm => exact (teLoad_acts .. : Acts s _ (execTeLd16s t e d a imm s))
  | teLd8u t e d a imm => exact (teLoad_acts .. : Acts s _ (execTeLd8u t e d a imm s))
  | teLd8s t e d a imm => exact (teLoad_acts .. : Acts s _ (execTeLd8s t e d a imm s))
  | teSt64 t e d a imm => exact (teStore_acts .. : Acts s _ (execTeSt64 t e d a imm s))
  | teSt32 t e d a imm => exact (teStore_acts .. : Acts s _ (execTeSt32 t e d a imm s))
  | teSt16 t e d a imm => exact (teStore_acts .. : Acts s _ (execTeSt16 t e d a imm s))
  | teSt8 t e d a imm => exact (teStore_acts .. : Acts s _ (execTeSt8 t e d a imm s))
  | tePld t e d a imm => exact execTePld_acts t e d a imm s
  | teBr t e d a imm => exact (teBranch_acts .. : Acts s _ (execTeBr t e d a imm s))
  | teBf t e d a imm => exact (teBranch_acts .. : Acts s _ (execTeBf t e d a imm s))
  | teBnf t e d a imm => exact (teBranch_acts .. : Acts s _ (execTeBnf t e d a imm s))
  | teLoop t e d a imm => exact (teBranch_acts .. : Acts s _ (execTeLoop t e d a imm s))
  | teCall t e d a imm => exact (teBranch_acts .. : Acts s _ (execTeCall t e d a imm s))
  | teLcset t e d a imm => exact execTeLcset_acts t e d a imm s
  | teNop t e d a b ln pc fl => exact execTeNop_acts t e d a b ln pc fl s
  | teMfs t e d a b ln pc fl => exact execTeMfs_acts t e d a b ln pc fl s
  | teMts t e d a b ln pc fl => exact execTeMts_acts t e d a b ln pc fl s
  | teHb t e d a b ln pc fl => exact execTeHb_acts t e d a b ln pc fl s
  | teKb t e d a b ln pc fl => exact execTeKb_acts t e d a b ln pc fl s
  | teBrk t e d a b ln pc fl => exact execTeBrk_acts t e d a b ln pc fl s
  | teRet t e d a b ln pc fl => exact execTeRet_acts t e d a b ln pc fl s
  | teLacq t e d a b ln pc fl => exact (teAcq_acts .. : Acts s _ (execTeLacq t e d a b ln pc fl s))
  | teLacqe t e d a b ln pc fl => exact (teAcq_acts .. : Acts s _ (execTeLacqe t e d a b ln pc fl s))
  | teLwait t e d a b ln pc fl => exact execTeLwait_acts t e d a b ln pc fl s
  | teLwaitf t e d a b ln pc fl => exact execTeLwaitf_acts t e d a b ln pc fl s
  | teLrel t e d a b ln pc fl => exact execTeLrel_acts t e d a b ln pc fl s
  | teLtest t e d a b ln pc fl => exact execTeLtest_acts t e d a b ln pc fl s
  | teLkill t e d a b ln pc fl => exact execTeLkill_acts t e d a b ln pc fl s
  | teNsendw t e d a b ln pc fl => exact (teSend_acts .. : Acts s _ (execTeNsendw t e d a b ln pc fl s))
  | teNsende t e d a b ln pc fl => exact (teSend_acts .. : Acts s _ (execTeNsende t e d a b ln pc fl s))
  | teNrecvw t e d a b ln pc fl => exact (teRecv_acts .. : Acts s _ (execTeNrecvw t e d a b ln pc fl s))
  | teNrecve t e d a b ln pc fl => exact (teRecv_acts .. : Acts s _ (execTeNrecve t e d a b ln pc fl s))
  | nbTimeout t e => exact execNbTimeout_acts t e s
  | teRsend t e d a b ln pc fl => exact execTeRsend_acts t e d a b ln pc fl s
  | teRsendt t e d a b ln pc fl => exact execTeRsendt_acts t e d a b ln pc fl s
  | teRtry t e d a b ln pc fl => exact execTeRtry_acts t e d a b ln pc fl s
  | teRtryt t e d a b ln pc fl => exact execTeRtryt_acts t e d a b ln pc fl s
  | blockedHeartbeat t e => exact execBlockedHeartbeat_acts t e s
  | engineHang t e => exact execEngineHang_acts t e s
  | portCheckFail t e => exact execPortCheckFail_acts t e s
  | engineRestartEnd t e => exact execEngineRestartEnd_acts t e s
  | spareLoadEnd t e => exact execSpareLoadEnd_acts t e s
  | restartAll t w => exact execRestartAll_acts t w s
  | teLoadGo t w => exact execTeLoadGo_acts t w s
  | teLoadEnd t => exact execTeLoadEnd_acts t s
  | teCyclesClear t w => exact execTeCyclesClear_acts t w s
  | statCombine t line => exact execStatCombine_acts t line s
  | close t ch => exact execClose_acts t ch s
  | classCDrop t e => exact execClassCDrop_acts t e s
  | recordReassembled t src ue bad => exact execRecordReassembled_acts t src ue bad s
  | slackClear t ch w => exact execSlackClear_acts t ch w s
  | egressWrite t ch ue => exact execEgressWrite_acts t ch ue s
  | starvedDrop t ch => exact execStarvedDrop_acts t ch s
  | writeback t ch => exact execWriteback_acts t ch s
  | irqHoldoffEnd t ch => exact execIrqHoldoffEnd_acts t ch s
  | ringStart t ch w => exact execRingStart_acts t ch w s
  | ringStartEffect t ch => exact execRingStartEffect_acts t ch s
  | ringStop t ch w => exact execRingStop_acts t ch w s
  | stoppingDrained t ch => exact execStoppingDrained_acts t ch s
  | stoppingTimeout t ch => exact execStoppingTimeout_acts t ch s
  | tailWrite t ch w => exact execTailWrite_acts t ch w s
  | descriptorFetchDone t ch r => exact execDescriptorFetchDone_acts t ch r s
  | busMasterDisable t => exact execBusMasterDisable_acts t s
  | configRequest t req => exact execConfigRequest_acts t req s
  | bar0OverlongRead t off nb => exact execBar0OverlongRead_acts t off nb s
  | bar2Write t off nb v => exact execBar2Write_acts t off nb v s
  | flr t => exact execFlr_acts t s
  | flrComplete t => exact execFlrComplete_acts t s
  | hotReset t => exact execHotReset_acts t s
  | linkDown t => exact execLinkDown_acts t s
  | pciePerstN t => exact execPciePerstN_acts t s
  | d3hotEntry t => exact execD3hotEntry_acts t s
  | rwinSelWrite t w => exact execRwinSelWrite_acts t w s
  | remoteWindowWrite t x w => exact execRemoteWindowWrite_acts t x w s
  | remoteWindowRead t x nb => exact execRemoteWindowRead_acts t x nb s
  | remoteReadTimeout t => exact execRemoteReadTimeout_acts t s
  | refAbsent t r => exact execRefAbsent_acts t r s
  | refPresent t r => exact execRefPresent_acts t r s
  | refMonitorMeasure t ppm => exact execRefMonitorMeasure_acts t ppm s
  | cpllLossOfLock t loss => exact execCpllLossOfLock_acts t loss s
  | relockTimeout t => exact execRelockTimeout_acts t s
  | cpllLock t => exact execCpllLock_acts t s
  | interruptionEnd t => exact execInterruptionEnd_acts t s
  | interruptionLong t => exact execInterruptionLong_acts t s
  | gatedAccessTimeout t => exact execGatedAccessTimeout_acts t s
  | revert t w => exact execRevert_acts t w s
  | clkRefSrcWrite t w => exact execClkRefSrcWrite_acts t w s
  | apllLossOfLock t => exact execApllLossOfLock_acts t s
  | apllLock t => exact execApllLock_acts t s
  | asyncEdge t => exact execAsyncEdge_acts t s
  | fire t w => exact execFire_acts t w s
  | clkOutWrite t j w => exact execClkOutWrite_acts t j w s
  | inputEdge t e es => exact execInputEdge_acts t e es s
  | pxNop t e => exact execPxNop_acts t e s
  | pxWaite t e mask edge => exact execPxWaite_acts t e mask edge s
  | pxWaitl t e i level => exact execPxWaitl_acts t e i level s
  | pxWaitc t e a b c cond => exact execPxWaitc_acts t e a b c cond s
  | pxCnt t e k mode a b x xen eng => exact execPxCnt_acts t e k mode a b x xen eng s
  | pxLdi t e k imm => exact execPxLdi_acts t e k imm s
  | pxAddi t e k imm => exact execPxAddi_acts t e k imm s
  | pxCalc t e d a b op => exact execPxCalc_acts t e d a b op s
  | pxJmp t e cond n target => exact execPxJmp_acts t e cond n target s
  | pxOut t e o act => exact execPxOut_acts t e o act s
  | pxDly t e src k n => exact execPxDly_acts t e src k n s
  | pxShin t e i clk ci n => exact execPxShin_acts t e i clk ci n s
  | pxShout t e o clk ci n => exact execPxShout_acts t e o clk ci n s
  | pxXsh t e op k => exact execPxXsh_acts t e op k s
  | pxGet t e dst k w j => exact execPxGet_acts t e dst k w j s
  | pxPut t e m src i => exact execPxPut_acts t e m src i s
  | pxEvt t e imm => exact execPxEvt_acts t e imm s
  | pxCap t e src i => exact execPxCap_acts t e src i s
  | pxIrq t e code => exact execPxIrq_acts t e code s
  | pxHalt t e => exact execPxHalt_acts t e s
  | pxStart t e w => exact execPxStart_acts t e w s
  | pxStop t e w => exact execPxStop_acts t e w s
  | pxStopEffect t e => exact execPxStopEffect_acts t e s
  | pxInWrite t e j w => exact execPxInWrite_acts t e j w s
  | pxConfigWrite t off w => exact execPxConfigWrite_acts t off w s
  | pxDataRead t e m lo nb => exact execPxDataRead_acts t e m lo nb s
  | portUp t port => exact execPortUp_acts t port s
  | mark t port returned echo rtt => exact execMark_acts t port returned echo rtt s
  | heartbeatSend t => exact execHeartbeatSend_acts t s
  | heartbeat t port high x posValid src sent fine => exact execHeartbeat_acts t port high x posValid src sent fine s
  | partnerLost t port => exact execPartnerLost_acts t port s
  | partnerRejoin t port => exact execPartnerRejoin_acts t port s
  | ref t port src stamp => exact execRef_acts t port src stamp s
  | trig t port src stamp => exact execTrig_acts t port src stamp s
  | bcast t port src v => exact execBcast_acts t port src v s
  | barrierGather t port src id n => exact execBarrierGather_acts t port src id n s
  | barrierRelease t port src id n => exact execBarrierRelease_acts t port src id n s
  | sched t port src op dest all at' => exact execSched_acts t port src op dest all at' s
  | schedDeadline t => exact execSchedDeadline_acts t s
  | mntRd t port src dest req acc => exact execMntRd_acts t port src dest req acc s
  | mntWr t port src dest req acc v => exact execMntWr_acts t port src dest req acc v s
  | mntData t port src dest req err v => exact execMntData_acts t port src dest req err v s
  | loss t port src lost pos => exact execLoss_acts t port src lost pos s
  | pcieEvt t port src kind => exact execPcieEvt_acts t port src kind s
  | hngBcastTx t w => exact execHngBcastTx_acts t w s
  | bcastRxRead t lo nb => exact execBcastRxRead_acts t lo nb s
  | barrierEnter t w => exact execBarrierEnter_acts t w s
  | schedGo t w => exact execSchedGo_acts t w s
  | mntRead t w => exact execMntRead_acts t w s
  | mntWrite t w => exact execMntWrite_acts t w s
  | mntTimeout t => exact execMntTimeout_acts t s
  | modResetNAssert t => exact ⟨execModResetNAssert_keeps t s, fun h => Bool.noConfusion h⟩
  | modResetNRelease t sel => exact ⟨execModResetNRelease_keeps t sel s, fun h => Bool.noConfusion h⟩
  | resetStageEnd t => exact execResetStageEnd_acts t s
  | romStageEnd t => exact execRomStageEnd_acts t s
  | flashStageEnd t readOk => exact execFlashStageEnd_acts t readOk s
  | wardEnd t readOk => exact execWardEnd_acts t readOk s
  | firmwareStageEnd t readOk testOk => exact execFirmwareStageEnd_acts t readOk testOk s
  | canvasStageEnd t readOk => exact execCanvasStageEnd_acts t readOk s
  | paletteStageEnd t readOk => exact execPaletteStageEnd_acts t readOk s
  | readoutStageEnd t runs badSlots => exact execReadoutStageEnd_acts t runs badSlots s
  | readoutBringupTimeout t => exact execReadoutBringupTimeout_acts t s
  | attest t w => exact execAttest_acts t w s
  | flashRead t w => exact execFlashRead_acts t w s
  | flashErase t w => exact execFlashErase_acts t w s
  | flashWrite t w => exact execFlashWrite_acts t w s
  | verifySlot t w => exact execVerifySlot_acts t w s
  | otpBurn t w fail => exact execOtpBurn_acts t w fail s
  | otpRead t w => exact execOtpRead_acts t w s
  | otpReburn t w n m => exact execOtpReburn_acts t w n m s
  | reboot t w => exact execReboot_acts t w s
  | mailboxCommandEnd t flashOk => exact execMailboxCommandEnd_acts t flashOk s
  | pairScrub t => exact execPairScrub_acts t s
  | pairRepair t off shadow => exact execPairRepair_acts t off shadow s
  | lockstepMismatch t => exact execLockstepMismatch_acts t s
  | supervisorRestartEnd t => exact execSupervisorRestartEnd_acts t s
  | supervisorRestartTimeout t => exact execSupervisorRestartTimeout_acts t s
  | stateMemoryUe t => exact execStateMemoryUe_acts t s
  | logEntryWrite t good => exact execLogEntryWrite_acts t good s
  | thermalSample t rs => exact execThermalSample_acts t rs s
  | shutdownDrainEnd t => exact execShutdownDrainEnd_acts t s
  | shutdownRecordWritten t good => exact execShutdownRecordWritten_acts t good s
  | thAck t w => exact execThAck_acts t w s
  | rearm t w => exact execRearm_acts t w s
  | rearmRecordWritten t => exact execRearmRecordWritten_acts t s
  | thMaxClear t w => exact execThMaxClear_acts t w s
  | thCtlWrite t off w => exact execThCtlWrite_acts t off w s
  | registerWrite t off w => exact execRegisterWrite_acts t off w s
  | arbitrationCycle t => exact execArbitrationCycle_acts t s
  | linkUp t speed width flit => exact execLinkUp_acts t speed width flit s
  | pciePerstNRelease t => exact execPciePerstNRelease_acts t s
  | powerLoss t vddio => exact ⟨execPowerLoss_keeps t vddio s, fun h => Bool.noConfusion h⟩
  | internalResetRelease t => exact ⟨execInternalResetRelease_keeps t s, fun h => Bool.noConfusion h⟩
  | frameDiscard t port lanes => exact execFrameDiscard_acts t port lanes s
  | illegalOpcode t e w => exact execIllegalOpcode_acts t e w s
  | pxIllegalInstruction t e w => exact execPxIllegalInstruction_acts t e w s
  | throttleChangeNoTick t => exact execThrottleChangeNoTick_acts t s

/-- Settles O3: one step is one command, and every command keeps the canonical form. -/
theorem stepKeepsCanon : Obligations.StepKeepsCanon := by
  unfold Obligations.StepKeepsCanon
  intro s s' hs hc
  unfold step at hs
  split at hs
  · cases hs
    exact hc
  · next c rest _ =>
    obtain ⟨t, ht, hk⟩ := (exec_acts c { s with pending := rest }).keeps
    cases ht.symm.trans hs
    exact hk.canon { hc with }

/-- Settles O2: every command completes and keeps the queue. -/
theorem everyCommandCompletes : Obligations.EveryCommandCompletes := by
  unfold Obligations.EveryCommandCompletes
  intro c s
  obtain ⟨s', hs, hk⟩ := (exec_acts c s).keeps
  exact ⟨s', hs, hk.queue⟩

/-- A command other than the four the statement names wakes nothing. -/
theorem wakes_eq_false {c : Instr} (h₁ : ∀ t, c ≠ .modResetNAssert t) (h₂ : ∀ t sel, c ≠ .modResetNRelease t sel)
    (h₃ : ∀ t, c ≠ .internalResetRelease t) (h₄ : ∀ t v, c ≠ .powerLoss t v) : Instr.wakes c = false := by
  unfold Instr.wakes
  split
  · exact absurd rfl (h₁ _)
  · exact absurd rfl (h₂ _ _)
  · exact absurd rfl (h₃ _)
  · exact absurd rfl (h₄ _ _)
  · rfl

/-- Settles O6: every other command is timed, and nothing happens while the logic is off. -/
theorem deadLogicHolds : Obligations.DeadLogicHolds := by
  unfold Obligations.DeadLogicHolds
  intro c s ha h₁ h₂ h₃ h₄
  exact (exec_acts c s).idle (wakes_eq_false h₁ h₂ h₃ h₄) ha

/-- Settles O1: `step` takes the front of a queue that is not empty. -/
theorem stepTakesFront : Obligations.StepTakesFront := by
  unfold Obligations.StepTakesFront
  exact fun _ _ _ => rfl

/-- Settles O4: every table of the reset state is empty. -/
theorem resetCanon : Obligations.ResetCanon := by
  unfold Obligations.ResetCanon
  exact ⟨rfl, rfl, rfl, rfl, rfl, rfl, rfl, rfl, rfl⟩

/-- Settles O5: the listed registers hold their reset values, and the fields named theirs. -/
theorem resetReads : Obligations.ResetReads := by
  unfold Obligations.ResetReads
  exact ⟨by decide, rfl, rfl, rfl, rfl, rfl⟩

end Machine
end Sys2Proof

/-! Tile engine instructions that write one register: the ALU, the reshaping and the immediate rows (06_tile_engine_isa R205 to R208). -/

namespace Sys2Proof
namespace Machine

/-- An ALU row that is not predicated writes its value to `d`. -/
theorem teAlu_computes {s : State} {e : Nat} (h : EngineReady s e) (hb : (s.eng e).blk = none) {c : Instr} {t : Time} {d a b : BitVec 5}
    {ln : BitVec 2} {lanes : Bool} {cyc : Nat} {f : Nat → W64 → W64 → W64 → W64} (hl : lanes = false → ln = 0) {V : W64 → Prop}
    (hc : exec c s = teAlu t e d a b ln 0 0 lanes cyc f s) (hv : V (f (laneW ln) ((s.eng e).reg d) ((s.eng e).reg a) ((s.eng e).reg b))) :
    Computes c s t e d cyc V := by
  refine computes_done hb c t d cyc _ V ?_ hv
  rw [hc, teAlu, teOp_ready h]
  cases lanes with
  | true => rw [rForm_lanes]
  | false => rw [hl rfl, rForm_plain]

/-- A reshaping row that is not predicated, in a lane mode the row has, writes its value to `d`. -/
theorem teReshape_computes {s : State} {e : Nat} (h : EngineReady s e) (hb : (s.eng e).blk = none) {c : Instr} {t : Time} {d a b : BitVec 5}
    {ln : BitVec 2} {any : Bool} {f : Nat → W64 → W64 → W64} (hl : any = false → ln ≠ 0) {V : W64 → Prop}
    (hc : exec c s = teReshape t e d a b ln 0 0 any f s) (hv : V (f (laneW ln) ((s.eng e).reg a) ((s.eng e).reg b))) :
    Computes c s t e d 1 V := by
  refine computes_done hb c t d 1 _ V ?_ hv
  have hln : ¬(!any && ln == 0) = true := by simpa using hl
  rw [hc, teReshape, teOp_ready h, rForm_lanes, if_neg hln]

/-- An immediate row with legal fields writes its value to `d`. -/
theorem teImm_computes {s : State} {e : Nat} (h : EngineReady s e) (hb : (s.eng e).blk = none) {c : Instr} {t : Time} {d : BitVec 5}
    {ok : Bool} {f : Engine → W64} (hok : ok = true) {V : W64 → Prop} (hc : exec c s = teImm t e d ok f s) (hv : V (f (s.eng e))) :
    Computes c s t e d 1 V := by
  refine computes_done hb c t d 1 _ V ?_ hv
  simp [hc, teImm, teOp_ready h, hok]

/-! The lanes of a lane operation. -/

theorem eachLane_lanes2 (ln : BitVec 2) (f : Nat → Nat → Nat → Nat) (a b : W64) :
    EachLane ln f a b (lanes2 (laneW ln) (f (laneW ln)) a b) := fun j hj => lane_lanes2 ln _ a b j hj

/-- A lane operation that is a signed function of its lanes. -/
theorem eachSignedLane_lanes2 (ln : BitVec 2) (f : Nat → Int → Int → Int) (g : Nat → Nat → Nat) (a b : W64)
    (hg : ∀ x y, x < 2 ^ laneW ln → y < 2 ^ laneW ln →
      g x y % 2 ^ laneW ln = usg (laneW ln) (f (laneW ln) (sgn (laneW ln) x) (sgn (laneW ln) y))) :
    EachSignedLane ln f a b (lanes2 (laneW ln) g a b) := fun j hj =>
  (lane_lanes2 ln g a b j hj).trans (hg _ _ (lane_lt _ _ _) (lane_lt _ _ _))

/-- The smaller of two signed lanes, chosen as a lane. -/
theorem min_sgn_lane (w x y : Nat) (hx : x < 2 ^ w) (hy : y < 2 ^ w) :
    (if sgn w x ≤ sgn w y then x else y) % 2 ^ w = usg w (min (sgn w x) (sgn w y)) := by
  split
  · next h => rw [min_eq_left h, usg_sgn w x hx, Nat.mod_eq_of_lt hx]
  · next h => rw [min_eq_right (by omega), usg_sgn w y hy, Nat.mod_eq_of_lt hy]

/-- The larger of two signed lanes, chosen as a lane. -/
theorem max_sgn_lane (w x y : Nat) (hx : x < 2 ^ w) (hy : y < 2 ^ w) :
    (if sgn w x ≤ sgn w y then y else x) % 2 ^ w = usg w (max (sgn w x) (sgn w y)) := by
  split
  · next h => rw [max_eq_right h, usg_sgn w y hy, Nat.mod_eq_of_lt hy]
  · next h => rw [max_eq_left (by omega), usg_sgn w x hx, Nat.mod_eq_of_lt hx]

/-- Multiply and add: the lanes of the low product added to the lanes of `d`. -/
theorem lane_aluMac (ln : BitVec 2) (d a b : W64) (j : Nat) (hj : j < 2 ^ ln.toNat) :
    lane (laneW ln) (aluMac (laneW ln) d a b) j =
      (lane (laneW ln) d j + lane (laneW ln) a j * lane (laneW ln) b j) % 2 ^ laneW ln := by
  rw [aluMac, lane_lanes2 ln _ _ _ j hj, lane_lanes2 ln _ _ _ j hj, Nat.add_mod_mod]

/-- A row whose value is a lane operation on `a` and `b`. -/
theorem teAlu_eachLane {s : State} {e : Nat} (h : EngineReady s e) (hb : (s.eng e).blk = none) {c : Instr} {t : Time} {d a b : BitVec 5}
    {ln : BitVec 2} {cyc : Nat} {f : Nat → Nat → Nat → Nat} (g : Nat → W64 → W64 → W64 → W64)
    (hc : exec c s = teAlu t e d a b ln 0 0 true cyc g s) (hg : ∀ w d a b, g w d a b = lanes2 w (f w) a b) :
    Computes c s t e d cyc (EachLane ln f ((s.eng e).reg a) ((s.eng e).reg b)) :=
  teAlu_computes h hb (fun hl => absurd hl (by decide)) hc (hg .. ▸ eachLane_lanes2 ln f _ _)

/-- A row whose value is a lane operation that is a signed function of the lanes of `a` and `b`. -/
theorem teAlu_eachSignedLane {s : State} {e : Nat} (h : EngineReady s e) (hb : (s.eng e).blk = none) {c : Instr} {t : Time} {d a b : BitVec 5}
    {ln : BitVec 2} {cyc : Nat} {f : Nat → Int → Int → Int} (g : Nat → W64 → W64 → W64 → W64) {k : Nat → Nat → Nat → Nat}
    (hc : exec c s = teAlu t e d a b ln 0 0 true cyc g s) (hg : ∀ w d a b, g w d a b = lanes2 w (k w) a b)
    (hk : ∀ w x y, x < 2 ^ w → y < 2 ^ w → k w x y % 2 ^ w = usg w (f w (sgn w x) (sgn w y))) :
    Computes c s t e d cyc (EachSignedLane ln f ((s.eng e).reg a) ((s.eng e).reg b)) :=
  teAlu_computes h hb (fun hl => absurd hl (by decide)) hc (hg .. ▸ eachSignedLane_lanes2 ln f _ _ _ (hk _))

/-- Settles O26: a row is one register write, whose lanes are those of the lane operation. -/
theorem aluInstructions : Obligations.AluInstructions := by
  unfold Obligations.AluInstructions
  have lit : ∀ {p : Prop}, true = false → p := fun h => absurd h (by decide)
  refine ⟨fun s t e d a b ln h hb => ?_, fun s t e d a b ln h hb => ?_, fun s t e d a b h hb => ?_⟩
  · exact ⟨teAlu_eachLane h hb aluAdd rfl fun _ _ _ _ => rfl, teAlu_eachLane h hb aluSub rfl fun _ _ _ _ => rfl,
      teAlu_eachLane h hb aluAddus rfl fun _ _ _ _ => rfl, teAlu_eachLane h hb aluSubus rfl fun _ _ _ _ => rfl,
      teAlu_eachLane h hb aluShl rfl fun _ _ _ _ => rfl, teAlu_eachLane h hb aluShr rfl fun _ _ _ _ => rfl,
      teAlu_eachLane h hb aluMinu rfl fun _ _ _ _ => rfl, teAlu_eachLane h hb aluMaxu rfl fun _ _ _ _ => rfl,
      teAlu_eachLane h hb aluAvgu rfl fun _ _ _ _ => rfl, teAlu_eachLane h hb aluMul rfl fun _ _ _ _ => rfl,
      teAlu_eachLane h hb aluMulhu rfl fun _ _ _ _ => rfl, teAlu_computes (f := aluMac) h hb lit rfl (lane_aluMac ln _ _ _)⟩
  · refine ⟨teAlu_eachSignedLane h hb aluAdds rfl (fun _ _ _ _ => rfl) fun w _ _ _ _ => usg_mod w _,
      teAlu_eachSignedLane h hb aluSubs rfl (fun _ _ _ _ => rfl) fun w _ _ _ _ => usg_mod w _,
      teAlu_eachSignedLane h hb aluMin rfl (fun _ _ _ _ => rfl) min_sgn_lane,
      teAlu_eachSignedLane h hb aluMax rfl (fun _ _ _ _ => rfl) max_sgn_lane,
      teAlu_eachSignedLane h hb aluAbsd rfl (fun _ _ _ _ => rfl) fun w _ _ _ _ => (usg_nat w _).symm,
      teAlu_eachSignedLane h hb aluMulhs rfl (fun _ _ _ _ => rfl) fun w _ _ _ _ => usg_mod w _, ?_⟩
    refine teAlu_computes (f := aluSar) h hb lit rfl fun j hj => ?_
    rw [aluSar, lane_lanes2 ln _ _ _ j hj, usg_mod]
  · have plain : ∀ {p : Prop} (_ : p), false = false → p := fun h _ => h
    exact ⟨teAlu_computes (f := aluAnd) h hb (plain rfl) rfl rfl, teAlu_computes (f := aluOr) h hb (plain rfl) rfl rfl,
      teAlu_computes (f := aluXor) h hb (plain rfl) rfl rfl, teAlu_computes (f := aluAndn) h hb (plain rfl) rfl rfl,
      teAlu_computes (f := aluBsel) h hb (plain rfl) rfl rfl⟩

end Machine
end Sys2Proof

/-! The reshaping rows of the tile engines (06_tile_engine_isa R207). -/

namespace Sys2Proof
namespace Machine

/-- Lane count and widths of a lane mode that has a wider one. -/
theorem laneW_wide {ln : BitVec 2} (h : ln ≠ 0) : 2 * laneW ln * (32 / laneW ln) = 64 ∧ 64 / laneW ln = 32 / laneW ln + 32 / laneW ln := by
  revert ln; decide

/-- Lane `j` of a word put together from wide lanes. -/
theorem lane_ofLanes_wide {ln : BitVec 2} (h : ln ≠ 0) (f : Nat → Nat) (j : Nat) (hj : j < 32 / laneW ln) :
    lane (2 * laneW ln) (ofLanes (2 * laneW ln) (32 / laneW ln) f) j = f j % 2 ^ (2 * laneW ln) :=
  lane_ofLanes _ _ _ (laneW_wide h).1 j hj

/-- The halves of a packed word: the wide lanes of `a`, then those of `b`. -/
theorem lane_packLanes {ln : BitVec 2} (h : ln ≠ 0) (f : Nat → Nat) (a b : W64) (j : Nat) (hj : j < 32 / laneW ln) :
    lane (laneW ln) (packLanes (laneW ln) f a b) j = f (lane (2 * laneW ln) a j) % 2 ^ laneW ln ∧
      lane (laneW ln) (packLanes (laneW ln) f a b) (j + 32 / laneW ln) = f (lane (2 * laneW ln) b j) % 2 ^ laneW ln := by
  obtain ⟨hw, hn⟩ := laneW_wide h
  have hw := (laneW_mul ln).1
  constructor
  · rw [packLanes, lane_ofLanes _ _ _ hw j (by omega), if_pos hj]
  · rw [packLanes, lane_ofLanes _ _ _ hw _ (by omega), if_neg (by omega), Nat.add_sub_cancel]

/-- A value clamped to the unsigned range stands as it is. -/
theorem usg_clampU (w : Nat) (i : Int) : usg w (clampU w i) = (max 0 (min (2 ^ w - 1) i)).toNat := by
  have hp : (0 : Int) < 2 ^ w := by positivity
  unfold usg clampU
  rw [Int.emod_eq_of_lt (by omega) (by push_cast; omega)]

/-- The low bits of a wide lane are those of its signed value. -/
theorem usg_sgn_wide (w x : Nat) (h : x < 2 ^ (2 * w)) : usg w (sgn (2 * w) x) = x % 2 ^ w := by
  unfold sgn
  rw [Nat.mod_eq_of_lt h]
  split
  · exact usg_nat w x
  · have hx : (x : Int) - 2 ^ (2 * w) = x + ((2 ^ w : Nat) : Int) * (-2 ^ w) := by push_cast; ring
    rw [hx, usg, Int.add_mul_emod_self_left]
    exact usg_nat w x

/-- A number of at most `w` fits a lane of width `w`. -/
theorem mod_lane_of_le {w n : Nat} (h : n ≤ w) : n % 2 ^ w = n := Nat.mod_eq_of_lt (lt_of_le_of_lt h Nat.lt_two_pow_self)

/-- The leading zeros of a lane: it fits the bits below them, and the bit after them is set. -/
theorem leadingZeros_spec (w x : Nat) (hx : x < 2 ^ w) :
    let n := ((List.range w).takeWhile fun i => !x.testBit (w - 1 - i)).length
    n ≤ w ∧ x < 2 ^ (w - n) ∧ (n < w → 2 ^ (w - n - 1) ≤ x) := by
  have hn : ((List.range w).takeWhile fun i => !x.testBit (w - 1 - i)).length = (List.range w).findIdx fun i => x.testBit (w - 1 - i) := by
    have hle := List.findIdx_le_length (p := fun i => x.testBit (w - 1 - i)) (xs := List.range w)
    rw [List.length_range] at hle
    rw [List.takeWhile_eq_take_findIdx_not, List.length_take, List.length_range]
    simp only [Bool.not_not]
    omega
  simp only [hn]
  set n := (List.range w).findIdx fun i => x.testBit (w - 1 - i) with hdef
  have hle : n ≤ w := by simpa [hdef] using List.findIdx_le_length (p := fun i => x.testBit (w - 1 - i)) (xs := List.range w)
  refine ⟨hle, Nat.lt_pow_two_of_testBit x fun i hi => ?_, fun hlt => Nat.ge_two_pow_of_testBit ?_⟩
  · by_cases hw : i < w
    · have hz := List.not_of_lt_findIdx (p := fun i => x.testBit (w - 1 - i)) (xs := List.range w) (i := w - 1 - i) (by omega)
      simp only [List.getElem_range] at hz
      rwa [show w - 1 - (w - 1 - i) = i by omega] at hz
    · exact Nat.testBit_lt_two_pow (lt_of_lt_of_le hx (Nat.pow_le_pow_right (by decide) (by omega)))
  · have hs := List.findIdx_getElem (p := fun i => x.testBit (w - 1 - i)) (xs := List.range w) (w := by simpa [hdef] using hlt)
    simp only [List.getElem_range] at hs
    rwa [show w - n - 1 = w - 1 - n by omega]

/-- Settles O27: a row is one register write, whose lanes are those of the word put together from the lanes of `a` and `b`. -/
theorem reshaping : Obligations.Reshaping := by
  unfold Obligations.Reshaping
  intro s t e d a b ln h hb w A A2 B2 packed
  have hw := (laneW_mul ln).1
  have any : ∀ {p : Prop}, true = false → p := fun h => absurd h (by decide)
  refine ⟨fun hln => ?_, ?_, ?_, ?_, ?_, ?_⟩
  · have wide : false = false → ln ≠ 0 := fun _ => hln
    have hA2 : ∀ j, A2 j < 2 ^ (2 * w) := lane_lt _ _
    have hB2 : ∀ j, B2 j < 2 ^ (2 * w) := lane_lt _ _
    have narrow : ∀ v j, lane w v j % 2 ^ (2 * w) = lane w v j := fun v j =>
      Nat.mod_eq_of_lt (lt_of_lt_of_le (lane_lt w v j) (Nat.pow_le_pow_right (by decide) (by omega)))
    refine ⟨teReshape_computes (f := aluUnpklu) h hb wide rfl fun j hj => (lane_ofLanes_wide hln _ j hj).trans (narrow _ _),
      teReshape_computes (f := aluUnpkhu) h hb wide rfl fun j hj => (lane_ofLanes_wide hln _ j hj).trans (narrow _ _),
      teReshape_computes (f := aluUnpkls) h hb wide rfl fun j hj => (lane_ofLanes_wide hln _ j hj).trans (usg_mod _ _),
      teReshape_computes (f := aluUnpkhs) h hb wide rfl fun j hj => (lane_ofLanes_wide hln _ j hj).trans (usg_mod _ _),
      teReshape_computes (f := aluPackus) h hb wide rfl fun j hj => ?_, teReshape_computes (f := aluPackss) h hb wide rfl fun j hj => ?_,
      teReshape_computes (f := aluPackt) h hb wide rfl fun j hj => ?_⟩
    · obtain ⟨hlo, hhi⟩ := lane_packLanes hln (fun x => usg w (clampU w (sgn (2 * w) x))) ((s.eng e).reg a) ((s.eng e).reg b) j hj
      exact ⟨hlo.trans ((usg_mod _ _).trans (usg_clampU _ _)), hhi.trans ((usg_mod _ _).trans (usg_clampU _ _))⟩
    · obtain ⟨hlo, hhi⟩ := lane_packLanes hln (fun x => usg w (clampS w (sgn (2 * w) x))) ((s.eng e).reg a) ((s.eng e).reg b) j hj
      exact ⟨hlo.trans (usg_mod _ _), hhi.trans (usg_mod _ _)⟩
    · obtain ⟨hlo, hhi⟩ := lane_packLanes hln (fun x => x) ((s.eng e).reg a) ((s.eng e).reg b) j hj
      exact ⟨hlo.trans (usg_sgn_wide w _ (hA2 j)).symm, hhi.trans (usg_sgn_wide w _ (hB2 j)).symm⟩
  · exact teReshape_computes (f := aluHaddu) h hb any rfl (BitVec.toNat_ofNat _ _)
  · exact teReshape_computes (f := aluHadds) h hb any rfl rfl
  · refine teReshape_computes (f := aluSplat) h hb any rfl fun j hj => ?_
    rw [← (laneW_mul ln).2.1] at hj
    exact (lane_ofLanes _ _ _ hw j hj).trans (Nat.mod_eq_of_lt (lane_lt _ _ _))
  · refine teReshape_computes (f := aluClz) h hb any rfl fun j hj => ?_
    obtain ⟨hle, hlt, hge⟩ := leadingZeros_spec w (A j) (lane_lt _ _ _)
    exact ⟨_, hle, (lane_lanes2 ln _ _ _ j hj).trans (mod_lane_of_le hle), hlt, hge⟩
  · refine teReshape_computes (f := aluPopc) h hb any rfl fun j hj => ?_
    have hle : ((List.range w).filter fun i => (A j).testBit i).length ≤ w := (List.length_filter_le _ _).trans (List.length_range).le
    exact (lane_lanes2 ln _ _ _ j hj).trans (mod_lane_of_le hle)

end Machine
end Sys2Proof

/-! The immediate and compare rows of the tile engines (06_tile_engine_isa R203, R206, R208). -/

namespace Sys2Proof
namespace Machine

/-- Lane `j` of a count written to every lane: an immediate shift takes the count, which is below the lane width. -/
theorem lane_splat_count (ln : BitVec 2) (imm : BitVec 16) (hc : fld imm 5 0 < laneW ln) (j : Nat) (hj : j < 2 ^ ln.toNat) :
    lane (laneW ln) (aluSplat (laneW ln) (imm.setWidth 64 &&& 63) 0) j % laneW ln = fld imm 5 0 := by
  obtain ⟨hw, hn, hpos⟩ := laneW_mul ln
  have hv : (imm.setWidth 64 &&& 63 : W64).toNat = fld imm 5 0 := by
    have himm : imm.toNat % 2 ^ 64 = imm.toNat := Nat.mod_eq_of_lt (by omega)
    rw [BitVec.toNat_and, BitVec.toNat_setWidth, himm]
    exact (Nat.and_two_pow_sub_one_eq_mod _ 6).trans (by simp [fld])
  have hlt : fld imm 5 0 < 2 ^ laneW ln := lt_trans hc Nat.lt_two_pow_self
  rw [aluSplat, lane_ofLanes _ _ _ hw j (by omega), Nat.mod_eq_of_lt (lane_lt _ _ _), lane, hv, Nat.mul_zero, pow_zero, Nat.div_one,
    Nat.mod_eq_of_lt hlt, Nat.mod_eq_of_lt hc]

/-- The relation that condition `n` of CMP tests in a lane of width `w` (06_tile_engine_isa R206). -/
def CondHolds (w n x y : Nat) : Prop :=
  (n = 0 ∧ x = y) ∨ (n = 1 ∧ x ≠ y) ∨ (n = 2 ∧ sgn w x < sgn w y) ∨ (n = 3 ∧ sgn w x ≤ sgn w y) ∨ (n = 4 ∧ x < y) ∨
    (n = 5 ∧ x ≤ y) ∨ (n = 6 ∧ x &&& y ≠ 0)

theorem cmpCond_eq_some_true (w n x y : Nat) : cmpCond n w x y = some true ↔ CondHolds w n x y := by
  match n with
  | 0 | 1 | 2 | 3 | 4 | 5 | 6 => simp [cmpCond, CondHolds]
  | n + 7 => simp [cmpCond, CondHolds]

/-- A condition of the table has a value. -/
theorem cmpCond_isNone {n : Nat} (h : n ≤ 6) (w x y : Nat) : (cmpCond n w x y).isNone = false := by
  match n, h with
  | 0, _ | 1, _ | 2, _ | 3, _ | 4, _ | 5, _ | 6, _ => rfl

/-- CMP with a listed condition and flag selection writes its mask and its flag. -/
theorem exec_teCmp {s : State} {e : Nat} (h : EngineReady s e) (t : Time) {fn : BitVec 5} (d a b : BitVec 5) (ln : BitVec 2) {sel : BitVec 2}
    (fl : BitVec 2) (hfn : fn.toNat ≤ 6) (hsel : sel ≠ 3) :
    let c := fun j => cmpCond fn.toNat (laneW ln) (lane (laneW ln) ((s.eng e).reg a) j) (lane (laneW ln) ((s.eng e).reg b) j)
    let js := List.range (64 / laneW ln)
    exec (.teCmp t e fn d a b ln sel fl) s = .next ((s.at t).doneEng e 1 fun y =>
      (y.setReg d (ofLanes (laneW ln) (64 / laneW ln) fun j => if c j == some true then 2 ^ laneW ln - 1 else 0)).setFlag fl
        (if sel == 0 then js.any fun j => c j == some true else if sel == 1 then js.all fun j => c j == some true else c 0 == some true)) := by
  intro c js
  have hexec : exec (.teCmp t e fn d a b ln sel fl) s = execTeCmp t e fn d a b ln sel fl s := rfl
  have hsel' : (sel == 3) = false := by simpa using hsel
  rw [hexec, execTeCmp, teOp_ready h]
  simp only [hsel', cmpCond_isNone hfn, Bool.or_false, Bool.false_eq_true, if_false]
  rfl

/-- Writing a register and a flag leaves the cycle counter: the instruction completes by that effect. -/
theorem done_setReg_setFlag {x : Engine} (hb : x.blk = none) (now : Time) (cyc : Nat) (d : BitVec 5) (v : W64) (fl : BitVec 2) (hit : Bool) :
    ((x.after cyc).setReg d v).setFlag fl hit = x.done now cyc true fun y => (y.setReg d v).setFlag fl hit := by
  simp only [Engine.done, hb, Engine.after, Engine.setReg, Engine.setFlag]
  split <;> simp

theorem done_setFlag {x : Engine} (hb : x.blk = none) (now : Time) (cyc : Nat) (fl : BitVec 2) (hit : Bool) :
    (x.after cyc).setFlag fl hit = x.done now cyc true fun y => y.setFlag fl hit := by
  simp [Engine.done, hb, Engine.after, Engine.setFlag]

/-- The mask of CMP: all 1s in the lanes that hold, 0 in the others. -/
theorem lane_mask (ln : BitVec 2) (p : Nat → Bool) (j : Nat) (hj : j < 2 ^ ln.toNat) :
    lane (laneW ln) (ofLanes (laneW ln) (64 / laneW ln) fun j => if p j then 2 ^ laneW ln - 1 else 0) j = if p j then 2 ^ laneW ln - 1 else 0 := by
  obtain ⟨hw, hn, _⟩ := laneW_mul ln
  have hpos : 0 < 2 ^ laneW ln := by positivity
  rw [lane_ofLanes _ _ _ hw j (by omega)]
  split
  · exact Nat.mod_eq_of_lt (by omega)
  · rfl

/-- Settles O28: an immediate row is one register write; CMP writes a mask and a flag, CMPI a flag. -/
theorem immediatesAndCompares : Obligations.ImmediatesAndCompares := by
  unfold Obligations.ImmediatesAndCompares
  refine ⟨fun s t e d a imm h hb => ?_, fun s t e fn d a b ln sel fl imm h hb => ?_⟩
  · intro A ln c p L
    refine ⟨teImm_computes (ok := true) (f := fun x => x.reg a + imm.signExtend 64) h hb rfl rfl rfl,
      teImm_computes (ok := true) (f := fun x => x.reg a &&& imm.setWidth 64) h hb rfl rfl rfl,
      teImm_computes (ok := true) (f := fun x => x.reg a ||| imm.setWidth 64) h hb rfl rfl rfl,
      teImm_computes (ok := true) (f := fun x => x.reg a ^^^ imm.setWidth 64) h hb rfl rfl rfl,
      teImm_computes (ok := (0 : BitVec 5) == 0) (f := fun _ => imm.signExtend 64 <<< 16) h hb rfl rfl rfl,
      fun ⟨h1, h2, hc⟩ => ?_, fun ⟨h1, hp⟩ => ?_⟩
    · have hok : shiftOk imm = true := by rw [shiftOk, h1, h2, decide_eq_true hc]; rfl
      let C := aluSplat (laneW ln) (imm.setWidth 64 &&& 63) 0
      refine ⟨teImm_computes (f := fun x => aluShl (laneW ln) 0 (x.reg a) C) h hb hok rfl fun j hj => ?_,
        teImm_computes (f := fun x => aluShr (laneW ln) 0 (x.reg a) C) h hb hok rfl fun j hj => ?_,
        teImm_computes (f := fun x => aluSar (laneW ln) 0 (x.reg a) C) h hb hok rfl fun j hj => ?_⟩
      · rw [aluShl, lane_lanes2 ln _ _ _ j hj, lane_splat_count ln imm hc j hj]
      · rw [aluShr, lane_lanes2 ln _ _ _ j hj, lane_splat_count ln imm hc j hj]
      · rw [aluSar, lane_lanes2 ln _ _ _ j hj, lane_splat_count ln imm hc j hj, usg_mod]
    · have hok : extOk imm = true := by
        rw [extOk, h1, decide_eq_true (show fld imm 5 0 + fld imm 11 6 + 1 ≤ 64 from hp)]; rfl
      have hlt : A.toNat / 2 ^ p % 2 ^ L < 2 ^ 64 :=
        lt_of_lt_of_le (Nat.mod_lt _ (by positivity)) (Nat.pow_le_pow_right (by decide) (by omega))
      exact ⟨teImm_computes (f := fun x => BitVec.ofNat 64 ((x.reg a).toNat / 2 ^ p % 2 ^ L)) h hb hok rfl
          ((BitVec.toNat_ofNat _ _).trans (Nat.mod_eq_of_lt hlt)),
        teImm_computes (f := fun x => BitVec.ofInt 64 (sgn L ((x.reg a).toNat / 2 ^ p))) h hb hok rfl rfl⟩
  · intro w holds c
    have hlen := (laneW_mul ln).2.1
    have hc : ∀ j, cmpCond fn.toNat (laneW ln) (lane (laneW ln) ((s.eng e).reg a) j) (lane (laneW ln) ((s.eng e).reg b) j) = some true ↔ c j :=
      fun j => cmpCond_eq_some_true _ _ _ _
    refine ⟨fun ⟨hfn, hsel⟩ => ⟨_, _, _, exec_teCmp h t d a b ln fl hfn hsel,
      doneEng_went (f := fun y => (y.setReg d _).setFlag fl _) t 1 (done_setReg_setFlag hb _ _ _ _ _ _), fun j hj => ?_, ?_, ?_, ?_⟩,
      fun hn => ?_⟩
    · have hmask := lane_mask ln (fun j => cmpCond fn.toNat w (lane w ((s.eng e).reg a) j) (lane w ((s.eng e).reg b) j) == some true) j hj
      exact ⟨fun hp => hmask.trans (if_pos (beq_iff_eq.2 ((hc j).2 hp))),
        fun hp => hmask.trans (if_neg fun hm => hp ((hc j).1 (beq_iff_eq.1 hm)))⟩
    · rintro rfl
      simp [hlen, hc]
    · rintro rfl
      simp [hlen, hc]
    · rintro rfl
      exact beq_iff_eq.trans (hc 0)
    · have hexec : exec (.teCmpi t e d a imm) s = execTeCmpi t e d a imm s := rfl
      refine ⟨_, _, ?_, doneEng_went (f := fun y => y.setFlag (d.setWidth 2) _) t 1 (done_setFlag hb _ _ _ _),
        beq_iff_eq.trans (cmpCond_eq_some_true _ _ _ _)⟩
      rw [hexec, execTeCmpi, teOp_ready h, if_neg (by omega)]

end Machine
end Sys2Proof

/-! Loads and stores of engine data memory and the palette pair load (06_tile_engine_isa R194 to R197, R209, R221). -/

namespace Sys2Proof
namespace Machine

/-! What an access does, region by region of R194. -/

/-- An address of user memory, staging, parameters or stack. -/
def PlainAddr (ea : Nat) : Prop := ea < 0xC000 ∨ (0xD000 ≤ ea ∧ ea < 0xE000) ∨ 0xF000 ≤ ea

/-- The position of a line slot at `ea` is revoked, or the bank has not yet written it. -/
def LostAt (s : State) (x : Engine) (ea : Nat) : Prop :=
  (x.slotAt ea).rev = true ∨ s.unwritten x (x.slotAt ea) ((ea - 0xC000) % 0x200 / 2) = true

theorem access_plain {s : State} {x : Engine} {ea : Nat} (h : PlainAddr ea) (store : Bool) : s.access x store ea = .ok := by
  unfold PlainAddr at h
  rw [State.access, if_pos]
  simp only [Bool.or_eq_true, Bool.and_eq_true, decide_eq_true_eq]
  omega

/-- The table of R194 inside the line slots. -/
theorem access_slot {s : State} {x : Engine} {ea : Nat} (hlo : 0xC000 ≤ ea) (hhi : ea < 0xC800) (store : Bool) :
    s.access x store ea =
      if !(x.slotAt ea).held then .bad
      else if (x.slotAt ea).rev || s.unwritten x (x.slotAt ea) ((ea - 0xC000) % 0x200 / 2) then (if store then .drop else .free) else .ok := by
  rw [State.access, if_neg, if_pos hhi]
  simp only [Bool.or_eq_true, Bool.and_eq_true, decide_eq_true_eq]
  omega

theorem access_slot_held {s : State} {x : Engine} {ea : Nat} (hlo : 0xC000 ≤ ea) (hhi : ea < 0xC800) (hheld : (x.slotAt ea).held = true)
    (hw : ¬LostAt s x ea) (store : Bool) : s.access x store ea = .ok := by
  unfold LostAt at hw
  rw [access_slot hlo hhi, if_neg (by simp [hheld]), if_neg (by simpa using hw)]

theorem access_slot_lost {s : State} {x : Engine} {ea : Nat} (hlo : 0xC000 ≤ ea) (hhi : ea < 0xC800) (hheld : (x.slotAt ea).held = true)
    (hw : LostAt s x ea) (store : Bool) : s.access x store ea = if store then .drop else .free := by
  unfold LostAt at hw
  rw [access_slot hlo hhi, if_neg (by simp [hheld]), if_pos (by simpa using hw)]

theorem access_slot_free {s : State} {x : Engine} {ea : Nat} (hlo : 0xC000 ≤ ea) (hhi : ea < 0xC800) (hfree : (x.slotAt ea).held = false)
    (store : Bool) : s.access x store ea = .bad := by
  rw [access_slot hlo hhi, if_pos (by simp [hfree])]

/-- The calibration workspace: a load reads a free value, a store is refused. -/
theorem access_workspace {s : State} {x : Engine} {ea : Nat} (hlo : 0xE000 ≤ ea) (hhi : ea < 0xF000) (store : Bool) :
    s.access x store ea = if store then .bad else .free := by
  rw [State.access, if_neg, if_neg (by omega)]
  · cases store <;> simp [hlo]
  · simp only [Bool.or_eq_true, Bool.and_eq_true, decide_eq_true_eq]
    omega

/-- The palette region takes neither a load nor a store. -/
theorem access_palette {s : State} {x : Engine} {ea : Nat} (hlo : 0xC800 ≤ ea) (hhi : ea < 0xD000) (store : Bool) :
    s.access x store ea = .bad := by
  rw [State.access, if_neg, if_neg (by omega), if_neg]
  · simp only [Bool.and_eq_true, decide_eq_true_eq]
    omega
  · simp only [Bool.or_eq_true, Bool.and_eq_true, decide_eq_true_eq]
    omega

/-! Loads. -/

/-- Correcting a single-bit error changes the list of such errors and their count. -/
theorem Engine.fixCe_eq (x : Engine) (wd : Nat) :
    x.fixCe wd = { x with dCe := if x.dCe.contains wd then x.dCe.filter (· != wd) else x.dCe,
                          ce := if x.dCe.contains wd then satInc 127 x.ce else x.ce } := by
  by_cases h : x.dCe.contains wd = true <;> simp only [Engine.fixCe, h] <;> rfl

/-- Writing a register changes the registers. -/
theorem Engine.setReg_eq (x : Engine) (d : BitVec 5) (v : W64) :
    x.setReg d v = { x with w := if d == 0 then x.w else Tbl.set 0 x.w d.toNat v } := by
  by_cases h : (d == 0) = true <;> simp only [Engine.setReg, h] <;> rfl

/-- An instruction that was not blocked completes after `cyc` cycles. -/
theorem Engine.done_unblocked {x : Engine} (hb : x.blk = none) (now : Time) (cyc : Nat) (cb : Bool) (f : Engine → Engine) :
    x.done now cyc cb f =
      let y := f { x with pc := x.pc + 1, blk := none }
      { y with cyc := if y.cycOn then y.cyc + cyc else y.cyc } := by
  simp [Engine.done, hb]

theorem Engine.after_fixCe (x : Engine) (wd cyc : Nat) : (x.after cyc).fixCe wd = (x.fixCe wd).after cyc := by
  simp only [Engine.fixCe_eq, Engine.after]

/-- The effect of a load on its engine. -/
theorem fixCe_setReg_done {x : Engine} (hb : x.blk = none) (now : Time) (cyc : Nat) (d : BitVec 5) (v : W64) (wd : Nat) :
    ((x.after cyc).fixCe wd).setReg d v = x.done now cyc true fun y => (y.fixCe wd).setReg d v := by
  simp only [Engine.done_unblocked hb, Engine.fixCe_eq, Engine.setReg_eq, Engine.after]

/-- A load from memory. -/
theorem load_ok {s : State} {e : Nat} (h : EngineReady s e) (hb : (s.eng e).blk = none) {c : Instr} {t : Time} {d a : BitVec 5} {imm : BitVec 16}
    {n : Nat} {ext : W64 → W64} (hc : exec c s = teLoad t e d a imm n ext s) (hal : (s.eng e).ea a imm % n = 0)
    (hacc : s.access (s.eng e) false ((s.eng e).ea a imm) = .ok) (hue : (s.eng e).dUe.contains ((s.eng e).ea a imm / 8) = false) :
    ∃ s', exec c s = .next s' ∧ EngineWent s s' t e ((((s.eng e).fixCe ((s.eng e).ea a imm / 8)).after 2).setReg d
      (ext (BitVec.ofNat 64 (s.dRead (s.eng e) ((s.eng e).ea a imm) n)))) := by
  have hacc' : (s.at t).access (s.eng e) false ((s.eng e).ea a imm) = .ok := hacc
  refine ⟨(s.at t).doneEng e 2 fun y => (y.fixCe ((s.eng e).ea a imm / 8)).setReg d
      (ext (BitVec.ofNat 64 (s.dRead (s.eng e) ((s.eng e).ea a imm) n))), ?_, ?_⟩
  · rw [hc, teLoad, teOp_ready h]
    simp only [hal, hacc', hue]
    rfl
  · rw [← Engine.after_fixCe]
    exact doneEng_went t 2 _ (fixCe_setReg_done hb _ _ _ _ _)

/-- A load of a value the spec leaves open. -/
theorem load_free {s : State} {e : Nat} (h : EngineReady s e) (hb : (s.eng e).blk = none) {c : Instr} {t : Time} {d a : BitVec 5} {imm : BitVec 16}
    {n : Nat} {ext : W64 → W64} (hc : exec c s = teLoad t e d a imm n ext s) (hal : (s.eng e).ea a imm % n = 0)
    (hacc : s.access (s.eng e) false ((s.eng e).ea a imm) = .free) (hue : (s.eng e).dUe.contains ((s.eng e).ea a imm / 8) = false) :
    ∃ s' v, exec c s = .next s' ∧ EngineWent { s with free := s.free + 1 } s' t e
      ((((s.eng e).fixCe ((s.eng e).ea a imm / 8)).after 2).setReg d v) := by
  have hacc' : (s.at t).access (s.eng e) false ((s.eng e).ea a imm) = .free := hacc
  let v := ext (Config.freeValue s.free &&& BitVec.ofNat 64 (2 ^ (8 * n) - 1))
  refine ⟨(s.at t).useFree.doneEng e 2 fun y => (y.fixCe ((s.eng e).ea a imm / 8)).setReg d v, v, ?_, ?_⟩
  · rw [hc, teLoad, teOp_ready h]
    simp only [hal, hacc', hue]
    rfl
  · rw [← Engine.after_fixCe]
    exact doneEng_went (s := { s with free := s.free + 1 }) t 2 _ (fixCe_setReg_done hb _ _ _ _ _)

/-! The palette pair load. -/

/-- Logging an event changes the log, and the host's message state through vector 26. -/
theorem State.logEvent_frame (s : State) (unit code d1 d2 d3 : Nat) :
    ∃ f h o, s.logEvent unit code d1 d2 d3 = { s with flt := f, host := h, out := o } := by
  unfold State.logEvent
  dsimp only
  split
  · exact ⟨_, _, _, rfl⟩
  · split
    · exact ⟨_, _, _, rfl⟩
    · have raised : ∀ g, ∃ f h o, (s.modFlt g).raise 26 = { s with flt := f, host := h, out := o } := fun g =>
        let ⟨h, o, heq, _⟩ := State.raise_frame (s.modFlt g) (v := 26) (by decide)
        ⟨_, h, o, heq⟩
      exact raised _

/-- Asking for the rewrite of a tile's region puts the tile on the list of rewrites, and logs. -/
theorem State.askRewrite_frame (s : State) (tile : Nat) :
    ∃ c f h o, s.askRewrite tile = { s with cal := c, flt := f, host := h, out := o } ∧ tile ∈ c.rewrite := by
  unfold State.askRewrite
  split
  · next hmem => exact ⟨_, _, _, _, rfl, by simpa using hmem⟩
  · obtain ⟨f, h, o, heq⟩ := (s.modCal fun c => { c with rewrite := c.rewrite ++ [tile] }).logEvent_frame 0x05 1 tile 0 0
    exact ⟨_, f, h, o, heq, by simp⟩

/-- What PLD leaves in its engine on a mismatch: two defective markers, and the lines held marked. -/
def Engine.pldBad (y : Engine) (d : BitVec 5) : Engine :=
  { y.setReg d 0x0000800000008000 with slots := y.slots.map fun q => { q with pal := q.pal || q.held } }

/-- The pair at `ea` is not good: an uncorrectable error, or a word that is not the complement of its copy. -/
def State.pldFails (s : State) (x : Engine) (ea : Nat) : Bool :=
  x.dUe.contains (ea / 8) || x.dUe.contains ((ea + 0x400) / 8) ||
    s.palWord x ((ea - 0xC800) / 4 + 257) != ~~~(s.palWord x ((ea - 0xC800) / 4 + 1)) ||
    s.palWord x ((ea - 0xC800) / 4 + 256) != ~~~(s.palWord x ((ea - 0xC800) / 4))

theorem State.pldFails_iff (s : State) (x : Engine) (ea : Nat) :
    s.pldFails x ea = true ↔
      (x.dUe.contains (ea / 8) || x.dUe.contains ((ea + 0x400) / 8)) = true ∨
        ¬(s.palWord x ((ea - 0xC800) / 4 + 257) = ~~~(s.palWord x ((ea - 0xC800) / 4 + 1)) ∧
          s.palWord x ((ea - 0xC800) / 4 + 256) = ~~~(s.palWord x ((ea - 0xC800) / 4))) := by
  simp only [State.pldFails, Bool.or_eq_true, bne_iff_ne, ne_eq, or_assoc, Decidable.not_and_iff_not_or_not]

/-- PLD at an address of the palette region: the pair, or the markers and the request for a rewrite. -/
theorem exec_tePld {s : State} {e : Nat} (h : EngineReady s e) (t : Time) (d a : BitVec 5) (imm : BitVec 16)
    (hal : (s.eng e).ea a imm % 8 = 0) (hlo : 0xC800 ≤ (s.eng e).ea a imm) (hhi : (s.eng e).ea a imm < 0xCC00) :
    let x := s.eng e
    let ea := x.ea a imm
    let k := (ea - 0xC800) / 4
    exec (.tePld t e d a imm) s = .next
      (if s.pldFails x ea then ((s.at t).doneEng e 2 fun y => y.pldBad d).askRewrite x.tile
      else (s.at t).doneEng e 2 fun y => ((y.fixCe (ea / 8)).fixCe ((ea + 0x400) / 8)).setReg d (s.palWord x (k + 1) ++ s.palWord x k)) := by
  intro x ea k
  have hexec : exec (.tePld t e d a imm) s = execTePld t e d a imm s := rfl
  have hin : (!(decide (0xC800 ≤ ea) && decide (ea < 0xCC00))) = false := by simp [ea, x, hlo, hhi]
  rw [hexec, execTePld, teOp_ready h]
  simp only [hal, bne_self_eq_false, Bool.false_eq_true, if_false]
  rw [if_neg (by simpa using hin)]
  rfl

/-- Settles O29: a load is one access of R194, PLD one comparison of a pair with its complements. -/
theorem loadInstructions : Obligations.LoadInstructions := by
  unfold Obligations.LoadInstructions
  refine ⟨fun s t e d a imm h hb => ?_, fun s t e d a imm h hb => ?_⟩
  · intro x ea q slot lost mem loads hue
    have rule : ∀ {c : Instr} {n : Nat} {ext : W64 → W64}, exec c s = teLoad t e d a imm n ext s → loads c n (ext (mem n)) := by
      intro c n ext hc hal
      refine ⟨fun hok => load_ok h hb hc hal ?_ hue, fun hfree => load_free h hb hc hal ?_ hue⟩
      · rcases hok with hp | hp | hp | ⟨⟨hlo, hhi, hheld⟩, hnl⟩
        · exact access_plain (.inl hp) _
        · exact access_plain (.inr (.inl hp)) _
        · exact access_plain (.inr (.inr hp)) _
        · exact access_slot_held hlo hhi hheld hnl _
      · rcases hfree with ⟨⟨hlo, hhi, hheld⟩, hl⟩ | ⟨hlo, hhi⟩
        · exact access_slot_lost hlo hhi hheld hl _
        · exact access_workspace hlo hhi _
    exact ⟨rule (ext := id) rfl, rule (ext := id) rfl, rule (ext := fun v => (v.setWidth 32).signExtend 64) rfl, rule (ext := id) rfl,
      rule (ext := fun v => (v.setWidth 16).signExtend 64) rfl, rule (ext := id) rfl, rule (ext := fun v => (v.setWidth 8).signExtend 64) rfl⟩
  · intro x ea k ue pair hal hlo hhi
    have hpld := exec_tePld h t d a imm hal hlo hhi
    have hfails := s.pldFails_iff x ea
    refine ⟨fun ⟨hue, hpair⟩ => ⟨_, hpld.trans (congrArg _ (if_neg fun hf => ?_)), ?_⟩, fun hbad => ?_⟩
    · rcases hfails.1 hf with hue' | hne
      · exact absurd (hue.symm.trans hue') (by decide)
      · exact hne hpair
    · have hdone : ∀ v, ((((x.after 2).fixCe (ea / 8)).fixCe ((ea + 0x400) / 8)).setReg d v) =
          x.done (s.at t).now 2 true fun y => ((y.fixCe (ea / 8)).fixCe ((ea + 0x400) / 8)).setReg d v := fun v => by
        have hx : x.blk = none := hb
        simp only [Engine.done_unblocked hx, Engine.fixCe_eq, Engine.setReg_eq, Engine.after]
      rw [← Engine.after_fixCe, ← Engine.after_fixCe]
      exact doneEng_went t 2 _ (hdone _)
    · have hx : x.blk = none := hb
      have hdone : (x.after 2).pldBad d = x.done (s.at t).now 2 true fun y => y.pldBad d := by
        simp only [Engine.done_unblocked hx, Engine.pldBad, Engine.setReg_eq, Engine.after]
      obtain ⟨hrest, hothers, hthis⟩ := doneEng_went (f := fun y => y.pldBad d) t 2 hdone
      obtain ⟨c, f, ho, o, heq, hmem⟩ := ((s.at t).doneEng e 2 fun y => y.pldBad d).askRewrite_frame x.tile
      have hregs := congrArg State.regs hrest
      have hfab := congrArg State.fab hrest
      refine ⟨_, hpld.trans (congrArg _ (if_pos (hfails.2 hbad))), ?_⟩
      rw [heq]
      exact ⟨hthis, hmem, hothers, hregs, hfab⟩

end Machine
end Sys2Proof

/-! Stores, and the checks of loads and stores (06_tile_engine_isa R194 to R197, R209). -/

namespace Sys2Proof
namespace Machine

/-- Writing bytes changes data memory only. -/
theorem State.dWrite_eq (s : State) (bs : List Byte) (x : Engine) (a : Nat) : s.dWrite x a bs = { x with dmem := (s.dWrite x a bs).dmem } := by
  induction bs generalizing x a with
  | nil => rfl
  | cons b r ih => rw [State.dWrite, ih]

/-- A byte after a write of bytes: the byte written, or the byte that was there. -/
theorem State.dByte_dWrite (s : State) (bs : List Byte) (x : Engine) (a i : Nat) :
    s.dByte (s.dWrite x a bs) i = if h : a ≤ i ∧ i - a < bs.length then bs[i - a]'h.2 else s.dByte x i := by
  induction bs generalizing x a with
  | nil => simp [State.dWrite]
  | cons b r ih =>
    rw [State.dWrite, ih]
    rcases Nat.lt_trichotomy i a with hlt | rfl | hgt
    · rw [dif_neg (by omega), dif_neg (by omega)]
      exact Tbl.get_set_ne _ _ _ _ _ _ (by omega)
    · rw [dif_neg (by omega), dif_pos (by simp)]
      simp only [Nat.sub_self, List.getElem_cons_zero]
      exact Tbl.get_set_same _ _ _ _
    · have hk : i - a = (i - (a + 1)) + 1 := by omega
      by_cases hin : i - a < (b :: r).length
      · rw [dif_pos ⟨by omega, by rw [List.length_cons] at hin; omega⟩, dif_pos ⟨by omega, hin⟩]
        simp only [hk, List.getElem_cons_succ]
      · rw [dif_neg (by rw [List.length_cons] at hin; omega), dif_neg (fun h => hin h.2)]
        exact Tbl.get_set_ne _ _ _ _ _ _ (by omega)

/-- A byte after a store of the low `n` bytes of `v`. -/
theorem State.dByte_dWrite_bytesLE (s : State) (x : Engine) (a n i : Nat) (v : W64) :
    s.dByte (s.dWrite x a (bytesLE n v)) i = if a ≤ i ∧ i < a + n then v.extractLsb' (8 * (i - a)) 8 else s.dByte x i := by
  rw [State.dByte_dWrite]
  simp only [bytesLE, List.length_map, List.length_range, List.getElem_map, List.getElem_range]
  by_cases h : a ≤ i ∧ i < a + n
  · rw [if_pos h, dif_pos (by omega)]
  · rw [if_neg h, dif_neg (by omega)]

/-- The memory a write of bytes leaves depends on the memory and the parameter block only. -/
theorem State.dWrite_dmem_congr (s : State) (bs : List Byte) {y z : Engine} (a : Nat) (hm : y.dmem = z.dmem) (ho : y.own = z.own) :
    (s.dWrite y a bs).dmem = (s.dWrite z a bs).dmem := by
  induction bs generalizing y z a with
  | nil => exact hm
  | cons b r ih => exact ih _ (by simp only [hm, State.dmemDef, ho]) ho

/-- The effect of a store on its engine. -/
theorem fixCe_dWrite_done {x : Engine} (hb : x.blk = none) (s : State) (now : Time) (cyc wd a : Nat) (bs : List Byte) :
    s.dWrite ((x.after cyc).fixCe wd) a bs = x.done now cyc true fun y => s.dWrite (y.fixCe wd) a bs := by
  have hmem := s.dWrite_dmem_congr bs (y := (x.after cyc).fixCe wd) (z := Engine.fixCe { x with pc := x.pc + 1, blk := none } wd) a
    (by simp only [Engine.fixCe_eq, Engine.after]) (by simp only [Engine.fixCe_eq, Engine.after])
  simp only [Engine.done_unblocked hb]
  rw [s.dWrite_eq bs ((x.after cyc).fixCe wd), hmem, s.dWrite_eq bs (Engine.fixCe { x with pc := x.pc + 1, blk := none } wd)]
  generalize (s.dWrite (Engine.fixCe { x with pc := x.pc + 1, blk := none } wd) a bs).dmem = m
  simp only [Engine.fixCe_eq, Engine.after]

/-- A store to memory. -/
theorem store_ok {s : State} {e : Nat} (h : EngineReady s e) (hb : (s.eng e).blk = none) {c : Instr} {t : Time} {d a : BitVec 5} {imm : BitVec 16}
    {n cyc : Nat} (hc : exec c s = teStore t e d a imm n cyc s) (hal : (s.eng e).ea a imm % n = 0)
    (hacc : s.access (s.eng e) true ((s.eng e).ea a imm) = .ok) (hue : (s.eng e).dUe.contains ((s.eng e).ea a imm / 8) = false) :
    let x := s.eng e
    let ea := x.ea a imm
    ∃ s' y, exec c s = .next s' ∧ EngineWent s s' t e y ∧ y = { (x.fixCe (ea / 8)).after cyc with dmem := y.dmem } ∧
      ∀ b, s.dByte y b = if ea ≤ b ∧ b < ea + n then (x.reg d).extractLsb' (8 * (b - ea)) 8 else s.dByte x b := by
  have hacc' : (s.at t).access (s.eng e) true ((s.eng e).ea a imm) = .ok := hacc
  intro x ea
  refine ⟨(s.at t).doneEng e cyc fun y => s.dWrite (y.fixCe (ea / 8)) ea (bytesLE n (x.reg d)), _, ?_,
    doneEng_went (f := fun y => s.dWrite (y.fixCe (ea / 8)) ea (bytesLE n (x.reg d))) t cyc (fixCe_dWrite_done hb _ _ _ _ _ _), ?_, fun b => ?_⟩
  · have hwr : ∀ y a bs, (s.at t).dWrite y a bs = s.dWrite y a bs := fun y a bs => by
      induction bs generalizing y a with
      | nil => rfl
      | cons b r ih => exact ih _ _
    rw [hc, teStore, teOp_ready h]
    simp only [hal, hacc', hue, hwr]
    rfl
  · rw [← Engine.after_fixCe]
    exact s.dWrite_eq _ _ _
  · rw [s.dByte_dWrite_bytesLE, Engine.after_fixCe, Engine.fixCe_eq]
    rfl

/-- A store that is lost. -/
theorem store_lost {s : State} {e : Nat} (h : EngineReady s e) (hb : (s.eng e).blk = none) {c : Instr} {t : Time} {d a : BitVec 5}
    {imm : BitVec 16} {n cyc : Nat} (hc : exec c s = teStore t e d a imm n cyc s) (hal : (s.eng e).ea a imm % n = 0)
    (hacc : s.access (s.eng e) true ((s.eng e).ea a imm) = .drop) : ∃ s', exec c s = .next s' ∧ EngineWent s s' t e ((s.eng e).after cyc) := by
  have hacc' : (s.at t).access (s.eng e) true ((s.eng e).ea a imm) = .drop := hacc
  refine ⟨(s.at t).doneEng e cyc id, ?_, doneEng_went (f := id) t cyc ?_⟩
  · rw [hc, teStore, teOp_ready h]
    simp only [hal, hacc']
    rfl
  · simp only [Engine.done_unblocked hb, Engine.after, id]

/-- Settles O30: a store is one access of R194 that writes its bytes, or none. -/
theorem stores : Obligations.Stores := by
  unfold Obligations.Stores
  intro s t e d a imm h hb x ea q plain slot lost stores
  have rule : ∀ {c : Instr} {n cyc : Nat}, exec c s = teStore t e d a imm n cyc s → stores c n cyc := by
    intro c n cyc hc hal
    refine ⟨fun hok hue => store_ok h hb hc hal ?_ hue, fun ⟨⟨hlo, hhi, hheld⟩, hl⟩ => store_lost h hb hc hal ?_⟩
    · rcases hok with hp | ⟨⟨hlo, hhi, hheld⟩, hnl⟩
      · exact access_plain hp _
      · exact access_slot_held hlo hhi hheld hnl _
    · exact access_slot_lost hlo hhi hheld hl _
  exact ⟨rule rfl, rule rfl, rule rfl, rule rfl⟩

/-! The checks. -/

theorem load_misaligned {s : State} {e : Nat} (h : EngineReady s e) {c : Instr} {t : Time} {d a : BitVec 5} {imm : BitVec 16} {n : Nat}
    {ext : W64 → W64} (hc : exec c s = teLoad t e d a imm n ext s) (hal : (s.eng e).ea a imm % n ≠ 0) :
    exec c s = .next ((s.at t).raiseExc e 3 0 ((s.eng e).ea a imm)) := by
  rw [hc, teLoad, teOp_ready h]
  simp only [bne_iff_ne.2 hal, if_true]

theorem store_misaligned {s : State} {e : Nat} (h : EngineReady s e) {c : Instr} {t : Time} {d a : BitVec 5} {imm : BitVec 16} {n cyc : Nat}
    (hc : exec c s = teStore t e d a imm n cyc s) (hal : (s.eng e).ea a imm % n ≠ 0) :
    exec c s = .next ((s.at t).raiseExc e 3 0 ((s.eng e).ea a imm)) := by
  rw [hc, teStore, teOp_ready h]
  simp only [bne_iff_ne.2 hal, if_true]

theorem load_refused {s : State} {e : Nat} (h : EngineReady s e) {c : Instr} {t : Time} {d a : BitVec 5} {imm : BitVec 16} {n : Nat}
    {ext : W64 → W64} (hc : exec c s = teLoad t e d a imm n ext s) (hal : (s.eng e).ea a imm % n = 0)
    (hacc : s.access (s.eng e) false ((s.eng e).ea a imm) = .bad) :
    exec c s = .next ((s.at t).raiseExc e 4 0 ((s.eng e).ea a imm)) := by
  have hacc' : (s.at t).access (s.eng e) false ((s.eng e).ea a imm) = .bad := hacc
  rw [hc, teLoad, teOp_ready h]
  simp only [hal, hacc', bne_self_eq_false, Bool.false_eq_true, if_false]

theorem store_refused {s : State} {e : Nat} (h : EngineReady s e) {c : Instr} {t : Time} {d a : BitVec 5} {imm : BitVec 16} {n cyc : Nat}
    (hc : exec c s = teStore t e d a imm n cyc s) (hal : (s.eng e).ea a imm % n = 0)
    (hacc : s.access (s.eng e) true ((s.eng e).ea a imm) = .bad) :
    exec c s = .next ((s.at t).raiseExc e 4 0 ((s.eng e).ea a imm)) := by
  have hacc' : (s.at t).access (s.eng e) true ((s.eng e).ea a imm) = .bad := hacc
  rw [hc, teStore, teOp_ready h]
  simp only [hal, hacc', bne_self_eq_false, Bool.false_eq_true, if_false]

theorem load_uncorrectable {s : State} {e : Nat} (h : EngineReady s e) {c : Instr} {t : Time} {d a : BitVec 5} {imm : BitVec 16} {n : Nat}
    {ext : W64 → W64} (hc : exec c s = teLoad t e d a imm n ext s) (hal : (s.eng e).ea a imm % n = 0)
    (hacc : s.access (s.eng e) false ((s.eng e).ea a imm) = .ok ∨ s.access (s.eng e) false ((s.eng e).ea a imm) = .free)
    (hue : (s.eng e).dUe.contains ((s.eng e).ea a imm / 8) = true) :
    exec c s = .next ((s.at t).raiseExc e 9 0 ((s.eng e).ea a imm)) := by
  have hacc' : (s.at t).access (s.eng e) false ((s.eng e).ea a imm) = .ok ∨ (s.at t).access (s.eng e) false ((s.eng e).ea a imm) = .free := hacc
  rw [hc, teLoad, teOp_ready h]
  rcases hacc' with hok | hfree
  · simp only [hal, hok, hue, bne_self_eq_false, Bool.false_eq_true, if_false, if_true]
  · simp only [hal, hfree, hue, bne_self_eq_false, Bool.false_eq_true, if_false, if_true]

theorem store_uncorrectable {s : State} {e : Nat} (h : EngineReady s e) {c : Instr} {t : Time} {d a : BitVec 5} {imm : BitVec 16} {n cyc : Nat}
    (hc : exec c s = teStore t e d a imm n cyc s) (hal : (s.eng e).ea a imm % n = 0)
    (hacc : s.access (s.eng e) true ((s.eng e).ea a imm) = .ok) (hue : (s.eng e).dUe.contains ((s.eng e).ea a imm / 8) = true) :
    exec c s = .next ((s.at t).raiseExc e 9 0 ((s.eng e).ea a imm)) := by
  have hacc' : (s.at t).access (s.eng e) true ((s.eng e).ea a imm) = .ok := hacc
  rw [hc, teStore, teOp_ready h]
  simp only [hal, hacc', hue, bne_self_eq_false, Bool.false_eq_true, if_false, if_true]

/-- PLD at an address that is not aligned, or outside the palette region. -/
theorem pld_misaligned {s : State} {e : Nat} (h : EngineReady s e) (t : Time) (d a : BitVec 5) (imm : BitVec 16)
    (hal : (s.eng e).ea a imm % 8 ≠ 0) : exec (.tePld t e d a imm) s = .next ((s.at t).raiseExc e 3 0 ((s.eng e).ea a imm)) := by
  have hexec : exec (.tePld t e d a imm) s = execTePld t e d a imm s := rfl
  rw [hexec, execTePld, teOp_ready h]
  simp only [bne_iff_ne.2 hal, if_true]

theorem pld_refused {s : State} {e : Nat} (h : EngineReady s e) (t : Time) (d a : BitVec 5) (imm : BitVec 16)
    (hal : (s.eng e).ea a imm % 8 = 0) (hout : ¬(0xC800 ≤ (s.eng e).ea a imm ∧ (s.eng e).ea a imm < 0xCC00)) :
    exec (.tePld t e d a imm) s = .next ((s.at t).raiseExc e 4 0 ((s.eng e).ea a imm)) := by
  have hexec : exec (.tePld t e d a imm) s = execTePld t e d a imm s := rfl
  have hin : (decide (0xC800 ≤ (s.eng e).ea a imm) && decide ((s.eng e).ea a imm < 0xCC00)) = false := by
    rw [← Bool.not_eq_true, Bool.and_eq_true, decide_eq_true_eq, decide_eq_true_eq]
    exact hout
  rw [hexec, execTePld, teOp_ready h]
  simp only [hal, hin]
  rfl

/-- Settles O31: each check of a load, a store and PLD raises its exception with the effective address. -/
theorem accessChecks : Obligations.AccessChecks := by
  unfold Obligations.AccessChecks
  intro s t e d a imm h x ea q raises
  have one : ea % 1 = 0 := Nat.mod_one _
  refine ⟨?_, ?_, fun ⟨hlo, hhi⟩ => store_refused h (n := 1) (cyc := 2) rfl one (access_workspace hlo hhi _), fun ⟨hal, hout⟩ =>
    pld_refused h t d a imm hal hout, fun ⟨hlo, hue⟩ => ?_, fun ⟨hlo, hhi, hue⟩ => ?_⟩
  · have load : ∀ {c : Instr} {n : Nat} {ext : W64 → W64}, exec c s = teLoad t e d a imm n ext s → ea % n ≠ 0 → raises c 3 := fun hc =>
      load_misaligned h hc
    have store : ∀ {c : Instr} {n cyc : Nat}, exec c s = teStore t e d a imm n cyc s → ea % n ≠ 0 → raises c 3 := fun hc =>
      store_misaligned h hc
    simp only [List.forall_mem_cons]
    exact ⟨load (ext := id) rfl, load (ext := id) rfl, load (ext := fun v => (v.setWidth 32).signExtend 64) rfl, load (ext := id) rfl,
      load (ext := fun v => (v.setWidth 16).signExtend 64) rfl, store rfl, store rfl, store rfl, pld_misaligned h t d a imm, List.forall_mem_nil _⟩
  · have bad : (0xC000 ≤ ea ∧ ea < 0xC800 ∧ q.held = false) ∨ (0xC800 ≤ ea ∧ ea < 0xD000) → ∀ store, s.access x store ea = .bad := by
      rintro (⟨hlo, hhi, hfree⟩ | ⟨hlo, hhi⟩) store
      · exact access_slot_free hlo hhi hfree store
      · exact access_palette hlo hhi store
    simp only [List.forall_mem_cons]
    exact ⟨fun hb => load_refused h (ext := id) rfl one (bad hb _),
      fun hb => load_refused h (ext := fun v => (v.setWidth 8).signExtend 64) rfl one (bad hb _),
      fun hb => store_refused (cyc := 2) h rfl one (bad hb _),
      List.forall_mem_nil _⟩
  · have hok : ∀ store, s.access x store ea = .ok := access_plain (.inl hlo)
    exact ⟨load_uncorrectable h (ext := id) rfl one (.inl (hok _)) hue,
      load_uncorrectable h (ext := fun v => (v.setWidth 8).signExtend 64) rfl one (.inl (hok _)) hue, store_uncorrectable h rfl one (hok _) hue⟩
  · have hfree : s.access x false ea = .free := access_workspace hlo hhi false
    exact ⟨load_uncorrectable h (ext := id) rfl one (.inr hfree) hue,
      load_uncorrectable h (ext := fun v => (v.setWidth 8).signExtend 64) rfl one (.inr hfree) hue⟩

end Machine
end Sys2Proof

/-! Branches, loops, calls, and the system instructions of the engines (06_tile_engine_isa R190, R204, R210, R211, R234). -/

namespace Sys2Proof
namespace Machine

/-- An instruction that completes: `y` is what its effect makes of the engine. -/
theorem goes_of_done {s : State} {e : Nat} {c : Instr} {t : Time} {cyc : Nat} {f : Engine → Engine} {y : Engine}
    (hc : exec c s = .next ((s.at t).doneEng e cyc f)) (hy : y = (s.eng e).done (s.at t).now cyc true f) :
    ∃ s', exec c s = .next s' ∧ EngineWent s s' t e y :=
  ⟨_, hc, hy ▸ modEng_went s t e fun x => x.done (s.at t).now cyc true f⟩

/-! Branches. -/

theorem target_some {pc : Nat} {imm : BitVec 16} (hlo : 0 ≤ (pc : Int) + 1 + imm.toInt) (hhi : (pc : Int) + 1 + imm.toInt ≤ 0xEFF) :
    target pc imm = some ((pc : Int) + 1 + imm.toInt).toNat := by
  simp [target, hlo, hhi]

theorem target_none {pc : Nat} {imm : BitVec 16} (h : (pc : Int) + 1 + imm.toInt < 0 ∨ 0xEFF < (pc : Int) + 1 + imm.toInt) :
    target pc imm = none := by
  unfold target
  rw [if_neg]
  simp only [Bool.and_eq_true, decide_eq_true_eq]
  omega

section Branch

variable {s : State} {e : Nat} (h : EngineReady s e) {c : Instr} {t : Time} {imm : BitVec 16} {ok : Bool} {take : Engine → Bool} {cyc cycNot : Nat}
  {f : Engine → Engine} (hc : exec c s = teBranch t e imm ok take cyc cycNot f s)
include h hc

theorem branch_taken {n : Nat} (hok : ok = true) (htake : take (s.eng e) = true) (hT : target (s.eng e).pc imm = some n) :
    exec c s = .next ((s.at t).doneEng e cyc fun y => { f y with pc := n }) := by
  rw [hc, teBranch, teOp_ready h]
  simp [hok, htake, hT]

theorem branch_not_taken (hok : ok = true) (htake : take (s.eng e) = false) : exec c s = .next ((s.at t).doneEng e cycNot f) := by
  rw [hc, teBranch, teOp_ready h]
  simp [hok, htake]

theorem branch_fetch (htake : take (s.eng e) = true) (hT : target (s.eng e).pc imm = none) :
    exec c s = .next ((s.at t).raiseExc e 2 0 0) := by
  rw [hc, teBranch, teOp_ready h]
  simp [htake, hT]

end Branch

/-- What LOOP does to its counter (06_tile_engine_isa R210). -/
def Engine.countLoop (i : Bool) (y : Engine) : Engine := if y.lc i == 0 then y else y.setLc i (y.lc i - 1)

/-- A loop counter counted down, not below 0. -/
def downTo0 (n : BitVec 17) : BitVec 17 := if n = 0 then n else n - 1

theorem downTo0_of_zero {n : BitVec 17} (h : n = 0) : downTo0 n = n := if_pos h
theorem downTo0_of_ne_zero {n : BitVec 17} (h : n ≠ 0) : downTo0 n = n - 1 := if_neg h

theorem Engine.countLoop_eq (i : Bool) (y : Engine) :
    y.countLoop i = { y with lc0 := if i then y.lc0 else downTo0 y.lc0, lc1 := if i then downTo0 y.lc1 else y.lc1 } := by
  cases i
  · by_cases h : y.lc0 = 0
    · exact (if_pos (beq_iff_eq.2 h)).trans (by rw [downTo0_of_zero h]; rfl)
    · exact (if_neg (mt beq_iff_eq.1 h)).trans (by rw [downTo0_of_ne_zero h]; rfl)
  · by_cases h : y.lc1 = 0
    · exact (if_pos (beq_iff_eq.2 h)).trans (by rw [downTo0_of_zero h]; rfl)
    · exact (if_neg (mt beq_iff_eq.1 h)).trans (by rw [downTo0_of_ne_zero h]; rfl)

/-- What LOOP leaves in its engine after its one cycle: the counter counted down, the rest as `after` leaves it. -/
theorem countLoop_after (x : Engine) (i : Bool) :
    (x.after 1).countLoop i =
      if (if i then x.lc1 else x.lc0) = 0 then x.after 1
      else if i then { x.after 1 with lc1 := (if i then x.lc1 else x.lc0) - 1 } else { x.after 1 with lc0 := (if i then x.lc1 else x.lc0) - 1 } := by
  rw [Engine.countLoop_eq]
  cases i
  · by_cases h : x.lc0 = 0
    · exact Eq.trans (by rw [show (x.after 1).lc0 = x.lc0 from rfl, downTo0_of_zero h]; rfl) (if_pos h).symm
    · exact Eq.trans (by rw [show (x.after 1).lc0 = x.lc0 from rfl, downTo0_of_ne_zero h]; rfl) (if_neg h).symm
  · by_cases h : x.lc1 = 0
    · exact Eq.trans (by rw [show (x.after 1).lc1 = x.lc1 from rfl, downTo0_of_zero h]; rfl) (if_pos h).symm
    · exact Eq.trans (by rw [show (x.after 1).lc1 = x.lc1 from rfl, downTo0_of_ne_zero h]; rfl) (if_neg h).symm

theorem countLoop_done {x : Engine} (hb : x.blk = none) (now : Time) (i : Bool) :
    (x.after 1).countLoop i = x.done now 1 true (·.countLoop i) := by
  simp only [Engine.done_unblocked hb, Engine.countLoop_eq, Engine.after]

/-- A jump after an effect that the count of cycles does not meet. -/
theorem jump_done {x y : Engine} {now : Time} {cyc n : Nat} {f : Engine → Engine} (hy : y = x.done now cyc true f) :
    { y with pc := n } = x.done now cyc true fun y => { f y with pc := n } := by
  rw [hy]
  rfl

/-- Settles O32: a branch is taken, not taken, or raises FETCH, by its condition and its target. -/
theorem branches : Obligations.Branches := by
  unfold Obligations.Branches
  intro s t e d imm h hb x T goes jump f lc dec
  have hx : x.blk = none := hb
  have hid : ∀ cyc, x.after cyc = x.done (s.at t).now cyc true id := fun cyc => (Engine.done_id hb _ cyc).symm
  have hcall : (x.after 2).setReg d (BitVec.ofNat 64 (x.pc + 1)) =
      x.done (s.at t).now 2 true fun y => y.setReg d (BitVec.ofNat 64 y.pc) := by
    simp only [Engine.done_unblocked hx, Engine.setReg_eq, Engine.after]
  have hdec : dec (x.after 1) = x.done (s.at t).now 1 true (·.countLoop (bit d 0)) :=
    (countLoop_after x (bit d 0)).symm.trans (countLoop_done hx _ _)
  have hBr : exec (.teBr t e 0 0 imm) s = teBranch t e imm true (fun _ => true) 2 2 id s := rfl
  have hCall : exec (.teCall t e d 0 imm) s = teBranch t e imm true (fun _ => true) 2 2 (fun y => y.setReg d (BitVec.ofNat 64 y.pc)) s := rfl
  have hBf : exec (.teBf t e d 0 imm) s =
    teBranch t e imm (fld d 4 2 == 0 && (0 : BitVec 5) == 0) (fun x => x.flag (d.setWidth 2)) 2 1 id s := rfl
  have hBnf : exec (.teBnf t e d 0 imm) s =
    teBranch t e imm (fld d 4 2 == 0 && (0 : BitVec 5) == 0) (fun x => !x.flag (d.setWidth 2)) 2 1 id s := rfl
  have hLoop : exec (.teLoop t e d 0 imm) s = teBranch t e imm (fld d 4 1 == 0 && (0 : BitVec 5) == 0)
    (fun x => decide (1 < (x.lc (bit d 0)).toNat)) 1 1 (·.countLoop (bit d 0)) s := rfl
  have hok : ∀ {p : Nat}, p = 0 → (p == 0 && (0 : BitVec 5) == 0) = true := fun hp => by rw [hp]; rfl
  refine ⟨fun ⟨hlo, hhi⟩ => ?_, fun hout => ?_, fun hd => ?_⟩
  · have hT : target x.pc imm = some T.toNat := target_some hlo hhi
    refine ⟨goes_of_done (branch_taken h hBr rfl rfl hT) (jump_done (hid 2)),
      goes_of_done (branch_taken h hCall rfl rfl hT) (jump_done hcall), fun hd => ?_, fun hd => ?_⟩
    · by_cases hf : f = true
      · rw [if_pos hf, if_pos hf]
        exact ⟨goes_of_done (branch_taken h hBf (hok hd) hf hT) (jump_done (hid 2)),
          goes_of_done (branch_not_taken h hBnf (hok hd) (congrArg not hf)) (hid 1)⟩
      · rw [if_neg hf, if_neg hf]
        have hf : f = false := Bool.eq_false_iff.2 hf
        exact ⟨goes_of_done (branch_not_taken h hBf (hok hd) hf) (hid 1),
          goes_of_done (branch_taken h hBnf (hok hd) (congrArg not hf) hT) (jump_done (hid 2))⟩
    · by_cases hl : 1 < lc.toNat
      · rw [if_pos hl]
        exact goes_of_done (branch_taken h hLoop (hok hd) (decide_eq_true hl) hT) (jump_done hdec)
      · rw [if_neg hl]
        exact goes_of_done (branch_not_taken h hLoop (hok hd) (decide_eq_false hl)) hdec
  · have hT : target x.pc imm = none := target_none hout
    intro fetch
    exact ⟨branch_fetch h hBr rfl hT, branch_fetch h hCall rfl hT,
      fun hd hf => ⟨branch_fetch h hBf hf hT,
        goes_of_done (branch_not_taken h hBnf (hok hd) (congrArg not hf)) (hid 1)⟩,
      fun hd hf => ⟨goes_of_done (branch_not_taken h hBf (hok hd) hf) (hid 1),
        branch_fetch h hBnf (congrArg not hf) hT⟩,
      fun hd hl => branch_fetch h hLoop (decide_eq_true hl) hT,
      fun hd hl => goes_of_done (branch_not_taken h hLoop (hok hd) (decide_eq_false (by exact Nat.not_lt.2 hl))) hdec⟩
  · intro n
    have hexec : exec (.teLcset t e d 0 imm) s = execTeLcset t e d 0 imm s := rfl
    refine goes_of_done (cyc := 1) (f := fun y => y.setLc (bit d 0) (if imm == 0 then 65536 else imm.setWidth 17)) ?_ ?_
    · rw [hexec, execTeLcset, teOp_ready h, if_pos (hok hd)]
    · have hn : (if imm == 0 then 65536 else imm.setWidth 17) = n := by simp [n]
      rw [hn, Engine.done_unblocked hx]
      cases bit d 0 <;> rfl

end Machine
end Sys2Proof

/-! The system instructions of the engines (06_tile_engine_isa R190, R204, R211, R234). -/

namespace Sys2Proof
namespace Machine

section System

variable {s : State} {e : Nat} (h : EngineReady s e) (t : Time) (d a b : BitVec 5)
include h

theorem exec_teNop : exec (.teNop t e d a b 0 0 0) s = .next ((s.at t).doneEng e 1 id) := by
  have hexec : exec (.teNop t e d a b 0 0 0) s = execTeNop t e d a b 0 0 0 s := rfl
  rw [hexec, execTeNop, teOp_ready h, rForm_plain]

theorem exec_teHb : exec (.teHb t e d a b 0 0 0) s = .next ((s.at t).doneEng e 1 fun y => y.beat (s.at t).now) := by
  have hexec : exec (.teHb t e d a b 0 0 0) s = execTeHb t e d a b 0 0 0 s := rfl
  rw [hexec, execTeHb, teOp_ready h, rForm_plain]

/-- KB without a throttle step. -/
theorem exec_teKb_unthrottled (hk : s.th.k = 0) :
    exec (.teKb t e d a b 0 0 0) s = .next ((s.at t).modEng e fun x => x.done (s.at t).now 1 false id) := by
  have hexec : exec (.teKb t e d a b 0 0 0) s = execTeKb t e d a b 0 0 0 s := rfl
  have hk' : (s.at t).th.k = 0 := hk
  rw [hexec, execTeKb, teOp_ready h, if_neg (by decide), if_pos (by rw [hk']; rfl)]

/-- KB at a throttle step, met for the first time: its pause begins. -/
theorem exec_teKb_throttled (hb : (s.eng e).blk = none) (hk : s.th.k ≠ 0) :
    exec (.teKb t e d a b 0 0 0) s = .next ((s.at t).blockEng e 0 0) := by
  have hexec : exec (.teKb t e d a b 0 0 0) s = execTeKb t e d a b 0 0 0 s := rfl
  have hpause : (kbPause (s.at t).th.k == 0) = false := by simpa [kbPause] using hk
  rw [hexec, execTeKb, teOp_ready h, if_neg (by decide), hpause, hb]
  exact congrArg _ (if_neg Bool.false_ne_true)

theorem exec_teMfs {v : W64} (hv : (s.at t).special e (s.eng e) a.toNat = some v) :
    exec (.teMfs t e d a b 0 0 0) s = .next ((if a == 8 then (s.at t).useFree else s.at t).doneEng e 1 fun y => y.setReg d v) := by
  have hexec : exec (.teMfs t e d a b 0 0 0) s = execTeMfs t e d a b 0 0 0 s := rfl
  rw [hexec, execTeMfs, teOp_ready h, rForm_plain, hv]

end System

/-- Writing a register is an effect that the count of cycles does not meet. -/
theorem setReg_done {x : Engine} (hb : x.blk = none) (now : Time) (cyc : Nat) (d : BitVec 5) (v : W64) :
    (x.after cyc).setReg d v = x.done now cyc true fun y => y.setReg d v := by
  simp only [Engine.done_unblocked hb, Engine.setReg_eq, Engine.after]

/-- TIME reads within 4 ns of the array time. -/
theorem time_within (now : Time) (r : Nat) : (now + BitVec.ofNat 64 (r % 17) - 8 - (now - 8)).toNat ≤ 16 := by
  have hr : r % 17 < 17 := Nat.mod_lt _ (by decide)
  have heq : now + BitVec.ofNat 64 (r % 17) - 8 - (now - 8) = BitVec.ofNat 64 (r % 17) := by ring
  rw [heq, BitVec.toNat_ofNat]
  omega

/-- Settles O33: each system instruction is one effect on its engine. -/
theorem systemInstructions : Obligations.SystemInstructions := by
  unfold Obligations.SystemInstructions
  intro s t e d a b h hb x A goes now
  have hx : x.blk = none := hb
  refine ⟨goes_of_done (exec_teNop h t d a b) (Engine.done_id hb _ 1).symm, goes_of_done (exec_teHb h t d a b) ?_, fun hk => ?_, fun hk => ?_,
    fun ha => ?_, ?_, ?_, fun ha => ?_, goes_of_done (exec_teMts h t 3 a b) ?_, goes_of_done (exec_teMts h t 7 a b) ?_⟩
  · rw [Engine.done_unblocked hb]
    rfl
  · refine ⟨_, exec_teKb_unthrottled h t d a b hk, ?_⟩
    have hy : x.after 1 = x.done now 1 false id := by rw [Engine.done_unblocked hx]; rfl
    rw [hy]
    exact modEng_went s t e fun x => x.done now 1 false id
  · have hblock : (if x.blk.isSome then x else { x with blk := some { t := now, op := 0, d := 0, lim := s.regF 0x50000 30 16 * 32 } }) =
        { x with blk := some { t := now, op := 0, d := 0, lim := s.regF 0x50000 30 16 * 32 } } := if_neg (by rw [hx]; decide)
    refine ⟨_, exec_teKb_throttled h t d a b hb hk, ?_⟩
    rw [← hblock]
    exact modEng_went s t e fun x => if x.blk.isSome then x
      else { x with blk := some { t := now, op := 0, d := 0, lim := s.regF 0x50000 30 16 * 32 } }
  · refine goes_of_done ((exec_teRet h t d a b 0 0 0).trans ?_) (y := { x.after 2 with pc := A.toNat })
      (cyc := 2) (f := fun y => { y with pc := A.toNat }) ?_
    · rw [if_neg (by simpa [rTaken] using ha), rForm_plain]
    · rw [Engine.done_unblocked hb]
      rfl
  · have read : ∀ {i : BitVec 5} {v : W64}, (s.at t).special e x i.toNat = some v → (i == 8) = false →
        goes (.teMfs t e d i b 0 0 0) ((x.after 1).setReg d v) := fun hv hi => by
      refine goes_of_done ((exec_teMfs h t d _ b hv).trans ?_) (setReg_done hb _ 1 d _)
      rw [hi]
      rfl
    simp only [List.forall_mem_cons]
    exact ⟨read rfl rfl, read rfl rfl, read rfl rfl, read rfl rfl, read rfl rfl, read rfl rfl, read rfl rfl, read rfl rfl, read rfl rfl,
      read rfl rfl, List.forall_mem_nil _⟩
  · have hv : (s.at t).special e x (8 : BitVec 5).toNat = some (now + BitVec.ofNat 64 ((Config.freeValue s.free).toNat % 17) - 8) := rfl
    exact ⟨_, _, exec_teMfs h t d 8 b hv, doneEng_went (s := { s with free := s.free + 1 }) t 1 _ (setReg_done hb _ 1 d _), time_within _ _⟩
  · have hle : ((s.eng e).reg a).toNat ≤ 65536 := ha
    have count : ∀ i : BitVec 5, (i == 1 || i == 2) = true → exec (.teMts t e i a b 0 0 0) s =
        .next ((s.at t).doneEng e 1 fun y => y.setLc (i == 2) (((s.eng e).reg a).setWidth 17)) := fun i hi => by
      rw [exec_teMts h, hi, if_pos (by simpa using hle)]
    refine ⟨goes_of_done (count 1 rfl) ?_, goes_of_done (count 2 rfl) ?_⟩
    · rw [Engine.done_unblocked hb]
      rfl
    · rw [Engine.done_unblocked hb]
      rfl
  · rw [Engine.done_unblocked hb]
    rfl
  · rw [Engine.done_unblocked hb]
    rfl

end Machine
end Sys2Proof

/-! Exceptions of an engine: what they leave in the engine, the counters and the record (06_tile_engine_isa R233 to R236). -/

namespace Sys2Proof
namespace Machine

/-! Operations that change the result fabric only: staged records, covers, lines. -/

/-- `s'` differs from `s` in the result fabric at most. -/
def FabOnly (s s' : State) : Prop := ∃ f, s' = { s with fab := f }

theorem FabOnly.refl {s : State} : FabOnly s s := ⟨s.fab, rfl⟩

theorem FabOnly.trans {s s' s'' : State} (h : FabOnly s s') (h' : FabOnly s' s'') : FabOnly s s'' := by
  obtain ⟨f, rfl⟩ := h
  exact h'

theorem FabOnly.foldl {α : Type} {g : State → α → State} (hg : ∀ s a, FabOnly s (g s a)) (l : List α) (s : State) : FabOnly s (l.foldl g s) := by
  induction l generalizing s with
  | nil => exact .refl
  | cons a l ih => exact (hg s a).trans (ih _)

theorem State.modFab_fabOnly (s : State) (f : Fab → Fab) : FabOnly s (s.modFab f) := ⟨_, rfl⟩

theorem State.modLine_fabOnly (s : State) (n : Nat) (f : Line → Line) : FabOnly s (s.modLine n f) := ⟨_, rfl⟩

theorem State.coverCh_fabOnly (s : State) (failed : Bool) (reason code n a b ch : Nat) (l : Line) :
    FabOnly s (s.coverCh failed reason code n a b ch l) := by
  unfold State.coverCh
  extract_lets m s1
  have hs1 : FabOnly s s1 := s.modFab_fabOnly _
  clear_value s1
  split
  · refine hs1.trans (FabOnly.foldl (fun s p => ?_) _ _)
    exact (s.modFab_fabOnly _).trans (State.stage_frame _ _)
  · exact hs1

theorem State.cover_fabOnly (s : State) (failed : Bool) (reason code n t0 t1 : Nat) : FabOnly s (s.cover failed reason code n t0 t1) := by
  unfold State.cover
  split
  · exact .refl
  · split
    · exact FabOnly.foldl (fun s ch => s.coverCh_fabOnly ..) _ _
    · exact .refl

theorem State.failTile_fabOnly (s : State) (reason code n t : Nat) : FabOnly s (s.failTile reason code n t) :=
  (s.cover_fabOnly true reason code n t t).trans ((s.cover true reason code n t t).modLine_fabOnly _ _)

theorem State.failOpen_fabOnly (s : State) (t reason code : Nat) : FabOnly s (s.failOpen t reason code) :=
  FabOnly.foldl (fun s _ => s.failTile_fabOnly ..) _ _

theorem State.portQueue_fabOnly (s : State) (e : Nat) : FabOnly s (s.portQueue e) := by
  unfold State.portQueue
  extract_lets qs s1
  have hs1 : FabOnly s s1 := FabOnly.foldl (fun s q => by
    dsimp only
    split
    · exact s.coverCh_fabOnly ..
    · exact .refl) qs s
  exact hs1.trans (s1.modFab_fabOnly _)

/-- The lines held end FAILED: the fabric changes, then the engine's slots are free and it is not blocked. -/
theorem State.failHeld_frame (s : State) (e reason code : Nat) : ∃ f, s.failHeld e reason code =
    ({ s with fab := f }).modEng e fun x => { x with slots := List.replicate 4 LSlot.free, blk := none } := by
  obtain ⟨f, hf⟩ : FabOnly s ((s.eng e).slots.foldl (fun s' q =>
      if q.held && s'.openItem q.line (s.eng e).tile then s'.failTile reason code q.line (s.eng e).tile else s') s) := by
    refine FabOnly.foldl (fun s' q => ?_) _ _
    split
    · exact s'.failTile_fabOnly ..
    · exact .refl
  exact ⟨f, congrArg (fun s' : State => s'.modEng e fun x => { x with slots := List.replicate 4 LSlot.free, blk := none }) hf⟩

/-! What the retirement of a slot leaves as it is. -/

/-- From `s` to `s'` engine `e`, the registers and the exception record are the same, and no interrupt cause is taken back. -/
structure EngKept (e : Nat) (s s' : State) : Prop where
  eng : s'.eng e = s.eng e
  regs : s'.regs = s.regs
  excK : s'.te.excK = s.te.excK
  excH : s'.te.excH = s.te.excH
  lastExc : s'.te.lastExc = s.te.lastExc
  cause : ∀ i, s.host.cause.getLsbD i = true → s'.host.cause.getLsbD i = true

theorem EngKept.refl {e : Nat} {s : State} : EngKept e s s := ⟨rfl, rfl, rfl, rfl, rfl, fun _ h => h⟩

theorem EngKept.trans {e : Nat} {s s' s'' : State} (h : EngKept e s s') (h' : EngKept e s' s'') : EngKept e s s'' :=
  ⟨h'.eng.trans h.eng, h'.regs.trans h.regs, h'.excK.trans h.excK, h'.excH.trans h.excH, h'.lastExc.trans h.lastExc,
    fun i hi => h'.cause i (h.cause i hi)⟩

theorem FabOnly.engKept {e : Nat} {s s' : State} (h : FabOnly s s') : EngKept e s s' := by
  obtain ⟨f, rfl⟩ := h
  exact ⟨rfl, rfl, rfl, rfl, rfl, fun _ h => h⟩

theorem State.modFlt_engKept (s : State) (f : Flt → Flt) (e : Nat) : EngKept e s (s.modFlt f) := ⟨rfl, rfl, rfl, rfl, rfl, fun _ h => h⟩
theorem State.modCal_engKept (s : State) (f : Cal → Cal) (e : Nat) : EngKept e s (s.modCal f) := ⟨rfl, rfl, rfl, rfl, rfl, fun _ h => h⟩
theorem State.emit_engKept (s : State) (o : Out) (e : Nat) : EngKept e s (s.emit o) := ⟨rfl, rfl, rfl, rfl, rfl, fun _ h => h⟩
theorem State.modStripe_engKept (s : State) (k : Nat) (f : Stripe → Stripe) (e : Nat) : EngKept e s (s.modStripe k f) :=
  ⟨rfl, rfl, rfl, rfl, rfl, fun _ h => h⟩

/-- An engine put on the list of those to be loaded. -/
theorem State.waitLoad_engKept (s : State) (l : List Nat) (e : Nat) : EngKept e s (s.modTe fun x => { x with waitLoad := x.waitLoad ++ l }) :=
  ⟨rfl, rfl, rfl, rfl, rfl, fun _ h => h⟩

/-- Raising a vector takes no interrupt cause back. -/
theorem State.raise_cause_mono (s : State) (v : Nat) {i : Nat} (hi : s.host.cause.getLsbD i = true) :
    (s.raise v).host.cause.getLsbD i = true := by
  unfold State.raise
  split
  · exact hi
  · obtain ⟨h, o, heq, hc⟩ := (s.modHost fun h => { h with cause := h.cause ||| (1#12 <<< (v - 16)) }).msix_frame v
    rw [heq]
    simp [hc, hi]

theorem State.raise_engKept (s : State) {v : Nat} (hv : v < 28) (e : Nat) : EngKept e s (s.raise v) := by
  have hmono := fun i => s.raise_cause_mono v (i := i)
  obtain ⟨h, o, heq, -⟩ := s.raise_frame hv
  rw [heq] at hmono ⊢
  exact ⟨rfl, rfl, rfl, rfl, rfl, hmono⟩

theorem State.logEvent_engKept (s : State) (unit code d1 d2 d3 e : Nat) : EngKept e s (s.logEvent unit code d1 d2 d3) := by
  unfold State.logEvent
  dsimp only
  split
  · exact s.modFlt_engKept ..
  · split
    · exact s.modFlt_engKept ..
    · exact (s.modFlt_engKept _ e).trans (State.raise_engKept _ (by decide) e)

theorem State.health_engKept (s : State) (e : Nat) : EngKept e s s.health := by
  unfold State.health
  extract_lets f unserved failedBank bad degr h s1
  have hs1 : EngKept e s s1 := s.modFlt_engKept _ e
  clear_value s1
  split
  · exact (hs1.trans (s1.logEvent_engKept ..)).trans (State.emit_engKept ..)
  · split
    · exact (hs1.trans (s1.logEvent_engKept ..)).trans (State.emit_engKept ..)
    · exact hs1

/-- The slot retired is no spare that could take its tile over. -/
theorem State.takeover_engKept (s : State) {e : Nat} (t cause : Nat) (hst : (s.eng e).st = 5) : EngKept e s (s.takeover e t cause) := by
  unfold State.takeover
  dsimp only
  split
  · next hspare =>
    have hne : e ≠ 33 * (t / 32) + 32 := by
      rintro rfl
      simp [hst] at hspare
    have hmod : ∀ (g : Stripe → Stripe) (f : Engine → Engine),
        EngKept e s ((s.modStripe (t / 32) g).modEng (33 * (t / 32) + 32) f) := fun g f =>
      ⟨State.eng_modEng_ne (s.modStripe (t / 32) g) _ _ f hne, rfl, rfl, rfl, rfl, fun _ h => h⟩
    split
    · exact (hmod _ _).trans (State.waitLoad_engKept _ _ e)
    · exact hmod _ _
  · exact ((s.modStripe_engKept _ _ e).trans (State.logEvent_engKept ..)).trans (State.health_engKept _ e)

/-- The retirement of a slot: RETIRED, no line held, not blocked; what else it does leaves the slot as it is. -/
theorem State.retire_frame (s : State) (e cause : Nat) : ∃ f, EngKept e
    ((({ s with fab := f }).modEng e fun x => { x with slots := List.replicate 4 LSlot.free, blk := none }).modEng e
      fun x => { x with st := 5, swPend := false }) (s.retire e cause) := by
  unfold State.retire
  dsimp only
  obtain ⟨f, hf⟩ := s.failHeld_frame e 0x06 cause
  obtain ⟨g, hg⟩ := (s.failHeld e 0x06 cause).failOpen_fabOnly (s.eng e).tile 0x06 cause
  rw [hf] at hg
  rw [hf, hg]
  refine ⟨g, ?_⟩
  generalize hs0 : ((({ s with fab := g }).modEng e fun x => { x with slots := List.replicate 4 LSlot.free, blk := none }).modEng e
      fun x => { x with st := 5, swPend := false }) = s0
  have hst : (s0.eng e).st = 5 := by rw [← hs0, State.eng_modEng_same]
  have hs0' : (State.modEng { (State.modEng { s with fab := f } e fun x => { x with slots := List.replicate 4 LSlot.free, blk := none }) with
      fab := g } e fun x => { x with st := 5, swPend := false }) = s0 := hs0
  rw [hs0']
  have hlog := s0.logEvent_engKept 0x03 1 e cause (s.eng e).tile e
  generalize s0.logEvent 0x03 1 e cause (s.eng e).tile = s1 at hlog ⊢
  have hmods : ∀ f g, EngKept e s1 ((s1.modFlt f).modCal g) := fun _ _ =>
    (s1.modFlt_engKept _ e).trans (State.modCal_engKept ..)
  have hport : ∀ s2 : State, EngKept e s2 (if cause == 0xB then s2.portQueue e else s2) := fun s2 => by
    split
    · exact (s2.portQueue_fabOnly e).engKept
    · exact .refl
  have htake : ∀ s2, EngKept e s0 s2 → EngKept e s0 (s2.takeover e (s.eng e).tile cause) := fun s2 h =>
    h.trans (State.takeover_engKept _ _ _ ((congrArg Engine.st h.eng).trans hst))
  exact htake _ ((hlog.trans (hmods _ _)).trans (hport _))

/-- A retired slot: RETIRED, no line held, not blocked; the registers, the exception record and the interrupt causes stand. -/
theorem State.retire_spec (s : State) (e cause : Nat) :
    (s.retire e cause).eng e = { s.eng e with slots := List.replicate 4 LSlot.free, blk := none, st := 5, swPend := false } ∧
    (s.retire e cause).regs = s.regs ∧ (s.retire e cause).te.excK = s.te.excK ∧ (s.retire e cause).te.excH = s.te.excH ∧
    (s.retire e cause).te.lastExc = s.te.lastExc ∧
    ∀ i, s.host.cause.getLsbD i = true → (s.retire e cause).host.cause.getLsbD i = true := by
  obtain ⟨f, heng, hregs, hK, hH, hlast, hcause⟩ := s.retire_frame e cause
  rw [State.eng_modEng_same, State.eng_modEng_same] at heng
  exact ⟨heng, hregs, hK, hH, hlast, hcause⟩

/-- A restart: the engine waits for its start with no line held, and the restart is counted; the fabric changes, nothing else. -/
theorem State.restart_spec (s : State) (e cause : Nat) :
    let s' := (s.failHeld e 0x05 cause).modEng e fun x => { x with st := 2, kcnt := x.kcnt + 1 }
    s'.eng e = { s.eng e with slots := List.replicate 4 LSlot.free, blk := none, st := 2, kcnt := (s.eng e).kcnt + 1 } ∧
    (∀ i, i ≠ e → s'.eng i = s.eng i) ∧ s'.regs = s.regs ∧ s'.te.excK = s.te.excK ∧ s'.te.excH = s.te.excH ∧ s'.te.lastExc = s.te.lastExc ∧
    s'.host = s.host := by
  obtain ⟨f, hheld⟩ := s.failHeld_frame e 0x05 cause
  dsimp only
  rw [hheld]
  refine ⟨?_, fun i hi => ?_, rfl, rfl, rfl, rfl, rfl⟩
  · rw [State.eng_modEng_same, State.eng_modEng_same]
    rfl
  · rw [State.eng_modEng_ne _ _ _ _ hi, State.eng_modEng_ne _ _ _ _ hi]
    rfl

/-! The record of an exception. -/

/-- The FIFOs of a tile emptied: nothing else changes. -/
theorem State.emptyFifos_frame (s : State) (t : Nat) : ∃ f, s.emptyFifos t = s.modTe fun y => { y with fifo := f } := by
  unfold State.emptyFifos
  dsimp only
  split <;> exact ⟨_, rfl⟩

/-- The record and the count of an exception, and its class in the engine (06_tile_engine_isa R235, R236). -/
def State.excRecord (s : State) (e cause code addr : Nat) : State :=
  (s.modTe fun y => { y with
    lastExc := pack 32 [(e, 21), (cause, 17), ((s.eng e).pc % 4096, 5), (code % 32, 0)],
    lastInfo := pack 64 [(addr % 65536, 48), ((s.eng e).oldest, 0)],
    excH := if 8 ≤ cause then y.excH + 1 else y.excH, excK := if 8 ≤ cause then y.excK else y.excK + 1 }).modEng e fun x => { x with cause := cause }

theorem State.excRecord_eng_same (s : State) (e cause code addr : Nat) :
    (s.excRecord e cause code addr).eng e = { s.eng e with cause := cause } := State.eng_modEng_same _ _ _

theorem State.excRecord_eng_ne (s : State) {e i : Nat} (cause code addr : Nat) (h : i ≠ e) :
    (s.excRecord e cause code addr).eng i = s.eng i := State.eng_modEng_ne _ _ _ _ h

/-- The exception of an engine: recorded, vector 21 raised, the FIFOs of the tile empty; then the class decides. -/
theorem State.raiseExc_eq (s : State) (e cause code addr : Nat) : ∃ s1 : State,
    (s.raiseExc e cause code addr =
      if 8 ≤ cause then s1.retire e cause else (s1.failHeld e 0x05 cause).modEng e fun x => { x with st := 2, kcnt := x.kcnt + 1 }) ∧
    (∀ i, s1.eng i = (s.excRecord e cause code addr).eng i) ∧ s1.regs = s.regs ∧
    s1.te.excK = (s.excRecord e cause code addr).te.excK ∧ s1.te.excH = (s.excRecord e cause code addr).te.excH ∧
    s1.te.lastExc = (s.excRecord e cause code addr).te.lastExc ∧ s1.host.cause.getLsbD 5 = true := by
  obtain ⟨h, o, hraise, hc⟩ := (s.excRecord e cause code addr).raise_frame (v := 21) (by decide)
  obtain ⟨f, hf⟩ := ((s.excRecord e cause code addr).raise 21).emptyFifos_frame (s.eng e).tile
  have hregs : (s.excRecord e cause code addr).regs = s.regs := rfl
  refine ⟨((s.excRecord e cause code addr).raise 21).emptyFifos (s.eng e).tile, rfl, ?_⟩
  generalize s.excRecord e cause code addr = s0 at *
  rw [hraise] at hf
  rw [hraise, hf]
  exact ⟨fun i => rfl, hregs, rfl, rfl, rfl, hc⟩

/-- What an exception leaves in its engine, the counters and the record. -/
theorem State.raiseExc_spec (s : State) (e cause code addr : Nat) (hcode : code < 32) :
    let s' := s.raiseExc e cause code addr
    (s'.eng e).st = (if cause < 8 then 2 else 5) ∧ (s'.eng e).cause = cause ∧ (s'.eng e).slots = List.replicate 4 LSlot.free ∧
    (s'.eng e).blk = none ∧
    (cause < 8 → (s'.eng e).kcnt = (s.eng e).kcnt + 1 ∧ s'.te.excK = s.te.excK + 1 ∧ s'.te.excH = s.te.excH ∧ ∀ i, i ≠ e → s'.eng i = s.eng i) ∧
    (8 ≤ cause → s'.te.excH = s.te.excH + 1 ∧ s'.te.excK = s.te.excK) ∧
    s'.te.lastExc = pack 32 [(e, 21), (cause, 17), ((s.eng e).pc % 4096, 5), (code, 0)] ∧ s'.host.cause.getLsbD 5 = true ∧ s'.regs = s.regs := by
  intro s'
  have hlast : (s.excRecord e cause code addr).te.lastExc = pack 32 [(e, 21), (cause, 17), ((s.eng e).pc % 4096, 5), (code, 0)] :=
    congrArg (fun c => pack 32 [(e, 21), (cause, 17), ((s.eng e).pc % 4096, 5), (c, 0)]) (Nat.mod_eq_of_lt hcode)
  obtain ⟨s1, heq, heng1, hregs1, hK1, hH1, hlast1, hc1⟩ := s.raiseExc_eq e cause code addr
  have hcount : (s.excRecord e cause code addr).te.excH = (if 8 ≤ cause then s.te.excH + 1 else s.te.excH) ∧
    (s.excRecord e cause code addr).te.excK = (if 8 ≤ cause then s.te.excK else s.te.excK + 1) := ⟨rfl, rfl⟩
  have hthis := heng1 e
  rw [s.excRecord_eng_same] at hthis
  by_cases hH : 8 ≤ cause
  · have hs' : s' = s1.retire e cause := heq.trans (if_pos hH)
    obtain ⟨heng, hregs, hK, hEH, hl, hc⟩ := s1.retire_spec e cause
    rw [← hs'] at heng hregs hK hEH hl hc
    rw [hthis] at heng
    rw [if_pos hH, if_pos hH] at hcount
    refine ⟨?_, ?_, ?_, ?_, fun hlt => absurd hlt (by omega), fun _ => ⟨hEH.trans (hH1.trans hcount.1), hK.trans (hK1.trans hcount.2)⟩,
      hl.trans (hlast1.trans hlast), hc 5 hc1, hregs.trans hregs1⟩
    · rw [heng, if_neg (by omega)]
    · rw [heng]
    · rw [heng]
    · rw [heng]
  · have hs' := heq.trans (if_neg hH)
    obtain ⟨heng, hothers, hregs, hK, hEH, hl, hhost⟩ := s1.restart_spec e cause
    rw [← hs'] at heng hothers hregs hK hEH hl hhost
    rw [hthis] at heng
    rw [if_neg hH, if_neg hH] at hcount
    have hc : s'.host.cause.getLsbD 5 = true := (congrArg (fun h : HostLink => h.cause.getLsbD 5) hhost).trans hc1
    refine ⟨?_, ?_, ?_, ?_, fun _ => ⟨?_, hK.trans (hK1.trans hcount.2), hEH.trans (hH1.trans hcount.1), fun i hi =>
      (hothers i hi).trans ((heng1 i).trans (s.excRecord_eng_ne _ _ _ hi))⟩, fun hge => absurd hge hH, hl.trans (hlast1.trans hlast), hc,
      hregs.trans hregs1⟩
    · rw [heng, if_pos (by omega)]
    · rw [heng]
    · rw [heng]
    · rw [heng]
    · rw [heng]

/-! What raises an exception. -/

/-- The fetch of an instruction of a running engine. -/
theorem teOp_running {s : State} {e : Nat} (hr : s.running = true) (hn : s.noTicks = false) (hst : (s.eng e).st = 1) (t : Time)
    (k : State → Engine → State) : teOp t e s k = .next
      (if 0xF00 ≤ (s.eng e).pc then (s.at t).raiseExc e 2 0 0
      else if (s.eng e).iUe.contains (s.eng e).pc then (s.at t).raiseExc e 8 0 0
      else if (s.eng e).iCe.contains (s.eng e).pc then
        let s := (s.at t).modEng e fun x => { x with iCe := x.iCe.filter (· != x.pc), ce := satInc 127 x.ce }
        k s (s.eng e)
      else k (s.at t) (s.eng e)) := by
  unfold teOp
  rw [inRun_running hr]
  simp only [State.eng_at, State.noTicks_at, hn, hst]
  rfl

/-- Settles O35: what raises each class, and what every exception leaves. -/
theorem engineExceptions : Obligations.EngineExceptions := by
  unfold Obligations.EngineExceptions
  intro s t e d a b w hr hn hst x raises
  refine ⟨fun h => ⟨?_, fun hw => ?_⟩, fun hpc => ?_, fun hpc hue => ?_, fun hb hlate => ?_, ?_, fun cause code addr _ hcode => ?_⟩
  · have hexec : exec (.teBrk t e d a b 0 0 0) s = execTeBrk t e d a b 0 0 0 s := rfl
    show exec (.teBrk t e d a b 0 0 0) s = _
    rw [hexec, execTeBrk, teOp_ready h, rForm_plain]
  · have hexec : exec (.illegalOpcode t e w) s = execIllegalOpcode t e w s := rfl
    show exec (.illegalOpcode t e w) s = _
    rw [hexec, execIllegalOpcode, teOp_ready h, hw]
    rfl
  · have hexec : exec (.teNop t e d a b 0 0 0) s = execTeNop t e d a b 0 0 0 s := rfl
    show exec (.teNop t e d a b 0 0 0) s = _
    rw [hexec, execTeNop, teOp_running hr hn hst, if_pos hpc]
  · have hexec : exec (.teNop t e d a b 0 0 0) s = execTeNop t e d a b 0 0 0 s := rfl
    show exec (.teNop t e d a b 0 0 0) s = _
    rw [hexec, execTeNop, teOp_running hr hn hst, if_neg (Nat.not_le.2 hpc), if_pos hue]
  · have hexec : exec (.engineHang t e) s = execEngineHang t e s := rfl
    have hcond : (!s.noTicks && x.st == 1 && x.blk.isNone && decide (20000 ≤ since (s.at t).now x.hbT)) = true := by
      rw [hn, hb, decide_eq_true hlate, show x.st = 1 from hst]
      rfl
    show exec (.engineHang t e) s = _
    rw [hexec, execEngineHang, inRun_running hr]
    exact congrArg _ (if_pos hcond)
  · have hexec : exec (.portCheckFail t e) s = execPortCheckFail t e s := rfl
    have hcond : (!s.noTicks && x.st == 1) = true := by
      rw [hn, show x.st = 1 from hst]
      rfl
    show exec (.portCheckFail t e) s = _
    rw [hexec, execPortCheckFail, inRun_running hr]
    exact congrArg _ (if_pos hcond)
  · exact s.raiseExc_spec e cause code addr hcode

end Machine
end Sys2Proof

/-! Lines at the engines: LACQ, LACQE, LWAIT, LWAITF, LTEST, LINFO, LREL, LKILL (06_tile_engine_isa R213 to R221, R232, R234). -/

namespace Sys2Proof
namespace Machine

/-- A relation that a loop's steps keep, and that is reflexive and transitive, holds over the loop. -/
theorem foldl_rel {α : Type} {R : State → State → Prop} (hr : ∀ s, R s s) (ht : ∀ s s' s'', R s s' → R s' s'' → R s s'') {g : State → α → State}
    (hg : ∀ s a, R s (g s a)) (l : List α) (s : State) : R s (l.foldl g s) := by
  induction l generalizing s with
  | nil => exact hr s
  | cons a l ih => exact ht _ _ _ (hg s a) (ih _)

/-! The accumulation routine of a calibration step (R216). -/

/-- `s'` differs from `s` at most in the lines and the accumulators, and in neither while no calibration step runs. -/
def AccOnly (s s' : State) : Prop :=
  ∃ ls acc, s' = { s with fab := { s.fab with lines := ls }, cal := { s.cal with acc := acc } } ∧
    (s.cal.step.ph ≠ 2 → ls = s.fab.lines ∧ acc = s.cal.acc)

theorem AccOnly.refl (s : State) : AccOnly s s := ⟨_, _, rfl, fun _ => ⟨rfl, rfl⟩⟩

theorem AccOnly.trans {s s' s'' : State} (h : AccOnly s s') (h' : AccOnly s' s'') : AccOnly s s'' := by
  obtain ⟨ls, acc, rfl, hn⟩ := h
  obtain ⟨ls', acc', rfl, hn'⟩ := h'
  exact ⟨ls', acc', rfl, fun hp => ⟨(hn' hp).1.trans (hn hp).1, (hn' hp).2.trans (hn hp).2⟩⟩

/-- A line is due for accumulation while a step runs only. -/
theorem State.accumDue_step {s : State} {t n : Nat} {l : Line} (h : s.accumDue t n l = true) : s.cal.step.ph = 2 := by
  simp only [State.accumDue, State.stepLine, Bool.and_eq_true, beq_iff_eq] at h
  tauto

theorem State.accumulate_accOnly (s : State) (t : Nat) : AccOnly s (s.accumulate t) := by
  unfold State.accumulate
  split
  · split
    · refine foldl_rel AccOnly.refl (fun _ _ _ => AccOnly.trans) (fun s p => ?_) _ _
      split
      · split
        · next hdue => exact ⟨_, _, rfl, fun hp => absurd (State.accumDue_step hdue) hp⟩
        · exact .refl _
      · exact .refl _
    · exact .refl _
  · exact .refl _

/-! LACQ and LACQE. -/

/-- The cycles of the line that ends are noted where they exceed the maximum so far (R232). -/
theorem State.noteCycles_frame (s : State) (e : Nat) (x : Engine) : ∃ m k, s.noteCycles e x = s.modTe (fun y => { y with cycMax := m, cycSlot := k }) ∧
    m = if x.cycOn then max s.te.cycMax (min x.cyc 0xFFFFF) else s.te.cycMax := by
  unfold State.noteCycles
  dsimp only
  split
  · next hc =>
    simp only [Bool.and_eq_true, decide_eq_true_eq] at hc
    exact ⟨_, _, rfl, by rw [if_pos hc.1, Nat.max_eq_right (Nat.le_of_lt hc.2)]⟩
  · next hc =>
    refine ⟨_, _, rfl, ?_⟩
    split
    · next hon =>
      simp only [hon, Bool.true_and, decide_eq_true_eq] at hc
      rw [Nat.max_eq_left (Nat.not_lt.1 hc)]
    · rfl

section Acquire

variable {s : State} {e : Nat} (h : EngineReady s e) (hb : (s.eng e).blk = none) {c : Instr} {t : Time} {early : Bool} {d : BitVec 5}
  (hc : exec c s = teAcq t e early d 0 0 0 s)
include h hb hc

/-- Without a line to return, or before its conversion has come far enough, the instruction blocks and the engine accumulates. -/
theorem acq_waits (hno : ∀ n l, s.nextFor (s.eng e) = some (n, l) →
      (if early then reached (s.at t).now (l.tc (s.eng e).tile) else l.conv.getLsbD (s.eng e).tile) = false) :
    exec c s = .next ((((s.at t).noteCycles e (s.eng e)).blockEng e 6 0).accumulate (s.eng e).tile) := by
  rw [hc, teAcq, teOp_ready h, rForm_plain, hb]
  obtain ⟨m, k, hcyc, -⟩ := (s.at t).noteCycles_frame e (s.eng e)
  have hnote : ((s.at t).noteCycles e (s.eng e)).nextFor (s.eng e) = s.nextFor (s.eng e) := by rw [hcyc]; rfl
  have hnow : ((s.at t).noteCycles e (s.eng e)).now = (s.at t).now := by rw [hcyc]; rfl
  simp only [Option.isNone_none, if_true, hnote, hnow]
  cases hn : s.nextFor (s.eng e) with
  | none => rfl
  | some p => simp [hno p.1 p.2 hn]

/-- The line returned: its slot is held, and the count of cycles starts anew. -/
theorem acq_gets {n : Nat} {l : Line} (hn : s.nextFor (s.eng e) = some (n, l)) (hpal : s.palBusy (s.eng e).tile = false)
    (hyes : (if early then reached (s.at t).now (l.tc (s.eng e).tile) else l.conv.getLsbD (s.eng e).tile) = true) :
    let pre := l.fail.getLsbD (s.eng e).tile
    exec c s = .next (((s.at t).noteCycles e (s.eng e)).modEng e fun y =>
      let y := (y.done (s.at t).now 0 false fun z => z.setReg d (descriptor n l pre)).beat (s.at t).now
      { y with slots := y.slots.set (n % 4) { held := true, rev := false, line := n, pre := pre, pal := false }, nextLine := n + 1, cyc := 0,
               cycOn := true }) := by
  intro pre
  rw [hc, teAcq, teOp_ready h, rForm_plain, hb]
  obtain ⟨m, k, hcyc, -⟩ := (s.at t).noteCycles_frame e (s.eng e)
  have hnote : ((s.at t).noteCycles e (s.eng e)).nextFor (s.eng e) = s.nextFor (s.eng e) := by rw [hcyc]; rfl
  have hnow : ((s.at t).noteCycles e (s.eng e)).now = (s.at t).now := by rw [hcyc]; rfl
  have hbusy : ((s.at t).noteCycles e (s.eng e)).palBusy (s.eng e).tile = false := by
    rw [← hpal, hcyc]
    rfl
  simp only [Option.isNone_none, if_true, hnote, hnow, hn, hyes, hbusy, Bool.false_eq_true, if_false, Bool.false_or]
  rfl

end Acquire

/-- What LACQ leaves in its engine when it returns line `n`. -/
def Engine.acquired (x : Engine) (now : Time) (d : BitVec 5) (n : Nat) (l : Line) (pre : Bool) : Engine :=
  { ({ x with pc := x.pc + 1, blk := none }).setReg d (descriptor n l pre) with
    hb := true, hbT := now, nextLine := n + 1, cyc := 0, cycOn := true,
    slots := x.slots.set (n % 4) { held := true, rev := false, line := n, pre := pre, pal := false } }

theorem acquired_eq {x : Engine} (hb : x.blk = none) (now : Time) (d : BitVec 5) (n : Nat) (l : Line) (pre : Bool) :
    (let y := (x.done now 0 false fun z => z.setReg d (descriptor n l pre)).beat now
    { y with slots := y.slots.set (n % 4) { held := true, rev := false, line := n, pre := pre, pal := false }, nextLine := n + 1, cyc := 0,
             cycOn := true }) = x.acquired now d n l pre := by
  simp only [Engine.done_unblocked hb, Engine.setReg_eq, Engine.beat, Engine.acquired]

/-- An engine that was not blocked blocks. -/
theorem blockEng_went {s : State} {e : Nat} (hb : (s.eng e).blk = none) (t : Time) (op : Nat) (d : BitVec 5) :
    EngineWent s ((s.at t).blockEng e op d) t e
      { s.eng e with blk := some { t := (s.at t).now, op := op, d := d, lim := s.regF 0x50000 30 16 * 32 } } := by
  have hblock : (if (s.eng e).blk.isSome then s.eng e
      else { s.eng e with blk := some { t := (s.at t).now, op := op, d := d, lim := s.regF 0x50000 30 16 * 32 } }) =
      { s.eng e with blk := some { t := (s.at t).now, op := op, d := d, lim := s.regF 0x50000 30 16 * 32 } } := if_neg (by rw [hb]; decide)
  rw [← hblock]
  exact modEng_went s t e fun x => if x.blk.isSome then x
    else { x with blk := some { t := (s.at t).now, op := op, d := d, lim := s.regF 0x50000 30 16 * 32 } }

/-- The clause of O36 on LACQ and LACQE. -/
theorem lines_acquire (s : State) (t : Time) (e : Nat) (d : BitVec 5) (h : EngineReady s e) (hb : (s.eng e).blk = none) :
    let x := s.eng e
    let now := (s.at t).now
    let went := fun (c : Instr) (y : Engine) (fab : State → Fab) (cal : State → Cal) => Gives c s fun s' =>
      s'.eng e = y ∧ (∀ i, i ≠ e → s'.eng i = s.eng i) ∧
      s' = { s.at t with
        te := { s.te with eng := s'.te.eng, cycMax := s'.te.cycMax, cycSlot := s'.te.cycSlot }, fab := fab s', cal := cal s' } ∧
      s'.te.cycMax = (if x.cycOn then max s.te.cycMax (min x.cyc 0xFFFFF) else s.te.cycMax)
    (∀ c early, exec c s = teAcq t e early d 0 0 0 s →
      (∀ n l, s.nextFor x = some (n, l) → s.palBusy x.tile = false →
        (if early then reached now (l.tc x.tile) else l.conv.getLsbD x.tile) = true →
        went c (x.acquired now d n l (l.fail.getLsbD x.tile)) (fun _ => s.fab) (fun _ => s.cal)) ∧
      ((∀ n l, s.nextFor x = some (n, l) → (if early then reached now (l.tc x.tile) else l.conv.getLsbD x.tile) = false) →
        went c { x with blk := some { t := now, op := 6, d := 0, lim := s.regF 0x50000 30 16 * 32 } }
          (fun s' => if s.cal.step.ph = 2 then { s.fab with lines := s'.fab.lines } else s.fab)
          (fun s' => if s.cal.step.ph = 2 then { s.cal with acc := s'.cal.acc } else s.cal))) := by
  intro x now went c early hc
  obtain ⟨m, k, hnote, hm⟩ := (s.at t).noteCycles_frame e x
  refine ⟨fun n l hn hpal hyes => ?_, fun hno => ?_⟩
  · refine ⟨_, acq_gets h hb hc hn hpal hyes, ?_⟩
    rw [hnote]
    refine ⟨(State.eng_modEng_same _ _ _).trans (acquired_eq hb _ _ _ _ _), fun i hi => State.eng_modEng_ne _ _ _ _ hi, rfl, hm⟩
  · refine ⟨_, acq_waits h hb hc hno, ?_⟩
    obtain ⟨ls, acc, hacc, hstep⟩ := (((s.at t).noteCycles e x).blockEng e 6 0).accumulate_accOnly x.tile
    rw [hacc]
    rw [hnote] at hstep ⊢
    obtain ⟨hrest, hothers, hthis⟩ := blockEng_went (s := s.modTe fun y => { y with cycMax := m, cycSlot := k }) (e := e) hb t 6 0
    refine ⟨hthis, hothers, ?_, hm⟩
    by_cases hp : s.cal.step.ph = 2
    · simp only [if_pos hp]
      rfl
    · simp only [if_neg hp]
      obtain ⟨rfl, rfl⟩ := hstep hp
      rfl

/-! Lines that end FAILED. -/

/-- A span of one tile. -/
theorem tileSpan_self {t : Nat} (ht : t < 1024) : tileSpan t t = 1#1024 <<< t := by
  apply BitVec.eq_of_getLsbD_eq
  intro i hi
  rw [Bool.eq_iff_iff]
  simp only [tileSpan, BitVec.getLsbD_and, BitVec.getLsbD_shiftLeft, BitVec.getLsbD_ushiftRight, BitVec.getLsbD_allOnes, BitVec.getLsbD_one,
    Bool.and_eq_true, Bool.not_eq_true', decide_eq_true_eq, decide_eq_false_iff_not]
  omega

theorem State.line_modLine_same (s : State) (n : Nat) (f : Line → Line) : (s.modLine n f).line n = (s.line n).map f := Tbl.get_set_same _ _ _ _

theorem State.line_modLine_ne (s : State) {n i : Nat} (f : Line → Line) (h : i ≠ n) : (s.modLine n f).line i = s.line i :=
  Tbl.get_set_ne _ _ _ _ _ _ h

/-- A staged record leaves the lines. -/
theorem State.stage_line (s : State) (ws : List W64) (n : Nat) : (s.stage ws).line n = s.line n := by
  unfold State.stage
  dsimp only
  split_ifs <;> rfl

/-- A covering FAILED record marks the line for the tiles covered. -/
theorem State.coverCh_line (s : State) (reason code n a b ch : Nat) (l : Line) :
    (s.coverCh true reason code n a b ch l).line n = (s.line n).map fun l => { l with fail := l.fail ||| tileSpan a b } := by
  unfold State.coverCh
  extract_lets m s1
  have hs1 : s1.line n = (s.line n).map fun l => { l with fail := l.fail ||| tileSpan a b } := s.line_modLine_same ..
  clear_value s1
  split
  · rw [← hs1]
    refine foldl_rel (R := fun s s' => s'.line n = s.line n) (fun _ => rfl) (fun _ _ _ h h' => h'.trans h) (fun s p => ?_) _ _
    exact State.stage_line _ _ n
  · exact hs1

/-- A line that a cover names: the tiles of the window that it covers are marked. -/
theorem State.cover_line {s : State} {n : Nat} {l : Line} (hl : s.line n = some l) (reason code t0 t1 : Nat) :
    (s.cover true reason code n t0 t1).line n =
      some (if l.items then { l with fail := l.fail ||| tileSpan (max t0 l.first) (min t1 l.last) } else l) := by
  unfold State.cover
  simp only [hl]
  split
  · have hfold : ∀ (chs : List Nat) (ch : Nat) (s : State) (k : Line), s.line n = some k →
        ((ch :: chs).foldl (fun s ch => s.coverCh true reason code n (max t0 l.first) (min t1 l.last) ch l) s).line n =
          some { k with fail := k.fail ||| tileSpan (max t0 l.first) (min t1 l.last) } := by
      intro chs
      induction chs with
      | nil => exact fun ch s k hk => (s.coverCh_line ..).trans (congrArg (Option.map _) hk)
      | cons ch' chs ih =>
        intro ch s k hk
        rw [List.foldl_cons, ih ch' _ _ ((s.coverCh_line ..).trans (congrArg (Option.map _) hk))]
        simp only [BitVec.or_assoc, BitVec.or_self]
    exact hfold _ 0 s l hl
  · exact hl

theorem Line.last_lt (l : Line) : l.last < 1024 := Nat.mod_lt _ (by decide)

/-- A line that ends FAILED for a tile: the tile has ended it, and is marked where the line has items for it. -/
theorem State.failTile_line {s : State} {n : Nat} {l : Line} (hl : s.line n = some l) (reason code t : Nat) :
    ∃ l', (s.failTile reason code n t).line n = some l' ∧ l' = { l with rel := l.rel ||| (1#1024 <<< t), fail := l'.fail } ∧
      (l.items = true → l.first ≤ t → t ≤ l.last → l'.fail = l.fail ||| (1#1024 <<< t)) := by
  have hline : (s.failTile reason code n t).line n =
      ((s.cover true reason code n t t).line n).map fun l => { l with rel := l.rel ||| (1#1024 <<< t) } := State.line_modLine_same _ _ _
  rw [State.cover_line hl] at hline
  by_cases hitems : l.items = true
  · rw [if_pos hitems] at hline
    refine ⟨_, hline, rfl, fun _ hlo hhi => ?_⟩
    have hmax : max t l.first = t := Nat.max_eq_left hlo
    have hmin : min t l.last = t := Nat.min_eq_left hhi
    have hspan := tileSpan_self (lt_of_le_of_lt hhi l.last_lt)
    simp only [hmax, hmin, hspan]
  · rw [if_neg hitems] at hline
    exact ⟨_, hline, rfl, fun hi => absurd hi hitems⟩

/-! The instructions on a slot. -/

/-- Two updates of one engine change nothing else. -/
theorem modEng_modEng_went (s : State) (t : Time) (e : Nat) (f g : Engine → Engine) :
    EngineWent s (((s.at t).modEng e f).modEng e g) t e (g (f (s.eng e))) := by
  refine ⟨rfl, fun i hi => ?_, ?_⟩
  · rw [State.eng_modEng_ne _ _ _ _ hi, State.eng_modEng_ne _ _ _ _ hi]
    rfl
  · rw [State.eng_modEng_same, State.eng_modEng_same]
    rfl

/-- The engine after the release of slot `sl`: the slot free, a heartbeat sent. -/
def Engine.released (x : Engine) (now : Time) (sl cyc : Nat) : Engine :=
  { x.after cyc with hb := true, hbT := now, slots := x.slots.set sl LSlot.free }

theorem released_done {x : Engine} (hb : x.blk = none) (now : Time) (sl cyc : Nat) :
    x.done now cyc true (fun y => { y.beat now with slots := y.slots.set sl LSlot.free }) = x.released now sl cyc := by
  simp only [Engine.done_unblocked hb, Engine.beat, Engine.after, Engine.released]

section Slot

variable {s : State} {e : Nat} (h : EngineReady s e) (t : Time) (d a b : BitVec 5)
include h

theorem exec_teLtest (fl : BitVec 2) : exec (.teLtest t e d a b 0 0 fl) s =
    .next ((s.at t).doneEng e 1 fun y => y.setFlag fl (((s.eng e).slot a).held && !((s.eng e).slot a).rev)) := by
  have hexec : exec (.teLtest t e d a b 0 0 fl) s = execTeLtest t e d a b 0 0 fl s := rfl
  rw [hexec, execTeLtest, teOp_ready h, if_neg (by decide)]

/-- An instruction on a slot that is not held. -/
theorem slot_free_access (hfree : ((s.eng e).slot a).held = false) :
    ∀ c ∈ [Instr.teLwait t e d a b 0 0 0, .teLwaitf t e d a b 0 0 0, .teLrel t e d a b 0 0 0, .teLkill t e d a b 0 0 0, .teLinfo t e d a 0],
      exec c s = .next ((s.at t).raiseExc e 4 0 0) := by
  have hcond : (!((s.eng e).slot a).held) = true := by rw [hfree]; rfl
  have raises : ∀ {c : Instr} {m : Host.Outcome State Fault Refusal} {k : State → Engine → State}, exec c s = m → m = teOp t e s k →
      k (s.at t) (s.eng e) = (s.at t).raiseExc e 4 0 0 → exec c s = .next ((s.at t).raiseExc e 4 0 0) := fun hc hm hk => by
    rw [hc, hm, teOp_ready h, hk]
  simp only [List.forall_mem_cons, List.not_mem_nil, false_implies, implies_true, and_true]
  refine ⟨?_, ?_, ?_, ?_, ?_⟩
  · exact raises (m := execTeLwait t e d a b 0 0 0 s) rfl rfl ((rForm_plain _ _ _ _).trans (if_pos hcond))
  · exact raises (m := execTeLwaitf t e d a b 0 0 0 s) rfl rfl ((rForm_plain _ _ _ _).trans (if_pos hcond))
  · exact raises (m := execTeLrel t e d a b 0 0 0 s) rfl rfl ((rForm_plain _ _ _ _).trans (if_pos hcond))
  · exact raises (m := execTeLkill t e d a b 0 0 0 s) rfl rfl ((rForm_plain _ _ _ _).trans (if_pos hcond))
  · exact raises (m := execTeLinfo t e d a 0 s) rfl rfl ((if_neg (by decide)).trans (if_pos hcond))

variable (hheld : ((s.eng e).slot a).held = true)
include hheld

theorem exec_teLwait : exec (.teLwait t e d a b 0 0 0) s =
    .next (if ((s.eng e).slot a).rev || !s.converting (s.eng e) ((s.eng e).slot a) then (s.at t).doneWait e else (s.at t).blockEng e 0 0) := by
  have hexec : exec (.teLwait t e d a b 0 0 0) s = execTeLwait t e d a b 0 0 0 s := rfl
  rw [hexec, execTeLwait, teOp_ready h, rForm_plain]
  exact congrArg _ (if_neg (by rw [hheld]; decide))

theorem exec_teLwaitf {l : Line} (hl : s.line ((s.eng e).slot a).line = some l) : exec (.teLwaitf t e d a b 0 0 0) s =
    .next (if ((s.eng e).slot a).rev || !s.converting (s.eng e) ((s.eng e).slot a) then (s.at t).doneWait e
      else if ((s.eng e).reg b).toNat < l.framesIn (s.eng e).tile then (s.at t).doneWait e else (s.at t).blockEng e 0 0) := by
  have hexec : exec (.teLwaitf t e d a b 0 0 0) s = execTeLwaitf t e d a b 0 0 0 s := rfl
  have hl' : (s.at t).line ((s.eng e).slot a).line = some l := hl
  rw [hexec, execTeLwaitf, teOp_ready h, rForm_plain]
  simp only [hheld, hl', Bool.not_true, Bool.false_eq_true, if_false]
  rfl

theorem exec_teLinfo {l : Line} (hl : s.line ((s.eng e).slot a).line = some l) {n : BitVec 16} (hn : n.toNat ≤ 10) :
    exec (.teLinfo t e d a n) s =
      .next ((s.at t).doneEng e 1 fun y => y.setReg d ((s.at t).linfo (s.eng e) ((s.eng e).slot a) l n.toNat)) := by
  have hexec : exec (.teLinfo t e d a n) s = execTeLinfo t e d a n s := rfl
  have hl' : (s.at t).line ((s.eng e).slot a).line = some l := hl
  rw [hexec, execTeLinfo, teOp_ready h]
  simp only [hheld, hl', Bool.not_true, Bool.false_eq_true, if_false, if_neg (Nat.not_lt.2 hn)]

theorem exec_teLkill : exec (.teLkill t e d a b 0 0 0) s =
    .next (if ((s.eng e).slot a).rev then (s.at t).freeSlot e (slotOp ((s.eng e).reg a)) 1
      else ((s.at t).failTile (if ((s.eng e).slot a).pal then 0x03 else 0x04)
        (if ((s.eng e).slot a).pal then 0 else ((s.eng e).reg b).toNat % 256) ((s.eng e).slot a).line (s.eng e).tile).freeSlot e
          (slotOp ((s.eng e).reg a)) 1) := by
  have hexec : exec (.teLkill t e d a b 0 0 0) s = execTeLkill t e d a b 0 0 0 s := rfl
  rw [hexec, execTeLkill, teOp_ready h, rForm_plain]
  simp only [hheld, Bool.not_true, Bool.false_eq_true, if_false]
  cases ((s.eng e).slot a).pal <;> rfl

/-- LREL of a revoked slot. -/
theorem exec_teLrel_revoked (hrev : ((s.eng e).slot a).rev = true) : exec (.teLrel t e d a b 0 0 0) s =
    .next (((s.at t).modEng e fun y => { y with kcnt := 0 }).freeSlot e (slotOp ((s.eng e).reg a)) 1) := by
  have hexec : exec (.teLrel t e d a b 0 0 0) s = execTeLrel t e d a b 0 0 0 s := rfl
  rw [hexec, execTeLrel, teOp_ready h, rForm_plain]
  simp only [hheld, hrev, Bool.not_true, Bool.false_eq_true, if_false, if_true]

/-- LREL where no drift routine runs: two more cycles on a reference line. -/
theorem exec_teLrel {l : Line} (hl : s.line ((s.eng e).slot a).line = some l) (hrev : ((s.eng e).slot a).rev = false)
    (hk : l.kind ≠ 1 ∨ s.track = false) : exec (.teLrel t e d a b 0 0 0) s =
    .next (let s1 := (s.at t).modEng e fun y => { y with kcnt := 0 }
      (if ((s.eng e).slot a).pal then s1.failTile 0x03 0 ((s.eng e).slot a).line (s.eng e).tile
        else s1.releaseTile ((s.eng e).slot a).line (s.eng e).tile).freeSlot e (slotOp ((s.eng e).reg a)) (if l.kind = 1 then 3 else 1)) := by
  have hexec : exec (.teLrel t e d a b 0 0 0) s = execTeLrel t e d a b 0 0 0 s := rfl
  have hl' : ((s.at t).modEng e fun y => { y with kcnt := 0 }).line ((s.eng e).slot a).line = some l := hl
  rw [hexec, execTeLrel, teOp_ready h, rForm_plain]
  simp only [hheld, hrev, hl', Bool.not_true, Bool.false_eq_true, if_false]
  by_cases hkind : l.kind = 1
  · have htrack : ((s.at t).modEng e fun y => { y with kcnt := 0 }).track = false := hk.resolve_left (not_not_intro hkind)
    have hdrift : ∀ word, ((s.at t).modEng e fun y => { y with kcnt := 0 }).driftRoutine (s.eng e).tile l word =
        ((s.at t).modEng e fun y => { y with kcnt := 0 }, 2) := fun word => by rw [State.driftRoutine, htrack]; rfl
    simp only [hkind, hdrift, beq_self_eq_true, if_true]
  · have hne : (l.kind == 1) = false := beq_false_of_ne hkind
    simp only [hne, hkind, Bool.false_eq_true, if_false]

end Slot

/-- A wait that ends. -/
theorem doneWait_went {s : State} {e : Nat} (hb : (s.eng e).blk = none) (t : Time) : EngineWent s ((s.at t).doneWait e) t e ((s.eng e).after 1) := by
  have hy : (s.eng e).after 1 = (s.eng e).done (s.at t).now 1 false id := by rw [Engine.done_unblocked hb]; rfl
  rw [hy]
  exact modEng_went s t e fun x => x.done (s.at t).now 1 false id

/-- The release of a slot. -/
theorem freeSlot_went {s : State} {e : Nat} (hb : (s.eng e).blk = none) (t : Time) (sl cyc : Nat) :
    EngineWent s ((s.at t).freeSlot e sl cyc) t e ((s.eng e).released (s.at t).now sl cyc) := by
  rw [← released_done hb]
  exact modEng_went s t e fun x => x.done (s.at t).now cyc true fun y => { y.beat (s.at t).now with slots := y.slots.set sl LSlot.free }

/-- The release of a slot that counts as a release between restarts. -/
theorem freeSlot_kcnt_went {s : State} {e : Nat} (hb : (s.eng e).blk = none) (t : Time) (sl cyc : Nat) :
    EngineWent s (((s.at t).modEng e fun y => { y with kcnt := 0 }).freeSlot e sl cyc) t e
      { (s.eng e).released (s.at t).now sl cyc with kcnt := 0 } := by
  have hy : { (s.eng e).released (s.at t).now sl cyc with kcnt := 0 } = ({ s.eng e with kcnt := 0 } : Engine).done (s.at t).now cyc true
      fun y => { y.beat (s.at t).now with slots := y.slots.set sl LSlot.free } := (released_done (x := { s.eng e with kcnt := 0 }) hb _ _ _).symm
  rw [hy]
  exact modEng_modEng_went s t e (fun y => { y with kcnt := 0 })
    fun x => x.done (s.at t).now cyc true fun y => { y.beat (s.at t).now with slots := y.slots.set sl LSlot.free }

/-- After a change of the fabric, an update of one engine. -/
theorem EngineWent.afterFab {s s1 : State} {t : Time} {e : Nat} {y : Engine} {f : Fab} (h : EngineWent { s with fab := f } s1 t e y) :
    s1.eng e = y ∧ (∀ i, i ≠ e → s1.eng i = s.eng i) ∧ s1 = { s.at t with te := { s.te with eng := s1.te.eng }, fab := s1.fab } ∧ s1.fab = f := by
  obtain ⟨hrest, hothers, hthis⟩ := h
  have hfab : s1.fab = f := congrArg State.fab hrest
  refine ⟨hthis, hothers, ?_, hfab⟩
  rw [hfab]
  exact hrest

/-- The lines after a change of the fabric and an update of one engine. -/
theorem State.line_of_fab {s s1 : State} {f : Fab} (h1 : s1.fab = f) (hs : s.fab = f) (n : Nat) : s1.line n = s.line n := by
  rw [State.line, State.line, h1, hs]

/-- What the end of a held line leaves: its engine `y`, the line released and marked, and nothing else but the fabric (R214, R221). -/
theorem failed_release {s : State} {t : Time} {e n : Nat} {l : Line} {y : Engine} {c : Instr} (s1 s2 : State) (hexec : exec c s = .next s2)
    (reason code tile : Nat) (hl : s1.line n = some l)
    (hwent : ∀ f, s1.failTile reason code n tile = { s1 with fab := f } → EngineWent { s with fab := f } s2 t e y) :
    Gives c s fun s' => s'.eng e = y ∧ (∀ i, i ≠ e → s'.eng i = s.eng i) ∧
      (∃ l', s'.line n = some l' ∧ l' = { l with rel := l.rel ||| (1#1024 <<< tile), fail := l'.fail } ∧
        (l.items = true → l.first ≤ tile → tile ≤ l.last → l'.fail = l.fail ||| (1#1024 <<< tile))) ∧
      s' = { s.at t with te := { s.te with eng := s'.te.eng }, fab := s'.fab } := by
  obtain ⟨f, hf⟩ := s1.failTile_fabOnly reason code n tile
  obtain ⟨hthis, hothers, hrest, hfab⟩ := EngineWent.afterFab (hwent f hf)
  obtain ⟨l', hline, hl', hmark⟩ := State.failTile_line hl reason code tile
  refine ⟨s2, hexec, hthis, hothers, ⟨l', ?_, hl', hmark⟩, hrest⟩
  rw [← hline]
  exact State.line_of_fab hfab (by rw [hf]) n

/-- Settles O36: what LACQ and LACQE return or wait for, and what each instruction on a slot does with its line. -/
theorem lines : Obligations.Lines := by
  unfold Obligations.Lines
  refine ⟨fun s t e d a b h hb => ?_, fun s t e d a b fl l h hb => ?_⟩
  · intro x now went got waits
    obtain ⟨hgot, hwait⟩ := lines_acquire s t e d h hb (.teLacq t e d a b 0 0 0) false rfl
    obtain ⟨hgotE, hwaitE⟩ := lines_acquire s t e d h hb (.teLacqe t e d a b 0 0 0) true rfl
    refine ⟨fun n l hn hpal => ⟨fun hconv => hgot n l hn hpal hconv, fun hconv => hwait fun n' l' hn' => ?_,
      fun hstart => hgotE n l hn hpal (decide_eq_true hstart), fun hstart => hwaitE fun n' l' hn' => ?_⟩, fun hn => ⟨hwait ?_, hwaitE ?_⟩⟩
    · obtain ⟨rfl, rfl⟩ := Prod.mk.inj (Option.some.inj (hn.symm.trans hn'))
      exact hconv
    · obtain ⟨rfl, rfl⟩ := Prod.mk.inj (Option.some.inj (hn.symm.trans hn'))
      exact decide_eq_false (Nat.not_lt.2 hstart)
    · exact fun n' l' hn' => absurd (hn.symm.trans hn') nofun
    · exact fun n' l' hn' => absurd (hn.symm.trans hn') nofun
  · intro x now q goes waits done info fails
    refine ⟨goes_of_done (exec_teLtest h t d a b fl) (done_setFlag hb _ _ _ _), slot_free_access h t d a b, fun hheld hl => ?_⟩
    have hwent : EngineWent s ((s.at t).blockEng e 0 0) t e waits := blockEng_went hb t 0 0
    have hinfo : ∀ {n : BitVec 16}, n.toNat ≤ 10 → info n ((s.at t).linfo x q l n.toNat) := fun hn =>
      goes_of_done (exec_teLinfo h t d a hheld hl hn) (setReg_done hb _ _ _ _)
    refine ⟨fun hconv => ?_, fun hconv hrev => ?_, ?_, fun hrev hpal hk => ?_, fun hrev => ⟨?_, fun hpal hk => ?_⟩, fun hrev => ?_⟩
    · have hcond : (q.rev || !s.converting x q) = true := by rw [hconv, Bool.not_false, Bool.or_true]
      exact ⟨⟨_, (exec_teLwait h t d a b hheld).trans (congrArg _ (if_pos hcond)), doneWait_went hb t⟩,
        ⟨_, (exec_teLwaitf h t d a b hheld hl).trans (congrArg _ (if_pos hcond)), doneWait_went hb t⟩⟩
    · have hcond : ¬(q.rev || !s.converting x q) = true := by rw [hconv, hrev]; decide
      exact ⟨⟨_, (exec_teLwait h t d a b hheld).trans (congrArg _ (if_neg hcond)), hwent⟩,
        fun hready => ⟨_, (exec_teLwaitf h t d a b hheld hl).trans (congrArg _ ((if_neg hcond).trans (if_pos hready))), doneWait_went hb t⟩,
        fun hready => ⟨_, (exec_teLwaitf h t d a b hheld hl).trans (congrArg _ ((if_neg hcond).trans (if_neg hready))), hwent⟩⟩
    · exact ⟨hinfo (by decide), hinfo (by decide), hinfo (by decide), hinfo (by decide), hinfo (by decide), hinfo (by decide), hinfo (by decide),
        hinfo (by decide), hinfo (by decide), hinfo (by decide), hinfo (by decide)⟩
    · have hpal' : ¬((s.eng e).slot a).pal = true := by
        rw [show ((s.eng e).slot a).pal = false from hpal]
        decide
      have hexec := exec_teLrel h t d a b hheld hl hrev hk
      simp only [if_neg hpal'] at hexec
      obtain ⟨hthis, hothers, hrest, hfab⟩ := EngineWent.afterFab (s := s) (f := (s.releaseTile q.line x.tile).fab)
        (freeSlot_kcnt_went (s := s.releaseTile q.line x.tile) (e := e) hb t (slotOp (x.reg a)) (if l.kind = 1 then 3 else 1))
      refine ⟨_, hexec, hthis, hothers, ?_, fun n hn => ?_, hrest⟩
      · exact (s.line_modLine_same q.line _).trans (congrArg (Option.map _) hl)
      · exact s.line_modLine_ne _ hn
    · have hrev' : ¬((s.eng e).slot a).rev = true := by
        rw [show ((s.eng e).slot a).rev = false from hrev]
        decide
      have hexec := (exec_teLkill h t d a b hheld).trans (congrArg _ (if_neg hrev'))
      refine failed_release (s.at t) _ hexec (if ((s.eng e).slot a).pal then 0x03 else 0x04)
        (if ((s.eng e).slot a).pal then 0 else ((s.eng e).reg b).toNat % 256) x.tile hl fun f hf => ?_
      rw [hf]
      exact freeSlot_went (s := { s with fab := f }) hb t (slotOp (x.reg a)) 1
    · have hexec := exec_teLrel h t d a b hheld hl hrev (.inl hk)
      simp only [if_pos (show ((s.eng e).slot a).pal = true from hpal), if_neg hk] at hexec
      refine failed_release ((s.at t).modEng e fun y => { y with kcnt := 0 }) _ hexec 0x03 0 x.tile hl fun f hf => ?_
      rw [hf]
      exact freeSlot_kcnt_went (s := { s with fab := f }) hb t (slotOp (x.reg a)) 1
    · exact ⟨⟨_, (exec_teLkill h t d a b hheld).trans (congrArg _ (if_pos hrev)), freeSlot_went hb t _ 1⟩,
        ⟨_, exec_teLrel_revoked h t d a b hheld hrev, freeSlot_kcnt_went hb t _ 1⟩⟩

end Machine
end Sys2Proof

/-! The neighbour ports and the record port of an engine (06_tile_engine_isa R222 to R229; 08_result_fabric R284, R288, R299, R304). -/

namespace Sys2Proof
namespace Machine

/-! The neighbour ports. -/

/-- NSEND toward the east or the west. -/
def sendInstr (east : Bool) (t : Time) (e : Nat) (d a b : BitVec 5) : Instr := if east then .teNsende t e d a b 0 0 0 else .teNsendw t e d a b 0 0 0

/-- NRECV from the east or the west. -/
def recvInstr (east : Bool) (t : Time) (e : Nat) (d a b : BitVec 5) : Instr := if east then .teNrecve t e d a b 0 0 0 else .teNrecvw t e d a b 0 0 0

theorem exec_send (east : Bool) (t : Time) (e : Nat) (d a b : BitVec 5) (s : State) :
    exec (sendInstr east t e d a b) s = teSend t e east a 0 0 0 s := by cases east <;> rfl

theorem exec_recv (east : Bool) (t : Time) (e : Nat) (d a b : BitVec 5) (s : State) :
    exec (recvInstr east t e d a b) s = teRecv t e east d 0 0 0 s := by cases east <;> rfl

/-- The neighbour of a tile. -/
def peerOf (east : Bool) (tile : Nat) : Nat := if east then tile + 1 else tile - 1

/-- A move of a word through a FIFO: the FIFO and the engine change, nothing else. -/
theorem setFifo_done {s : State} {e : Nat} (t : Time) (k : Nat) (l : List (Time × W64)) (f : Engine → Engine) :
    let s' := ((s.at t).setFifo k l).doneEng e 1 f
    s'.eng e = (s.eng e).done (s.at t).now 1 true f ∧ (∀ i, i ≠ e → s'.eng i = s.eng i) ∧
      s' = { s.at t with te := { s.te with eng := s'.te.eng, fifo := Tbl.set [] s.te.fifo k l } } :=
  ⟨State.eng_modEng_same _ _ _, fun _ hi => State.eng_modEng_ne _ _ _ _ hi, rfl⟩

section Neighbour

variable {s : State} {e : Nat} (h : EngineReady s e) {c : Instr} {t : Time} {east : Bool}
include h

section Send

variable {a : BitVec 5} (hc : exec c s = teSend t e east a 0 0 0 s)
include hc

theorem send_end (hend : (s.eng e).tile = (if east then 1023 else 0)) :
    exec c s = .next ((s.at t).doneEng e 1 fun y => y.setNst (if east then 3 else 2)) := by
  rw [hc, teSend, teOp_ready h, rForm_plain, if_pos (beq_iff_eq.2 hend)]

theorem send_room (hend : (s.eng e).tile ≠ (if east then 1023 else 0)) (hroom : (s.fifo (fifoKey (s.eng e).tile east)).length < 16) :
    exec c s = .next (((s.at t).setFifo (fifoKey (s.eng e).tile east) (s.fifo (fifoKey (s.eng e).tile east) ++
      [((s.at t).now + (if peerOf east (s.eng e).tile / 32 = (s.eng e).tile / 32 then 8 else 16), (s.eng e).reg a)])).doneEng e 1 id) := by
  have hfifo : ¬16 ≤ ((s.at t).fifo (fifoKey (s.eng e).tile east)).length := Nat.not_le.2 hroom
  rw [hc, teSend, teOp_ready h, rForm_plain, if_neg (mt beq_iff_eq.1 hend)]
  simp only [if_neg hfifo, beq_iff_eq]
  rfl

theorem send_full (hend : (s.eng e).tile ≠ (if east then 1023 else 0)) (hfull : 16 ≤ (s.fifo (fifoKey (s.eng e).tile east)).length) :
    exec c s = .next ((s.at t).blockEng e (if east then 2 else 1) 0) := by
  rw [hc, teSend, teOp_ready h, rForm_plain, if_neg (mt beq_iff_eq.1 hend)]
  exact congrArg _ (if_pos hfull)

end Send

section Receive

variable {d : BitVec 5} (hc : exec c s = teRecv t e east d 0 0 0 s)
include hc

theorem recv_end (hend : (s.eng e).tile = (if east then 1023 else 0)) :
    exec c s = .next ((s.at t).doneEng e 1 fun y => (y.setNst (if east then 1 else 0)).setReg d 0) := by
  rw [hc, teRecv, teOp_ready h, rForm_plain, if_pos (beq_iff_eq.2 hend)]

/-- NRECV away from the ends of the array: by the oldest word of the FIFO from the neighbour. -/
theorem recv_inner (hend : (s.eng e).tile ≠ (if east then 1023 else 0)) :
    exec c s = .next (match s.fifo (fifoKey (peerOf east (s.eng e).tile) (!east)) with
      | (av, v) :: r => if reached (s.at t).now av then
          ((s.at t).setFifo (fifoKey (peerOf east (s.eng e).tile) (!east)) r).doneEng e 1 fun y => y.setReg d v
        else (s.at t).blockEng e (if east then 4 else 3) d
      | [] => (s.at t).blockEng e (if east then 4 else 3) d) := by
  have hkey : (if east then fifoKey ((s.eng e).tile + 1) false else fifoKey ((s.eng e).tile - 1) true) =
      fifoKey (peerOf east (s.eng e).tile) (!east) := by cases east <;> rfl
  rw [hc, teRecv, teOp_ready h, rForm_plain, if_neg (mt beq_iff_eq.1 hend), hkey]
  rfl

end Receive

/-- NB_TIMEOUT of an instruction that has waited long enough. -/
theorem exec_nbTimeout {k : Blk} (hk : (s.eng e).blk = some k) (hlim : k.lim ≤ since (s.at t).now k.t) :
    exec (.nbTimeout t e) s = .next (if k.op == 1 || k.op == 2 then (s.at t).doneEng e 1 fun y => y.setNst (k.op + 1)
      else if k.op == 3 || k.op == 4 then (s.at t).doneEng e 1 fun y => (y.setNst (k.op - 3)).setReg k.d 0 else s.at t) := by
  have hexec : exec (.nbTimeout t e) s = execNbTimeout t e s := rfl
  have hcond : ¬((s.noTicks || (s.eng e).st != 1 || decide (since (s.at t).now k.t < k.lim)) = true) := by
    rw [h.clk, h.st, decide_eq_false (Nat.not_lt.2 hlim)]
    decide
  rw [hexec, execNbTimeout, inRun_running h.run]
  simp only [State.eng_at, hk, State.noTicks_at]
  exact congrArg _ (if_neg hcond)

end Neighbour

/-- The engine whose blocked instruction times out: the cycles it was blocked are counted. -/
theorem done_blocked {x : Engine} {k : Blk} (hk : x.blk = some k) (now : Time) (f : Engine → Engine)
    (hf : ∀ y c, f { y with cyc := c } = { f y with cyc := c }) (hon : ∀ y, (f y).cycOn = y.cycOn) (hcyc : ∀ y, (f y).cyc = y.cyc) :
    x.done now 1 true f = f { x with pc := x.pc + 1, blk := none, cyc := if x.cycOn then x.cyc + 1 + since now k.t / 2 else x.cyc } := by
  have hx : ({ x with pc := x.pc + 1, blk := none, cyc := if x.cycOn then x.cyc + 1 + since now k.t / 2 else x.cyc } : Engine) =
      { ({ x with pc := x.pc + 1, blk := none } : Engine) with cyc := if x.cycOn then x.cyc + 1 + since now k.t / 2 else x.cyc } := rfl
  rw [hx, hf]
  simp only [Engine.done, hk, hon, hcyc, if_true]

/-- The clause of O37 on the neighbour ports. -/
theorem ports_neighbour (s : State) (t : Time) (e : Nat) (d a b : BitVec 5) (east : Bool) (h : EngineReady s e) :
    let x := s.eng e
    let now := (s.at t).now
    let send := if east then Instr.teNsende t e d a b 0 0 0 else .teNsendw t e d a b 0 0 0
    let recv := if east then Instr.teNrecve t e d a b 0 0 0 else .teNrecvw t e d a b 0 0 0
    let goes := fun (c : Instr) (y : Engine) => ∃ s', exec c s = .next s' ∧ EngineWent s s' t e y
    let moves := fun (c : Instr) (k : Nat) (l : List (Time × W64)) (y : Engine) => Gives c s fun s' => s'.eng e = y ∧
      (∀ i, i ≠ e → s'.eng i = s.eng i) ∧ s' = { s.at t with te := { s.te with eng := s'.te.eng, fifo := Tbl.set [] s.te.fifo k l } }
    let waits := fun (op : Nat) (r : BitVec 5) => { x with blk := some { t := now, op := op, d := r, lim := s.regF 0x50000 30 16 * 32 } }
    let out := fifoKey x.tile east
    let peer := if east then x.tile + 1 else x.tile - 1
    let inp := fifoKey peer (!east)
    (x.blk = none → x.tile = (if east then 1023 else 0) → goes send ((x.after 1).setNst (if east then 3 else 2)) ∧
      goes recv (((x.after 1).setNst (if east then 1 else 0)).setReg d 0)) ∧
    (x.blk = none → x.tile ≠ (if east then 1023 else 0) →
      ((s.fifo out).length < 16 →
        moves send out (s.fifo out ++ [(now + (if peer / 32 = x.tile / 32 then 8 else 16), x.reg a)]) (x.after 1)) ∧
      (16 ≤ (s.fifo out).length → goes send (waits (if east then 2 else 1) 0)) ∧
      (∀ av v r, s.fifo inp = (av, v) :: r → (since now av < 2 ^ 63 → moves recv inp r ((x.after 1).setReg d v)) ∧
        (2 ^ 63 ≤ since now av → goes recv (waits (if east then 4 else 3) d))) ∧
      (s.fifo inp = [] → goes recv (waits (if east then 4 else 3) d))) ∧
    (∀ k, x.blk = some k → k.lim ≤ since now k.t →
      let y := { x with pc := x.pc + 1, blk := none, cyc := if x.cycOn then x.cyc + 1 + since now k.t / 2 else x.cyc }
      (k.op = 1 ∨ k.op = 2 → goes (.nbTimeout t e) (y.setNst (k.op + 1))) ∧
      (k.op = 3 ∨ k.op = 4 → goes (.nbTimeout t e) ((y.setNst (k.op - 3)).setReg k.d 0))) := by
  intro x now send recv goes moves waits out peer inp
  have hsend : exec send s = teSend t e east a 0 0 0 s := exec_send east t e d a b s
  have hrecv : exec recv s = teRecv t e east d 0 0 0 s := exec_recv east t e d a b s
  refine ⟨fun hb hend => ⟨goes_of_done (send_end h hsend hend) ?_, goes_of_done (recv_end h hrecv hend) ?_⟩,
    fun hb hend => ⟨fun hroom => ?_, fun hfull => ⟨_, send_full h hsend hend hfull, blockEng_went hb t _ _⟩, fun av v r hq => ?_, fun hq => ?_⟩,
    fun k hk hlim => ⟨fun hop => ?_, fun hop => ?_⟩⟩
  · rw [Engine.done_unblocked hb]
    rfl
  · rw [Engine.done_unblocked hb]
    simp only [Engine.setReg_eq, Engine.setNst, Engine.after]
  · obtain ⟨hthis, hothers, hrest⟩ := setFifo_done (s := s) (e := e) t out
      (s.fifo out ++ [(now + (if peer / 32 = x.tile / 32 then 8 else 16), x.reg a)]) id
    exact ⟨_, send_room h hsend hend hroom, hthis.trans (Engine.done_id hb _ 1), hothers, hrest⟩
  · have hin := recv_inner h hrecv hend
    rw [show s.fifo (fifoKey (peerOf east (s.eng e).tile) (!east)) = (av, v) :: r from hq] at hin
    refine ⟨fun hav => ?_, fun hav => ⟨_, hin.trans (congrArg _ (if_neg ?_)), blockEng_went hb t _ _⟩⟩
    · obtain ⟨hthis, hothers, hrest⟩ := setFifo_done (s := s) (e := e) t inp r fun y => y.setReg d v
      exact ⟨_, hin.trans (congrArg _ (if_pos (decide_eq_true hav))), hthis.trans (setReg_done hb _ 1 d v).symm, hothers, hrest⟩
    · rw [reached, decide_eq_true_eq]
      exact Nat.not_lt.2 hav
  · have hin := recv_inner h hrecv hend
    rw [show s.fifo (fifoKey (peerOf east (s.eng e).tile) (!east)) = [] from hq] at hin
    exact ⟨_, hin, blockEng_went hb t _ _⟩
  · have hcond : (k.op == 1 || k.op == 2) = true := by simpa using hop
    exact goes_of_done ((exec_nbTimeout h hk hlim).trans (congrArg _ (if_pos hcond)))
      (done_blocked hk now (fun y => y.setNst (k.op + 1)) (fun _ _ => rfl) (fun _ => rfl) fun _ => rfl).symm
  · have hno : ¬(k.op == 1 || k.op == 2) = true := by simp; omega
    have hcond : (k.op == 3 || k.op == 4) = true := by simpa using hop
    refine goes_of_done ((exec_nbTimeout h hk hlim).trans (congrArg _ ((if_neg hno).trans (if_pos hcond))))
      (done_blocked hk now (fun y => (y.setNst (k.op - 3)).setReg k.d 0) (fun _ _ => ?_) (fun _ => ?_) fun _ => ?_).symm
    all_goals simp only [Engine.setReg_eq, Engine.setNst]

/-! The record port. -/

/-- A record of four bytes fields packed at 48 and 0: the field at 48. -/
theorem pack_high (a b : Nat) (ha : a < 2 ^ 16) (hb : b < 2 ^ 48) : (pack 64 [(a, 48), (b, 0)]).toNat = a * 2 ^ 48 + b := by
  simp only [pack, List.foldl_cons, List.foldl_nil, BitVec.toNat_ofNat]
  omega

/-- Type and channel of the completed record: those of the staged word 0. -/
theorem portRecord_word0 (w : W64) (ws : List W64) (n tile : Nat) (l : Line) (keep : Bool) :
    recType (portRecord (w :: ws) n tile l keep) = w.toNat / 2 ^ 56 ∧ recCh (portRecord (w :: ws) n tile l keep) = w.toNat / 2 ^ 48 % 16 := by
  have hw := w.isLt
  have hhead : (portRecord (w :: ws) n tile l keep).getD 0 0 = pack 64 [(fld w 63 48, 48), (n % 2 ^ 48, 0)] := rfl
  have hfld : fld w 63 48 = w.toNat / 2 ^ 48 := by simp only [fld]; omega
  have hpack := pack_high (w.toNat / 2 ^ 48) (n % 2 ^ 48) (by omega) (Nat.mod_lt _ (by decide))
  rw [recType, recCh, hhead, hfld, fld, fld, hpack]
  omega

/-- The flag of a trial (RTRY); RSEND has none. -/
def portFlag (trial : Option (BitVec 2)) (v : Bool) (y : Engine) : Engine :=
  match trial with
  | some f => y.setFlag f v
  | none => y

theorem portFlag_done {x : Engine} (hb : x.blk = none) (now : Time) (cyc : Nat) (trial : Option (BitVec 2)) (v : Bool) :
    portFlag trial v (x.after cyc) = x.done now cyc true (portFlag trial v) := by
  cases trial with
  | none => exact (Engine.done_id hb now cyc).symm
  | some f => exact done_setFlag hb now cyc f v

/-- R227: the staged record is well-formed, and its slot is held. -/
def PortLegal (s : State) (x : Engine) (a b : BitVec 5) : Prop :=
  let ad := (x.reg a).toNat
  let len := s.dRead x (ad + 8) 2
  let w0 := s.dRead x ad 8
  0xD000 ≤ ad ∧ ad ≤ 0xDFFF ∧ ad % 8 = 0 ∧ 5 ≤ len ∧ len ≤ 512 ∧ ad + 8 * (len - 1) ≤ 0xE000 ∧ 1 ≤ w0 / 2 ^ 56 ∧ w0 / 2 ^ 56 ≤ 4 ∧
    w0 / 2 ^ 48 % 256 ≤ 15 ∧ (x.slot b).held = true

/-- The staged words of a record. -/
def portWords (s : State) (x : Engine) (ad len : Nat) : List W64 := (List.range (len - 1)).map fun i => BitVec.ofNat 64 (s.dRead x (ad + 8 * i) 8)

/-- No staged word has an uncorrectable error. -/
def PortClean (s : State) (x : Engine) (a : BitVec 5) : Prop :=
  ∀ i, i < s.dRead x ((x.reg a).toNat + 8) 2 - 1 → x.dUe.contains ((x.reg a).toNat / 8 + i) = false

section Port

variable (s : State) (e : Nat) (x : Engine) (keep : Bool) (trial : Option (BitVec 2)) (a b : BitVec 5)

/-- The port's check of R227. -/
theorem portLegal_iff : PortLegal s x a b ↔
    (!(0xD000 ≤ (x.reg a).toNat && (x.reg a).toNat ≤ 0xDFFF) || (x.reg a).toNat % 8 != 0 ||
      0xE000 < (x.reg a).toNat + 8 * (s.dRead x ((x.reg a).toNat + 8) 2 - 1) || s.dRead x ((x.reg a).toNat + 8) 2 < 5 ||
      512 < s.dRead x ((x.reg a).toNat + 8) 2 || s.dRead x (x.reg a).toNat 8 / 2 ^ 56 == 0 || 4 < s.dRead x (x.reg a).toNat 8 / 2 ^ 56 ||
      15 < s.dRead x (x.reg a).toNat 8 / 2 ^ 48 % 256 || !(x.slot b).held) = false := by
  simp only [PortLegal, Bool.or_eq_false_iff, Bool.not_eq_false', Bool.and_eq_true, decide_eq_true_eq, decide_eq_false_iff_not, bne_eq_false_iff_eq,
    beq_eq_false_iff_ne, ne_eq, Nat.not_lt, Nat.one_le_iff_ne_zero]
  tauto

theorem tePort_malformed (h : ¬PortLegal s x a b) : tePort s e x keep trial a b = s.raiseExc e 4 0 ((x.reg a).toNat % 65536) := by
  rw [portLegal_iff, Bool.not_eq_false] at h
  rw [tePort]
  exact if_pos h

/-- A well-formed record without uncorrectable errors. -/
theorem tePort_legal (h : PortLegal s x a b) (hclean : PortClean s x a) : tePort s e x keep trial a b =
    let len := s.dRead x ((x.reg a).toNat + 8) 2
    let q := x.slot b
    if trial.isSome && s.queueFree e < 8 * len then s.doneEng e 1 (portFlag trial false)
    else if q.rev || q.pre then s.doneEng e (2 + len / 2) (portFlag trial true)
    else if s.queueFree e < 8 * len then s.blockEng e (if bit (s.chCfg (s.dRead x (x.reg a).toNat 8 / 2 ^ 48 % 16)) 30 then 0 else 5) 0
    else match s.line q.line with
      | some l => (s.acceptRec e (portRecord (portWords s x (x.reg a).toNat len) q.line x.tile l keep) q.line x.tile).doneEng e (2 + len / 2)
          (portFlag trial true)
      | none => s.doneEng e (2 + len / 2) id := by
  rw [portLegal_iff] at h
  have hany : ((List.range (s.dRead x ((x.reg a).toNat + 8) 2 - 1)).any fun i => x.dUe.contains ((x.reg a).toNat / 8 + i)) = false :=
    List.any_eq_false.2 fun i hi => by rw [hclean i (List.mem_range.1 hi)]; decide
  rw [tePort]
  cases trial <;> exact (if_neg (by rw [h]; decide)).trans (if_neg (by rw [hany]; decide))

end Port

/-- A DEFECT record counts in its line: the lines change, nothing else. -/
theorem countDefect_frame {s : State} {n : Nat} {l : Line} (hl : s.line n = some l) (defect : Bool) : ∃ ls,
    (if defect then s.modLine n fun l => { l with defects := l.defects + 1 } else s) = { s with fab := { s.fab with lines := ls } } ∧
    Tbl.get none ls n = some (if defect then { l with defects := l.defects + 1 } else l) := by
  cases defect with
  | true => exact ⟨_, rfl, (s.line_modLine_same n _).trans (congrArg (Option.map _) hl)⟩
  | false => exact ⟨_, rfl, hl⟩

section Accept

variable {s : State} {e n tile : Nat} {l : Line} {ws : List W64} (hl : s.line n = some l)
include hl

/-- A record that enters the queue of its slot. -/
theorem acceptRec_enters (hcar : s.carries (recCh ws) n = true) (hvoid : s.voided n tile (recCh ws) = false) : ∃ ls,
    s.acceptRec e ws n tile = { s with fab := { s.fab with lines := ls, q := Tbl.set [] s.fab.q e (Tbl.get [] s.fab.q e ++ [s.kernelRec ws]) } } ∧
    Tbl.get none ls n = some (if recType ws = 3 then { l with defects := l.defects + 1 } else l) := by
  obtain ⟨ls, hls, hline⟩ := countDefect_frame hl (recType ws == 3)
  refine ⟨ls, ?_, hline.trans (by simp only [beq_iff_eq])⟩
  have hcar' : ¬(!({ s with fab := { s.fab with lines := ls } } : State).carries (recCh ws) n) = true := by
    rw [show ({ s with fab := { s.fab with lines := ls } } : State).carries (recCh ws) n = true from hcar]
    decide
  have hvoid' : ¬({ s with fab := { s.fab with lines := ls } } : State).voided n tile (recCh ws) = true := by
    rw [show ({ s with fab := { s.fab with lines := ls } } : State).voided n tile (recCh ws) = false from hvoid]
    decide
  rw [State.acceptRec, hls]
  exact (if_neg hcar').trans (if_neg hvoid')

/-- A record of an item that has lost a record before. -/
theorem acceptRec_drops (hcar : s.carries (recCh ws) n = true) (hvoid : s.voided n tile (recCh ws) = true) : ∃ f,
    s.acceptRec e ws n tile = { s with fab := f } ∧ (Tbl.get Chan.fresh f.ch (recCh ws)).drop = (s.chan (recCh ws)).drop + 1 ∧ f.q = s.fab.q := by
  obtain ⟨ls, hls, -⟩ := countDefect_frame hl (recType ws == 3)
  have hcar' : ¬(!({ s with fab := { s.fab with lines := ls } } : State).carries (recCh ws) n) = true := by
    rw [show ({ s with fab := { s.fab with lines := ls } } : State).carries (recCh ws) n = true from hcar]
    decide
  have hvoid' : ({ s with fab := { s.fab with lines := ls } } : State).voided n tile (recCh ws) = true := hvoid
  have hchan := ({ s with fab := { s.fab with lines := ls } } : State).chan_modChan_same (recCh ws) fun c => { c with drop := c.drop + 1 }
  refine ⟨_, ?_, congrArg Chan.drop hchan, rfl⟩
  rw [State.acceptRec, hls]
  exact (if_neg hcar').trans (if_pos hvoid')

/-- A record on a channel that does not carry its line. -/
theorem acceptRec_discards (hcar : s.carries (recCh ws) n = false) : ∃ f,
    s.acceptRec e ws n tile = { s with fab := f } ∧ (Tbl.get Chan.fresh f.ch (recCh ws)).dis = (s.chan (recCh ws)).dis + 1 ∧ f.q = s.fab.q := by
  obtain ⟨ls, hls, -⟩ := countDefect_frame hl (recType ws == 3)
  have hcar' : (!({ s with fab := { s.fab with lines := ls } } : State).carries (recCh ws) n) = true := by
    rw [show ({ s with fab := { s.fab with lines := ls } } : State).carries (recCh ws) n = false from hcar]
    rfl
  have hchan := (({ s with fab := { s.fab with lines := ls } } : State).modLine n fun l => { l with
    lost := l.lost ||| (1#1024 <<< tile) }).chan_modChan_same (recCh ws) fun c => { c with dis := c.dis + 1 }
  refine ⟨_, ?_, congrArg Chan.dis hchan, rfl⟩
  rw [State.acceptRec, hls]
  exact if_pos hcar'

end Accept

/-- The four forms of the record port: the instruction, whether it keeps the staged tile fields, and the flag it sets. -/
def portForms (t : Time) (e : Nat) (d a b : BitVec 5) (fl : BitVec 2) : List (Instr × Bool × Option (BitVec 2)) :=
  [(.teRsend t e d a b 0 0 0, false, none), (.teRsendt t e d a b 0 0 0, true, none), (.teRtry t e d a b 0 0 fl, false, some fl),
   (.teRtryt t e d a b 0 0 fl, true, some fl)]

theorem exec_portForms {s : State} {e : Nat} (h : EngineReady s e) (t : Time) (d a b : BitVec 5) (fl : BitVec 2) :
    ∀ p ∈ portForms t e d a b fl, exec p.1 s = .next (tePort (s.at t) e (s.eng e) p.2.1 p.2.2 a b) := by
  have run : ∀ {c : Instr} {k : State → Engine → State} {p : State}, exec c s = teOp t e s k → k (s.at t) (s.eng e) = p → exec c s = .next p :=
    fun hc hk => by rw [hc, teOp_ready h, hk]
  simp only [portForms, List.forall_mem_cons, List.not_mem_nil, false_implies, implies_true, and_true]
  refine ⟨?_, ?_, ?_, ?_⟩
  · exact run (k := fun s x => rForm s e x false 0 0 0 (tePort s e x false none a b)) rfl (rForm_plain _ _ _ _)
  · exact run (k := fun s x => rForm s e x false 0 0 0 (tePort s e x true none a b)) rfl (rForm_plain _ _ _ _)
  · exact run (k := fun s x => if (0 : BitVec 2) != 0 || (0 : BitVec 2) != 0 then s.raiseExc e 1 0 0 else tePort s e x false (some fl) a b) rfl rfl
  · exact run (k := fun s x => if (0 : BitVec 2) != 0 || (0 : BitVec 2) != 0 then s.raiseExc e 1 0 0 else tePort s e x true (some fl) a b) rfl rfl

theorem leNat_lt (l : List Byte) : leNat l < 256 ^ l.length := by
  induction l with
  | nil => decide
  | cons b r ih =>
    have hb : b.toNat < 256 := b.isLt
    rw [leNat, List.length_cons, pow_succ]
    omega

theorem State.dRead_lt (s : State) (x : Engine) (a n : Nat) : s.dRead x a n < 256 ^ n := by
  have h := leNat_lt ((List.range n).map fun i => s.dByte x (a + i))
  rwa [List.length_map, List.length_range] at h

/-- Type and channel of a legal record: those of its staged word 0. -/
theorem portRecord_fields {s : State} {x : Engine} {ad len : Nat} (hlen : 5 ≤ len) (hch : s.dRead x ad 8 / 2 ^ 48 % 256 ≤ 15) (n tile : Nat)
    (l : Line) (keep : Bool) :
    recType (portRecord (portWords s x ad len) n tile l keep) = s.dRead x ad 8 / 2 ^ 56 ∧
    recCh (portRecord (portWords s x ad len) n tile l keep) = s.dRead x ad 8 / 2 ^ 48 % 256 := by
  obtain ⟨k, hk⟩ : ∃ k, len - 1 = k + 1 := ⟨len - 2, by omega⟩
  have hhead : portWords s x ad len = BitVec.ofNat 64 (s.dRead x ad 8) ::
      ((List.range k).map Nat.succ).map fun i => BitVec.ofNat 64 (s.dRead x (ad + 8 * i) 8) := by
    rw [portWords, hk, List.range_succ_eq_map, List.map_cons, Nat.mul_zero, Nat.add_zero]
  have hw : (BitVec.ofNat 64 (s.dRead x ad 8)).toNat = s.dRead x ad 8 := by
    rw [BitVec.toNat_ofNat]
    exact Nat.mod_eq_of_lt (lt_of_lt_of_eq (s.dRead_lt x ad 8) (by norm_num))
  obtain ⟨htype, hchan⟩ := portRecord_word0 (BitVec.ofNat 64 (s.dRead x ad 8))
    (((List.range k).map Nat.succ).map fun i => BitVec.ofNat 64 (s.dRead x (ad + 8 * i) 8)) n tile l keep
  rw [hhead, htype, hchan, hw]
  omega

section PortForm

variable {s : State} {e : Nat} {c : Instr} {t : Time} {keep : Bool} {trial : Option (BitVec 2)} {a b : BitVec 5}
  (hc : exec c s = .next (tePort (s.at t) e (s.eng e) keep trial a b)) (hlegal : PortLegal s (s.eng e) a b)
  (hclean : PortClean s (s.eng e) a)
include hc hlegal hclean

/-- With room in the queue, a record of a slot that is neither revoked nor PREFAILED is accepted. -/
theorem port_accepts {l : Line} (hroom : 8 * s.dRead (s.eng e) (((s.eng e).reg a).toNat + 8) 2 ≤ s.queueFree e)
    (hrev : ((s.eng e).slot b).rev = false) (hpre : ((s.eng e).slot b).pre = false) (hl : s.line ((s.eng e).slot b).line = some l) :
    exec c s = .next (((s.at t).acceptRec e (portRecord (portWords s (s.eng e) ((s.eng e).reg a).toNat
        (s.dRead (s.eng e) (((s.eng e).reg a).toNat + 8) 2)) ((s.eng e).slot b).line (s.eng e).tile l keep) ((s.eng e).slot b).line
        (s.eng e).tile).doneEng e (2 + s.dRead (s.eng e) (((s.eng e).reg a).toNat + 8) 2 / 2) (portFlag trial true)) := by
  have hno : ¬s.queueFree e < 8 * s.dRead (s.eng e) (((s.eng e).reg a).toNat + 8) 2 := Nat.not_lt.2 hroom
  have hl' : (s.at t).line ((s.eng e).slot b).line = some l := hl
  rw [hc, tePort_legal (s.at t) e (s.eng e) keep trial a b hlegal hclean]
  refine congrArg _ ((if_neg ?_).trans ((if_neg ?_).trans ((if_neg hno).trans ?_)))
  · rw [Bool.and_eq_true, decide_eq_true_eq]
    exact fun hf => hno hf.2
  · rw [hrev, hpre]
    decide
  · rw [hl']
    rfl

/-- A record of a revoked or PREFAILED slot is taken with no effect. -/
theorem port_takes (hroom : 8 * s.dRead (s.eng e) (((s.eng e).reg a).toNat + 8) 2 ≤ s.queueFree e)
    (hlost : ((s.eng e).slot b).rev = true ∨ ((s.eng e).slot b).pre = true) :
    exec c s = .next ((s.at t).doneEng e (2 + s.dRead (s.eng e) (((s.eng e).reg a).toNat + 8) 2 / 2) (portFlag trial true)) := by
  have hno : ¬s.queueFree e < 8 * s.dRead (s.eng e) (((s.eng e).reg a).toNat + 8) 2 := Nat.not_lt.2 hroom
  rw [hc, tePort_legal (s.at t) e (s.eng e) keep trial a b hlegal hclean]
  refine congrArg _ ((if_neg ?_).trans (if_pos ?_))
  · rw [Bool.and_eq_true, decide_eq_true_eq]
    exact fun hf => hno hf.2
  · rw [Bool.or_eq_true]
    exact hlost

/-- Without room a trial clears its flag, and a send blocks. -/
theorem port_full (hfull : s.queueFree e < 8 * s.dRead (s.eng e) (((s.eng e).reg a).toNat + 8) 2) :
    (trial.isSome = true → exec c s = .next ((s.at t).doneEng e 1 (portFlag trial false))) ∧
    (trial = none → ((s.eng e).slot b).rev = false → ((s.eng e).slot b).pre = false → exec c s = .next ((s.at t).blockEng e
      (if bit (s.chCfg (s.dRead (s.eng e) ((s.eng e).reg a).toNat 8 / 2 ^ 48 % 16)) 30 then 0 else 5) 0)) := by
  rw [hc, tePort_legal (s.at t) e (s.eng e) keep trial a b hlegal hclean]
  refine ⟨fun htrial => congrArg _ (if_pos ?_), fun htrial hrev hpre => congrArg _ ((if_neg ?_).trans ((if_neg ?_).trans (if_pos hfull)))⟩
  · rw [Bool.and_eq_true, decide_eq_true_eq]
    exact ⟨htrial, hfull⟩
  · rw [htrial]
    simp
  · rw [hrev, hpre]
    decide

end PortForm

/-- Settles O37: the neighbour ports by the FIFO they meet, the record port by the checks it makes in turn. -/
theorem ports : Obligations.Ports := by
  unfold Obligations.Ports
  refine ⟨ports_neighbour, fun s t e d a b fl l h hb => ?_⟩
  intro x ad len w0 q ch legal clean ws y forms
  have hforms := exec_portForms h t d a b fl
  have each : ∀ {Q : Instr × Bool × Engine → Prop}, (∀ p ∈ portForms t e d a b fl, Q (p.1, p.2.1, portFlag p.2.2 true y)) → ∀ p ∈ forms, Q p := by
    intro Q hQ
    simp only [portForms, List.forall_mem_cons] at hQ
    obtain ⟨hsend, hsendt, htry, htryt, -⟩ := hQ
    simp only [forms, List.forall_mem_cons]
    exact ⟨hsend, hsendt, htry, htryt, List.forall_mem_nil _⟩
  have hy : ∀ trial, portFlag trial true y = x.done (s.at t).now (2 + len / 2) true (portFlag trial true) := fun trial => portFlag_done hb _ _ _ _
  refine ⟨fun hill => ?_, fun hlegal hclean => ⟨fun hroom hrev hpre hl => each fun p hp => ?_, fun hroom hlost => each fun p hp => ?_,
    fun hfull => ?_⟩⟩
  · have hbad : ∀ p ∈ portForms t e d a b fl, exec p.1 s = .next ((s.at t).raiseExc e 4 0 (ad % 65536)) := fun p hp =>
      (hforms p hp).trans (congrArg _ (tePort_malformed (s.at t) e x _ _ a b hill))
    simp only [portForms, List.forall_mem_cons] at hbad
    simp only [List.forall_mem_cons]
    exact ⟨hbad.1, hbad.2.1, hbad.2.2.1, hbad.2.2.2.1, List.forall_mem_nil _⟩
  · have hexec := port_accepts (hforms p hp) hlegal hclean hroom hrev hpre hl
    obtain ⟨htype, hchan⟩ := portRecord_fields (s := s) (x := x) (ad := ad) hlegal.2.2.2.1 hlegal.2.2.2.2.2.2.2.2.1 q.line x.tile l p.2.1
    have hch : recCh (ws p.2.1) = ch := hchan
    have htyp : recType (ws p.2.1) = w0 / 2 ^ 56 := htype
    obtain ⟨s2, hs2, hexec⟩ : ∃ s2, s2 = ((s.at t).acceptRec e (ws p.2.1) q.line x.tile).doneEng e (2 + len / 2) (portFlag p.2.2 true) ∧
        exec p.1 s = .next s2 := ⟨_, rfl, hexec⟩
    have went : ∀ {f : Fab}, (s.at t).acceptRec e (ws p.2.1) q.line x.tile = { s.at t with fab := f } →
        EngineWent { s with fab := f } s2 t e (portFlag p.2.2 true y) := fun {f} hf => by
      rw [hs2, hf]
      exact doneEng_went (s := { s with fab := f }) t (2 + len / 2) _ (portFlag_done hb _ _ _ _)
    refine ⟨fun hcar hvoid => ?_, fun hcar hvoid => ?_, fun hcar => ?_⟩
    · obtain ⟨ls, hacc, hline⟩ := acceptRec_enters (s := s.at t) (e := e) (tile := x.tile) (ws := ws p.2.1) hl (by rw [hch]; exact hcar)
        (by rw [hch]; exact hvoid)
      obtain ⟨hthis, hothers, hrest, hfab⟩ := EngineWent.afterFab (went hacc)
      refine ⟨_, hexec, hthis, hothers, (congrArg (fun f : Fab => Tbl.get [] f.q e) hfab).trans (Tbl.get_set_same _ _ _ _),
        (congrArg (fun f : Fab => Tbl.get none f.lines q.line) hfab).trans (hline.trans (by rw [htyp])), ?_⟩
      have hqs : s2.fab.q = _ := congrArg Fab.q hfab
      have hls : s2.fab.lines = ls := congrArg Fab.lines hfab
      have hfull : s2.fab = { s.fab with q := s2.fab.q, lines := s2.fab.lines } := by rw [hqs, hls, hfab]; rfl
      rw [← hfull]
      exact hrest
    · obtain ⟨f, hacc, hdrop, hq⟩ := acceptRec_drops (s := s.at t) (e := e) (tile := x.tile) (ws := ws p.2.1) hl (by rw [hch]; exact hcar)
        (by rw [hch]; exact hvoid)
      obtain ⟨hthis, -, hrest, hfab⟩ := EngineWent.afterFab (went hacc)
      have hregs := congrArg State.regs hrest
      rw [hch] at hdrop
      exact ⟨_, hexec, hthis, (congrArg (fun f : Fab => (Tbl.get Chan.fresh f.ch ch).drop) hfab).trans hdrop,
        (congrArg Fab.q hfab).trans hq, hregs⟩
    · obtain ⟨f, hacc, hdis, hq⟩ := acceptRec_discards (s := s.at t) (e := e) (tile := x.tile) (ws := ws p.2.1) hl (by rw [hch]; exact hcar)
      obtain ⟨hthis, -, hrest, hfab⟩ := EngineWent.afterFab (went hacc)
      have hregs := congrArg State.regs hrest
      rw [hch] at hdis
      exact ⟨_, hexec, hthis, (congrArg (fun f : Fab => (Tbl.get Chan.fresh f.ch ch).dis) hfab).trans hdis,
        (congrArg Fab.q hfab).trans hq, hregs⟩
  · exact goes_of_done (port_takes (hforms p hp) hlegal hclean hroom hlost) (hy p.2.2)
  · have hf := fun p hp => port_full (hforms p hp) hlegal hclean hfull
    simp only [portForms, List.forall_mem_cons] at hf
    obtain ⟨hsend, hsendt, htry, htryt, -⟩ := hf
    simp only [List.forall_mem_cons]
    have hclear : (x.after 1).setFlag fl false = x.done (s.at t).now 1 true (portFlag (some fl) false) := portFlag_done hb _ 1 (some fl) false
    refine ⟨⟨goes_of_done (htry.1 rfl) hclear, goes_of_done (htryt.1 rfl) hclear, List.forall_mem_nil _⟩, fun hrev hpre =>
      ⟨⟨_, hsend.2 trivial hrev hpre, blockEng_went hb t _ _⟩, ⟨_, hsendt.2 trivial hrev hpre, blockEng_went hb t _ _⟩, List.forall_mem_nil _⟩⟩

end Machine
end Sys2Proof

/-! The stripe monitor, and the loading and starting of engines (01_line_tick R34; 06_tile_engine_isa R191, R218, R232, R234 to R240). -/

namespace Sys2Proof
namespace Machine

/-! Starting engines. -/

/-- The start of an engine: it starts, the FIFOs of its tile are empty, nothing else changes. -/
theorem State.startEng_spec (s : State) (e : Nat) :
    (s.startEng e).eng e = (s.eng e).start s.now ∧ (∀ i, i ≠ e → (s.startEng e).eng i = s.eng i) ∧
      ∃ x f, s.startEng e = { s with te := { s.te with eng := x, fifo := f } } := by
  obtain ⟨f, hf⟩ := (s.modEng e fun x => x.start s.now).emptyFifos_frame (s.eng e).tile
  have heng : ∀ (x : State) i, (x.modTe fun y => { y with fifo := f }).eng i = x.eng i := fun _ _ => rfl
  rw [State.startEng, hf]
  refine ⟨?_, fun i hi => ?_, _, _, rfl⟩
  · rw [heng, State.eng_modEng_same]
  · rw [heng, State.eng_modEng_ne _ _ _ _ hi]

/-- A loop over the engines whose step changes its own engine, by `F`, where `P` holds, which the step keeps. -/
theorem foldl_range_eng {g : State → Nat → State} {F : Nat → Engine → Engine} {P : State → Prop} (hP : ∀ s e, P s → P (g s e))
    (hthis : ∀ s e, P s → (g s e).eng e = F e (s.eng e)) (hothers : ∀ s e i, i ≠ e → (g s e).eng i = s.eng i) {s : State} (hs : P s) (n : Nat) :
    P ((List.range n).foldl g s) ∧ ∀ i, ((List.range n).foldl g s).eng i = if i < n then F i (s.eng i) else s.eng i := by
  induction n with
  | zero => exact ⟨hs, fun i => rfl⟩
  | succ n ih =>
    obtain ⟨hinv, heng⟩ := ih
    rw [List.range_succ, List.foldl_append, List.foldl_cons, List.foldl_nil]
    refine ⟨hP _ _ hinv, fun i => ?_⟩
    rcases Nat.lt_trichotomy i n with hlt | rfl | hgt
    · rw [hothers _ _ _ (by omega), heng, if_pos hlt, if_pos (by omega)]
    · rw [hthis _ _ hinv, heng, if_neg (Nat.lt_irrefl i), if_pos (Nat.lt_succ_self i)]
    · rw [hothers _ _ _ (by omega), heng, if_neg (by omega), if_neg (by omega)]

/-- Only the engines and their FIFOs differ. -/
def EngOnly (s s' : State) : Prop := ∃ x f, s' = { s with te := { s.te with eng := x, fifo := f } }

theorem EngOnly.refl (s : State) : EngOnly s s := ⟨_, _, rfl⟩

theorem EngOnly.trans {s s' s'' : State} (h : EngOnly s s') (h' : EngOnly s' s'') : EngOnly s s'' := by
  obtain ⟨x, f, rfl⟩ := h
  obtain ⟨x', f', rfl⟩ := h'
  exact ⟨x', f', rfl⟩

theorem State.modEng_engOnly (s : State) (e : Nat) (f : Engine → Engine) : EngOnly s (s.modEng e f) := ⟨_, _, rfl⟩

theorem State.startEng_engOnly (s : State) (e : Nat) : EngOnly s (s.startEng e) := (s.startEng_spec e).2.2

/-- An update of an engine and its start. -/
theorem modEng_startEng (s : State) (e : Nat) (f : Engine → Engine) :
    ((s.modEng e f).startEng e).eng e = (f (s.eng e)).start s.now ∧ (∀ i, i ≠ e → ((s.modEng e f).startEng e).eng i = s.eng i) ∧
      EngOnly s ((s.modEng e f).startEng e) := by
  obtain ⟨hthis, hothers, hrest⟩ := (s.modEng e f).startEng_spec e
  refine ⟨?_, fun i hi => (hothers i hi).trans (State.eng_modEng_ne _ _ _ _ hi), (s.modEng_engOnly e f).trans hrest⟩
  rw [hthis, State.eng_modEng_same]
  rfl

/-- RESTART_ALL: every parked slot starts. -/
theorem restartAll_loop (s : State) :
    let s' := (List.range 1056).foldl (fun s e => if (s.eng e).st == 3 then (s.modEng e fun x => { x with kcnt := 0 }).startEng e else s) s
    EngOnly s s' ∧ ∀ i, i < 1056 → s'.eng i = if (s.eng i).st = 3 then ({ s.eng i with kcnt := 0 } : Engine).start s.now else s.eng i := by
  have hloop := foldl_range_eng (P := EngOnly s)
    (g := fun s e => if (s.eng e).st == 3 then (s.modEng e fun x => { x with kcnt := 0 }).startEng e else s)
    (F := fun _ y => if y.st = 3 then ({ y with kcnt := 0 } : Engine).start s.now else y) (fun s' e hs' => ?_) (fun s' e hs' => ?_)
    (fun s' e i hi => ?_) (EngOnly.refl s) 1056
  · exact ⟨hloop.1, fun i hi => (hloop.2 i).trans (if_pos hi)⟩
  · split
    · exact hs'.trans (modEng_startEng s' e _).2.2
    · exact hs'
  · obtain ⟨x, f, rfl⟩ := hs'
    dsimp only
    split
    · next hst => rw [(modEng_startEng _ e _).1, if_pos (beq_iff_eq.1 hst)]
    · next hst => rw [if_neg (mt beq_iff_eq.2 hst)]
  · split
    · exact (modEng_startEng s' e _).2.1 i hi
    · rfl

/-- TE_LOAD.GO: every slot that is not RETIRED takes its load. -/
theorem load_loop (s : State) :
    let s' := (List.range 1056).foldl (fun s e =>
      if (s.eng e).st == 5 then
        s.modEng e fun x => { x with own := some (x.own.getD (s.te.params, s.te.image)) }
      else s.modEng e fun x => x.load) s
    EngOnly s s' ∧ ∀ i, i < 1056 → (s.eng i).st ≠ 5 → s'.eng i = (s.eng i).load := by
  have hloop := foldl_range_eng (P := EngOnly s)
    (g := fun s e => if (s.eng e).st == 5 then s.modEng e fun x => { x with own := some (x.own.getD (s.te.params, s.te.image)) }
      else s.modEng e fun x => x.load)
    (F := fun _ y => if y.st = 5 then { y with own := some (y.own.getD (s.te.params, s.te.image)) } else y.load) (fun s' e hs' => ?_)
    (fun s' e hs' => ?_) (fun s' e i hi => ?_) (EngOnly.refl s) 1056
  · exact ⟨hloop.1, fun i hi hst => (hloop.2 i).trans ((if_pos hi).trans (if_neg hst))⟩
  · split
    · exact hs'.trans (s'.modEng_engOnly _ _)
    · exact hs'.trans (s'.modEng_engOnly _ _)
  · obtain ⟨x, f, rfl⟩ := hs'
    dsimp only
    split
    · next hst => rw [State.eng_modEng_same, if_pos (beq_iff_eq.1 hst)]
    · next hst => rw [State.eng_modEng_same, if_neg (mt beq_iff_eq.2 hst)]
  · split
    · exact State.eng_modEng_ne _ _ _ _ hi
    · exact State.eng_modEng_ne _ _ _ _ hi

/-- The end of a load that no takeover waits for: every loaded slot starts, but an unused spare. -/
theorem loadEnd_loop (s : State) :
    let s' := (List.range 1056).foldl (fun s e =>
      if (s.eng e).st != 0 || ([] : List Nat).contains e then s
      else if e % 33 == 32 && !(s.stripe (e / 33)).used then s.modEng e fun x => { x with st := 4, kcnt := 0 }
      else (s.modEng e fun x => { x with kcnt := 0 }).startEng e) s
    EngOnly s s' ∧ ∀ i, i < 1056 → (s.eng i).st = 0 → i % 33 ≠ 32 → s'.eng i = ({ s.eng i with kcnt := 0 } : Engine).start s.now := by
  have hloop := foldl_range_eng (P := EngOnly s)
    (g := fun s e => if (s.eng e).st != 0 || ([] : List Nat).contains e then s
      else if e % 33 == 32 && !(s.stripe (e / 33)).used then s.modEng e fun x => { x with st := 4, kcnt := 0 }
      else (s.modEng e fun x => { x with kcnt := 0 }).startEng e)
    (F := fun e y => if y.st != 0 || ([] : List Nat).contains e then y
      else if e % 33 == 32 && !(s.stripe (e / 33)).used then { y with st := 4, kcnt := 0 } else ({ y with kcnt := 0 } : Engine).start s.now)
    (fun s' e hs' => ?_) (fun s' e hs' => ?_) (fun s' e i hi => ?_) (EngOnly.refl s) 1056
  · refine ⟨hloop.1, fun i hi hst hsp => (hloop.2 i).trans ((if_pos hi).trans ((if_neg ?_).trans (if_neg ?_)))⟩
    · simp [hst]
    · simp [hsp]
  · split
    · exact hs'
    · split
      · exact hs'.trans (s'.modEng_engOnly _ _)
      · exact hs'.trans (modEng_startEng s' e _).2.2
  · obtain ⟨x, f, rfl⟩ := hs'
    dsimp only
    split
    · rfl
    · split
      · next hsp =>
        rw [State.eng_modEng_same]
        exact (if_pos hsp).symm
      · next hsp =>
        rw [(modEng_startEng _ e _).1]
        exact (if_neg hsp).symm
  · split
    · rfl
    · split
      · exact State.eng_modEng_ne _ _ _ _ hi
      · exact (modEng_startEng s' e _).2.1 i hi

/-! The deadline of a slot (R34, R218). -/

/-- A covering record changes no other line. -/
theorem State.coverCh_line_ne (s : State) {n i : Nat} (hi : i ≠ n) (reason code a b ch : Nat) (l : Line) :
    (s.coverCh true reason code n a b ch l).line i = s.line i := by
  unfold State.coverCh
  extract_lets m s1
  have hs1 : s1.line i = s.line i := s.line_modLine_ne _ hi
  clear_value s1
  split
  · rw [← hs1]
    refine foldl_rel (R := fun s s' => s'.line i = s.line i) (fun _ => rfl) (fun _ _ _ h h' => h'.trans h) (fun s p => ?_) _ _
    exact State.stage_line _ _ i
  · exact hs1

theorem State.failTile_line_ne (s : State) {n i : Nat} (hi : i ≠ n) (reason code t : Nat) : (s.failTile reason code n t).line i = s.line i := by
  have hcover : (s.cover true reason code n t t).line i = s.line i := by
    unfold State.cover
    split
    · rfl
    · split
      · exact foldl_rel (R := fun s s' => s'.line i = s.line i) (fun _ => rfl) (fun _ _ _ h h' => h'.trans h)
          (fun s ch => s.coverCh_line_ne hi ..) _ _
      · rfl
  exact (State.line_modLine_ne _ _ hi).trans hcover

/-- A line a tile has not ended is on record, and names the tile. -/
theorem State.openItem_iff (s : State) (n t : Nat) :
    s.openItem n t = true ↔ ∃ l, s.line n = some l ∧ l.items = true ∧ l.first ≤ t ∧ t ≤ l.last ∧ l.rel.getLsbD t = false := by
  unfold State.openItem
  cases s.line n with
  | none => simp
  | some l => simp [and_assoc]

/-- Ending a line for a tile ends that item, and opens none. -/
theorem State.openItem_failTile {s : State} {n i t : Nat} (reason code : Nat) (h : (s.failTile reason code n t).openItem i t = true) :
    s.openItem i t = true ∧ i ≠ n := by
  rw [State.openItem_iff] at h
  obtain ⟨l, hl, hitems, hlo, hhi, hrel⟩ := h
  by_cases hi : i = n
  · subst hi
    cases hs : s.line i with
    | none =>
      have hcover : s.cover true reason code i t t = s := by unfold State.cover; rw [hs]
      have hmod : (s.failTile reason code i t).line i = none := by
        rw [State.failTile, hcover]
        exact (s.line_modLine_same i _).trans (congrArg (Option.map _) hs)
      exact absurd (hmod.symm.trans hl) nofun
    | some l0 =>
      obtain ⟨l', hl', heq, -⟩ := State.failTile_line hs reason code t
      obtain rfl := Option.some.inj (hl'.symm.trans hl)
      have hbit : t < 1024 := lt_of_le_of_lt hhi l'.last_lt
      rw [heq] at hrel
      simp [hbit] at hrel
  · rw [State.failTile_line_ne s hi] at hl
    exact ⟨(s.openItem_iff i t).2 ⟨l, hl, hitems, hlo, hhi, hrel⟩, hi⟩

/-- A loop that ends lines for a tile ends them all. -/
theorem openItem_foldl_failTile {s : State} {i t : Nat} (reason code : Nat) (ns : List Nat)
    (h : (ns.foldl (fun s n => s.failTile reason code n t) s).openItem i t = true) : s.openItem i t = true ∧ i ∉ ns := by
  induction ns generalizing s with
  | nil => exact ⟨h, List.not_mem_nil⟩
  | cons n ns ih =>
    obtain ⟨hopen, hns⟩ := ih h
    obtain ⟨hs, hn⟩ := State.openItem_failTile reason code hopen
    exact ⟨hs, by simp [hn, hns]⟩

theorem Tbl.mem_of_get_ne {α : Type} {z : α} {t : Tbl α} {k : Nat} (h : Tbl.get z t k ≠ z) : ∃ v, (k, v) ∈ t := by
  induction t with
  | nil => exact absurd rfl h
  | cons p r ih =>
    obtain ⟨j, v⟩ := p
    by_cases hj : k = j
    · exact ⟨v, by rw [hj]; exact List.mem_cons_self⟩
    · obtain ⟨w, hw⟩ := ih (by simpa [Tbl.get, hj] using h)
      exact ⟨w, List.mem_cons_of_mem _ hw⟩

/-- The lines in flight of a tile are those with an item it has not ended. -/
theorem State.mem_openLines (s : State) (n t : Nat) : n ∈ s.openLines t ↔ s.openItem n t = true := by
  unfold State.openLines
  rw [List.mem_filterMap]
  constructor
  · rintro ⟨p, -, hp⟩
    split at hp
    · next hopen => rwa [← Option.some.inj hp]
    · exact absurd hp nofun
  · intro h
    obtain ⟨l, hl, -⟩ := (s.openItem_iff n t).1 h
    obtain ⟨v, hv⟩ := Tbl.mem_of_get_ne (z := none) (t := s.fab.lines) (k := n) (by rw [show Tbl.get none s.fab.lines n = some l from hl]; nofun)
    exact ⟨(n, v), hv, if_pos h⟩

/-! Reads of the master copy (05_calibration R164). -/

/-- `s'` differs from `s` at most in the calibration, the fault log and what logging shows. -/
def CalLogOnly (s s' : State) : Prop := ∃ c f h o, s' = { s with cal := c, flt := f, host := h, out := o }

theorem CalLogOnly.refl (s : State) : CalLogOnly s s := ⟨_, _, _, _, rfl⟩

theorem CalLogOnly.trans {s s' s'' : State} (h : CalLogOnly s s') (h' : CalLogOnly s' s'') : CalLogOnly s s'' := by
  obtain ⟨_, _, _, _, rfl⟩ := h
  obtain ⟨c, f, h, o, rfl⟩ := h'
  exact ⟨c, f, h, o, rfl⟩

theorem State.logEvent_calLogOnly (s : State) (unit code d1 d2 d3 : Nat) : CalLogOnly s (s.logEvent unit code d1 d2 d3) := by
  obtain ⟨f, h, o, heq⟩ := s.logEvent_frame unit code d1 d2 d3
  exact ⟨s.cal, f, h, o, heq⟩

theorem State.readMaster_calLogOnly (s : State) (t : Nat) : CalLogOnly s (s.readMaster t) := by
  unfold State.readMaster
  extract_lets s1
  have hs1 : CalLogOnly s s1 := by
    dsimp only [s1]
    split
    · exact ⟨_, _, _, _, rfl⟩
    · exact .refl _
  clear_value s1
  split
  · exact (hs1.trans ⟨_, _, _, _, rfl⟩).trans (State.logEvent_calLogOnly ..)
  · exact hs1

theorem State.readMasters_calLogOnly (s : State) : CalLogOnly s s.readMasters :=
  foldl_rel CalLogOnly.refl (fun _ _ _ => CalLogOnly.trans) (fun s t => s.readMaster_calLogOnly t) _ _

/-! The supervision commands. -/

/-- No interruption of the CPLL: its domains are not gated. -/
theorem State.gated_of_noTicks {s : State} (h : s.noTicks = false) : s.clk.gated = false := (Bool.or_eq_false_iff.1 h).1

section Supervision

variable {s : State} (hr : s.running = true) (hn : s.noTicks = false) (t : Time) (e : Nat)
include hr hn

theorem exec_blockedHeartbeat {k : Blk} (hst : (s.eng e).st = 1) (hk : (s.eng e).blk = some k) (hlate : 2000 ≤ since (s.at t).now k.t) :
    exec (.blockedHeartbeat t e) s = .next ((s.at t).modEng e fun x => x.beat (s.at t).now) := by
  have hexec : exec (.blockedHeartbeat t e) s = execBlockedHeartbeat t e s := rfl
  have hcond : (!s.noTicks && (s.eng e).st == 1 && decide (2000 ≤ since (s.at t).now k.t)) = true := by
    rw [hn, hst, decide_eq_true hlate]
    rfl
  rw [hexec, execBlockedHeartbeat, inRun_running hr]
  simp only [State.eng_at, hk]
  exact congrArg _ (if_pos hcond)

theorem exec_engineRestartEnd (hst : (s.eng e).st = 2) : exec (.engineRestartEnd t e) s = .next
    (if s.regF 0x50000 15 8 != 0 && s.regF 0x50000 15 8 ≤ (s.eng e).kcnt then
      ((((s.at t).modEng e fun x => { x with st := 3 }).failOpen (s.eng e).tile 0x05 (s.eng e).cause).logEvent 0x03 4 e (s.eng e).cause
        (s.eng e).tile).raise 21
    else ((s.at t).modEng e fun x => { x with rst := satInc 255 x.rst }).startEng e) := by
  have hexec : exec (.engineRestartEnd t e) s = execEngineRestartEnd t e s := rfl
  have hcond : ¬(s.clk.gated || (s.eng e).st != 2) = true := by
    rw [State.gated_of_noTicks hn, hst]
    decide
  rw [hexec, execEngineRestartEnd, inRun_running hr]
  exact congrArg _ (if_neg hcond)

theorem exec_spareLoadEnd (hst : (s.eng e).st = 0) (hsp : e % 33 = 32) (hload : s.te.loadBusy = false) (hused : (s.stripe (e / 33)).used = true) :
    exec (.spareLoadEnd t e) s = .next
      (((((s.at t).startEng e).modEng e fun y => { y with swPend := true, nextLine := s.tick.line.toNat }).modCal
        fun c => { c with acc := Tbl.erase c.acc (s.eng e).tile, drift := c.drift.filter fun p => p.1 / 16 != (s.eng e).tile }).readMaster
          (s.eng e).tile) := by
  have hexec : exec (.spareLoadEnd t e) s = execSpareLoadEnd t e s := rfl
  have hcond : ¬(s.clk.gated || (s.eng e).st != 0 || e % 33 != 32 || s.te.loadBusy || !(s.stripe (e / 33)).used) = true := by
    rw [State.gated_of_noTicks hn, hst, hsp, hload, hused]
    decide
  rw [hexec, execSpareLoadEnd, inRun_running hr]
  exact congrArg _ (if_neg hcond)

end Supervision

theorem exec_slotReleaseDeadline {s : State} (hr : s.running = true) (t : Time) (e : Nat) (hserve : s.serving (s.eng e).tile = some e)
    (hlast : s.tick.last.isSome = true) : exec (.slotReleaseDeadline t e) s = .next
      (let tile := ((s.at t).eng e).tile
      let ns := ((s.at t).openLines tile).filter fun n => n + 2 ≤ (s.at t).lastLine
      (ns.foldl (fun s n => s.failTile 0x01 0 n tile) (s.at t)).modEng e
        fun x => { x with slots := x.slots.map fun q => { q with rev := q.rev || (q.held && ns.contains q.line) } }) := by
  have hexec : exec (.slotReleaseDeadline t e) s = execSlotReleaseDeadline t e s := rfl
  have hcond : ((s.at t).serving ((s.at t).eng e).tile == some e && (s.at t).tick.last.isSome) = true := by
    rw [Bool.and_eq_true, beq_iff_eq]
    exact ⟨hserve, hlast⟩
  rw [hexec, execSlotReleaseDeadline, inRun_running hr]
  exact congrArg _ (if_pos hcond)

theorem exec_teLoadEnd {s : State} (hr : s.running = true) (t : Time) (hbusy : s.te.loadBusy = true) (hwait : s.te.waitLoad = []) :
    exec (.teLoadEnd t) s = .next
      (((List.range 1056).foldl (fun s e =>
        if (s.eng e).st != 0 || ([] : List Nat).contains e then s
        else if e % 33 == 32 && !(s.stripe (e / 33)).used then s.modEng e fun x => { x with st := 4, kcnt := 0 }
        else (s.modEng e fun x => { x with kcnt := 0 }).startEng e)
        ((s.at t).modTe fun x => { x with loadBusy := false, waitLoad := [], image := (s.at t).host.stImage, params := (s.at t).host.stParams })).raise
          21) := by
  have hexec : exec (.teLoadEnd t) s = execTeLoadEnd t s := rfl
  have hb : (s.at t).te.loadBusy = true := hbusy
  have hw : (s.at t).te.waitLoad = [] := hwait
  rw [hexec, execTeLoadEnd, inRun_running hr, if_pos hb, hw]

/-- What a raise of a vector after a loop over the engines leaves. -/
theorem EngOnly.raise {s s' : State} (h : EngOnly s s') {v : Nat} (hv : v < 28) :
    (s'.raise v).te.loadBusy = s.te.loadBusy ∧ (s'.raise v).te.image = s.te.image ∧ (s'.raise v).te.params = s.te.params ∧
      (s'.raise v).host.cause.getLsbD (v - 16) = true ∧ (s'.raise v).regs = s.regs ∧ ∀ i, (s'.raise v).eng i = s'.eng i := by
  obtain ⟨y, f, rfl⟩ := h
  obtain ⟨h, o, hraise, hc⟩ := State.raise_frame { s with te := { s.te with eng := y, fifo := f } } hv
  rw [hraise]
  exact ⟨rfl, rfl, rfl, hc, rfl, fun _ => rfl⟩

/-- A started engine (R191). -/
def Started (now : Time) (y : Engine) : Prop :=
  y.st = 1 ∧ y.pc = 0 ∧ y.w = [] ∧ y.f = 0 ∧ y.lc0 = 0 ∧ y.lc1 = 0 ∧ y.nst = 0 ∧ y.blk = none ∧ y.slots = List.replicate 4 LSlot.free ∧
    y.hbT = now ∧ y.hb = false

theorem started_start (x : Engine) (now : Time) : Started now (x.start now) := ⟨rfl, rfl, rfl, rfl, rfl, rfl, rfl, rfl, rfl, rfl, rfl⟩

/-- Only the calibration and the log differ: the engines and the registers are the same. -/
theorem CalLogOnly.te_regs {s s' : State} (h : CalLogOnly s s') : s'.te = s.te ∧ s'.regs = s.regs := by
  obtain ⟨_, _, _, _, rfl⟩ := h
  exact ⟨rfl, rfl⟩

theorem State.eng_of_te {s s' : State} (h : s'.te = s.te) (i : Nat) : s'.eng i = s.eng i := by rw [State.eng, State.eng, h]

/-- The clause of O38 on the park at K_LIMIT: the slot is PARKED, its open lines end FAILED, and vector 21 is raised. -/
theorem park_spec (s : State) (e cause : Nat) (tile : Nat) :
    let s' := (((s.modEng e fun x => { x with st := 3 }).failOpen tile 0x05 cause).logEvent 0x03 4 e cause tile).raise 21
    (s'.eng e).st = 3 ∧ s'.host.cause.getLsbD 5 = true ∧ s'.regs = s.regs ∧ ∀ i, i ≠ e → s'.eng i = s.eng i := by
  obtain ⟨f, hf⟩ := (s.modEng e fun x => { x with st := 3 }).failOpen_fabOnly tile 0x05 cause
  obtain ⟨g, h, o, hlog⟩ := ((s.modEng e fun x => { x with st := 3 }).failOpen tile 0x05 cause).logEvent_frame 0x03 4 e cause tile
  obtain ⟨h', o', hraise, hc⟩ := State.raise_frame
    ((((s.modEng e fun x => { x with st := 3 }).failOpen tile 0x05 cause).logEvent 0x03 4 e cause tile)) (v := 21) (by decide)
  rw [hlog, hf] at hraise
  dsimp only
  rw [hlog, hf, hraise]
  have hthis := s.eng_modEng_same e fun x => { x with st := 3 }
  exact ⟨congrArg Engine.st hthis, hc, rfl, fun i hi => s.eng_modEng_ne e i (fun x => { x with st := 3 }) hi⟩

theorem rwReg_teCtl : rwReg 0x50000 = some (0x01001000, 0x7FFFFF00, false) := by decide

/-- TE_LOAD.GO that starts a load: the master copies are read, every slot that is not RETIRED takes its load. -/
theorem teLoadWrite_starts {s : State} {v : W32} (hgo : bit v 31 = true) (hden : bit v 29 = false)
    (hst : s.tick.st = 0) (hperm : bit (s.boot.permO &&& s.boot.permS) 0 = true) (hbusy : s.te.loadBusy = false) :
    ∃ x, s.teLoadWrite v = { s.readMasters with te := { s.te with eng := x, fifo := [], loadBusy := true } } ∧
      ∀ i, i < 1056 → (s.eng i).st ≠ 5 → Tbl.get Engine.fresh x i = (s.eng i).load := by
  obtain ⟨⟨x, f, hx⟩, heng⟩ := load_loop s.readMasters
  have hte := s.readMasters_calLogOnly.te_regs.1
  have hcond : ¬(!(s.tick.st == 0 && bit (s.boot.permO &&& s.boot.permS) 0)) = true := by
    rw [hst, hperm]
    decide
  refine ⟨x, ?_, fun i hi h5 => ?_⟩
  · rw [State.teLoadWrite]
    simp only [hden, hgo, hbusy, if_neg hcond, Bool.not_true, Bool.false_eq_true, if_false]
    rw [hx, hte]
    rfl
  · have h := heng i hi (by rwa [State.eng_of_te hte])
    rw [hx, State.eng_of_te hte] at h
    exact h

/-- TE_LOAD.GO that is not taken. -/
theorem teLoadWrite_busy {s : State} {v : W32} (hgo : bit v 31 = true) (hden : bit v 29 = false)
    (hst : s.tick.st = 0) (hperm : bit (s.boot.permO &&& s.boot.permS) 0 = true) (hbusy : s.te.loadBusy = true) : s.teLoadWrite v = s := by
  have hcond : ¬(!(s.tick.st == 0 && bit (s.boot.permO &&& s.boot.permS) 0)) = true := by
    rw [hst, hperm]
    decide
  rw [State.teLoadWrite]
  simp only [hden, hgo, hbusy, if_neg hcond, Bool.not_true, Bool.false_eq_true, if_false, if_true]

theorem teLoadWrite_denied {s : State} {v : W32} (hgo : bit v 31 = true) (hden : bit v 29 = false)
    (hno : s.tick.st ≠ 0 ∨ bit (s.boot.permO &&& s.boot.permS) 0 = false) :
    s.teLoadWrite v = { s with te := { s.te with denied := true } } := by
  have hcond : (!(s.tick.st == 0 && bit (s.boot.permO &&& s.boot.permS) 0)) = true := by
    rcases hno with h | h
    · rw [beq_false_of_ne h]
      rfl
    · rw [h, Bool.and_false]
      rfl
  rw [State.teLoadWrite]
  simp only [hden, hgo, if_pos hcond, Bool.not_true, Bool.false_eq_true, if_false]
  rfl

/-- Settles O38: each supervision command by its guard; the loops over the engines by what one step does to its engine. -/
theorem engineSupervision : Obligations.EngineSupervision := by
  unfold Obligations.EngineSupervision
  intro s t e hr hn x now started
  have hstarted : ∀ y, Started now y → started y := fun _ h => h
  refine ⟨fun k hst hk hlate => ⟨_, exec_blockedHeartbeat hr hn t e hst hk hlate, modEng_went s t e fun x => x.beat now⟩, ?_, ?_, ?_, ?_, ?_, ?_, ?_⟩
  · intro lim hst
    have hexec := exec_engineRestartEnd hr hn t e hst
    refine ⟨fun hrun => ?_, fun hlim hpark => ?_⟩
    · obtain ⟨hthis, hothers, hrest⟩ := modEng_startEng (s.at t) e fun x => { x with rst := satInc 255 x.rst }
      refine ⟨_, hexec.trans (congrArg _ (if_neg ?_)), ?_⟩
      · simp only [Bool.and_eq_true, bne_iff_ne, decide_eq_true_eq, not_and, Nat.not_le]
        exact fun hl => hrun.resolve_left hl
      · dsimp only
        rw [hthis]
        obtain ⟨y, f, heq⟩ := hrest
        refine ⟨hstarted _ (started_start _ _), rfl, rfl, hothers, ?_⟩
        rw [heq]
    · refine ⟨_, hexec.trans (congrArg _ (if_pos ?_)), park_spec (s.at t) e _ _⟩
      simp only [Bool.and_eq_true, bne_iff_ne, decide_eq_true_eq]
      exact ⟨hlim, hpark⟩
  · intro hst hsp hload hused
    refine ⟨_, exec_spareLoadEnd hr hn t e hst hsp hload hused, ?_⟩
    obtain ⟨hthis, hothers, y, f, heq⟩ := (s.at t).startEng_spec e
    have hkeep := State.readMaster_calLogOnly ((((s.at t).startEng e).modEng e fun y =>
      { y with swPend := true, nextLine := s.tick.line.toNat }).modCal
        fun c => { c with acc := Tbl.erase c.acc (s.eng e).tile, drift := c.drift.filter fun p => p.1 / 16 != (s.eng e).tile }) (s.eng e).tile
    obtain ⟨hte, hregs⟩ := hkeep.te_regs
    have heng := State.eng_of_te hte
    have hmine := ((s.at t).startEng e).eng_modEng_same e fun y => { y with swPend := true, nextLine := s.tick.line.toNat }
    rw [hthis] at hmine
    have hmine := (heng e).trans hmine
    rw [hmine]
    refine ⟨hstarted _ (started_start (s.eng e) now), rfl, rfl, fun i hi => ?_, hregs.trans ?_⟩
    · have hne := ((s.at t).startEng e).eng_modEng_ne e i (fun y => { y with swPend := true, nextLine := s.tick.line.toNat }) hi
      exact (heng i).trans (hne.trans (hothers i hi))
    · rw [heq]
      rfl
  · intro v src hreach hlim hall
    have hexec : exec (.restartAll t (goodWr v src)) s = regCmd t 0x50000 (goodWr v src) s fun u s =>
      s.teCtlWrite (goodWr v src) u := rfl
    have hstore := (s.at t).storeReg_unbanked rwReg_teCtl v
    have hlim' : ¬(fld v 30 16 == 0) = true := by simpa using hlim
    obtain ⟨⟨y, f, hrest⟩, heng⟩ := restartAll_loop ((s.at t).storeReg 0x50000 v)
    refine ⟨_, by rw [hexec, regCmd_good (State.alive_of_running hr) _ hreach, State.teCtlWrite, if_neg hlim', if_pos hall], ?_⟩
    refine ⟨?_, fun i hi => ?_⟩
    · rw [hrest, hstore]
      exact (s.at t).reg_putReg_same 0x50000 _
    · have hsame : ((s.at t).storeReg 0x50000 v).eng i = s.eng i := by
        rw [hstore]
        rfl
      have hnow : ((s.at t).storeReg 0x50000 v).now = now := by
        rw [hstore]
        rfl
      have hi' := heng i hi
      rw [hsame, hnow] at hi'
      by_cases hst : (s.eng i).st = 3
      · rw [if_pos hst] at hi' ⊢
        rw [hi']
        exact ⟨hstarted _ (started_start _ _), rfl⟩
      · rw [if_neg hst] at hi' ⊢
        exact hi'
  · intro v src hreach hgo hden
    have hexec : exec (.teLoadGo t (goodWr v src)) s = regCmd t 0x50030 (goodWr v src) s fun v s => s.teLoadWrite v := rfl
    rw [regCmd_good (State.alive_of_running hr) _ hreach] at hexec
    refine ⟨fun hst hperm hbusy => ?_, fun hst hperm hbusy => ?_, fun hno => ?_⟩
    · obtain ⟨y, heq, heng⟩ := teLoadWrite_starts (s := s.at t) hgo hden hst hperm hbusy
      rw [heq] at hexec
      refine ⟨_, hexec, rfl, rfl, heng, (s.at t).readMasters_calLogOnly.te_regs.2, fun hce hue => ?_⟩
      have hread : (s.at t).readMasters = s.at t := by
        rw [State.readMasters, show (s.at t).cal.masterCe = [] from hce, show (s.at t).cal.masterUe = [] from hue]
        rfl
      rw [hread]
    · rw [hexec, teLoadWrite_busy (s := s.at t) hgo hden hst hperm hbusy]
    · rw [hexec, teLoadWrite_denied (s := s.at t) hgo hden hno]
      rfl
  · intro hbusy hwait
    have hexec := exec_teLoadEnd hr t hbusy hwait
    obtain ⟨hrest, heng⟩ := loadEnd_loop
      ((s.at t).modTe fun x => { x with loadBusy := false, waitLoad := [], image := (s.at t).host.stImage, params := (s.at t).host.stParams })
    obtain ⟨hbusy', himage, hparams, hcause, hregs, hsame⟩ := hrest.raise (v := 21) (by decide)
    refine ⟨_, hexec, hbusy', himage, hparams, hcause, hregs, fun i hi hst hsp => ?_⟩
    rw [hsame, heng i hi hst hsp]
    exact hstarted _ (started_start _ _)
  · intro v src hreach hclr
    have hexec : exec (.teCyclesClear t (goodWr v src)) s = regCmd t 0x50028 (goodWr v src) s fun v s => s.teCyclesWrite v := rfl
    rw [hexec, regCmd_good (State.alive_of_running hr) _ hreach, State.teCyclesWrite, if_pos hclr]
    rfl
  · intro hserve hlast
    have hexec := exec_slotReleaseDeadline hr t e hserve hlast
    have hmem : ∀ n, n ∈ ((s.at t).openLines x.tile).filter (fun n => n + 2 ≤ (s.at t).lastLine) ↔
        s.openItem n x.tile = true ∧ n + 2 ≤ s.lastLine := fun n => by
      rw [List.mem_filter, State.mem_openLines, decide_eq_true_eq]
      rfl
    refine ⟨_, hexec, ?_⟩
    dsimp only
    rw [show (s.at t).eng e = x from rfl]
    generalize hns : ((s.at t).openLines x.tile).filter (fun n => n + 2 ≤ (s.at t).lastLine) = ns
    have hmem' : ∀ n, n ∈ ns ↔ s.openItem n x.tile = true ∧ n + 2 ≤ s.lastLine := fun n => by
      rw [← hns]
      exact hmem n
    obtain ⟨fb, hfab⟩ := FabOnly.foldl (fun s n => s.failTile_fabOnly 0x01 0 n x.tile) ns (s.at t)
    have hitem : ∀ n, (ns.foldl (fun s n => s.failTile 0x01 0 n x.tile) (s.at t)).openItem n x.tile = true →
        (s.at t).openItem n x.tile = true ∧ n ∉ ns := fun n h => openItem_foldl_failTile 0x01 0 ns h
    generalize ns.foldl (fun s n => s.failTile 0x01 0 n x.tile) (s.at t) = s1 at hfab hitem ⊢
    have heng : ∀ i, s1.eng i = s.eng i := fun i => by
      rw [hfab]
      rfl
    refine ⟨?_, fun i hi => ?_, fun n hn hlate => ?_, ?_⟩
    · rw [State.eng_modEng_same, heng]
      refine List.map_congr_left fun q _ => ?_
      have hq : ns.contains q.line = (s.openItem q.line x.tile && (s.line q.line).isSome && decide (q.line + 2 ≤ s.lastLine)) := by
        rw [Bool.eq_iff_iff, List.contains_iff_mem, hmem', Bool.and_eq_true, Bool.and_eq_true, decide_eq_true_eq]
        refine ⟨fun ⟨hopen, hl⟩ => ⟨⟨hopen, ?_⟩, hl⟩, fun ⟨⟨hopen, _⟩, hl⟩ => ⟨hopen, hl⟩⟩
        obtain ⟨l, hl, -⟩ := (s.openItem_iff _ _).1 hopen
        rw [hl]
        rfl
      simp only [hq, Bool.and_assoc]
    · exact (State.eng_modEng_ne _ _ _ _ hi).trans (heng i)
    · refine Bool.eq_false_iff.2 fun hopen => ?_
      obtain ⟨hs, hno⟩ := hitem n hopen
      exact hno ((hmem' n).2 ⟨hs, hlate⟩)
    · rw [hfab]
      rfl

end Machine
end Sys2Proof

/-! Writes to registers that only hold their fields (00_scope R12, R14, R18; 01_line_tick R57, R59). -/

namespace Sys2Proof
namespace Machine

theorem State.acceptPW_good (s : State) (off : Nat) (v : W32) (src : BitVec 7) (f : W32 → State) : s.acceptPW off (goodWr v src) f = f v := by
  simp [State.acceptPW, goodWr]

/-- An accepted paired write to a PW register. -/
theorem exec_registerWrite_good {s : State} (ha : s.alive = true) {off : Nat} (hlt : off < 0x300000) (h8 : off % 8 = 0)
    (hm : ¬(0x108000 ≤ off ∧ off < 0x108400)) {x : W32} {t : Time} (hl : (s.at t).live off = some (.pw x)) (h : s.reaches off = true) (v : W32)
    (src : BitVec 7) : exec (.registerWrite t off (goodWr v src)) s = .next ((s.at t).pwWrite off (goodWr v src) v) := by
  have hreg := State.regWrite_pw (w := goodWr v src) hm (v := x) (by rwa [h8, Nat.sub_zero])
  rw [if_neg (by simp [h8])] at hreg
  rw [exec_registerWrite_reaches ha hlt h, hreg]
  exact congrArg _ (State.acceptPW_good ..)

/-- A register that only holds fields: it is PW, and a write to it is a `State.plainWrite` of a value no reject rule names. -/
structure HoldsFields (off : Nat) (mask : W32) (banked : Bool) : Prop where
  place : off < 0x300000 ∧ off % 8 = 0 ∧ ¬(0x108000 ≤ off ∧ off < 0x108400) ∧ off ≠ 0x1F0000 ∧ off % 2 ^ 22 = off
  stored : (rwReg off).map (fun r => r.2) = some (mask, banked)
  legal : ∀ v, valueBad off v = false
  live : ∀ s : State, ∃ v, s.live off = some (.pw v)
  plain : ∀ (s : State) w v, s.pwWrite off w v = s.plainWrite off w v

theorem holdsFields_unbanked : ∀ p ∈ [((0x40020 : Nat), (0xFFFFFFF1 : W32)), (0x104000, 0xFF000000), (0x104028, 0xFFFFFF00),
    (0x1C0000, 0xF0000000)], HoldsFields p.1 p.2 false := by
  simp only [List.forall_mem_cons]
  exact ⟨⟨by decide, by decide, fun _ => rfl, fun _ => ⟨_, rfl⟩, fun _ _ _ => rfl⟩,
    ⟨by decide, by decide, fun _ => rfl, fun _ => ⟨_, rfl⟩, fun _ _ _ => rfl⟩,
    ⟨by decide, by decide, fun _ => rfl, fun _ => ⟨_, rfl⟩, fun _ _ _ => rfl⟩,
    ⟨by decide, by decide, fun _ => rfl, fun _ => ⟨_, rfl⟩, fun _ _ _ => rfl⟩, List.forall_mem_nil _⟩

theorem holdsFields_banked : ∀ p ∈ [((0x10008 : Nat), (0x1FFF : W32)), (0x10018, 0xFFFF), (0x10020, 0xFFFF), (0x10028, 0xFF), (0x10030, 1),
    (0x10068, 0xFFC0FFFF)], HoldsFields p.1 p.2 true := by
  simp only [List.forall_mem_cons]
  exact ⟨⟨by decide, by decide, fun _ => rfl, fun _ => ⟨_, rfl⟩, fun _ _ _ => rfl⟩,
    ⟨by decide, by decide, fun _ => rfl, fun _ => ⟨_, rfl⟩, fun _ _ _ => rfl⟩,
    ⟨by decide, by decide, fun _ => rfl, fun _ => ⟨_, rfl⟩, fun _ _ _ => rfl⟩,
    ⟨by decide, by decide, fun _ => rfl, fun _ => ⟨_, rfl⟩, fun _ _ _ => rfl⟩,
    ⟨by decide, by decide, fun _ => rfl, fun _ => ⟨_, rfl⟩, fun _ _ _ => rfl⟩,
    ⟨by decide, by decide, fun _ => rfl, fun _ => ⟨_, rfl⟩, fun _ _ _ => rfl⟩, List.forall_mem_nil _⟩

section HoldsFields

variable {s : State} {off : Nat} {m : W32} {banked : Bool} (h : HoldsFields off m banked)
include h

theorem HoldsFields.rw_eq : ∃ r, rwReg off = some (r, m, banked) := by
  obtain ⟨⟨r, p⟩, hr, rfl⟩ := Option.map_eq_some_iff.1 h.stored
  exact ⟨r, hr⟩

theorem HoldsFields.exec (ha : s.alive = true) (hr : s.reaches off = true) (t : Time) (v : W32) (src : BitVec 7) :
    exec (.registerWrite t off (goodWr v src)) s = .next ((s.at t).plainWrite off (goodWr v src) v) := by
  obtain ⟨hlt, h8, hm, -, -⟩ := h.place
  obtain ⟨x, hl⟩ := h.live (s.at t)
  rw [exec_registerWrite_good ha hlt h8 hm hl hr, h.plain]

theorem HoldsFields.plainWrite_store (hb : banked = true → s.commitPending = false) (w : Wr) (v : W32) :
    s.plainWrite off w v = s.storeReg off v := by
  obtain ⟨r, hr⟩ := h.rw_eq
  obtain ⟨-, -, -, hne, -⟩ := h.place
  have hopen : ¬(banked && s.commitPending) = true := by
    cases banked with
    | false => exact Bool.false_ne_true
    | true => rw [hb rfl]; decide
  rw [State.plainWrite, hr]
  dsimp only
  rw [if_neg hopen, h.legal, if_neg Bool.false_ne_true, if_neg (by simpa using hne)]

end HoldsFields

theorem State.storeReg_banked (s : State) {off : Nat} {r m : W32} (hrw : rwReg off = some (r, m, true)) (v : W32) :
    s.storeReg off v = { s with
      shadow := Tbl.insert s.shadow off (cellOf (v &&& m)), flt := { s.flt with repair := s.flt.repair.filter (· != off + 2 ^ 31) } } := by
  rw [State.storeReg, hrw]
  rfl

theorem Tbl.map_insert {α β : Type} (f : α → β) (t : Tbl α) (k : Nat) (x : α) :
    (Tbl.insert t k x).map (fun p => (p.1, f p.2)) = Tbl.insert (t.map fun p => (p.1, f p.2)) k (f x) := by
  induction t with
  | nil => rfl
  | cons p r ih =>
    rw [List.map_cons, Tbl.insert, Tbl.insert]
    split
    · rfl
    · split
      · rfl
      · rw [List.map_cons, ih]

/-- The shadow banks after a write into one. -/
theorem State.shadowCell_insert {s s' : State} {off : Nat} {c : RegCell} (hregs : s'.regs = s.regs) (hsh : s'.shadow = Tbl.insert s.shadow off c) :
    s'.shadowCell off = c ∧ ∀ o, o ≠ off → s'.shadowCell o = s.shadowCell o := by
  have hreg : ∀ o, s'.reg o = s.reg o := fun o => by rw [State.reg, State.cell, hregs]; rfl
  refine ⟨?_, fun o ho => ?_⟩
  · rw [State.shadowCell, hsh, Tbl.map_insert, Tbl.get_insert_same]
    rfl
  · rw [State.shadowCell, hsh, Tbl.map_insert, Tbl.get_insert_ne _ _ _ _ _ ho, hreg]
    rfl

/-- Settles O8: the write reaches `State.plainWrite`, which stores the fields, or rejects a banked write while a commit is pending. -/
theorem registerWriteStores : Obligations.RegisterWriteStores := by
  unfold Obligations.RegisterWriteStores
  intro s t v src ha
  refine ⟨fun p hp hr => ?_, fun p hp hr => ⟨fun hc => ?_, fun hc => ?_⟩⟩
  · have h := holdsFields_unbanked p hp
    obtain ⟨r, hrw⟩ := h.rw_eq
    refine ⟨_, (h.exec ha hr t v src).trans (congrArg _ ((h.plainWrite_store nofun _ v).trans (State.storeReg_unbanked _ hrw v))), ?_⟩
    exact ⟨State.reg_putReg_same _ _ _, fun o ho => State.reg_putReg_ne (s.at t) _ _ _ ho, rfl⟩
  · have h := holdsFields_banked p hp
    obtain ⟨r, hrw⟩ := h.rw_eq
    have hopen : (s.at t).commitPending = false := by
      obtain ⟨hcommit, harmed⟩ := hc
      show (s.tick.commit || s.hng.aCommit.isSome) = false
      rw [hcommit, harmed]
      rfl
    refine ⟨_, (h.exec ha hr t v src).trans (congrArg _ ((h.plainWrite_store (fun _ => hopen) _ v).trans (State.storeReg_banked _ hrw v))), ?_⟩
    obtain ⟨hsame, hne⟩ := State.shadowCell_insert (s := s) (s' := { s.at t with
      shadow := Tbl.insert s.shadow p.1 (cellOf (v &&& p.2)), flt := { s.flt with repair := s.flt.repair.filter (· != p.1 + 2 ^ 31) } }) rfl rfl
    exact ⟨(congrArg RegCell.val hsame).trans (RegCell.val_cellOf _), hne, rfl⟩
  · have h := holdsFields_banked p hp
    obtain ⟨r, hrw⟩ := h.rw_eq
    obtain ⟨-, -, -, -, hmod⟩ := h.place
    have hpend : (true && (s.at t).commitPending) = true := by
      show (s.tick.commit || s.hng.aCommit.isSome) = true
      rw [Bool.or_eq_true, Option.isSome_iff_ne_none]
      exact hc
    rw [h.exec ha hr, State.plainWrite, hrw]
    dsimp only
    rw [if_pos hpend, State.reject, hmod]
    rfl

end Machine
end Sys2Proof

/-! Pair watch: the scrub and the repair (14_faults R469 to R471). -/

namespace Sys2Proof
namespace Machine

/-- A repair that is due: the supervisor's copy is put in force, as a write of it would. -/
theorem exec_pairRepair_due {s : State} (ha : s.alive = true) (t : Time) {off : Nat} (hsup : s.flt.sup = none)
    (hdue : s.flt.repair.contains off = true) : exec (.pairRepair t off false) s = .next
      ((((s.at t).modFlt fun f => { f with repair := f.repair.filter (· != off), pairs := f.pairs + 1 }).putReg off (s.cell off).copy).logEvent
        0x01 1 off (s.cell off).pair.toNat 0) := by
  have hexec : exec (.pairRepair t off false) s = execPairRepair t off false s := rfl
  have hcond : ¬(!(s.at t).flt.repair.contains off || (s.at t).flt.sup.isSome) = true := by
    rw [State.at_flt, hsup, hdue]
    decide
  rw [hexec, execPairRepair, timed_alive ha]
  exact congrArg _ (if_neg hcond)

/-- A repair whose place an accepted write has taken. -/
theorem exec_pairRepair_gone {s : State} (ha : s.alive = true) (t : Time) {off : Nat} {sh : Bool}
    (hgone : s.flt.repair.contains (if sh then off + 2 ^ 31 else off) = false) : exec (.pairRepair t off sh) s = .next (s.at t) := by
  have hexec : exec (.pairRepair t off sh) s = execPairRepair t off sh s := rfl
  have hcond : (!(s.at t).flt.repair.contains (if sh then off + 2 ^ 31 else off) || (s.at t).flt.sup.isSome) = true := by
    rw [State.at_flt, hgone]
    rfl
  rw [hexec, execPairRepair, timed_alive ha]
  exact congrArg _ (if_pos hcond)

/-- Settles O9: a repair is a write of the supervisor's copy. -/
theorem pairScrubAndRepair : Obligations.PairScrubAndRepair := by
  unfold Obligations.PairScrubAndRepair
  intro s t off sh ha
  refine ⟨?_, fun hsup hdue => ?_, fun hgone => exec_pairRepair_gone ha t hgone⟩
  · have hexec : exec (.pairScrub t) s = execPairScrub t s := rfl
    rw [hexec, execPairScrub, timed_alive ha]
    rfl
  · refine ⟨_, exec_pairRepair_due ha t hsup hdue, rfl, State.reg_putReg_same _ _ _, fun o ho => ?_⟩
    exact State.reg_putReg_ne ((s.at t).modFlt _) _ _ _ ho

end Machine
end Sys2Proof

/-! The supervisor: lockstep mismatches, restarts and FAULTED (08_result_fabric R289; 14_faults R485, R486). -/

namespace Sys2Proof
namespace Machine

/-! What the device keeps when it goes FAULTED. -/

/-- The FAULTED flag and the restart of the supervisor are kept, and in a FAULTED device the device records that wait for it. -/
structure FaultKept (s s' : State) : Prop where
  faulted : s'.flt.faulted = s.flt.faulted
  sup : s'.flt.sup = s.flt.sup
  paused : s.flt.faulted = true → s'.fab.paused = s.fab.paused

theorem FaultKept.refl (s : State) : FaultKept s s := ⟨rfl, rfl, fun _ => rfl⟩

theorem FaultKept.trans {s s' s'' : State} (h : FaultKept s s') (h' : FaultKept s' s'') : FaultKept s s'' :=
  ⟨h'.faulted.trans h.faulted, h'.sup.trans h.sup, fun hf => (h'.paused (h.faulted.trans hf)).trans (h.paused hf)⟩

/-- An update of neither the faults nor the fabric. -/
theorem faultKept_of_eq {s s' : State} (hflt : s'.flt = s.flt) (hfab : s'.fab = s.fab) : FaultKept s s' :=
  ⟨congrArg Flt.faulted hflt, congrArg Flt.sup hflt, fun _ => congrArg Fab.paused hfab⟩

theorem State.modTick_faultKept (s : State) (f : Tick → Tick) : FaultKept s (s.modTick f) := faultKept_of_eq rfl rfl

theorem State.raise_faultKept (s : State) {v : Nat} (hv : v < 28) : FaultKept s (s.raise v) := by
  obtain ⟨h, o, heq, -⟩ := s.raise_frame hv
  rw [heq]
  exact faultKept_of_eq rfl rfl

theorem State.logEvent_faultKept (s : State) (unit code d1 d2 d3 : Nat) : FaultKept s (s.logEvent unit code d1 d2 d3) := by
  unfold State.logEvent
  extract_lets w1 same
  clear_value same
  cases same with
  | some q => exact ⟨rfl, rfl, fun _ => rfl⟩
  | none =>
    dsimp only
    split
    · exact ⟨rfl, rfl, fun _ => rfl⟩
    · refine FaultKept.trans ?_ (State.raise_faultKept _ (v := 26) (by decide))
      exact ⟨rfl, rfl, fun _ => rfl⟩

theorem State.health_faultKept (s : State) : FaultKept s s.health := by
  unfold State.health
  extract_lets f uns fb bad degr h s1
  have h1 : FaultKept s s1 := ⟨rfl, rfl, fun _ => rfl⟩
  clear_value s1
  split
  · exact (h1.trans (s1.logEvent_faultKept ..)).trans (faultKept_of_eq rfl rfl)
  · split
    · exact (h1.trans (s1.logEvent_faultKept ..)).trans (faultKept_of_eq rfl rfl)
    · exact h1

theorem State.stage_faultKept (s : State) (ws : List W64) : FaultKept s (s.stage ws) := by
  unfold State.stage
  extract_lets q
  split
  · exact .refl s
  · next hf =>
    split
    · exact ⟨rfl, rfl, fun h => absurd h hf⟩
    · exact ⟨rfl, rfl, fun h => absurd h hf⟩

theorem State.stageOn_faultKept (s : State) (ok : State → Nat → Bool) (mk : Nat → List W64) : FaultKept s (s.stageOn ok mk) :=
  foldl_rel FaultKept.refl (fun _ _ _ => FaultKept.trans) (fun s ch => by split; exacts [s.stage_faultKept _, .refl s]) _ _

theorem State.setTck_faultKept (s : State) (st : Nat) : FaultKept s (s.setTck st) := by
  unfold State.setTck
  split
  · exact .refl s
  · exact (s.modTick_faultKept _).trans (State.raise_faultKept _ (v := 16) (by decide))

theorem State.gapLines_faultKept (s : State) (reason line count : Nat) (enc encEnd : B48) (time : Time) (prov : Bool) :
    FaultKept s (s.gapLines reason line count enc encEnd time prov) :=
  FaultKept.trans (s' := s.useFree) (faultKept_of_eq rfl rfl) (State.stageOn_faultKept s.useFree _ _)

theorem State.endGap_faultKept (s : State) (enc : B48) (prov : Bool) : FaultKept s (s.endGap enc prov) := by
  unfold State.endGap
  split
  · exact .refl s
  · dsimp only
    split
    · exact s.modTick_faultKept _
    · exact ((s.modTick_faultKept _).trans (State.gapLines_faultKept ..)).trans (State.modTick_faultKept _ _)

/-- What a step of the calibration that stops leaves: the tick generator, the faults and the fabric. -/
theorem State.stepStop_frame (s : State) (reason : Nat) (pending : Bool) :
    ∃ c h o, s.stepStop reason pending = { s with cal := c, host := h, out := o } := by
  unfold State.stepStop
  split
  · unfold State.stepFail State.calIdle
    extract_lets bs s1
    have hs1 : ∃ c, s1 = { s with cal := c } := by
      dsimp only [s1]
      split <;> exact ⟨_, rfl⟩
    clear_value s1
    obtain ⟨c, rfl⟩ := hs1
    obtain ⟨h, o, heq, -⟩ := State.raise_frame ((({ s with cal := c } : State).calFailed reason 0 0 0).modCal fun c =>
      { c with step := { c.step with ph := 0 }, acc := [] }) (v := 19) (by decide)
    rw [heq]
    exact ⟨_, _, _, rfl⟩
  · exact ⟨_, _, _, rfl⟩

theorem State.setTck_st (s : State) (st : Nat) : (s.setTck st).tick.st = st := by
  unfold State.setTck
  split
  · next h => exact beq_iff_eq.1 h
  · obtain ⟨h, o, heq, -⟩ := State.raise_frame (s.modTick fun k => { k with st := st }) (v := 16) (by decide)
    rw [heq]
    rfl

/-- STOPPED. -/
theorem State.enterStopped_spec (s : State) : FaultKept s s.enterStopped ∧ s.enterStopped.tick.st = 0 := by
  unfold State.enterStopped
  split
  · next h => exact ⟨.refl s, beq_iff_eq.1 h⟩
  · extract_lets s1 s2
    have hs1 : FaultKept s s1 := (s.endGap_faultKept _ _).trans (State.modTick_faultKept _ _)
    obtain ⟨c, h, o, heq⟩ := State.stepStop_frame (s1.stopSeq.setTck 0).lpllOff 8 true
    have hs2 : FaultKept s s2 ∧ s2.tick.st = 0 := by
      dsimp only [s2]
      rw [heq]
      refine ⟨((hs1.trans ?_).trans (s1.stopSeq.setTck_faultKept 0)).trans ?_, s1.stopSeq.setTck_st 0⟩
      · exact faultKept_of_eq rfl rfl
      · exact faultKept_of_eq rfl rfl
    clear_value s2
    split
    · exact ⟨hs2.1.trans ⟨rfl, rfl, fun _ => rfl⟩, hs2.2⟩
    · exact hs2

/-- FAULTED stops the pin engines: their state, and nothing else but them and what they drive. -/
theorem stopPins_loop (s : State) (n : Nat) :
    let s' := (List.range n).foldl (fun s e => (s.modPx e fun p => { p with st := 0, blk := none, seen := [], stopReq := false }).idleOuts e) s
    (∃ x o, s' = { s with px := x, out := o }) ∧ ∀ e, e < n → (s'.pin e).st = 0 := by
  induction n with
  | zero => exact ⟨⟨_, _, rfl⟩, fun e he => absurd he (Nat.not_lt_zero e)⟩
  | succ n ih =>
    obtain ⟨⟨x, o, heq⟩, hpin⟩ := ih
    dsimp only
    rw [List.range_succ, List.foldl_append, List.foldl_cons, List.foldl_nil]
    generalize (List.range n).foldl _ s = s1 at heq hpin ⊢
    have hidle := (s1.modPx n fun p => { p with st := 0, blk := none, seen := [], stopReq := false }).idleOuts_pin n
    obtain ⟨o', hframe⟩ := (s1.modPx n fun p => { p with st := 0, blk := none, seen := [], stopReq := false }).idleOuts_frame n
    obtain ⟨hsame, hne, -⟩ := hidle
    refine ⟨?_, fun e he => ?_⟩
    · rw [hframe, heq]
      exact ⟨_, _, rfl⟩
    · rcases Nat.lt_succ_iff_lt_or_eq.1 he with hlt | rfl
      · rw [hne e (Nat.ne_of_lt hlt), State.pin_modPx_ne _ _ _ _ (Nat.ne_of_lt hlt)]
        exact hpin e hlt
      · rw [hsame, State.pin_modPx_same]
        rfl

/-- FAULTED. -/
theorem State.enterFaulted_spec (s : State) (cause : Nat) :
    (s.enterFaulted cause).flt.faulted = true ∧ (s.enterFaulted cause).flt.sup = none ∧ (s.enterFaulted cause).tick.st = 0 ∧
      (s.enterFaulted cause).fab.paused = [] ∧ ∀ e, e < 8 → ((s.enterFaulted cause).pin e).st = 0 := by
  unfold State.enterFaulted
  extract_lets s1 s2 s3
  have hs2 : FaultKept s1 s2 := s1.health_faultKept.trans s1.health.enterStopped_spec.1
  have hst : s2.tick.st = 0 := s1.health.enterStopped_spec.2
  obtain ⟨⟨x, o, heq⟩, hpin⟩ := stopPins_loop s2 8
  have hs3 : FaultKept s2 s3 ∧ s3.tick = s2.tick := by
    dsimp only [s3]
    rw [heq]
    exact ⟨faultKept_of_eq rfl rfl, rfl⟩
  have hkeep := (hs2.trans hs3.1).trans (s3.logEvent_faultKept 0x02 2 cause 0 0)
  obtain ⟨f, h, o', hlog⟩ := s3.logEvent_frame 0x02 2 cause 0 0
  refine ⟨hkeep.faulted, hkeep.sup, ?_, hkeep.paused rfl, fun e he => ?_⟩
  · rw [hlog, hs3.2, hst]
  · rw [hlog]
    exact hpin e he

/-! The end of a restart. -/

/-- The queue entry of a device record staged now. -/
def State.devRec (s : State) (ws : List W64) : QRec :=
  { ws := ws, dl := (s.arrayNow + BitVec.ofNat 64 (32 * s.regF 0x100000 7 0)).setWidth 32, cls := false, sent := 0, lb := 0, t := s.now,
    dev := true, ue := false }

/-- Device records staged while the supervisor runs: they enter its queue in order, and nothing else changes. -/
theorem stage_loop {s : State} (hf : s.flt.faulted = false) (hsup : s.flt.sup = none) (rs : List QRec) :
    ∃ q, rs.foldl (fun s r => s.stage r.ws) s = { s with fab := { s.fab with q := q } } ∧
      Tbl.get [] q 1056 = Tbl.get [] s.fab.q 1056 ++ rs.map (fun r => s.devRec r.ws) ∧ ∀ i, i ≠ 1056 → Tbl.get [] q i = Tbl.get [] s.fab.q i := by
  induction rs generalizing s with
  | nil => exact ⟨s.fab.q, rfl, (List.append_nil _).symm, fun _ _ => rfl⟩
  | cons r rs ih =>
    have hstage : s.stage r.ws = { s with
        fab := { s.fab with q := Tbl.set [] s.fab.q 1056 (Tbl.get [] s.fab.q 1056 ++ [s.devRec r.ws]) } } := by
      rw [State.stage, hf, hsup]
      rfl
    rw [List.foldl_cons, hstage]
    obtain ⟨q, heq, hq, hne⟩ := ih (s := { s with
      fab := { s.fab with q := Tbl.set [] s.fab.q 1056 (Tbl.get [] s.fab.q 1056 ++ [s.devRec r.ws]) } }) hf hsup
    refine ⟨q, heq, hq.trans ?_, fun i hi => (hne i hi).trans (Tbl.get_set_ne _ _ _ _ _ _ hi)⟩
    rw [Tbl.get_set_same, List.append_assoc]
    rfl

section Supervisor

variable {s : State} (ha : s.alive = true) (t : Time)
include ha

theorem exec_lockstepMismatch (hf : s.flt.faulted = false) : exec (.lockstepMismatch t) s = .next
    (let s1 := (s.at t).modFlt fun f => { f with lastMis := some (s.at t).now }
    if (match s.flt.lastMis with
      | some x => decide (since (s.at t).now x < 2000000000)
      | none => false) then s1.enterFaulted 1
    else s1.modFlt fun f => { f with sup := some s1.now, sups := f.sups + 1 }) := by
  have hexec : exec (.lockstepMismatch t) s = execLockstepMismatch t s := rfl
  have hcond : ¬(s.at t).flt.faulted = true := by
    rw [State.at_flt, hf]
    exact Bool.false_ne_true
  rw [hexec, execLockstepMismatch, timed_alive ha]
  exact congrArg _ (if_neg hcond)

theorem exec_stateMemoryUe (hf : s.flt.faulted = false) :
    exec (.stateMemoryUe t) s = .next (({ s.at t with flt := { s.flt with ue := s.flt.ue + 1 } } : State).enterFaulted 2) := by
  have hexec : exec (.stateMemoryUe t) s = execStateMemoryUe t s := rfl
  have hcond : ¬((s.at t).modFlt fun f => { f with ue := f.ue + 1 }).flt.faulted = true := by
    rw [show ((s.at t).modFlt fun f => { f with ue := f.ue + 1 }).flt.faulted = s.flt.faulted from rfl, hf]
    exact Bool.false_ne_true
  rw [hexec, execStateMemoryUe, timed_alive ha]
  exact congrArg _ (if_neg hcond)

theorem exec_supervisorRestartTimeout {x : Time} (hsup : s.flt.sup = some x) (hlate : 60000 ≤ since (s.at t).now x) :
    exec (.supervisorRestartTimeout t) s = .next ((s.at t).enterFaulted 3) := by
  have hexec : exec (.supervisorRestartTimeout t) s = execSupervisorRestartTimeout t s := rfl
  rw [hexec, execSupervisorRestartTimeout, timed_alive ha]
  rw [State.at_flt, hsup]
  exact congrArg _ (if_pos hlate)

theorem exec_supervisorRestartEnd {x : Time} (hsup : s.flt.sup = some x) : exec (.supervisorRestartEnd t) s = .next
    (let s1 := s.fab.paused.foldl (fun s r => s.stage r.ws)
      (((s.at t).modFlt fun f => { f with sup := none }).modFab fun f => { f with paused := [] })
    (s1.logEvent 0x02 1 (since s1.now x / 2) 0 0).replay) := by
  have hexec : exec (.supervisorRestartEnd t) s = execSupervisorRestartEnd t s := rfl
  rw [hexec, execSupervisorRestartEnd, timed_alive ha]
  rw [State.at_flt, hsup]
  rfl

end Supervisor

/-- Settles O10: FAULTED by what it keeps and stops; the end of a restart by the records it stages. -/
theorem supervisorFaults : Obligations.SupervisorFaults := by
  unfold Obligations.SupervisorFaults
  refine ⟨?_, State.enterFaulted_spec⟩
  intro s t ha now faults
  refine ⟨fun hf hlast => ?_, fun x hf hlast hsoon => ?_, fun hf => exec_stateMemoryUe ha t hf,
    fun x hsup hlate => exec_supervisorRestartTimeout ha t hsup hlate, fun x hsup hf => ?_⟩
  · rw [exec_lockstepMismatch ha t hf]
    refine congrArg _ (if_neg ?_)
    split
    · next x hx => simpa using hlast x hx
    · exact Bool.false_ne_true
  · refine (exec_lockstepMismatch ha t hf).trans (congrArg _ (if_pos ?_))
    rw [hlast]
    exact decide_eq_true hsoon
  · obtain ⟨q, heq, hq, hne⟩ := stage_loop (s := ((s.at t).modFlt fun f => { f with sup := none }).modFab fun f => { f with paused := [] })
      hf rfl s.fab.paused
    have hexec := exec_supervisorRestartEnd ha t hsup
    dsimp only at hexec
    rw [heq] at hexec
    exact ⟨_, hexec, rfl, hq, hne⟩

end Machine
end Sys2Proof

/-! The event log in flash (14_faults R473, R491, R492). -/

namespace Sys2Proof
namespace Machine

/-- A byte put into a memory. -/
theorem memPut_get_in (d : Byte) (bs : List Byte) (m : Mem) (a i : Nat) (h : i < bs.length) : Tbl.get d (memPut d m a bs) (a + i) = bs.getD i 0 := by
  induction bs generalizing m a i with
  | nil => exact absurd h (Nat.not_lt_zero i)
  | cons b bs ih =>
    rw [memPut]
    cases i with
    | zero => rw [memPut_get_out _ _ _ _ _ _ (by omega), Nat.add_zero, Tbl.get_set_same, List.getD_cons_zero]
    | succ i =>
      rw [show a + (i + 1) = a + 1 + i by omega, ih _ _ _ (by simpa using h), List.getD_cons_succ]

theorem length_bytesLE {n : Nat} (k : Nat) (w : BitVec n) : (bytesLE k w).length = k := by simp [bytesLE]

theorem length_logBytes (boot : Nat) (e : LogEnt) : (logBytes boot e).length = 64 := by simp [logBytes, length_bytesLE]

/-- The page of the oldest entry is programmed: no overflow entry is due and no sector is erased ahead. -/
theorem exec_logEntryWrite_good {s : State} (ha : s.alive = true) (t : Time) {q : Nat} {r : List Nat} {e : LogEnt} (hp : s.flt.pend = q :: r)
    (he : Tbl.get none s.flt.log (q % 256) = some e) (hover : s.flt.overN = 0) (hplace : (s.flt.lpos + 1) % 1024 ≠ 768) :
    exec (.logEntryWrite t true) s = .next
      (((s.at t).flashPut (logAddr s.flt.lpos) (logBytes s.flt.boot e)).modFlt fun f => { f with pend := r, lpos := (s.flt.lpos + 1) % 262144 }) := by
  have hexec : exec (.logEntryWrite t true) s = execLogEntryWrite t true s := rfl
  have hahead : ¬((s.flt.lpos + 1) % 1024 == 768) = true := mt beq_iff_eq.1 hplace
  rw [hexec, execLogEntryWrite, timed_alive ha, State.at_flt, hp]
  dsimp only
  rw [he]
  dsimp only
  rw [if_neg hahead]
  refine congrArg _ ((if_neg (show ¬(!true) = true from Bool.false_ne_true)).trans (if_pos ?_))
  rw [show (((s.at t).flashPut (logAddr s.flt.lpos) (logBytes s.flt.boot e)).modFlt fun f =>
    { f with pend := r, lpos := (s.flt.lpos + 1) % 262144 }).flt.overN = s.flt.overN from rfl, hover]
  rfl

/-- The page fails its read-back: the log goes on in the next sector. -/
theorem exec_logEntryWrite_bad {s : State} (ha : s.alive = true) (t : Time) {q : Nat} {r : List Nat} (hp : s.flt.pend = q :: r) :
    exec (.logEntryWrite t false) s = .next
      (((s.at t).eraseLog s.flt.lpos).modFlt fun f => { f with lpos := (s.flt.lpos / 1024 * 1024 + 1024) % 262144 }) := by
  have hexec : exec (.logEntryWrite t false) s = execLogEntryWrite t false s := rfl
  rw [hexec, execLogEntryWrite, timed_alive ha, State.at_flt, hp]
  rfl

/-- Settles O11: the 64 bytes of the entry are put at its place. -/
theorem eventLogWrite : Obligations.EventLogWrite := by
  unfold Obligations.EventLogWrite
  intro s t q r e ha hp he p
  refine ⟨fun hover hplace => ⟨_, exec_logEntryWrite_good ha t hp he hover hplace, rfl, fun i hi => ?_, fun a hout => ?_⟩,
    ⟨_, exec_logEntryWrite_bad ha t hp, rfl, rfl⟩⟩
  · exact memPut_get_in _ _ _ _ _ (by rwa [length_logBytes])
  · exact memPut_get_out _ _ _ _ _ _ (by rwa [length_logBytes])

end Machine
end Sys2Proof

/-! Mailbox commands (13_boot_security R463 to R466). -/

namespace Sys2Proof
namespace Machine

/-- A device in RUN with a palette save in progress. -/
def savingState : State := { State.reset with
  boot := { State.reset.boot with stage := 8 }
  clk := { State.reset.clk with cLock := true, aLock := true }
  host := { State.reset.host with memEn := true }
  cal := { State.reset.cal with saveBusy := true, saving := some (0, 1) } }

/-- FLASH_READ with GO, as a value of SEC_MBX_CMD. -/
def flashReadGo : W32 := 0x84000000

/-- A mailbox command with GO that is taken notes whether a palette save began before it (13_boot_security R455). -/
theorem mbxWrite_mbxAfter {s : State} {w : Wr} {v : W32} (hmbx : s.boot.mbx = none) (hst : s.boot.stage = 8) (hgo : bit v 31 = true)
    (hop : fld v 30 25 ≠ 9) (fail : List (Nat × BitVec 256 × BitVec 256)) (re : Option (BitVec 256 × BitVec 256)) :
    (s.mbxWrite w v fail re).boot.mbxAfter = (s.storeReg 0x202000 v).cal.saving.isSome := by
  have hfree : ¬(bit v 31 && (s.boot.mbx.isSome || !(s.boot.stage == 8 || s.boot.stage == 0x10 || s.boot.stage == 0x11))) = true := by
    rw [hgo, hmbx, hst]
    decide
  have hgo' : ¬(!bit v 31) = true := by
    rw [hgo]
    decide
  rw [State.mbxWrite]
  dsimp only
  rw [if_neg hfree, if_neg hgo', if_neg (by simp [hop])]
  rfl

/-- Refutes O12: a command taken while a palette save is in progress sets the mark that it waits for that save, which the clause on GO says it keeps. -/
theorem not_mailbox : ¬ Obligations.Mailbox := by
  unfold Obligations.Mailbox
  rintro ⟨h, -⟩
  obtain ⟨hcmds, -⟩ := h savingState 0 flashReadGo 0 [] 0 0 (by decide) (by decide) rfl (.inl rfl) (by decide)
  obtain ⟨s', hnext, bs, res, burn, heq, -⟩ := hcmds (.flashRead 0 (goodWr flashReadGo 0), 2) (by simp) (by decide)
  have hexec : exec (.flashRead 0 (goodWr flashReadGo 0)) savingState = regCmd 0 0x202000 (goodWr flashReadGo 0) savingState
    fun v s => s.mbxWrite (goodWr flashReadGo 0) v [] none := rfl
  rw [regCmd_good (by decide) _ (by decide)] at hexec
  obtain rfl := Host.Outcome.next.inj (hexec.symm.trans hnext)
  have hkept : ((savingState.at 0).mbxWrite (goodWr flashReadGo 0) flashReadGo [] none).boot.mbxAfter = false := by
    rw [heq]
    rfl
  rw [mbxWrite_mbxAfter rfl rfl (by decide) (by decide)] at hkept
  have hsaving : ((savingState.at 0).storeReg 0x202000 flashReadGo).cal.saving.isSome = true := by decide
  exact absurd (hsaving.symm.trans hkept) (by decide)

end Machine
end Sys2Proof

/-! The resets (13_boot_security R438, R439, R444, R464; 14_faults R489, R490; 15_thermal R508). -/

namespace Sys2Proof
namespace Machine

/-- No mailbox command is cut short. -/
theorem State.cutMailbox_idle {s : State} (h : s.boot.mbx = none) : s.cutMailbox = s := by rw [State.cutMailbox, h]

/-- What a reset shows: the pins that leave their level, and READY_N released. -/
def State.resetOuts (s : State) : List Out :=
  ((List.range 36).filter fun p => s.pinLevel p != 2).map (fun p => Out.pin p 2) ++ ((if s.flt.ready then [.ready false] else []) ++ s.out)

theorem State.cleared_dropPins (s : State) : s.dropPins.cleared = { s.cleared with out := s.resetOuts } := by
  rw [State.dropPins, State.resetOuts]
  by_cases h : s.flt.ready = true
  · rw [if_pos h, if_pos h]
    rfl
  · rw [if_neg h, if_neg h]
    rfl

/-- PCIE_PERST_N is high: the 100 ms of R309 do not start anew. -/
theorem State.relFrom_perst {s : State} (h : s.host.perst = true) : s.relFrom = s := by rw [State.relFrom, if_pos h]

section Resets

variable {s : State} (t : Time)

theorem exec_modResetNAssert (hmbx : s.boot.mbx = none) (hrst : s.boot.rst = false) :
    exec (.modResetNAssert t) s = .next { s.cleared with out := s.resetOuts, boot := { s.cleared.boot with rst := true } } := by
  have hexec : exec (.modResetNAssert t) s = execModResetNAssert t s := rfl
  have hcond : ¬s.boot.rst = true := by
    rw [hrst]
    exact Bool.false_ne_true
  rw [hexec, execModResetNAssert, if_neg hcond, State.cutMailbox_idle hmbx, State.cleared_dropPins]
  rfl

theorem exec_powerLoss (hmbx : s.boot.mbx = none) {vddio : Bool} (hkeep : s.th.shdn = false ∨ vddio = false) :
    exec (.powerLoss t vddio) s = .next { s.cleared with out := s.resetOuts, boot := { s.cleared.boot with power := false } } := by
  have hexec : exec (.powerLoss t vddio) s = execPowerLoss t vddio s := rfl
  have hcond : ¬(vddio && s.th.shdn) = true := by
    rcases hkeep with h | h
    · rw [h, Bool.and_false]
      exact Bool.false_ne_true
    · rw [h]
      exact Bool.false_ne_true
  rw [hexec, execPowerLoss, State.cutMailbox_idle hmbx, State.cleared_dropPins]
  exact congrArg _ (if_neg hcond)

theorem exec_modResetNRelease (sel : BitVec 2) (hrst : s.boot.rst = true) (hperst : s.host.perst = true) (hshdn : s.th.shdn = false) :
    exec (.modResetNRelease t sel) s = .next { s with
      boot := { s.boot with rst := false, power := true, sel := sel.toNat, strap := sel.toNat, reb := false, todo := strapSlots sel.toNat,
                            relT := s.now } } := by
  have hexec : exec (.modResetNRelease t sel) s = execModResetNRelease t sel s := rfl
  have hcond : ¬(!s.boot.rst) = true := by
    rw [hrst]
    exact Bool.false_ne_true
  rw [hexec, execModResetNRelease, if_neg hcond]
  dsimp only
  rw [State.relFrom_perst (s := s.modBoot _) hperst]
  refine congrArg _ (if_neg ?_)
  rw [State.modBoot_th, hshdn]
  exact Bool.false_ne_true

theorem exec_internalResetRelease {how : Nat} (hint : s.boot.intRst = some how) (hrst : s.boot.rst = false) (hpower : s.boot.power = true)
    (hperst : s.host.perst = true) (h1 : 1 ≤ how) (h3 : how ≤ 3) : exec (.internalResetRelease t) s = .next { s with
      boot := { s.boot with intRst := none, strap := how, reb := true, todo := if how = 3 then [] else [how], relT := s.now } } := by
  have hexec : exec (.internalResetRelease t) s = execInternalResetRelease t s := rfl
  have hcond : ¬(s.boot.rst || !s.boot.power) = true := by
    rw [hrst, hpower]
    exact Bool.false_ne_true
  rw [hexec, execInternalResetRelease, hint]
  dsimp only
  rw [if_neg hcond, State.relFrom_perst (s := s.modBoot _) hperst, if_neg (by simp; omega), if_neg (by simp; omega)]
  by_cases h : how = 3
  · subst h
    rfl
  · rw [if_neg h]
    refine congrArg _ ?_
    rw [State.modBoot, if_neg (mt beq_iff_eq.1 h)]
    rfl

end Resets

/-- Settles O13: a reset is `State.cleared` with what it shows; a release samples the straps. -/
theorem resetsClear : Obligations.ResetsClear := by
  unfold Obligations.ResetsClear
  intro s t sel vddio hmbx
  exact ⟨exec_modResetNAssert t hmbx, exec_powerLoss t hmbx, exec_modResetNRelease t sel,
    fun how hint hrst hpower hperst h1 h3 => exec_internalResetRelease t hint hrst hpower hperst h1 h3, fun _ => rfl, rfl, rfl, rfl, rfl, rfl⟩

end Machine
end Sys2Proof

/-! The boot stages (13_boot_security R441, R444, R459, R461). -/

namespace Sys2Proof
namespace Machine

/-- A command of the stage the boot is in. -/
theorem inStage_at {s : State} (ha : s.alive = true) (hshut : s.th.shut = 0) {n : Nat} (hst : s.boot.stage = n) (t : Time) (f : State → State) :
    inStage t n s f = .next (f (s.at t)) := by
  have hcond : ((s.at t).boot.stage == n && (s.at t).th.shut == 0) = true := by
    rw [State.at_boot, State.at_th, hst, hshut, beq_self_eq_true]
    rfl
  rw [inStage, timed_alive ha]
  exact congrArg _ (if_pos hcond)

/-- A table filled in ascending order. -/
theorem Tbl.get_foldl_set {α : Type} [DecidableEq α] (z : α) (g : Nat → α) (t : Tbl α) (n k : Nat) :
    Tbl.get z ((List.range n).foldl (fun m e => Tbl.set z m e (g e)) t) k = if k < n then g k else Tbl.get z t k := by
  induction n with
  | zero => rfl
  | succ n ih =>
    rw [List.range_succ, List.foldl_append, List.foldl_cons, List.foldl_nil]
    by_cases h : k = n
    · rw [h, Tbl.get_set_same, if_pos (Nat.lt_succ_self n)]
    · rw [Tbl.get_set_ne _ _ _ _ _ _ h, ih]
      exact if_congr (by omega) rfl rfl

/-! What the stages leave unchanged. -/

/-- The boot state and the locks of the clocks are kept. -/
structure BootKept (s s' : State) : Prop where
  boot : s'.boot = s.boot
  cLock : s'.clk.cLock = s.clk.cLock
  gated : s'.clk.gated = s.clk.gated

theorem BootKept.refl (s : State) : BootKept s s := ⟨rfl, rfl, rfl⟩

theorem BootKept.trans {s s' s'' : State} (h : BootKept s s') (h' : BootKept s' s'') : BootKept s s'' :=
  ⟨h'.boot.trans h.boot, h'.cLock.trans h.cLock, h'.gated.trans h.gated⟩

theorem BootKept.foldl {α : Type} {g : State → α → State} (hg : ∀ s a, BootKept s (g s a)) (l : List α) (s : State) : BootKept s (l.foldl g s) :=
  foldl_rel BootKept.refl (fun _ _ _ => BootKept.trans) hg _ _

theorem State.logEvent_bootKept (s : State) (unit code d1 d2 d3 : Nat) : BootKept s (s.logEvent unit code d1 d2 d3) := by
  obtain ⟨f, h, o, heq⟩ := s.logEvent_frame unit code d1 d2 d3
  rw [heq]
  exact ⟨rfl, rfl, rfl⟩

/-- HEALTH and READY_N: the fault state, what is logged and what is shown. -/
theorem State.health_frame (s : State) : ∃ f h o, s.health = { s with flt := f, host := h, out := o } := by
  unfold State.health
  extract_lets f uns fb bad degr h s1
  have hs1 : ∃ f, s1 = { s with flt := f } := ⟨_, rfl⟩
  clear_value s1
  obtain ⟨f, rfl⟩ := hs1
  split
  · obtain ⟨f', h', o', heq⟩ := State.logEvent_frame ({ s with flt := f } : State) 0x0B 1 h 0 0
    rw [heq]
    exact ⟨_, _, _, rfl⟩
  · split
    · obtain ⟨f', h', o', heq⟩ := State.logEvent_frame ({ s with flt := f } : State) 0x0B 2 0 0 0
      rw [heq]
      exact ⟨_, _, _, rfl⟩
    · exact ⟨_, _, _, rfl⟩

theorem State.health_bootKept (s : State) : BootKept s s.health := by
  obtain ⟨f, h, o, heq⟩ := s.health_frame
  rw [heq]
  exact ⟨rfl, rfl, rfl⟩

theorem State.putReg_bootKept (s : State) (off : Nat) (v : W32) : BootKept s (s.putReg off v) := ⟨rfl, rfl, rfl⟩
theorem State.modTe_bootKept (s : State) (f : Te → Te) : BootKept s (s.modTe f) := ⟨rfl, rfl, rfl⟩
theorem State.modBank_bootKept (s : State) (t : Nat) (f : Bank → Bank) : BootKept s (s.modBank t f) := ⟨rfl, rfl, rfl⟩

theorem State.storeReg_bootKept (s : State) (off : Nat) (v : W32) : BootKept s (s.storeReg off v) := by
  unfold State.storeReg
  split
  · exact .refl s
  · split
    · exact ⟨rfl, rfl, rfl⟩
    · exact ⟨rfl, rfl, rfl⟩

theorem State.loadCanvas_bootKept (s : State) : BootKept s s.loadCanvas := by
  unfold State.loadCanvas
  extract_lets sq word len s1 pins s2 k img
  have hs1 : BootKept s s1 := by
    refine BootKept.foldl (fun s base => ?_) _ _
    exact (BootKept.foldl (g := fun s i => s.putReg (base + 0x20 * (i / 4) + 8 * (i % 4)) (word (i / 4) (i % 4)))
      (fun s i => s.putReg_bootKept _ _) (List.range 256) s).trans (State.putReg_bootKept _ _ _)
  have hs2 : BootKept s1 s2 := by
    dsimp only [s2]
    split
    · exact .refl s1
    · refine BootKept.foldl (fun s e => BootKept.foldl (fun s i => ?_) _ _) _ _
      split
      · exact s.storeReg_bootKept _ _
      · split
        · exact .refl s
        · exact s.storeReg_bootKept _ _
  exact (hs1.trans hs2).trans (State.modTe_bootKept _ _)

theorem State.startEng_bootKept (s : State) (e : Nat) : BootKept s (s.startEng e) := by
  obtain ⟨x, f, heq⟩ := s.startEng_engOnly e
  rw [heq]
  exact ⟨rfl, rfl, rfl⟩

theorem State.modEng_bootKept (s : State) (e : Nat) (f : Engine → Engine) : BootKept s (s.modEng e f) := ⟨rfl, rfl, rfl⟩

/-- Without a slot that failed its self-test no tile is taken over. -/
theorem State.loadSlots_bootKept (s : State) : BootKept s (s.loadSlots []) := by
  unfold State.loadSlots
  extract_lets s1 s2
  have hs1 : BootKept s s1 := by
    refine BootKept.foldl (fun s e => ?_) _ _
    dsimp only
    split
    · exact s.modEng_bootKept _ _
    · split
      · exact (s.modEng_bootKept _ _).trans (State.modEng_bootKept _ _ _)
      · exact (s.modEng_bootKept _ _).trans (State.startEng_bootKept _ _)
  clear_value s1
  have hs2 : BootKept s1 s2 := by
    have hnone : (List.range 1056).filter (fun e => ([] : List Nat).contains e && e % 33 != 32) = [] := by
      rw [List.filter_eq_nil_iff]
      exact fun e _ => Bool.false_ne_true
    dsimp only [s2]
    rw [hnone]
    exact .refl s1
  clear_value s2
  refine (hs1.trans hs2).trans (BootKept.foldl (fun s k => ?_) _ _)
  dsimp only
  split
  · exact s.startEng_bootKept _
  · exact .refl s

/-- Every run is nominal: no slice is retired, and a bank that boots FAILED is only logged. -/
theorem State.bootBank_bootKept (s : State) (t : Nat) : BootKept s (s.bootBank t []) := by
  unfold State.bootBank
  extract_lets b0 res s1 s2
  have hpass : ∀ r ∈ res, r.2 = .pass 0 32768 := by
    intro r hr
    obtain ⟨i, -, rfl⟩ := List.mem_map.1 hr
    rfl
  clear_value res
  have hs1 : BootKept s s1 := by
    dsimp only [s1]
    clear s1 s2
    clear_value b0
    induction res generalizing s with
    | nil => exact .refl s
    | cons r res ih =>
      obtain ⟨hr, hres⟩ := List.forall_mem_cons.1 hpass
      rw [List.foldl_cons, hr]
      exact BootKept.trans (State.modBank_bootKept s t _) (ih _ hres)
  have hs2 : BootKept s1 s2 := State.modBank_bootKept s1 t Bank.boot
  clear_value s2
  split
  · exact (hs1.trans hs2).trans (State.logEvent_bootKept _ _ _ _ _ _)
  · exact hs1.trans hs2

/-! The change to RUN. -/

theorem State.idleOuts_bootKept (s : State) (e : Nat) : BootKept s (s.idleOuts e) := by
  obtain ⟨o, heq⟩ := s.idleOuts_frame e
  rw [heq]
  exact ⟨rfl, rfl, rfl⟩

theorem State.modPx_bootKept (s : State) (e : Nat) (f : Px → Px) : BootKept s (s.modPx e f) := ⟨rfl, rfl, rfl⟩

theorem State.pxRun_bootKept (s : State) (e pc : Nat) (keep : Bool) : BootKept s (s.pxRun e pc keep false) :=
  (s.modPx_bootKept e fun p => p.started pc keep s.now).trans (State.idleOuts_bootKept _ e)

theorem State.setTck_bootKept (s : State) (st : Nat) : BootKept s (s.setTck st) := by
  unfold State.setTck
  split
  · exact .refl s
  · obtain ⟨h, o, heq, -⟩ := State.raise_frame (s.modTick fun k => { k with st := st }) (v := 16) (by decide)
    rw [heq]
    exact ⟨rfl, rfl, rfl⟩

theorem State.modTick_bootKept (s : State) (f : Tick → Tick) : BootKept s (s.modTick f) := ⟨rfl, rfl, rfl⟩
theorem State.modSeq_bootKept (s : State) (f : Seq → Seq) : BootKept s (s.modSeq f) := ⟨rfl, rfl, rfl⟩
theorem State.modTh_bootKept (s : State) (f : Therm → Therm) : BootKept s (s.modTh f) := ⟨rfl, rfl, rfl⟩
theorem State.modFlt_bootKept (s : State) (f : Flt → Flt) : BootKept s (s.modFlt f) := ⟨rfl, rfl, rfl⟩
theorem State.minPeriod_bootKept (s : State) : BootKept s s.minPeriod := by
  unfold State.minPeriod
  exact s.modTick_bootKept _
theorem State.freeze_bootKept (s : State) : BootKept s s.freeze := by
  unfold State.freeze
  exact ⟨rfl, rfl, rfl⟩
theorem State.openGap_bootKept (s : State) (reason : Nat) : BootKept s (s.openGap reason) := ⟨rfl, rfl, rfl⟩
theorem State.emit_bootKept (s : State) (o : Out) : BootKept s (s.emit o) := ⟨rfl, rfl, rfl⟩

/-- The line PLL starts to lock: of the clocks only it is changed. -/
theorem State.lpllStart_bootKept (s : State) : BootKept s (s.lpllStart.modClk fun c => { c with refQ := [] }) := ⟨rfl, rfl, rfl⟩

theorem State.startMode_bootKept (s : State) : BootKept s s.startMode := by
  unfold State.startMode
  split
  · exact .refl s
  · extract_lets s1
    have hs1 : BootKept s s1 := (s.modSeq_bootKept _).trans (State.modTick_bootKept _ _)
    clear_value s1
    split
    · exact (hs1.trans (s1.setTck_bootKept 2)).trans (State.minPeriod_bootKept _)
    · exact (((hs1.trans (s1.setTck_bootKept 1)).trans (State.lpllStart_bootKept _)).trans (State.openGap_bootKept _ _)).trans
        (State.minPeriod_bootKept _)

/-- The change to RUN. -/
theorem State.enterRun_spec (s : State) : s.enterRun.boot.stage = 8 ∧ s.enterRun.boot.err = 0 ∧ s.enterRun.clk.cLock = s.clk.cLock ∧
    s.enterRun.clk.gated = s.clk.gated := by
  unfold State.enterRun
  extract_lets ms s1 s2 s3 s4 s5
  have hs1 : s1.boot.stage = 8 ∧ s1.boot.err = 0 ∧ s1.clk = s.clk := ⟨rfl, rfl, rfl⟩
  clear_value s1
  have hs2 : BootKept s1 s2 := by
    refine BootKept.foldl (fun s e => ?_) _ _
    split
    · exact s.pxRun_bootKept _ _ _
    · exact s.idleOuts_bootKept _
  clear_value s2
  have hs3 : BootKept s2 s3 := s2.modTh_bootKept _
  clear_value s3
  have hs4 : BootKept s3 s4 := (s3.modFlt_bootKept _).trans (State.health_bootKept _)
  clear_value s4
  have hs5 : BootKept s4 s5 := by
    dsimp only [s5]
    split
    · exact s4.emit_bootKept _
    · exact .refl s4
  clear_value s5
  have hkept := ((((((hs2.trans hs3).trans hs4).trans hs5).trans s5.minPeriod_bootKept).trans (State.freeze_bootKept _)).trans
    (State.startMode_bootKept _))
  obtain ⟨hst, herr, hclk⟩ := hs1
  exact ⟨(congrArg Boot.stage hkept.boot).trans hst, (congrArg Boot.err hkept.boot).trans herr, hkept.cLock.trans (congrArg Clk.cLock hclk),
    hkept.gated.trans (congrArg Clk.gated hclk)⟩

/-- The stage READOUT ends in RUN: no slice and no slot fails, and the canvas has no presets. -/
theorem exec_readoutStageEnd {s : State} (ha : s.alive = true) (hshut : s.th.shut = 0) (t : Time) (hst : s.boot.stage = 7) (href : s.refFirst ≠ 3)
    (hsec : s.sec 8 = 0) : ∃ s1 : State, exec (.readoutStageEnd t [] []) s = .next s1.enterRun ∧ s1.clk.cLock = true ∧ s1.clk.gated = false := by
  have hexec : exec (.readoutStageEnd t [] []) s = execReadoutStageEnd t [] [] s := rfl
  have href' : ¬((s.at t).refFirst == 3) = true := mt beq_iff_eq.1 href
  rw [hexec, execReadoutStageEnd, inStage_at ha hshut hst, if_neg href']
  extract_lets s1 s2 s3 p
  have h1 : s1.boot = s.boot ∧ s1.clk.cLock = true ∧ s1.clk.gated = false := ⟨rfl, rfl, rfl⟩
  clear_value s1
  have h3 : BootKept s1 s3 := (s1.loadCanvas_bootKept.trans (State.loadSlots_bootKept _)).trans
    (BootKept.foldl (fun s t => s.bootBank_bootKept t) _ _)
  clear_value s3
  have hboot : s3.boot = s.boot := h3.boot.trans h1.1
  have hsec3 : s3.sec 8 = 0 := by
    rw [← hsec]
    unfold State.sec
    rw [hboot]
  have hp : p = (s3, false) := by
    dsimp only [p]
    rw [State.presets]
    exact if_pos (beq_iff_eq.2 hsec3)
  rw [hp]
  refine ⟨s3, congrArg _ ?_, h3.cLock.trans h1.2.1, h3.gated.trans h1.2.2⟩
  dsimp only
  rw [if_neg Bool.false_ne_true, if_pos (beq_iff_eq.2 hsec3)]

/-! The stages before. -/

/-- Entries `l` logged by a condition. -/
theorem logs_frame (s : State) (l : List Nat) (g : State → Nat → State) (hg : ∀ s e, ∃ f h o, g s e = { s with flt := f, host := h, out := o }) :
    ∃ f h o, l.foldl g s = { s with flt := f, host := h, out := o } := by
  refine foldl_rel (R := fun s s' => ∃ f h o, s' = { s with flt := f, host := h, out := o }) (fun s => ⟨_, _, _, rfl⟩) ?_ hg l s
  rintro s s' s'' ⟨f, h, o, rfl⟩ ⟨f', h', o', rfl⟩
  exact ⟨f', h', o', rfl⟩

theorem State.findLog_frame (s : State) : ∃ f, s.findLog = { s with flt := f } := by
  unfold State.findLog
  exact ⟨_, rfl⟩

/-- The flash stage: the log is found and what happened before is logged, then the ward begins or the device waits. -/
theorem exec_flashStageEnd {s : State} (ha : s.alive = true) (hshut : s.th.shut = 0) (t : Time) (hst : s.boot.stage = 2) :
    ∃ f h o, let s1 : State := { s.at t with flt := f, host := h, out := o }
      exec (.flashStageEnd t true) s = .next (match s.boot.todo with
        | [] =>
          if s.boot.strap == 3 && !s.boot.reb then
            if s1.keyPresent 0 || s1.keyPresent 1 then s1.maintWait 0x0F else s1.modBoot fun b => { b with stage := 0x11, err := 0 }
          else s1.maintWait 0
        | sl :: _ => ((s1.modBoot fun b => { b with slot := sl, fall := decide (0 < b.tries), tries := b.tries + 1 }).modRes
            fun r => { r with tried := true }).modBoot fun b => { b with stage := 3 }) := by
  have hexec : exec (.flashStageEnd t true) s = execFlashStageEnd t true s := rfl
  rw [hexec, execFlashStageEnd, inStage_at ha hshut hst]
  extract_lets s1 s2 s3 s4
  have hs4 : ∃ f h o, s4 = { s1 with flt := f, host := h, out := o } := by
    obtain ⟨f, hs2⟩ : ∃ f, s2 = { s1 with flt := f } := s1.findLog_frame
    clear_value s2
    obtain ⟨f', h, o, hs3⟩ : ∃ f h o, s3 = { s2 with flt := f, host := h, out := o } := by
      refine logs_frame s2 _ (fun s e => if s.otpState e == 3 then s.logEvent 0x09 1 e 0 0
        else if s.otpState e == 2 then s.logEvent 0x09 2 e 0 0 else s) fun s e => ?_
      split
      · exact s.logEvent_frame ..
      · split
        · exact s.logEvent_frame ..
        · exact ⟨_, _, _, rfl⟩
    clear_value s3
    dsimp only [s4]
    split
    · obtain ⟨f'', h', o', hlog⟩ := s3.logEvent_frame 0x09 3 (s3.boot.slot - 1) s3.boot.err 0
      rw [hlog, hs3, hs2]
      exact ⟨_, _, _, rfl⟩
    · rw [hs3, hs2]
      exact ⟨_, _, _, rfl⟩
  clear_value s4
  obtain ⟨f, h, o, rfl⟩ := hs4
  exact ⟨f, h, o, rfl⟩

/-- The result of the slot is all that changes. -/
theorem State.modRes_frame (s : State) (f : SlotRes → SlotRes) : ∃ x y, s.modRes f = { s with boot := { s.boot with resA := x, resB := y } } := by
  unfold State.modRes State.modBoot
  dsimp only
  split
  · exact ⟨s.boot.resA, _, rfl⟩
  · exact ⟨_, s.boot.resB, rfl⟩

/-- The attempt ends and no slot is left. -/
theorem State.failSlot_last {s : State} (h : s.boot.todo.drop 1 = []) (err : Nat) :
    (s.failSlot err).boot.stage = 0x10 ∧ (s.failSlot err).boot.err = err := by
  unfold State.failSlot
  extract_lets s1 k el
  have htodo : s1.boot.todo.isEmpty = true := by
    obtain ⟨x, y, hres⟩ := s.modRes_frame fun r => { r with err := BitVec.ofNat 8 err }
    dsimp only [s1]
    rw [hres]
    exact List.isEmpty_iff.2 h
  rw [if_pos htodo]
  exact ⟨rfl, rfl⟩

/-- The ward stage: the slot's results, and its versions and canvas or its error. -/
theorem exec_wardEnd {s : State} (ha : s.alive = true) (hshut : s.th.shut = 0) (t : Time) (hst : s.boot.stage = 3) :
    ∃ x y, let w := s.ward s.boot.slot
      let s1 : State := { s.at t with boot := { s.boot with resA := x, resB := y } }
      exec (.wardEnd t true) s = .next (if w.err != 0 then s1.failSlot w.err
        else s1.modBoot fun b => { b with
          stage := 4, fw := w.fw, owner := w.owner, canvVer := w.canvVer, permO := w.perm, body := w.body, bodyLen := w.bodyLen,
          digs := w.digs }) := by
  have hexec : exec (.wardEnd t true) s = execWardEnd t true s := rfl
  have hward : (s.at t).ward (s.at t).boot.slot = s.ward s.boot.slot := rfl
  obtain ⟨x, y, hres⟩ := (s.at t).modRes_frame fun r => { r with
    vend := (s.ward s.boot.slot).vend, own := (s.ward s.boot.slot).own, canv := (s.ward s.boot.slot).canv }
  refine ⟨x, y, ?_⟩
  rw [hexec, execWardEnd, inStage_at ha hshut hst]
  dsimp only
  rw [hward, hres]
  rfl

/-- Only registers in force differ. -/
def RegsOnly (s s' : State) : Prop := ∃ r, s' = { s with regs := r }

theorem RegsOnly.refl (s : State) : RegsOnly s s := ⟨_, rfl⟩

theorem RegsOnly.trans {s s' s'' : State} (h : RegsOnly s s') (h' : RegsOnly s' s'') : RegsOnly s s'' := by
  obtain ⟨r, rfl⟩ := h
  obtain ⟨r', rfl⟩ := h'
  exact ⟨r', rfl⟩

theorem RegsOnly.foldl {α : Type} {g : State → α → State} (hg : ∀ s a, RegsOnly s (g s a)) (l : List α) (s : State) : RegsOnly s (l.foldl g s) :=
  foldl_rel RegsOnly.refl (fun _ _ _ => RegsOnly.trans) hg _ _

theorem State.putReg_regsOnly (s : State) (off : Nat) (v : W32) : RegsOnly s (s.putReg off v) := ⟨_, rfl⟩

theorem State.setFld_regsOnly (s : State) (off hi lo v : Nat) : RegsOnly s (s.setFld off hi lo v) := s.putReg_regsOnly _ _

/-- The canvas stage of a valid canvas. -/
theorem exec_canvasStageEnd_good {s : State} (ha : s.alive = true) (hshut : s.th.shut = 0) (t : Time) (hst : s.boot.stage = 5)
    (hok : s.canvasOk s.boot.body s.boot.bodyLen = true) : ∃ (b : Boot) (r : Tbl RegCell),
      exec (.canvasStageEnd t true) s = .next { s.at t with boot := b, regs := r } ∧ b.stage = 6 ∧ b.secs = s.sections s.boot.body := by
  have hexec : exec (.canvasStageEnd t true) s = execCanvasStageEnd t true s := rfl
  have hok' : ¬(!(s.at t).canvasOk (s.at t).boot.body (s.at t).boot.bodyLen) = true := by
    rw [show (s.at t).canvasOk (s.at t).boot.body (s.at t).boot.bodyLen = s.canvasOk s.boot.body s.boot.bodyLen from rfl, hok]
    exact Bool.false_ne_true
  rw [hexec, execCanvasStageEnd, inStage_at ha hshut hst]
  rw [if_neg (by decide), if_neg hok']
  extract_lets s2 sys s3 s4
  have hs2 : ∃ b, s2 = { s.at t with boot := b } ∧ b.stage = 6 ∧ b.secs = s.sections s.boot.body := ⟨_, rfl, rfl, rfl⟩
  clear_value s2 sys
  obtain ⟨b, rfl, hst', hsecs⟩ := hs2
  have hs3 : ∃ b', s3 = { s.at t with boot := b' } ∧ b'.stage = b.stage ∧ b'.secs = b.secs := ⟨_, rfl, rfl, rfl⟩
  clear_value s3
  obtain ⟨b', rfl, hst'', hsecs'⟩ := hs3
  have hs4 : RegsOnly { s.at t with boot := b' } s4 := RegsOnly.foldl (fun s i => s.putReg_regsOnly _ _) _ _
  clear_value s4
  obtain ⟨r, hr⟩ := (((hs4.trans (s4.setFld_regsOnly 0x1C0000 31 31 (fld sys 0 0))).trans
    (State.setFld_regsOnly _ 0x1C0000 30 30 (fld sys 1 1))).trans (State.setFld_regsOnly _ 0x1C0000 28 28 (fld sys 2 2))).trans
    (State.setFld_regsOnly _ 0x180008 31 31 (fld sys 3 3))
  exact ⟨b', r, congrArg _ hr, hst''.trans hst', hsecs'.trans hsecs⟩

/-- The canvas stage of a canvas that is not valid. -/
theorem exec_canvasStageEnd_bad {s : State} (ha : s.alive = true) (hshut : s.th.shut = 0) (t : Time) (hst : s.boot.stage = 5)
    (hbad : s.canvasOk s.boot.body s.boot.bodyLen = false) : exec (.canvasStageEnd t true) s = .next ((s.at t).failSlot 0x0B) := by
  have hexec : exec (.canvasStageEnd t true) s = execCanvasStageEnd t true s := rfl
  have hbad' : (!(s.at t).canvasOk (s.at t).boot.body (s.at t).boot.bodyLen) = true := by
    rw [show (s.at t).canvasOk (s.at t).boot.body (s.at t).boot.bodyLen = s.canvasOk s.boot.body s.boot.bodyLen from rfl, hbad]
    rfl
  rw [hexec, execCanvasStageEnd, inStage_at ha hshut hst, if_neg (by decide), if_pos hbad']

/-- Settles O14: each stage by its guard; the change to RUN by what its parts keep. -/
theorem bootStages : Obligations.BootStages := by
  unfold Obligations.BootStages
  intro s t ha hshut at'
  have run : ∀ {n : Nat} {c : Instr} {f : State → State}, exec c s = inStage t n s f → s.boot.stage = n → exec c s = .next (f (s.at t)) :=
    fun hexec hst => hexec.trans (inStage_at ha hshut hst t _)
  refine ⟨fun href hst => ?_, fun hst => ?_, fun sl r htodo hst => ?_, fun htodo hstrap hst => ?_, fun herr hst => ?_, fun herr hlast hst => ?_,
    fun hst => ?_, fun hst => ?_, fun hok hst => ?_, fun hbad hlast hst => ?_, fun hst => ?_, fun href hsec hst => ?_, fun hst => ?_⟩
  · have hexec := run (show exec (.resetStageEnd t) s = execResetStageEnd t s from rfl) hst
    have href' : ¬((s.at t).refFirst == 3) = true := mt beq_iff_eq.1 href
    rw [if_neg href'] at hexec
    exact ⟨_, hexec, rfl, rfl, rfl, rfl⟩
  · refine ⟨_, run (show exec (.romStageEnd t) s = execRomStageEnd t s from rfl) hst, rfl, rfl, rfl, fun e he => ?_, rfl⟩
    exact (Tbl.get_foldl_set 0 (fun e => otpClass e (Tbl.get 0 s.boot.otpN e) (Tbl.get 0 s.boot.otpM e)) [] 64 e).trans (if_pos he)
  · obtain ⟨f, h, o, hexec⟩ := exec_flashStageEnd ha hshut t hst
    rw [htodo] at hexec
    refine ⟨_, hexec, rfl, ?_⟩
    dsimp only
    obtain ⟨x, y, hres⟩ := State.modRes_frame (({ s.at t with flt := f, host := h, out := o } : State).modBoot fun b =>
      { b with slot := sl, fall := decide (0 < b.tries), tries := b.tries + 1 }) fun r => { r with tried := true }
    rw [hres]
    exact ⟨rfl, rfl⟩
  · obtain ⟨f, h, o, hexec⟩ := exec_flashStageEnd ha hshut t hst
    rw [htodo] at hexec
    dsimp only at hexec
    rw [if_neg (by simpa using hstrap)] at hexec
    exact ⟨_, hexec, rfl⟩
  · obtain ⟨x, y, hexec⟩ := exec_wardEnd ha hshut t hst
    dsimp only at hexec
    rw [if_neg (by simpa using herr)] at hexec
    exact ⟨_, hexec, rfl, rfl, rfl, rfl⟩
  · obtain ⟨x, y, hexec⟩ := exec_wardEnd ha hshut t hst
    dsimp only at hexec
    rw [if_pos (by simpa using herr)] at hexec
    refine ⟨_, hexec, ?_⟩
    exact State.failSlot_last (s := { s.at t with boot := { s.boot with resA := x, resB := y } }) hlast _
  · exact ⟨_, run (show exec (.firmwareStageEnd t true true) s = execFirmwareStageEnd t true true s from rfl) hst, rfl⟩
  · exact ⟨_, run (show exec (.firmwareStageEnd t true false) s = execFirmwareStageEnd t true false s from rfl) hst, rfl⟩
  · obtain ⟨b, r, hexec, hst', hsecs⟩ := exec_canvasStageEnd_good ha hshut t hst hok
    exact ⟨_, hexec, hst', hsecs⟩
  · exact ⟨_, exec_canvasStageEnd_bad ha hshut t hst hbad, State.failSlot_last (s := s.at t) hlast _⟩
  · exact ⟨_, run (show exec (.paletteStageEnd t true) s = execPaletteStageEnd t true s from rfl) hst, rfl⟩
  · obtain ⟨s1, hexec, hlock, hgated⟩ := exec_readoutStageEnd ha hshut t hst href hsec
    obtain ⟨hstage, herr, hlock', hgated'⟩ := s1.enterRun_spec
    exact ⟨_, hexec, hstage, herr, hlock'.trans hlock, hgated'.trans hgated⟩
  · exact ⟨_, run (show exec (.readoutBringupTimeout t) s = execReadoutBringupTimeout t s from rfl) hst, rfl⟩

end Machine
end Sys2Proof

/-! What the parts of a tick keep (01_line_tick R33, R37, R57, R61; 12_hinge_array R431). -/

namespace Sys2Proof
namespace Machine

/-- What of the tick generator only a tick, a snapshot and a commit change. -/
structure TickCore where
  line : B48
  last : Option Time
  shift : Option Time
  snap : Bool
  tag : Byte
  snapTime : Time
  commit : Bool
  commitT : Time
  epoch : W32
  heldN : W32
  lastTrig : Time

def Tick.core (k : Tick) : TickCore :=
  { line := k.line, last := k.last, shift := k.shift, snap := k.snap, tag := k.tag, snapTime := k.snapTime, commit := k.commit, commitT := k.commitT,
    epoch := k.epoch, heldN := k.heldN, lastTrig := k.lastTrig }

/-- Time and encoder position of a line: its record keeps them. -/
def Line.stamp (l : Line) : Time × B48 := (l.t, l.enc)

/-- The core of the tick generator is kept, no trigger becomes held, the armed commit and reset stay, and every line on record keeps its stamp. -/
structure TickKept (s s' : State) : Prop where
  core : s'.tick.core = s.tick.core
  held : s.tick.held = none → s'.tick.held = none
  armed : s'.hng.aReset = s.hng.aReset ∧ s'.hng.aCommit = s.hng.aCommit
  alive : s'.alive = s.alive
  lines : ∀ n, (s'.line n).map Line.stamp = (s.line n).map Line.stamp

theorem TickKept.refl (s : State) : TickKept s s := ⟨rfl, id, ⟨rfl, rfl⟩, rfl, fun _ => rfl⟩

theorem TickKept.trans {s s' s'' : State} (h : TickKept s s') (h' : TickKept s' s'') : TickKept s s'' :=
  ⟨h'.core.trans h.core, fun hn => h'.held (h.held hn), ⟨h'.armed.1.trans h.armed.1, h'.armed.2.trans h.armed.2⟩, h'.alive.trans h.alive,
    fun n => (h'.lines n).trans (h.lines n)⟩

theorem TickKept.foldl {α : Type} {g : State → α → State} (hg : ∀ s a, TickKept s (g s a)) (l : List α) (s : State) : TickKept s (l.foldl g s) :=
  foldl_rel TickKept.refl (fun _ _ _ => TickKept.trans) hg _ _

theorem tickKept_of_eq {s s' : State} (htick : s'.tick = s.tick) (hhng : s'.hng = s.hng) (hboot : s'.boot = s.boot) (hth : s'.th = s.th)
    (hlines : s'.fab.lines = s.fab.lines) : TickKept s s' := by
  refine ⟨congrArg Tick.core htick, fun h => (congrArg Tick.held htick).trans h, ⟨congrArg Hinge.aReset hhng, congrArg Hinge.aCommit hhng⟩, ?_,
    fun n => ?_⟩
  · rw [State.alive, State.alive, hboot, hth]
  · rw [State.line, State.line, hlines]

section Updates

variable (s : State)

theorem State.modSeq_tickKept (f : Seq → Seq) : TickKept s (s.modSeq f) := tickKept_of_eq rfl rfl rfl rfl rfl
theorem State.modConv_tickKept (f : Conv → Conv) : TickKept s (s.modConv f) := tickKept_of_eq rfl rfl rfl rfl rfl
theorem State.modCal_tickKept (f : Cal → Cal) : TickKept s (s.modCal f) := tickKept_of_eq rfl rfl rfl rfl rfl
theorem State.modTe_tickKept (f : Te → Te) : TickKept s (s.modTe f) := tickKept_of_eq rfl rfl rfl rfl rfl
theorem State.modHost_tickKept (f : HostLink → HostLink) : TickKept s (s.modHost f) := tickKept_of_eq rfl rfl rfl rfl rfl
theorem State.modClk_tickKept (f : Clk → Clk) : TickKept s (s.modClk f) := tickKept_of_eq rfl rfl rfl rfl rfl
theorem State.modFlt_tickKept (f : Flt → Flt) : TickKept s (s.modFlt f) := tickKept_of_eq rfl rfl rfl rfl rfl
theorem State.modEng_tickKept (e : Nat) (f : Engine → Engine) : TickKept s (s.modEng e f) := tickKept_of_eq rfl rfl rfl rfl rfl
theorem State.modBank_tickKept (t : Nat) (f : Bank → Bank) : TickKept s (s.modBank t f) := tickKept_of_eq rfl rfl rfl rfl rfl
theorem State.modRing_tickKept (ch : Nat) (f : Ring → Ring) : TickKept s (s.modRing ch f) := tickKept_of_eq rfl rfl rfl rfl rfl
theorem State.modChan_tickKept (ch : Nat) (f : Chan → Chan) : TickKept s (s.modChan ch f) := tickKept_of_eq rfl rfl rfl rfl rfl
theorem State.useFree_tickKept : TickKept s s.useFree := tickKept_of_eq rfl rfl rfl rfl rfl
theorem State.emit_tickKept (o : Out) : TickKept s (s.emit o) := tickKept_of_eq rfl rfl rfl rfl rfl
theorem State.dueClose_tickKept (n : Nat) : TickKept s (s.dueClose n) := tickKept_of_eq rfl rfl rfl rfl rfl
theorem State.openGap_tickKept (reason : Nat) : TickKept s (s.openGap reason) := ⟨rfl, id, ⟨rfl, rfl⟩, rfl, fun _ => rfl⟩

/-- An update of the fabric that keeps the lines. -/
theorem State.modFab_tickKept {f : Fab → Fab} (h : ∀ x, (f x).lines = x.lines) : TickKept s (s.modFab f) :=
  tickKept_of_eq rfl rfl rfl rfl (h s.fab)

/-- An update of the tick generator outside its core. -/
theorem State.modTick_tickKept {f : Tick → Tick} (hcore : ∀ k, (f k).core = k.core) (hheld : ∀ k, k.held = none → (f k).held = none) :
    TickKept s (s.modTick f) := ⟨hcore s.tick, hheld s.tick, ⟨rfl, rfl⟩, rfl, fun _ => rfl⟩

/-- An update of Hinge that keeps the armed commit and reset. -/
theorem State.modHng_tickKept {f : Hinge → Hinge} (hr : ∀ h, (f h).aReset = h.aReset) (hc : ∀ h, (f h).aCommit = h.aCommit) :
    TickKept s (s.modHng f) := ⟨rfl, id, ⟨hr s.hng, hc s.hng⟩, rfl, fun _ => rfl⟩

theorem State.minPeriod_tickKept : TickKept s s.minPeriod := by
  unfold State.minPeriod
  exact s.modTick_tickKept (fun _ => rfl) fun _ => id

theorem State.raise_tickKept {v : Nat} (hv : v < 28) : TickKept s (s.raise v) := by
  obtain ⟨h, o, heq, -⟩ := s.raise_frame hv
  rw [heq]
  exact tickKept_of_eq rfl rfl rfl rfl rfl

theorem State.logEvent_tickKept (unit code d1 d2 d3 : Nat) : TickKept s (s.logEvent unit code d1 d2 d3) := by
  obtain ⟨f, h, o, heq⟩ := s.logEvent_frame unit code d1 d2 d3
  rw [heq]
  exact tickKept_of_eq rfl rfl rfl rfl rfl

theorem State.setTck_tickKept (st : Nat) : TickKept s (s.setTck st) := by
  unfold State.setTck
  split
  · exact .refl s
  · refine TickKept.trans ?_ (State.raise_tickKept _ (v := 16) (by decide))
    exact s.modTick_tickKept (fun _ => rfl) fun _ => id

theorem State.stage_tickKept (ws : List W64) : TickKept s (s.stage ws) := by
  unfold State.stage
  extract_lets q
  split
  · exact .refl s
  · split
    · exact s.modFab_tickKept fun _ => rfl
    · exact s.modFab_tickKept fun _ => rfl

theorem State.stageOn_tickKept (ok : State → Nat → Bool) (mk : Nat → List W64) : TickKept s (s.stageOn ok mk) :=
  TickKept.foldl (fun s ch => by split; exacts [s.stage_tickKept _, .refl s]) _ _

theorem State.event_tickKept (code line : Nat) (enc : B48) (time : Time) (d1 d2 : Nat) : TickKept s (s.event code line enc time d1 d2) :=
  s.useFree_tickKept.trans (State.stageOn_tickKept s.useFree _ _)

theorem State.gapLines_tickKept (reason line count : Nat) (enc encEnd : B48) (time : Time) (prov : Bool) :
    TickKept s (s.gapLines reason line count enc encEnd time prov) := s.useFree_tickKept.trans (State.stageOn_tickKept s.useFree _ _)

theorem State.modLine_tickKept (n : Nat) {f : Line → Line} (h : ∀ l, (f l).stamp = l.stamp) : TickKept s (s.modLine n f) := by
  refine ⟨rfl, id, ⟨rfl, rfl⟩, rfl, fun i => ?_⟩
  by_cases hi : i = n
  · subst hi
    rw [State.line_modLine_same, Option.map_map]
    exact Option.map_congr fun l _ => h l
  · rw [State.line_modLine_ne _ _ hi]

theorem State.coverCh_tickKept (failed : Bool) (reason code n a b ch : Nat) (l : Line) :
    TickKept s (s.coverCh failed reason code n a b ch l) := by
  unfold State.coverCh
  extract_lets m s1
  have hs1 : TickKept s s1 := s.modLine_tickKept n fun l => by split <;> rfl
  clear_value s1
  split
  · refine hs1.trans (TickKept.foldl (fun s p => ?_) _ _)
    refine TickKept.trans ?_ (State.stage_tickKept _ _)
    exact s.modFab_tickKept fun _ => rfl
  · exact hs1

theorem State.cover_tickKept (failed : Bool) (reason code n t0 t1 : Nat) : TickKept s (s.cover failed reason code n t0 t1) := by
  unfold State.cover
  split
  · exact .refl s
  · split
    · exact TickKept.foldl (fun s ch => s.coverCh_tickKept ..) _ _
    · exact .refl s

theorem State.failTile_tickKept (reason code n t : Nat) : TickKept s (s.failTile reason code n t) := by
  unfold State.failTile
  refine TickKept.trans ?_ (State.modLine_tickKept _ n fun _ => rfl)
  exact s.cover_tickKept ..

theorem State.gapWhole_tickKept (reason n : Nat) : TickKept s (s.gapWhole reason n) := by
  unfold State.gapWhole
  refine TickKept.trans ?_ (State.modLine_tickKept _ n fun _ => by simp only [Line.stamp])
  exact s.cover_tickKept ..

theorem State.failLine_tickKept (reason code n : Nat) : TickKept s (s.failLine reason code n) := by
  unfold State.failLine
  split
  · exact .refl s
  · split
    · refine TickKept.trans ?_ (State.modLine_tickKept _ n fun _ => by simp only [Line.stamp])
      exact s.cover_tickKept ..
    · exact s.stageOn_tickKept _ _

theorem State.stepStop_tickKept (reason : Nat) (pending : Bool) : TickKept s (s.stepStop reason pending) := by
  obtain ⟨c, h, o, heq⟩ := s.stepStop_frame reason pending
  rw [heq]
  exact tickKept_of_eq rfl rfl rfl rfl rfl

theorem State.endGap_tickKept (enc : B48) (prov : Bool) : TickKept s (s.endGap enc prov) := by
  unfold State.endGap
  split
  · exact .refl s
  · dsimp only
    split
    · exact s.modTick_tickKept (fun _ => rfl) fun _ => id
    · refine TickKept.trans (TickKept.trans ?_ (State.gapLines_tickKept ..)) (State.modTick_tickKept _ (fun _ => rfl) fun _ => id)
      exact s.modTick_tickKept (fun _ => rfl) fun _ => id

theorem State.flushEnd_tickKept : TickKept s s.flushEnd := by
  unfold State.flushEnd
  split
  · exact s.setTck_tickKept _
  · exact .refl s

theorem State.trimStep_tickKept : TickKept s s.trimStep := by
  unfold State.trimStep
  split
  · refine TickKept.trans s.useFree_tickKept ?_
    exact State.modHng_tickKept _ (fun _ => rfl) fun _ => rfl
  · exact .refl s

theorem State.throttleEffect_tickKept (n : Nat) (enc : B48) (t : Time) : TickKept s (s.throttleEffect n enc t) := by
  unfold State.throttleEffect
  split
  · exact .refl s
  · next k _ =>
    extract_lets old th s1
    have hs1 : TickKept s s1 := ⟨rfl, id, ⟨rfl, rfl⟩, rfl, fun _ => rfl⟩
    clear_value s1
    refine TickKept.trans ?_ (State.minPeriod_tickKept _)
    refine TickKept.trans ?_ (State.logEvent_tickKept _ ..)
    refine TickKept.trans ?_ (State.raise_tickKept _ (v := 25) (by decide))
    exact hs1.trans (s1.event_tickKept ..)

theorem State.cutFrame_tickKept (n : Nat) : TickKept s (s.cutFrame n) := by
  unfold State.cutFrame
  extract_lets q
  split
  · exact .refl s
  · exact tickKept_of_eq rfl rfl rfl rfl rfl

theorem State.swapEffect_tickKept (n : Nat) (enc : B48) (t : Time) : TickKept s (s.swapEffect n enc t) := by
  unfold State.swapEffect
  refine TickKept.trans ?_ (State.raise_tickKept _ (v := 17) (by decide))
  exact (s.modSeq_tickKept _).trans (State.event_tickKept ..)

theorem State.tickReverse_tickKept (n : Nat) (enc : B48) (t : Time) : TickKept s (s.tickReverse n enc t) := by
  unfold State.tickReverse
  split
  · exact .refl s
  · refine TickKept.trans ?_ (State.stepStop_tickKept _ _ _)
    refine TickKept.trans ?_ (State.event_tickKept ..)
    refine TickKept.trans ?_ (State.setTck_tickKept _ _)
    exact s.modTick_tickKept (fun _ => rfl) fun _ => id

theorem State.putCoef_tickKept (t p : Nat) (w : W32) : TickKept s (s.putCoef t p w) := by
  unfold State.putCoef
  extract_lets s1
  have hs1 : TickKept s s1 := s.modCal_tickKept _
  clear_value s1
  split
  · exact hs1.trans (s1.modEng_tickKept _ _)
  · exact hs1

theorem State.installCand_tickKept : TickKept s s.installCand := by
  unfold State.installCand
  extract_lets c0 s1
  have hs1 : TickKept s s1 := by
    refine TickKept.foldl (fun s b => ?_) _ _
    refine TickKept.trans ?_ (State.modCal_tickKept _ _)
    refine TickKept.foldl (fun s t => ?_) _ _
    refine (s.modCal_tickKept fun c => c.undrift t b).trans ?_
    refine TickKept.foldl (fun s g => ?_) _ _
    extract_lets s2
    have hs2 : TickKept s s2 := s.modCal_tickKept _
    clear_value s2
    split
    · exact hs2.trans (TickKept.foldl (fun s k => s.putCoef_tickKept _ _ _) _ _)
    · exact hs2
  clear_value s1
  exact hs1.trans (s1.modCal_tickKept _)

theorem State.calIdle_tickKept : TickKept s s.calIdle := by
  unfold State.calIdle
  exact (s.modCal_tickKept _).trans (State.raise_tickKept _ (v := 19) (by decide))

theorem State.loadCopy_tickKept (c cnt : Nat) : TickKept s (s.loadCopy c cnt) := by
  unfold State.loadCopy
  exact s.modCal_tickKept _

theorem State.reloadRegions_tickKept : TickKept s s.reloadRegions := by
  unfold State.reloadRegions
  exact s.modTe_tickKept _

theorem State.applyEnd_tickKept (enc : B48) (t : Time) : TickKept s (s.applyEnd enc t) := by
  unfold State.applyEnd
  extract_lets s1 s2
  have hs1 : TickKept s s1 := by
    dsimp only [s1]
    split
    · refine TickKept.trans ?_ (State.modCal_tickKept _ _)
      exact (s.loadCopy_tickKept ..).trans (State.reloadRegions_tickKept _)
    · exact s.installCand_tickKept
  have hs2 : TickKept s1 s2 := s1.modCal_tickKept _
  clear_value s2
  exact ((hs1.trans hs2).trans (s2.event_tickKept ..)).trans (State.calIdle_tickKept _)

theorem State.clampGap_tickKept (enc : B48) : TickKept s (s.clampGap enc) := by
  unfold State.clampGap
  split
  · exact .refl s
  · extract_lets d e at' n s1
    have hs1 : TickKept s s1 := s.modClk_tickKept _
    clear_value s1
    split
    · exact hs1
    · refine TickKept.trans (TickKept.trans hs1 ?_) (State.gapLines_tickKept ..)
      exact s1.modTick_tickKept (fun _ => rfl) fun _ => id

theorem State.tickWalk_tickKept (n : Nat) (t : Time) : TickKept s (s.tickWalk n t).1 := by
  unfold State.tickWalk
  extract_lets young r s1
  have hs1 : TickKept s s1 := by
    dsimp only [s1]
    split
    · exact s.useFree_tickKept
    · exact .refl s
  exact hs1.trans (s1.modSeq_tickKept fun _ => r.1)

theorem State.tickWake_tickKept (a : SeqAct) : TickKept s (s.tickWake a) := by
  unfold State.tickWake
  extract_lets w2
  split
  · exact s.modConv_tickKept _
  · exact .refl s

theorem State.drainCut_tickKept (t : Time) : TickKept s (s.drainCut t) := by
  unfold State.drainCut
  split
  · split
    · exact .refl s
    · exact tickKept_of_eq rfl rfl rfl rfl rfl
  · exact .refl s

theorem State.pixTick_tickKept (t : Time) (m : Motion) (w1 : W32) (bands : BitVec 4) (level : Bool) :
    TickKept s (s.pixTick t m w1 bands level).1 := by
  unfold State.pixTick
  extract_lets s1 rev p st moved rows nodes
  have hs1 : TickKept s s1 := s.drainCut_tickKept t
  clear_value s1
  split
  · exact hs1.trans (tickKept_of_eq rfl rfl rfl rfl rfl)
  · split
    · exact hs1
    · exact hs1.trans (tickKept_of_eq rfl rfl rfl rfl rfl)

theorem State.startEffect_tickKept (ch n : Nat) (t : Time) : TickKept s (s.startEffect ch n t) := by
  unfold State.startEffect
  extract_lets early gone s1 s2
  have hs1 : TickKept s s1 := s.modRing_tickKept _ _
  clear_value s1
  have hs2 : TickKept s1 s2 := s1.modChan_tickKept _ _
  clear_value s2
  refine (hs1.trans hs2).trans ?_
  exact s2.modFab_tickKept fun _ => rfl

theorem State.tickStarts_tickKept (n : Nat) (t : Time) : TickKept s (s.tickStarts n t) := by
  refine TickKept.foldl (fun s ch => ?_) _ _
  split
  · split
    · exact s.startEffect_tickKept _ _ _
    · exact .refl s
  · exact .refl s

theorem State.tickSwitch_tickKept (n : Nat) (enc : B48) (t : Time) : TickKept s (s.tickSwitch n enc t) := by
  refine TickKept.foldl (fun s p => ?_) _ _
  dsimp only
  split
  · refine TickKept.trans ?_ (State.logEvent_tickKept _ ..)
    refine TickKept.trans ?_ (State.event_tickKept ..)
    exact (s.modEng_tickKept _ _).trans (State.modFlt_tickKept _ _)
  · exact .refl s

theorem State.banksTick_tickKept (n : Nat) : TickKept s (s.banksTick n) := by
  refine TickKept.foldl (fun s p => ?_) _ _
  dsimp only
  split
  · exact .refl s
  · exact (s.modBank_tickKept _ _).trans (State.modConv_tickKept _ _)

theorem State.banksFail_tickKept (n : Nat) : TickKept s (s.banksFail n) := by
  refine TickKept.foldl (fun s p => ?_) _ _
  split
  · exact s.cover_tickKept ..
  · split
    · exact s.cover_tickKept ..
    · exact .refl s

theorem State.tickEnds_tickKept (n : Nat) (l : Line) (t : Time) (passed : Bool) : TickKept s (s.tickEnds n l t passed) := by
  unfold State.tickEnds
  extract_lets s1 st st' s2 s3 s4
  have hs1 : TickKept s s1 := by
    dsimp only [s1]
    split
    · refine TickKept.trans ?_ (State.modTick_tickKept _ (fun _ => rfl) fun _ => id)
      split
      · exact s.cover_tickKept ..
      · exact s.failLine_tickKept ..
    · exact .refl s
  clear_value s1
  have hs2 : TickKept s1 s2 := by
    dsimp only [s2]
    split
    · exact s1.modCal_tickKept _
    · split
      · refine TickKept.trans ?_ (State.gapWhole_tickKept _ _ _)
        exact s1.modCal_tickKept _
      · split
        · exact s1.modCal_tickKept _
        · split
          · refine TickKept.trans ?_ (State.modCal_tickKept _ _)
            exact s1.cover_tickKept ..
          · split
            · exact s1.modCal_tickKept _
            · exact .refl s1
  clear_value s2
  have hs3 : TickKept s2 s3 := TickKept.foldl (fun s p => s.failTile_tickKept ..) _ _
  clear_value s3
  have hs4 : TickKept s3 s4 := by
    refine TickKept.foldl (fun s p => ?_) _ _
    split
    · exact s.failTile_tickKept ..
    · exact .refl s
  clear_value s4
  exact (((hs1.trans hs2).trans hs3).trans hs4).trans (s4.banksFail_tickKept n)

theorem State.tickShow_tickKept (n : Nat) (a : SeqAct) (l : Line) : TickKept s (s.tickShow n a l) := by
  unfold State.tickShow
  extract_lets s1 strobe
  have hs1 : TickKept s s1 := by
    dsimp only [s1]
    split
    · exact .refl s
    · exact s.emit_tickKept _
  clear_value s1
  split
  · exact hs1
  · exact hs1.trans (s1.emit_tickKept _)

theorem State.enterStopped_tickKept : TickKept s s.enterStopped := by
  unfold State.enterStopped
  split
  · exact .refl s
  · extract_lets s1 s2
    have hs1 : TickKept s s1 := by
      refine TickKept.trans ?_ (State.modTick_tickKept _ (fun _ => rfl) fun _ _ => rfl)
      exact s.endGap_tickKept _ _
    clear_value s1
    have hs2 : TickKept s1 s2 := by
      refine TickKept.trans ?_ (State.stepStop_tickKept _ _ _)
      refine TickKept.trans ?_ (State.modClk_tickKept _ _)
      have hstop : TickKept s1 s1.stopSeq := by
        unfold State.stopSeq
        exact s1.modSeq_tickKept _
      exact hstop.trans (State.setTck_tickKept s1.stopSeq 0)
    clear_value s2
    split
    · exact (hs1.trans hs2).trans (s2.dueClose_tickKept _)
    · exact hs1.trans hs2

theorem State.lpllStart_tickKept : TickKept s s.lpllStart := by
  unfold State.lpllStart State.lpllOff
  exact (s.modClk_tickKept _).trans (State.modClk_tickKept _ _)

theorem State.startMode_tickKept : TickKept s s.startMode := by
  unfold State.startMode
  split
  · exact .refl s
  · extract_lets s1
    have hs1 : TickKept s s1 := by
      refine TickKept.trans ?_ (State.modTick_tickKept _ (fun _ => rfl) fun _ => id)
      exact s.modSeq_tickKept _
    clear_value s1
    split
    · exact (hs1.trans (s1.setTck_tickKept 2)).trans (State.minPeriod_tickKept _)
    · refine TickKept.trans ?_ (State.minPeriod_tickKept _)
      refine TickKept.trans ?_ (State.openGap_tickKept _ _)
      refine TickKept.trans ?_ (State.modClk_tickKept _ _)
      exact (hs1.trans (s1.setTck_tickKept 1)).trans (State.lpllStart_tickKept _)

theorem State.changeMode_tickKept (old : Nat) : TickKept s (s.changeMode old) := by
  unfold State.changeMode
  generalize (s.mode == (if s.tick.st == 0 then 0 else old)) = b
  split
  · exact .refl s
  · exact s.enterStopped_tickKept.trans (State.startMode_tickKept _)

/-- No reset is armed. -/
theorem State.tickReset_unarmed (h : s.hng.aReset = none) (t : Time) : s.tickReset t = s := by rw [State.tickReset, h]

theorem State.placeDrains_tickKept : TickKept s s.placeDrains := by
  unfold State.placeDrains
  exact tickKept_of_eq rfl rfl rfl rfl rfl

theorem State.commitDir_tickKept (atTick : Bool) : TickKept s (s.commitDir atTick) := by
  unfold State.commitDir
  extract_lets d want
  split
  · exact .refl s
  · split
    · exact s.modTick_tickKept (fun _ => rfl) fun _ => id
    · split
      · exact s.modTick_tickKept (fun _ => rfl) fun _ => id
      · refine TickKept.trans ?_ (State.event_tickKept ..)
        refine TickKept.trans ?_ (State.placeDrains_tickKept _)
        exact s.modTick_tickKept (fun _ => rfl) fun _ => id

theorem State.freeze_frame : ∃ x, s.freeze = { s with snap := x } := by
  unfold State.freeze
  exact ⟨_, rfl⟩

theorem State.commitRegs_frame : ∃ r, s.commitRegs = { s with regs := r, shadow := [] } := by
  have hloop : ∀ (l : Tbl RegCell) (s : State), RegsOnly s (l.foldl (fun s p => s.putReg p.1 p.2.val) s) :=
    RegsOnly.foldl fun s p => s.putReg_regsOnly _ _
  obtain ⟨r, hr⟩ := hloop s.shadow { s with shadow := [] }
  exact ⟨r, hr⟩

/-- A snapshot: the tag counts up, and the time is that of the tick. -/
theorem State.snapEffect_tickKept (n : Nat) (enc : B48) (t : Time) :
    TickKept (s.modTick fun k => { k with tag := k.tag + 1, snap := false, snapTime := t }) (s.snapEffect n enc t) := by
  unfold State.snapEffect
  refine TickKept.trans ?_ (State.raise_tickKept _ (v := 18) (by decide))
  obtain ⟨x, hx⟩ := s.freeze_frame
  rw [hx]
  exact ⟨rfl, id, ⟨rfl, rfl⟩, rfl, fun _ => rfl⟩

/-- A commit: the epoch counts up. -/
theorem State.commitEffect_tickKept (n : Nat) (enc : B48) (t : Time) :
    TickKept (s.modTick fun k => { k with epoch := k.epoch + 1 }) (s.commitEffect n enc t) := by
  unfold State.commitEffect
  extract_lets eng s1 s2
  have hs1 : TickKept (s.modTick fun k => { k with epoch := k.epoch + 1 }) s1 := by
    obtain ⟨r, hr⟩ := s.commitRegs_frame
    dsimp only [s1]
    rw [hr]
    exact ⟨rfl, id, ⟨rfl, rfl⟩, rfl, fun _ => rfl⟩
  clear_value s1
  have hs2 : TickKept s1 s2 := by
    dsimp only [s2]
    split
    · exact .refl s1
    · exact s1.modTick_tickKept (fun _ => rfl) fun _ => id
  clear_value s2
  exact ((hs1.trans hs2).trans (s2.event_tickKept ..)).trans (State.raise_tickKept _ (v := 18) (by decide))

end Updates

/-! The tick. -/

/-- What of the tick generator the steps before the line is taken keep. -/
structure TickSteady (s s' : State) : Prop where
  line : s'.tick.line = s.tick.line
  heldN : s'.tick.heldN = s.tick.heldN
  lastTrig : s'.tick.lastTrig = s.tick.lastTrig
  held : s.tick.held = none → s'.tick.held = none
  aReset : s'.hng.aReset = s.hng.aReset
  alive : s'.alive = s.alive

theorem TickKept.steady {s s' : State} (h : TickKept s s') : TickSteady s s' :=
  ⟨congrArg TickCore.line h.core, congrArg TickCore.heldN h.core, congrArg TickCore.lastTrig h.core, h.held, h.armed.1, h.alive⟩

theorem TickSteady.trans {s s' s'' : State} (h : TickSteady s s') (h' : TickSteady s' s'') : TickSteady s s'' :=
  ⟨h'.line.trans h.line, h'.heldN.trans h.heldN, h'.lastTrig.trans h.lastTrig, fun hn => h'.held (h.held hn), h'.aReset.trans h.aReset,
    h'.alive.trans h.alive⟩

/-- The snapshot that a tick takes. -/
structure TickSnap (s s' : State) (t : Time) : Prop where
  snap : s.tick.snap = true → s'.tick.snap = false ∧ s'.tick.tag = s.tick.tag + 1 ∧ s'.tick.snapTime = t
  commit : s'.tick.commit = s.tick.commit ∧ s'.tick.commitT = s.tick.commitT ∧ s'.tick.epoch = s.tick.epoch ∧ s'.hng.aCommit = s.hng.aCommit

/-- The commit that a tick takes. -/
structure TickCommit (s s' : State) (t : Time) : Prop where
  snap : s'.tick.snap = s.tick.snap ∧ s'.tick.tag = s.tick.tag ∧ s'.tick.snapTime = s.tick.snapTime
  due : s.tick.commit = true → 100 ≤ since t s.tick.commitT → s'.tick.commit = false ∧ s'.tick.epoch = s.tick.epoch + 1
  none : s.tick.commit = false → s.hng.aCommit = none → s'.tick.epoch = s.tick.epoch

theorem TickKept.tickCommit_eq {s s' : State} (h : TickKept s s') : s'.tick.commit = s.tick.commit ∧ s'.tick.commitT = s.tick.commitT ∧
    s'.tick.epoch = s.tick.epoch ∧ s'.hng.aCommit = s.hng.aCommit :=
  ⟨congrArg TickCore.commit h.core, congrArg TickCore.commitT h.core, congrArg TickCore.epoch h.core, h.armed.2⟩

theorem TickKept.tickSnap_eq {s s' : State} (h : TickKept s s') :
    s'.tick.snap = s.tick.snap ∧ s'.tick.tag = s.tick.tag ∧ s'.tick.snapTime = s.tick.snapTime :=
  ⟨congrArg TickCore.snap h.core, congrArg TickCore.tag h.core, congrArg TickCore.snapTime h.core⟩

theorem State.tickSnap_spec (s : State) (n : Nat) (enc : B48) (t : Time) :
    TickSteady s (s.tickSnap n enc t) ∧ TickSnap s (s.tickSnap n enc t) t := by
  unfold State.tickSnap
  extract_lets due
  split
  · have hk := State.snapEffect_tickKept (s.modHng fun h => { h with aSnap := if due then none else h.aSnap }) n enc t
    generalize State.snapEffect _ n enc t = s' at hk
    have hsteady := hk.steady
    exact ⟨⟨hsteady.line, hsteady.heldN, hsteady.lastTrig, hsteady.held, hsteady.aReset, hsteady.alive⟩, fun _ => hk.tickSnap_eq, hk.tickCommit_eq⟩
  · next hno =>
    refine ⟨(TickKept.refl s).steady, fun h => absurd ?_ hno, (TickKept.refl s).tickCommit_eq⟩
    rw [h]
    rfl

theorem State.tickCommit_spec (s : State) (n : Nat) (enc : B48) (t : Time) :
    TickSteady s (s.tickCommit n enc t) ∧ TickCommit s (s.tickCommit n enc t) t := by
  unfold State.tickCommit
  extract_lets loc s1 due s2
  have hloc : s.tick.commit = true → 100 ≤ since t s.tick.commitT → loc = true := fun hc hold => by
    show (s.tick.commit && (decide (100 ≤ since t s.tick.commitT) || s.chooses)) = true
    rw [hc, decide_eq_true hold]
    rfl
  have hnot : s.tick.commit = false → loc = false := fun hc => by
    show (s.tick.commit && _) = false
    rw [hc]
    rfl
  have hdue : s1.hng.aCommit = none → due = false := fun h => by
    dsimp only [due]
    rw [h]
  have hs1 : TickKept s s1 := by
    dsimp only [s1]
    split
    · exact s.useFree_tickKept
    · exact .refl s
  have hcommit := hs1.tickCommit_eq
  have hs2 : s2 = s1.modTick fun k => { k with commit := k.commit && !loc } := rfl
  clear_value s2
  obtain ⟨hc, hct, he, ha⟩ := hcommit
  split
  · next hyes =>
    have hk := (State.commitEffect_tickKept (s2.modHng fun h => { h with aCommit := if due then none else h.aCommit }) n enc t).trans
      (State.commitDir_tickKept _ true)
    generalize State.commitDir _ true = s' at hk
    rw [hs2] at hk
    have hsteady := hk.steady
    have hsnap := hk.tickSnap_eq
    obtain ⟨hc', -, he', -⟩ := hk.tickCommit_eq
    refine ⟨hs1.steady.trans ⟨hsteady.line, hsteady.heldN, hsteady.lastTrig, hsteady.held, hsteady.aReset, hsteady.alive⟩, ?_, fun hc1 hold => ?_,
      fun hc1 hac => ?_⟩
    · obtain ⟨h1, h2, h3⟩ := hs1.tickSnap_eq
      exact ⟨hsnap.1.trans h1, hsnap.2.1.trans h2, hsnap.2.2.trans h3⟩
    · refine ⟨hc'.trans ?_, he'.trans (congrArg (· + 1) he)⟩
      show (s1.tick.commit && !loc) = false
      rw [hloc hc1 hold, Bool.not_true, Bool.and_false]
    · rw [hnot hc1, hdue (ha.trans hac)] at hyes
      exact absurd hyes Bool.false_ne_true
  · next hno =>
    refine ⟨hs1.steady, hs1.tickSnap_eq, fun hc1 hold => absurd ?_ hno, fun _ _ => he⟩
    rw [hloc hc1 hold]
    rfl

/-- What a tick at `t` does to the tick generator. -/
structure Ticked (s s' : State) (t : Time) (enc : B48) : Prop where
  line : s'.tick.line = s.tick.line + 1
  last : s'.tick.last = some t
  shift : s'.tick.shift = some t
  heldN : s'.tick.heldN = s.tick.heldN
  lastTrig : s'.tick.lastTrig = s.tick.lastTrig
  held : s.tick.held = none → s'.tick.held = none
  alive : s'.alive = s.alive
  record : ∃ l, s'.line s.tick.line.toNat = some l ∧ l.t = t ∧ l.enc = enc
  snap : s.tick.snap = true → s'.tick.snap = false ∧ s'.tick.tag = s.tick.tag + 1 ∧ s'.tick.snapTime = t
  commit : s.tick.commit = true → 100 ≤ since t s.tick.commitT → s'.tick.commit = false ∧ s'.tick.epoch = s.tick.epoch + 1
  noCommit : s.tick.commit = false → s.hng.aCommit = none → s'.tick.epoch = s.tick.epoch

/-- What takes effect before the line is taken. -/
theorem State.tickOpen_spec (s : State) (n : Nat) (t : Time) (enc : B48) : let s' := s.tickOpen n t enc
    TickSteady s s' ∧ (s.tick.snap = true → s'.tick.snap = false ∧ s'.tick.tag = s.tick.tag + 1 ∧ s'.tick.snapTime = t) ∧
      (s.tick.commit = true → 100 ≤ since t s.tick.commitT → s'.tick.commit = false ∧ s'.tick.epoch = s.tick.epoch + 1) ∧
      (s.tick.commit = false → s.hng.aCommit = none → s'.tick.epoch = s.tick.epoch) := by
  unfold State.tickOpen
  extract_lets s1 cnt s2 s3 s4 s5 s6 s7 s8 s9 s'
  have hs1 : TickKept s s1 := by
    refine TickKept.trans ?_ (State.flushEnd_tickKept _)
    exact ⟨rfl, id, ⟨rfl, rfl⟩, rfl, fun _ => rfl⟩
  clear_value s1
  obtain ⟨hst2, hsnap2⟩ := s1.tickSnap_spec n enc t
  have hs2 : TickKept (s1.tickSnap n enc t) s2 := by
    refine TickKept.trans ?_ (State.trimStep_tickKept _)
    exact State.modHng_tickKept _ (fun _ => rfl) fun _ => rfl
  clear_value s2 cnt
  obtain ⟨hst3, hcom3⟩ := s2.tickCommit_spec n enc t
  have hs4 : TickKept s3 s4 := by
    dsimp only [s4]
    split
    · exact s3.setTck_tickKept 2
    · exact .refl s3
  have hs6 : TickKept s5 s6 := by
    dsimp only [s6]
    split
    · exact s5.cutFrame_tickKept n
    · exact .refl s5
  have hs7 : TickKept s6 s7 := by
    dsimp only [s7]
    split
    · exact (s6.swapEffect_tickKept ..).trans (State.stepStop_tickKept _ _ _)
    · exact .refl s6
  have hs9 : TickKept s8 s9 := by
    dsimp only [s9]
    split
    · exact s8.applyEnd_tickKept _ _
    · exact .refl s8
  have hrest : TickKept s3 s' := (((((hs4.trans (s4.throttleEffect_tickKept n enc t)).trans hs6).trans hs7).trans
    (s7.tickReverse_tickKept n enc t)).trans hs9).trans (s9.clampGap_tickKept enc)
  clear_value s'
  obtain ⟨hc1, hct1, he1, ha1⟩ := hs1.tickCommit_eq
  obtain ⟨hc2, hct2, he2, ha2⟩ := hs2.tickCommit_eq
  obtain ⟨hsn1, htag1, -⟩ := hs1.tickSnap_eq
  obtain ⟨hsn2, htag2, hsnT2⟩ := hs2.tickSnap_eq
  obtain ⟨hsn3, htag3, hsnT3⟩ := hcom3.snap
  obtain ⟨hsn4, htag4, hsnT4⟩ := hrest.tickSnap_eq
  obtain ⟨hc4, -, he4, -⟩ := hrest.tickCommit_eq
  obtain ⟨hcs, hcts, hes, has⟩ := hsnap2.commit
  refine ⟨(((hs1.steady.trans hst2).trans hs2.steady).trans hst3).trans hrest.steady, fun h => ?_, fun h hold => ?_, fun h hac => ?_⟩
  · obtain ⟨h1, h2, h3⟩ := hsnap2.snap (hsn1.trans h)
    exact ⟨hsn4.trans (hsn3.trans (hsn2.trans h1)), htag4.trans (htag3.trans (htag2.trans (h2.trans (congrArg (· + 1) htag1)))),
      hsnT4.trans (hsnT3.trans (hsnT2.trans h3))⟩
  · have hcommit : s2.tick.commit = true := hc2.trans (hcs.trans (hc1.trans h))
    have htime : s2.tick.commitT = s.tick.commitT := hct2.trans (hcts.trans hct1)
    obtain ⟨h1, h2⟩ := hcom3.due hcommit (by rwa [htime])
    exact ⟨hc4.trans h1, he4.trans (h2.trans (congrArg (· + 1) (he2.trans (hes.trans he1))))⟩
  · have hcommit : s2.tick.commit = false := hc2.trans (hcs.trans (hc1.trans h))
    have harmed : s2.hng.aCommit = none := ha2.trans (has.trans (ha1.trans hac))
    exact he4.trans ((hcom3.none hcommit harmed).trans (he2.trans (hes.trans he1)))

/-- `State.tickPast` counts from what is kept. -/
theorem TickKept.tickPast {s s' : State} (h : TickKept s s') (t : Time) (l : Line) : TickKept (s.tickPast t l) (s'.tickPast t l) := by
  refine ⟨?_, h.held, h.armed, h.alive, h.lines⟩
  have hcore : ∀ x : State, (x.tickPast t l).tick.core = { x.tick.core with line := x.tick.core.line + 1, last := some t, shift := some t } :=
    fun _ => rfl
  rw [hcore, hcore, h.core]

/-- The line is taken. -/
theorem State.takeLine_spec (s : State) (n : Nat) (t : Time) (enc : B48) (late : Bool) (old : Nat) (a : SeqAct) (passed : Bool)
    (hreset : s.hng.aReset = none) : ∃ s0 : State, ∃ l : Line, TickKept s s0 ∧ l.t = t ∧ l.enc = enc ∧
      TickKept ({ s0 with fab := { s0.fab with lines := Tbl.set none s0.fab.lines n (some l) } }.tickPast t l)
        (s.takeLine n t enc late old a passed) := by
  unfold State.takeLine
  extract_lets w tmin woke p l s1 s2 s3 s4
  have hp : TickKept s p.1 := (s.tickWake_tickKept a).trans (State.pixTick_tickKept _ ..)
  refine ⟨p.1, l, hp, rfl, rfl, ?_⟩
  have hreset0 : p.1.hng.aReset = none := hp.armed.1.trans hreset
  clear_value l p
  have hs1 : TickKept { p.1 with fab := { p.1.fab with lines := Tbl.set none p.1.fab.lines n (some l) } } s1 := State.tickStarts_tickKept _ n t
  clear_value s1
  have hpast := ((hs1.trans (s1.endGap_tickKept enc false)).trans (State.tickSwitch_tickKept _ n enc t)).tickPast t l
  have hs2 := hpast.trans (State.banksTick_tickKept _ n)
  have hs3 := (hs2.trans (State.tickEnds_tickKept s2 n l t passed)).trans (State.tickShow_tickKept _ n a l)
  have hs4 : TickKept s3 s4 := by
    dsimp only [s4]
    split
    · exact s3.dueClose_tickKept n
    · exact .refl s3
  have hall := ((hs3.trans hs4).trans (s4.changeMode_tickKept old)).trans (State.minPeriod_tickKept _)
  rw [State.tickReset_unarmed _ (hall.armed.1.trans hreset0)]
  exact hall

/-- A tick. -/
theorem State.fireTick_spec (s : State) (t : Time) (enc : B48) (late : Bool) (hreset : s.hng.aReset = none) :
    Ticked s (s.fireTick t enc late) t enc := by
  unfold State.fireTick
  extract_lets n r
  obtain ⟨hst, hsnap, hcommit, hnone⟩ := s.tickOpen_spec n t enc
  have hwalk : TickKept (s.tickOpen n t enc) r.1 := State.tickWalk_tickKept _ n t
  have hst1 := hst.trans hwalk.steady
  obtain ⟨s0, l, hp, hlt, hle, hk⟩ := r.1.takeLine_spec n t enc late s.mode r.2.1 r.2.2 (hst1.aReset.trans hreset)
  generalize State.takeLine _ n t enc late s.mode _ _ = s' at hk ⊢
  have hst2 := hst1.trans hp.steady
  have hsteady := hk.steady
  have hchain := hwalk.trans hp
  obtain ⟨hsn, htag, hsnT⟩ := hchain.tickSnap_eq
  obtain ⟨hsn', htag', hsnT'⟩ := hk.tickSnap_eq
  obtain ⟨hc, -, he, -⟩ := hchain.tickCommit_eq
  obtain ⟨hc', -, he', -⟩ := hk.tickCommit_eq
  refine { line := hsteady.line.trans (congrArg (· + 1) hst2.line), last := congrArg TickCore.last hk.core, shift := congrArg TickCore.shift hk.core,
           heldN := hsteady.heldN.trans hst2.heldN, lastTrig := hsteady.lastTrig.trans hst2.lastTrig, held := fun h => hsteady.held (hst2.held h),
           alive := hsteady.alive.trans hst2.alive, record := ?_, snap := fun h => ?_, commit := fun h hold => ?_, noCommit := fun h hac => ?_ }
  · have hline := hk.lines n
    have hset : (State.tickPast { s0 with fab := { s0.fab with lines := Tbl.set none s0.fab.lines n (some l) } } t l).line n = some l := by
      show Tbl.get none (Tbl.set none s0.fab.lines n (some l)) n = some l
      exact Tbl.get_set_same _ _ _ _
    rw [hset] at hline
    obtain ⟨l', hl', hstamp⟩ := Option.map_eq_some_iff.1 hline
    exact ⟨l', hl', (congrArg Prod.fst hstamp).trans hlt, (congrArg Prod.snd hstamp).trans hle⟩
  · obtain ⟨h1, h2, h3⟩ := hsnap h
    exact ⟨hsn'.trans (hsn.trans h1), htag'.trans (htag.trans h2), hsnT'.trans (hsnT.trans h3)⟩
  · obtain ⟨h1, h2⟩ := hcommit h hold
    exact ⟨hc'.trans (hc.trans h1), he'.trans (he.trans h2)⟩
  · exact he'.trans (he.trans (hnone h hac))

/-! LINE_TICK. -/

/-- The ticks that the limits allow. -/
def State.allowsTick (s : State) (now : Time) (phase : Bool) : Prop :=
  (s.mode = 1 ∧ (s.tick.st = 2 ∨ s.tick.st = 3 ∨ s.tick.st = 5 ∨ (s.tick.st = 4 ∧ (s.clk.lpll = 2 ∨ s.clk.lpll = 3)))) ∧
    (∀ x, s.tick.shift = some x → s.lineGap ≤ since now x) ∧ s.noTicks = false ∧ (s.clk.lpll ≠ 2 ∨ s.clk.pullin = true ∨ phase = true) ∧
    ¬(s.tick.hold = true ∧ s.regF 0x10020 15 0 ≤ s.tick.holdN)

theorem State.allowsTick_iff (s : State) (now : Time) (phase : Bool) :
    ((s.mode == 1 && (s.tick.st == 2 || s.tick.st == 3 || s.tick.st == 5 || (s.tick.st == 4 && (s.clk.lpll == 2 || s.clk.lpll == 3)))) &&
      (match s.tick.shift with
        | some x => decide (s.lineGap ≤ since now x)
        | none => true) &&
      (s.clk.lpll != 2 || s.clk.pullin || phase) && !s.noTicks && !(s.tick.hold && s.regF 0x10020 15 0 ≤ s.tick.holdN)) = true ↔
      s.allowsTick now phase := by
  have hfar : (match s.tick.shift with
      | some x => decide (s.lineGap ≤ since now x)
      | none => true) = true ↔ ∀ x, s.tick.shift = some x → s.lineGap ≤ since now x := by
    cases s.tick.shift with
    | none => simp
    | some x => simp
  rw [Bool.and_eq_true, Bool.and_eq_true, Bool.and_eq_true, Bool.and_eq_true, hfar, State.allowsTick]
  simp only [Bool.and_eq_true, Bool.or_eq_true, beq_iff_eq, bne_iff_ne, Bool.not_eq_true', Bool.and_eq_false_iff, decide_eq_false_iff_not, or_assoc,
    and_assoc]
  have hhold : s.tick.hold = false ∨ ¬s.regF 0x10020 15 0 ≤ s.tick.holdN ↔ ¬(s.tick.hold = true ∧ s.regF 0x10020 15 0 ≤ s.tick.holdN) := by
    rw [not_and_or, Bool.not_eq_true]
  rw [hhold]
  exact ⟨fun ⟨hm, hst, hf, hp, hn, hh⟩ => ⟨hm, hst, hf, hn, hp, hh⟩, fun ⟨hm, hst, hf, hn, hp, hh⟩ => ⟨hm, hst, hf, hp, hn, hh⟩⟩

/-- A line tick: taken where the limits allow it, else without an effect. -/
theorem exec_lineTick {s : State} (hr : s.running = true) (t : Time) :
    (s.allowsTick (s.at t).now (s.at t).atPhase → exec (.lineTick t) s = .next ((s.at t).fireTick (s.at t).now s.encNow false)) ∧
    (¬s.allowsTick (s.at t).now (s.at t).atPhase → exec (.lineTick t) s = .next (s.at t)) := by
  have hexec : exec (.lineTick t) s = execLineTick t s := rfl
  rw [execLineTick, inRun_running hr] at hexec
  have hcond := (s.at t).allowsTick_iff (s.at t).now (s.at t).atPhase
  have hsame : (s.at t).allowsTick (s.at t).now (s.at t).atPhase ↔ s.allowsTick (s.at t).now (s.at t).atPhase := Iff.rfl
  exact ⟨fun h => hexec.trans (congrArg _ (if_pos (hcond.2 (hsame.2 h)))), fun h => hexec.trans (congrArg _ (if_neg (mt hcond.1 (mt hsame.1 h))))⟩

/-! The charge (02_pixel_array R65 to R67, R71, R72, R75, R89). -/

/-- A row of a band, of rows listed band by band. -/
theorem getD_flatMap_bands {α : Type} {f : Nat → List α} (hf : ∀ b, b < 4 → (f b).length = 64) (d : α) {b k : Nat} (hb : b < 4) (hk : k < 64) :
    ((List.range 4).flatMap f).getD (64 * b + k) d = (f b).getD k d := by
  have hlist : (List.range 4).flatMap f = f 0 ++ (f 1 ++ (f 2 ++ (f 3 ++ []))) := rfl
  have hskip : ∀ (x y : List α) (i : Nat), x.length = 64 → (x ++ y).getD (64 + i) d = y.getD i d := fun x y i hx => by
    rw [List.getD_append_right _ _ _ _ (by omega), hx, Nat.add_sub_cancel_left]
  rw [hlist]
  obtain rfl | rfl | rfl | rfl : b = 0 ∨ b = 1 ∨ b = 2 ∨ b = 3 := by omega
  · rw [Nat.mul_zero, Nat.zero_add, List.getD_append _ _ _ _ (by rw [hf _ (by decide)]; exact hk)]
  · rw [hskip _ _ _ (hf 0 (by decide)), List.getD_append _ _ _ _ (by rw [hf _ (by decide)]; exact hk)]
  · rw [show 64 * 2 + k = 64 + (64 + k) by omega, hskip _ _ _ (hf 0 (by decide)), hskip _ _ _ (hf 1 (by decide)),
      List.getD_append _ _ _ _ (by rw [hf _ (by decide)]; exact hk)]
  · rw [show 64 * 3 + k = 64 + (64 + (64 + k)) by omega, hskip _ _ _ (hf 0 (by decide)), hskip _ _ _ (hf 1 (by decide)),
      hskip _ _ _ (hf 2 (by decide)),
      List.getD_append _ _ _ _ (by rw [hf _ (by decide)]; exact hk)]

theorem length_shiftBand (rev : Bool) {rows : List Packet} (h : rows.length = 64) : (shiftBand rev rows).1.length = 64 := by
  cases rev <;> simp [shiftBand, h]

theorem length_drainBand (rev : Bool) (N : Nat) (rows : List Packet) : (drainBand rev N rows).length = rows.length := List.length_mapIdx

theorem length_exposeBand (rev : Bool) (N b : Nat) (t : Time) (rows : List Packet) : (exposeBand rev N b t rows).length = rows.length :=
  List.length_mapIdx

theorem getD_mapIdx {α : Type} (f : Nat → α → α) (l : List α) (d : α) {k : Nat} (hk : k < l.length) : (l.mapIdx f).getD k d = f k (l.getD k d) := by
  simp [List.getD_eq_getElem?_getD, hk]

/-- The rows of a band. -/
theorem Pix.band_spec {p : Pix} (h : p.rows.length = 256) {b : Nat} (hb : b < 4) :
    (p.band b).length = 64 ∧ ∀ k, k < 64 → (p.band b).getD k [] = p.rows.getD (64 * b + k) [] := by
  refine ⟨by simp [Pix.band, h]; omega, fun k hk => ?_⟩
  simp [Pix.band, List.getD_eq_getElem?_getD, hk]

/-- A row after a shift: the one it takes over, kept and collecting where the row integrates. -/
theorem shifted_row (rev : Bool) {N b : Nat} (hN : N ≠ 0) (t : Time) {rows : List Packet} (hlen : rows.length = 64) {k : Nat} (hk : k < 64) :
    (exposeBand rev N b t (drainBand rev N (shiftBand rev rows).1)).getD k [] =
      if integrates rev N k then
        (if rev then (if k = 63 then [] else rows.getD (k + 1) []) else (if k = 0 then [] else rows.getD (k - 1) [])) ++ [(t, 64 * b + k)]
      else [] := by
  have hshift : (shiftBand rev rows).1.getD k [] =
      if rev then (if k = 63 then [] else rows.getD (k + 1) []) else (if k = 0 then [] else rows.getD (k - 1) []) := by
    cases rev with
    | true =>
      show (rows.drop 1 ++ [[]]).getD k [] = if k = 63 then [] else rows.getD (k + 1) []
      by_cases h : k = 63
      · rw [if_pos h, List.getD_append_right _ _ _ _ (by simp [hlen, h])]
        simp [hlen, h]
      · rw [if_neg h, List.getD_append _ _ _ _ (by simp [hlen]; omega)]
        simp [List.getD_eq_getElem?_getD]
    | false =>
      show ([] :: rows.dropLast).getD k [] = if k = 0 then [] else rows.getD (k - 1) []
      cases k with
      | zero => rfl
      | succ j =>
        rw [if_neg (Nat.succ_ne_zero j), List.getD_cons_succ]
        have hj : j < rows.length := by omega
        simp [List.getD_eq_getElem?_getD, hlen, show j < 63 by omega, List.getElem?_eq_getElem hj]
  have hlen' := length_shiftBand rev hlen
  rw [exposeBand, getD_mapIdx _ _ _ (by rw [length_drainBand, hlen']; exact hk), drainBand, getD_mapIdx _ _ _ (by rw [hlen']; exact hk), hshift,
    beq_false_of_ne hN, Bool.false_or]
  by_cases hi : integrates rev N k = true
  · rw [if_pos hi, if_pos hi, if_pos hi]
  · rw [if_neg hi, if_neg hi, if_neg hi]

/-- The packet that leaves a band at a shift. -/
theorem shifted_out (rev : Bool) {rows : List Packet} (hlen : rows.length = 64) : (shiftBand rev rows).2 = rows.getD (if rev then 0 else 63) [] := by
  cases rev with
  | true =>
    cases rows with
    | nil => rfl
    | cons r rs => rfl
  | false =>
    show rows.getLastD [] = rows.getD 63 []
    rw [List.getLastD_eq_getLast?, List.getLast?_eq_getElem?, hlen, List.getD_eq_getElem?_getD]

theorem State.drainCut_over {s : State} {t : Time} (h : ∀ e, s.pix.drainT = some e → reached t e = true) : s.drainCut t = s := by
  unfold State.drainCut
  split
  · next e he => exact if_pos (h e he)
  · rfl

section PixTick

variable {s : State} {t : Time} (hdrain : ∀ e, s.pix.drainT = some e → reached t e = true) (hlen : s.pix.rows.length = 256) (w1 : W32)

/-- The rows after a shift. -/
def State.shiftedRows (s : State) (t : Time) (w1 : W32) : List Packet :=
  (List.range 4).flatMap fun b => exposeBand s.tick.dir ((stageOf w1).getD b 64) b t (drainBand s.tick.dir ((stageOf w1).getD b 64)
    (((List.range 4).map fun b => shiftBand s.tick.dir (s.pix.band b)).getD b ([], [])).1)

/-- What a shift gives the node of a band. -/
def State.shiftedNode (s : State) (bands : BitVec 4) (level : Bool) (b : Nat) : NodeAct :=
  if !bands.getLsbD b then .drained
  else if level then .level
  else .packet (((List.range 4).map fun b => shiftBand s.tick.dir (s.pix.band b)).getD b ([], [])).2

include hdrain in
theorem State.pixTick_shift (bands : BitVec 4) (level : Bool) : s.pixTick t 0 w1 bands level =
    ({ s with pix := { s.pix with rows := s.shiftedRows t w1, stage := stageOf w1 } }, (List.range 4).map (s.shiftedNode bands level)) := by
  rw [State.pixTick, State.drainCut_over hdrain]
  rfl

include hdrain in
theorem State.pixTick_frameStart (bands : BitVec 4) (level : Bool) : s.pixTick t 1 w1 bands level = ({ s.emit (.gates t) with
    pix := Pix.emptied { s.pix with stage := [0, 0, 0, 0] } s.tick.dir (t + 400) }, [.halted, .halted, .halted, .halted]) := by
  rw [State.pixTick, State.drainCut_over hdrain]
  rfl

include hdrain in
theorem State.pixTick_exposure (bands : BitVec 4) (level : Bool) :
    s.pixTick t 2 w1 bands level = (s, [.halted, .halted, .halted, .halted]) := by
  rw [State.pixTick, State.drainCut_over hdrain]
  rfl

theorem getD_shifts {b : Nat} (hb : b < 4) : ((List.range 4).map fun b => shiftBand s.tick.dir (s.pix.band b)).getD b ([], []) =
    shiftBand s.tick.dir (s.pix.band b) := by simp [List.getD_eq_getElem?_getD, hb]

include hlen in
theorem State.shiftedRows_row {b k : Nat} (hb : b < 4) (hk : k < 64) (hN : (stageOf w1).getD b 64 ≠ 0) :
    (s.shiftedRows t w1).getD (64 * b + k) [] =
      if integrates s.tick.dir ((stageOf w1).getD b 64) k then
        (if s.tick.dir then (if k = 63 then [] else s.pix.rows.getD (64 * b + (k + 1)) [])
          else (if k = 0 then [] else s.pix.rows.getD (64 * b + (k - 1)) [])) ++ [(t, 64 * b + k)]
      else [] := by
  obtain ⟨hband, hrow⟩ := Pix.band_spec hlen hb
  have hlens : ∀ b, b < 4 → (exposeBand s.tick.dir ((stageOf w1).getD b 64) b t (drainBand s.tick.dir ((stageOf w1).getD b 64)
      (((List.range 4).map fun b => shiftBand s.tick.dir (s.pix.band b)).getD b ([], [])).1)).length = 64 := fun b hb => by
    rw [length_exposeBand, length_drainBand, getD_shifts hb, length_shiftBand _ (Pix.band_spec hlen hb).1]
  have hup : (if k = 63 then [] else (s.pix.band b).getD (k + 1) []) = if k = 63 then [] else s.pix.rows.getD (64 * b + (k + 1)) [] := by
    by_cases h : k = 63
    · rw [if_pos h, if_pos h]
    · rw [if_neg h, if_neg h, hrow _ (by omega)]
  rw [State.shiftedRows, getD_flatMap_bands hlens _ hb hk, getD_shifts hb, shifted_row _ hN t hband hk, hup, hrow (k - 1) (by omega)]

include hlen in
theorem State.shiftedNode_eq (bands : BitVec 4) (level : Bool) {b : Nat} (hb : b < 4) : s.shiftedNode bands level b =
    if bands.getLsbD b = false then .drained else if level then .level
    else .packet (s.pix.rows.getD (64 * b + (if s.tick.dir then 0 else 63)) []) := by
  obtain ⟨hband, hrow⟩ := Pix.band_spec hlen hb
  rw [State.shiftedNode, getD_shifts hb, shifted_out _ hband, hrow _ (by split <;> decide)]
  cases bands.getLsbD b <;> rfl

/-- An emptied array in which every row collects. -/
theorem Pix.emptied_row (p : Pix) (rev : Bool) (t : Time) {b k : Nat} (hb : b < 4) (hk : k < 64) :
    (Pix.emptied { p with stage := [0, 0, 0, 0] } rev t).rows.getD (64 * b + k) [] = [(t, 64 * b + k)] := by
  have hstage : Pix.stageOf { p with stage := [0, 0, 0, 0] } b = 0 := by
    obtain rfl | rfl | rfl | rfl : b = 0 ∨ b = 1 ∨ b = 2 ∨ b = 3 := by omega
    all_goals rfl
  rw [Pix.emptied, getD_flatMap_bands (fun b hb => by rw [length_exposeBand, List.length_replicate]) _ hb hk, hstage, exposeBand,
    getD_mapIdx _ _ _ (by rw [List.length_replicate]; exact hk), List.getD_replicate _ hk]
  rfl

end PixTick

theorem stageOf_getD (w1 : W32) {b : Nat} (hb : b < 4) : (stageOf w1).getD b 64 =
    if fld w1 (31 - 6 * b) (26 - 6 * b) = 0 then 64 else fld w1 (31 - 6 * b) (26 - 6 * b) := by
  simp [stageOf, List.getD_eq_getElem?_getD, hb]

theorem getElem?_halted {b : Nat} (hb : b < 4) : [NodeAct.halted, .halted, .halted, .halted][b]? = some .halted := by
  obtain rfl | rfl | rfl | rfl : b = 0 ∨ b = 1 ∨ b = 2 ∨ b = 3 := by omega
  all_goals rfl

/-- Settles O15: a tick is `State.fireTick`, followed through its steps by what they keep; the charge band by band. -/
theorem lineTickCounts : Obligations.LineTickCounts := by
  unfold Obligations.LineTickCounts
  refine ⟨?_, ?_⟩
  · intro s t hr now k run allowed
    obtain ⟨hyes, hno⟩ := exec_lineTick hr t
    refine ⟨fun h hreset => ?_, hno⟩
    have htick := (s.at t).fireTick_spec now s.encNow false hreset
    exact ⟨_, hyes h, htick.line, htick.last, htick.shift, htick.record, htick.snap, htick.commit, htick.noCommit⟩
  · intro s t w1 bands level b hlen hb hdrain row v N r
    have hstage : (stageOf w1).getD b 64 = N := stageOf_getD w1 hb
    have hN : (stageOf w1).getD b 64 ≠ 0 := by
      rw [stageOf_getD w1 hb]
      split
      · decide
      · assumption
    have hr : r = _ := State.pixTick_shift hdrain w1 bands level
    clear_value r
    subst hr
    refine ⟨fun k hk => ?_, hstage, ?_, ?_, ?_⟩
    · refine (State.shiftedRows_row hlen w1 hb hk hN).trans ?_
      rw [hstage]
      cases s.tick.dir <;> simp [integrates, row]
    · refine (List.getElem?_map ..).trans ?_
      rw [List.getElem?_range hb, Option.map_some, State.shiftedNode_eq hlen bands level hb]
    · dsimp only
      rw [State.pixTick_frameStart hdrain]
      exact ⟨rfl, getElem?_halted hb, fun k hk => Pix.emptied_row s.pix s.tick.dir (t + 400) hb hk⟩
    · dsimp only
      rw [State.pixTick_exposure hdrain]
      exact ⟨rfl, getElem?_halted hb⟩

end Machine
end Sys2Proof

/-! The hold-and-reject gate of trigger edges (01_line_tick R29, R30, R39 to R44, R54). -/

namespace Sys2Proof
namespace Machine

/-- A trigger edge rejected and recorded: the count goes up, and a record is staged. -/
theorem State.overrun_spec (s : State) (inp : Nat) (stamp : Time) :
    (s.overrun inp stamp).tick = { s.tick with rejN := s.tick.rejN + 1 } ∧ (s.overrun inp stamp).regs = s.regs := by
  unfold State.overrun
  extract_lets s1 sp
  obtain ⟨f, hf⟩ := s1.useFree.stageOn_frame State.chanOn fun ch =>
    recWords 0x0A ch s1.lastLine s1.encNow stamp sp 0 0 [pack 64 [(inp, 56), (s1.tick.rejN.toNat, 0)]]
  rw [hf]
  exact ⟨rfl, rfl⟩

section Trigger

variable {s : State} (hst : s.tick.st = 2 ∨ s.tick.st = 4 ∨ s.tick.st = 5) (inp : Nat) (stamp : Time)
include hst

theorem State.gate_open : ¬(!(s.tick.st == 2 || s.tick.st == 4 || s.tick.st == 5)) = true := by
  rcases hst with h | h | h <;> rw [h] <;> decide

theorem State.trigger_suspended (hn : s.noTicks = true) : s.trigger inp stamp =
    (s.modTick fun k => { k with rejN := k.rejN + 1 }).modClk fun c => { c with gTrig := c.gTrig + 1 } := by
  rw [State.trigger]
  dsimp only
  rw [if_neg (State.gate_open hst), if_pos hn]

variable (hn : s.noTicks = false)
include hn

theorem State.trigger_held (hheld : s.tick.held.isSome = true) : s.trigger inp stamp = s.overrun inp stamp := by
  rw [State.trigger]
  dsimp only
  rw [if_neg (State.gate_open hst), if_neg (by simp [hn]), if_pos hheld]

variable (hheld : s.tick.held = none) {x : Time} (hshift : s.tick.shift = some x)
include hheld hshift

/-- A trigger edge that meets no other: its distance from the latest shift decides. -/
theorem State.trigger_free : s.trigger inp stamp =
    (let k := s.tick
    let w := 2 * s.regF 0x10008 12 0
    let d := since stamp x
    let edge := k.shiftTmin ≤ d + 1 && d ≤ k.shiftTmin + 1
    let hold := w != 0 && (if edge then s.chooses else d < k.shiftTmin && k.shiftTmin ≤ d + w)
    let s := if edge then s.useFree else s
    if hold then s.modTick fun k => { k with held := some stamp, heldEnc := s.encNow, lastTrig := stamp }
    else if k.shiftTmin ≤ d || edge then
      (s.modTick fun k => { k with lastTrig := stamp }).fireTick (stamp + BitVec.ofNat 64 ((s.pathPs + 250) / 500)) s.encNow false
    else s.overrun inp stamp) := by
  rw [State.trigger]
  dsimp only
  rw [if_neg (State.gate_open hst), if_neg (by simp [hn]), if_neg (by simp [hheld]), hshift]

theorem State.trigger_window (hlt : since stamp x + 1 < s.tick.shiftTmin) (hin : s.tick.shiftTmin ≤ since stamp x + 2 * s.regF 0x10008 12 0) :
    s.trigger inp stamp = s.modTick fun k => { k with held := some stamp, heldEnc := s.encNow, lastTrig := stamp } := by
  have hedge : (decide (s.tick.shiftTmin ≤ since stamp x + 1) && decide (since stamp x ≤ s.tick.shiftTmin + 1)) = false := by
    rw [decide_eq_false (by omega)]
    rfl
  have hhold : (2 * s.regF 0x10008 12 0 != 0 && (decide (since stamp x < s.tick.shiftTmin) &&
      decide (s.tick.shiftTmin ≤ since stamp x + 2 * s.regF 0x10008 12 0))) = true := by
    rw [decide_eq_true hin, decide_eq_true (show since stamp x < s.tick.shiftTmin by omega), bne_iff_ne.2 (by omega)]
    rfl
  rw [State.trigger_free hst inp stamp hn hheld hshift]
  simp only [hedge, Bool.false_eq_true, if_false, hhold, if_true]

theorem State.trigger_early (hlt : since stamp x + 1 < s.tick.shiftTmin) (hout : since stamp x + 2 * s.regF 0x10008 12 0 < s.tick.shiftTmin) :
    s.trigger inp stamp = s.overrun inp stamp := by
  have hedge : (decide (s.tick.shiftTmin ≤ since stamp x + 1) && decide (since stamp x ≤ s.tick.shiftTmin + 1)) = false := by
    rw [decide_eq_false (by omega)]
    rfl
  have hhold : (2 * s.regF 0x10008 12 0 != 0 && (decide (since stamp x < s.tick.shiftTmin) &&
      decide (s.tick.shiftTmin ≤ since stamp x + 2 * s.regF 0x10008 12 0))) = false := by
    rw [decide_eq_false (show ¬s.tick.shiftTmin ≤ since stamp x + 2 * s.regF 0x10008 12 0 by omega), Bool.and_false, Bool.and_false]
  have hfire : (decide (s.tick.shiftTmin ≤ since stamp x) || false) = false := by
    rw [decide_eq_false (by omega)]
    rfl
  rw [State.trigger_free hst inp stamp hn hheld hshift]
  simp only [hedge, Bool.false_eq_true, if_false, hhold, hfire]

/-- A trigger edge later than T_min, or at it with holding disabled, fires; at T_min that is a free choice, which steps the free counter. -/
theorem State.trigger_fires (hlate : s.tick.shiftTmin + 1 < since stamp x ∨
    (2 * s.regF 0x10008 12 0 = 0 ∧ s.tick.shiftTmin ≤ since stamp x + 1)) :
    ∃ s1, (s1 = s ∨ s1 = s.useFree) ∧ s.trigger inp stamp =
      (s1.modTick fun k => { k with lastTrig := stamp }).fireTick (stamp + BitVec.ofNat 64 ((s.pathPs + 250) / 500)) s1.encNow false := by
  rw [State.trigger_free hst inp stamp hn hheld hshift]
  dsimp only
  by_cases hnear : since stamp x ≤ s.tick.shiftTmin + 1
  · obtain ⟨hw, hmin⟩ := hlate.resolve_left (by omega)
    have hedge : (decide (s.tick.shiftTmin ≤ since stamp x + 1) && decide (since stamp x ≤ s.tick.shiftTmin + 1)) = true := by
      rw [decide_eq_true hmin, decide_eq_true hnear]
      rfl
    refine ⟨s.useFree, .inr rfl, ?_⟩
    simp only [hedge, if_true, hw, bne_self_eq_false, Bool.false_and, Bool.false_eq_true, if_false, Bool.or_true]
    rfl
  · have hfar : ¬since stamp x < s.tick.shiftTmin ∧ s.tick.shiftTmin ≤ since stamp x := by omega
    have hedge : (decide (s.tick.shiftTmin ≤ since stamp x + 1) && decide (since stamp x ≤ s.tick.shiftTmin + 1)) = false := by
      rw [decide_eq_false hnear, Bool.and_false]
    refine ⟨s, .inl rfl, ?_⟩
    simp only [hedge, Bool.false_eq_true, if_false, decide_eq_false hfar.1, Bool.false_and, Bool.and_false, decide_eq_true hfar.2, Bool.true_or,
      if_true]

end Trigger

/-- A trigger edge at the pin the device takes its ticks from, with no relay. -/
theorem exec_triggerEdge {s : State} (hr : s.running = true) (t : Time) {inp : BitVec 2} {falling : Bool} (hmode : s.mode = 2)
    (hsrc : s.tckSrc = 0) (hinp : inp.toNat = s.regF 0x10000 24 23) (hfall : falling = (s.regF 0x10000 25 25 == 1))
    (hrelay : bit (s.reg 0x1C0000) 28 = false) :
    exec (.triggerEdge t inp falling) s = .next ((s.at t).trigger inp.toNat (s.at t).now) := by
  have hexec : exec (.triggerEdge t inp falling) s = execTriggerEdge t inp falling s := rfl
  have hcond : ((s.at t).mode == 2 && (s.at t).tckSrc == 0 && inp.toNat == (s.at t).regF 0x10000 24 23 &&
      falling == ((s.at t).regF 0x10000 25 25 == 1)) = true := by
    show (s.mode == 2 && s.tckSrc == 0 && inp.toNat == s.regF 0x10000 24 23 && falling == (s.regF 0x10000 25 25 == 1)) = true
    rw [hmode, hsrc, hinp, hfall]
    simp
  have hno : ¬(bit ((s.at t).reg 0x1C0000) 28 && (s.at t).hpos.isSome) = true := by
    show ¬(bit (s.reg 0x1C0000) 28 && _) = true
    rw [hrelay]
    exact Bool.false_ne_true
  rw [hexec, execTriggerEdge, inRun_running hr, if_pos hcond, if_neg hno]

/-- A held trigger whose T_min has passed fires, and its latency is kept. -/
theorem exec_holdGateOpen {s : State} (hr : s.running = true) (t : Time) {y x : Time} (hheld : s.tick.held = some y) (hshift : s.tick.shift = some x)
    (hn : s.noTicks = false) (hmin : s.tick.shiftTmin ≤ since (s.at t).now x) : exec (.holdGateOpen t) s = .next
      (let s1 := ((s.at t).modTick fun k => { k with held := none }).fireTick (s.at t).now s.tick.heldEnc true
      if s1.alive then
        (s1.modTick fun k => { k with heldN := k.heldN + 1, lastLat := BitVec.ofNat 16 (since (s.at t).now y) }).event 0x01 s.tick.line.toNat
          s.tick.heldEnc y (since (s.at t).now y) 0
      else s1) := by
  have hexec : exec (.holdGateOpen t) s = execHoldGateOpen t s := rfl
  have hcond : (decide ((s.at t).tick.shiftTmin ≤ since (s.at t).now x) && !(s.at t).noTicks) = true := by
    rw [decide_eq_true (show (s.at t).tick.shiftTmin ≤ since (s.at t).now x from hmin), show (s.at t).noTicks = false from hn]
    rfl
  rw [hexec, execHoldGateOpen, inRun_running hr]
  simp only [State.at_tick, hheld, hshift]
  exact congrArg _ (if_pos hcond)

/-- Settles O16: the gate by its cases; a trigger that fires is a tick. -/
theorem triggerGate : Obligations.TriggerGate := by
  unfold Obligations.TriggerGate
  intro s t inp falling hr hmode hsrc hinp hfall hrelay hst now k w
  have hexec := exec_triggerEdge hr t hmode hsrc hinp hfall hrelay
  refine ⟨fun hn => ?_, fun hn => ⟨fun hheld => ?_, fun x hheld hshift => ⟨fun hlt hin => ?_, fun hout hlt => ?_, fun hlate hreset => ?_⟩,
    fun y x hheld hshift hmin hreset => ?_⟩⟩
  · rw [hexec, State.trigger_suspended (s := s.at t) hst _ _ hn]
    rfl
  · refine ⟨_, hexec.trans (congrArg _ (State.trigger_held (s := s.at t) hst _ _ hn hheld)), (s.at t).overrun_spec _ _⟩
  · rw [hexec, State.trigger_window (s := s.at t) hst _ _ hn hheld hshift hlt hin]
    rfl
  · exact ⟨_, hexec.trans (congrArg _ (State.trigger_early (s := s.at t) hst _ _ hn hheld hshift hlt hout)), (s.at t).overrun_spec _ _⟩
  · obtain ⟨s1, hs1, hfire⟩ := State.trigger_fires (s := s.at t) hst inp.toNat now hn hheld hshift hlate
    have hs1' : s1.tick = k ∧ s1.hng = s.hng := by
      rcases hs1 with rfl | rfl
      · exact ⟨rfl, rfl⟩
      · exact ⟨rfl, rfl⟩
    obtain ⟨htick, hhng⟩ := hs1'
    have hticked := (s1.modTick fun k => { k with lastTrig := now }).fireTick_spec (now + BitVec.ofNat 64 (((s.at t).pathPs + 250) / 500)) s1.encNow
      false ((congrArg Hinge.aReset hhng).trans hreset)
    refine ⟨_, hexec.trans (congrArg _ hfire), hticked.line.trans ?_, hticked.lastTrig, hticked.last⟩
    show s1.tick.line + 1 = k.line + 1
    rw [htick]
  · have hticked := ((s.at t).modTick fun k => { k with held := none }).fireTick_spec now s.tick.heldEnc true hreset
    have halive : (((s.at t).modTick fun k => { k with held := none }).fireTick now s.tick.heldEnc true).alive = true :=
      hticked.alive.trans (State.alive_of_running hr)
    have hopen := exec_holdGateOpen hr t hheld hshift hn hmin
    dsimp only at hopen
    rw [if_pos halive] at hopen
    refine ⟨_, hopen, ?_⟩
    generalize State.fireTick _ now s.tick.heldEnc true = s1 at hticked
    obtain ⟨f, hf⟩ := (s1.modTick fun k => { k with heldN := k.heldN + 1, lastLat := BitVec.ofNat 16 (since now y) }).event_frame 0x01
      s.tick.line.toNat s.tick.heldEnc y (since now y) 0
    rw [hf]
    exact ⟨hticked.line, hticked.last, hticked.held rfl, congrArg (· + 1) hticked.heldN, rfl⟩

end Machine
end Sys2Proof

/-! The tick generator between ticks (01_line_tick R38, R45 to R56; 07_kernels_records R278). -/

namespace Sys2Proof
namespace Machine

/-- A change of TCK_STATUS.STATE: vector 16 is raised. -/
theorem State.setTck_spec (s : State) {st : Nat} (h : s.tick.st ≠ st) :
    (s.setTck st).tick = { s.tick with st := st } ∧ (s.setTck st).host.cause.getLsbD 0 = true ∧ (s.setTck st).regs = s.regs := by
  obtain ⟨h', o, heq, hc⟩ := State.raise_frame (s.modTick fun k => { k with st := st }) (v := 16) (by decide)
  rw [State.setTck, if_neg (mt beq_iff_eq.1 h), heq]
  exact ⟨rfl, hc, rfl⟩

/-- The state is set: of the tick generator, what is shown and the vectors, nothing else. -/
theorem State.setTck_frame (s : State) (st : Nat) :
    ∃ h o, s.setTck st = { s with tick := { s.tick with st := st }, host := h, out := o } := by
  unfold State.setTck
  split
  · next heq =>
    rw [← beq_iff_eq.1 heq]
    exact ⟨_, _, rfl⟩
  · obtain ⟨h, o, heq, -⟩ := State.raise_frame (s.modTick fun k => { k with st := st }) (v := 16) (by decide)
    rw [heq]
    exact ⟨_, _, rfl⟩

section Between

variable {s : State} (hr : s.running = true) (t : Time)
include hr

theorem exec_idleFlush (hw : s.regF 0x10018 15 0 ≠ 0) (hst : s.tick.st ≠ 0) (hn : s.noTicks = false)
    (hold : 200000 * s.regF 0x10018 15 0 ≤ since (s.at t).now s.tick.idleBase) : exec (.idleFlush t) s = .next
      (let s0 := (s.at t).drainPulse.modTick fun k => { k with idleBase := (s.at t).now, flushed := 64 }
      if s.tick.st = 2 then s0.setTck 4 else s0) := by
  have hexec : exec (.idleFlush t) s = execIdleFlush t s := rfl
  have hcond : ((s.at t).regF 0x10018 15 0 != 0 && (s.at t).tick.st != 0 && !(s.at t).noTicks &&
      200000 * (s.at t).regF 0x10018 15 0 ≤ since (s.at t).now (s.at t).tick.idleBase) = true := by
    show (s.regF 0x10018 15 0 != 0 && s.tick.st != 0 && !s.noTicks && decide (200000 * s.regF 0x10018 15 0 ≤ since (s.at t).now s.tick.idleBase))
      = true
    rw [decide_eq_true hold, hn, bne_iff_ne.2 hw, bne_iff_ne.2 hst]
    rfl
  rw [hexec, execIdleFlush, inRun_running hr]
  dsimp only
  rw [if_pos hcond]
  by_cases h2 : s.tick.st = 2
  · rw [if_pos h2]
    exact congrArg _ (if_pos (beq_iff_eq.2 h2))
  · rw [if_neg h2]
    exact congrArg _ (if_neg (mt beq_iff_eq.1 h2))

theorem exec_reversalConfirmed (hfix : s.regF 0x10000 27 26 = 0)
    (hback : ((max 1 (s.regF 0x10028 7 0) : Nat) : Int) ≤ (s.encNow - s.tick.turn).toInt * (if s.tick.conf then 1 else -1)) :
    exec (.reversalConfirmed t) s = .next
      ((s.at t).modTick fun k => { k with conf := !k.conf, revPend := true, turn := (s.at t).encNow }).minPeriod := by
  have hexec : exec (.reversalConfirmed t) s = execReversalConfirmed t s := rfl
  have hcond : ((s.at t).regF 0x10000 27 26 == 0 && decide (((max 1 ((s.at t).regF 0x10028 7 0) : Nat) : Int) ≤
      ((s.at t).encNow - (s.at t).tick.turn).toInt * (if (s.at t).tick.conf then 1 else -1))) = true := by
    show (s.regF 0x10000 27 26 == 0 && decide (((max 1 (s.regF 0x10028 7 0) : Nat) : Int) ≤
      (s.encNow - s.tick.turn).toInt * (if s.tick.conf then 1 else -1))) = true
    rw [decide_eq_true hback, hfix]
    rfl
  rw [hexec, execReversalConfirmed, inRun_running hr]
  exact congrArg _ (if_pos hcond)

theorem exec_directionFlushEnd (hst : s.tick.st = 5) (hflush : s.tick.flush = 0) :
    exec (.directionFlushEnd t) s = .next ((s.at t).setTck (if s.tick.hold then 3 else 2)) := by
  have hexec : exec (.directionFlushEnd t) s = execDirectionFlushEnd t s := rfl
  have hcond : ((s.at t).tick.st == 5 && (s.at t).tick.flush == 0) = true := by
    rw [State.at_tick, hst, hflush]
    rfl
  rw [hexec, execDirectionFlushEnd, inRun_running hr]
  exact congrArg _ (if_pos hcond)

theorem exec_holdoverLinesReached (hhold : s.tick.hold = true) (hn : s.regF 0x10020 15 0 ≤ s.tick.holdN) :
    exec (.holdoverLinesReached t) s = .next (s.at t).toLocking := by
  have hexec : exec (.holdoverLinesReached t) s = execHoldoverLinesReached t s := rfl
  have hcond : ((s.at t).tick.hold && decide ((s.at t).regF 0x10020 15 0 ≤ (s.at t).tick.holdN)) = true := by
    rw [show (s.at t).tick.hold = true from hhold, decide_eq_true (show (s.at t).regF 0x10020 15 0 ≤ (s.at t).tick.holdN from hn)]
    rfl
  rw [hexec, execHoldoverLinesReached, inRun_running hr]
  exact congrArg _ (if_pos hcond)

end Between

/-- Ticking stops in LOCKING, where the LPLL starts anew and a range of object lines not taken begins. -/
theorem State.toLocking_spec (s : State) : s.toLocking.tick.st = 1 ∧ s.toLocking.clk.lpll = 1 ∧ s.toLocking.tick.hold = false ∧
    s.toLocking.tick.holdN = 0 ∧ s.toLocking.tick.line = s.tick.line ∧ s.toLocking.regs = s.regs ∧
    s.toLocking.tick.gap = some (2, BitVec.ofNat 48 s.lastLine, s.encNow, s.now, 0) := by
  obtain ⟨h, o, heq⟩ := (s.modTick fun k => { k with hold := false, holdN := 0, flushAb := k.st == 5, flush := 0 }).setTck_frame 1
  rw [State.toLocking, heq]
  exact ⟨rfl, rfl, rfl, rfl, rfl, rfl, rfl⟩

/-- Records of object lines not taken: staged, which takes a free value. -/
theorem State.gapLines_frame (s : State) (reason line count : Nat) (enc encEnd : B48) (time : Time) (prov : Bool) :
    ∃ f, s.gapLines reason line count enc encEnd time prov = { s with fab := f, free := s.free + 1 } := s.useFree.stageOn_frame _ _

/-- A range reported PROVISIONAL goes on with the counts that made no line. -/
theorem State.endGap_prov {s : State} {r : Nat} {l e : B48} {x : Time} {c : Int} (h : s.tick.gap = some (r, l, e, x, c)) (enc : B48) :
    let p := s.linesIn ((enc - e).toInt + c)
    (s.endGap enc true).tick.gapN = s.tick.gapN + BitVec.ofNat 32 p.1 ∧
      (s.endGap enc true).tick.gap = (if p.1 = 0 then some (r, l, e, s.now, c) else some (r, l, enc, s.now, p.2)) ∧
      (s.endGap enc true).tick.line = s.tick.line ∧ (s.endGap enc true).regs = s.regs := by
  intro p
  rw [State.endGap, h]
  dsimp only
  by_cases hp : p.1 = 0
  · rw [if_pos hp, if_pos (beq_iff_eq.2 hp), if_pos (beq_iff_eq.2 hp), hp]
    exact ⟨(BitVec.add_zero _).symm, rfl, rfl, rfl⟩
  · have hp' : ¬(p.1 == 0) = true := mt beq_iff_eq.1 hp
    obtain ⟨f, hf⟩ := State.gapLines_frame (s.modTick fun k => { k with gapN := k.gapN + BitVec.ofNat 32 p.1 }) r l.toNat p.1 e enc s.lastTime true
    rw [if_neg hp, if_neg hp', if_neg hp', hf]
    exact ⟨rfl, rfl, rfl, rfl⟩

/-- The part of an interruption not yet reported, in tracked mode. -/
theorem State.clockProvisional_spec {s : State} (hmode : s.mode ≠ 2) :
    let p := s.linesIn ((s.encNow - s.clk.gEnc).toInt + s.clk.gRem)
    let s' := s.clockProvisional
    s'.tick.gapN = s.tick.gapN + BitVec.ofNat 32 p.1 ∧ s'.clk.gapT = s.now ∧ s'.clk.gEnc = (if p.1 = 0 then s.clk.gEnc else s.encNow) ∧
      s'.clk.gRem = (if p.1 = 0 then s.clk.gRem else p.2) ∧ s'.tick.gap = s.tick.gap ∧ s'.regs = s.regs := by
  intro p s'
  have hs' : s' = if (p.1 == 0) = true then s.modClk fun c => { c with gapT := s.now }
      else ((s.modTick fun k => { k with gapN := k.gapN + BitVec.ofNat 32 p.1 }).gapLines 0x03 s.lastLine p.1 s.clk.gEnc s.encNow s.lastTime
        true).modClk fun c => { c with gEnc := s.encNow, gRem := p.2, gTrig := 0, gapT := s.now } := by
    have hm : ¬(s.mode == 2) = true := mt beq_iff_eq.1 hmode
    dsimp only [s']
    rw [State.clockProvisional]
    dsimp only
    rw [if_neg hm, if_neg hm]
  clear_value s'
  subst hs'
  by_cases hp : p.1 = 0
  · rw [if_pos hp, if_pos hp, if_pos (beq_iff_eq.2 hp), hp]
    exact ⟨(BitVec.add_zero _).symm, rfl, rfl, rfl, rfl, rfl⟩
  · have hp' : ¬(p.1 == 0) = true := mt beq_iff_eq.1 hp
    obtain ⟨f, hf⟩ := State.gapLines_frame (s.modTick fun k => { k with gapN := k.gapN + BitVec.ofNat 32 p.1 }) 0x03 s.lastLine p.1 s.clk.gEnc
      s.encNow s.lastTime true
    rw [if_neg hp, if_neg hp, if_neg hp', hf]
    exact ⟨rfl, rfl, rfl, rfl, rfl, rfl⟩

/-- GAP_PROVISIONAL of an open range. -/
theorem exec_gapProvisional_open {s : State} (hr : s.running = true) (t : Time) {r : Nat} {l e : B48} {x : Time} {c : Int}
    (h : s.tick.gap = some (r, l, e, x, c)) (hold : 200000 ≤ since (s.at t).now x) :
    exec (.gapProvisional t) s = .next ((s.at t).endGap s.encNow true) := by
  have hexec : exec (.gapProvisional t) s = execGapProvisional t s := rfl
  rw [hexec, execGapProvisional, inRun_running hr]
  simp only [State.at_tick, h]
  exact congrArg _ (if_pos hold)

/-- GAP_PROVISIONAL during an interruption. -/
theorem exec_gapProvisional_clock {s : State} (hr : s.running = true) (t : Time) (h : s.tick.gap = none) (hn : s.noTicks = true)
    (hst : s.tick.st ≠ 0) (hold : 200000 ≤ since (s.at t).now s.clk.gapT) :
    exec (.gapProvisional t) s = .next (s.at t).clockProvisional := by
  have hexec : exec (.gapProvisional t) s = execGapProvisional t s := rfl
  have hcond : ((s.at t).noTicks && decide (200000 ≤ since (s.at t).now (s.at t).clk.gapT) && (s.at t).tick.st != 0) = true := by
    rw [show (s.at t).noTicks = true from hn, decide_eq_true (show 200000 ≤ since (s.at t).now (s.at t).clk.gapT from hold),
      show ((s.at t).tick.st != 0) = true from bne_iff_ne.2 hst]
    rfl
  rw [hexec, execGapProvisional, inRun_running hr]
  simp only [State.at_tick, h] at hcond ⊢
  exact congrArg _ (if_pos hcond)

/-- Settles O17: each change by its guard; a change of the state by what `State.setTck` leaves. -/
theorem tickStateChanges : Obligations.TickStateChanges := by
  unfold Obligations.TickStateChanges
  intro s t hr now k
  refine ⟨?_, ?_, exec_directionFlushEnd hr t, fun hhold hn => ⟨_, exec_holdoverLinesReached hr t hhold hn, (s.at t).toLocking_spec⟩,
    fun r l e x c hgap hold => ⟨_, exec_gapProvisional_open hr t hgap hold, State.endGap_prov (s := s.at t) hgap _⟩,
    fun hgap hn hst hmode hold => ?_, fun st hst => s.setTck_spec hst⟩
  · intro w hw hst hn hold
    exact ⟨_, rfl, exec_idleFlush hr t hw hst hn hold⟩
  · intro back hfix hback
    exact ⟨_, exec_reversalConfirmed hr t hfix hback, rfl⟩
  · obtain ⟨h1, h2, h3, h4, h5, h6⟩ := State.clockProvisional_spec (s := s.at t) hmode
    exact ⟨_, exec_gapProvisional_clock hr t hgap hn hst hold, h1, h2, h3, h4, h5.trans hgap, h6⟩

end Machine
end Sys2Proof

/-! Commit, snapshot and throttle changes, requested and carried out without a tick (01_line_tick R57, R60, R61; 15_thermal R503). -/

namespace Sys2Proof
namespace Machine

/-- What a change of mode or direction touches: the tick generator, the sequencer, the drains, the calibration, the clocks, the staged records and
what is shown. No register, and no interrupt cause is taken back. -/
def ModeOnly (s s' : State) : Prop :=
  ∃ k q x c cl f fr h o, s' = { s with tick := k, seq := q, pix := x, cal := c, clk := cl, fab := f, free := fr, host := h, out := o } ∧
    k.commitLine = s.tick.commitLine ∧ ∀ i, s.host.cause.getLsbD i = true → h.cause.getLsbD i = true

namespace ModeOnly

theorem refl (s : State) : ModeOnly s s := ⟨_, _, _, _, _, _, _, _, _, rfl, rfl, fun _ => id⟩

theorem trans {s s' s'' : State} (h : ModeOnly s s') (h' : ModeOnly s' s'') : ModeOnly s s'' := by
  obtain ⟨k, q, x, c, cl, f, fr, hl, o, rfl, hk, hc⟩ := h
  obtain ⟨k', q', x', c', cl', f', fr', hl', o', rfl, hk', hc'⟩ := h'
  exact ⟨k', q', x', c', cl', f', fr', hl', o', rfl, hk'.trans hk, fun i hi => hc' i (hc i hi)⟩

theorem regs {s s' : State} (h : ModeOnly s s') : s'.regs = s.regs := by
  obtain ⟨k, q, x, c, cl, f, fr, hl, o, rfl, -, -⟩ := h
  rfl

theorem shadow {s s' : State} (h : ModeOnly s s') : s'.shadow = s.shadow := by
  obtain ⟨k, q, x, c, cl, f, fr, hl, o, rfl, -, -⟩ := h
  rfl

theorem commitLine {s s' : State} (h : ModeOnly s s') : s'.tick.commitLine = s.tick.commitLine := by
  obtain ⟨k, q, x, c, cl, f, fr, hl, o, rfl, hk, -⟩ := h
  exact hk

theorem cause {s s' : State} (h : ModeOnly s s') {i : Nat} (hi : s.host.cause.getLsbD i = true) : s'.host.cause.getLsbD i = true := by
  obtain ⟨k, q, x, c, cl, f, fr, hl, o, rfl, -, hc⟩ := h
  exact hc i hi

end ModeOnly

namespace State
variable (s : State)

theorem modTick_modeOnly {f : Tick → Tick} (h : ∀ k, (f k).commitLine = k.commitLine) : ModeOnly s (s.modTick f) :=
  ⟨_, _, _, _, _, _, _, _, _, rfl, h _, fun _ => id⟩

theorem modClk_modeOnly (f : Clk → Clk) : ModeOnly s (s.modClk f) := ⟨_, _, _, _, _, _, _, _, _, rfl, rfl, fun _ => id⟩

theorem modSeq_modeOnly (f : Seq → Seq) : ModeOnly s (s.modSeq f) := ⟨_, _, _, _, _, _, _, _, _, rfl, rfl, fun _ => id⟩

theorem modCal_modeOnly (f : Cal → Cal) : ModeOnly s (s.modCal f) := ⟨_, _, _, _, _, _, _, _, _, rfl, rfl, fun _ => id⟩

theorem dueClose_modeOnly (n : Nat) : ModeOnly s (s.dueClose n) := ⟨_, _, _, _, _, _, _, _, _, rfl, rfl, fun _ => id⟩

theorem raise_modeOnly {v : Nat} (hv : v < 28) : ModeOnly s (s.raise v) := by
  obtain ⟨h, o, heq, -⟩ := s.raise_frame hv
  have hmono : ∀ i, s.host.cause.getLsbD i = true → (s.raise v).host.cause.getLsbD i = true := fun i hi => s.raise_cause_mono v hi
  rw [heq] at hmono ⊢
  exact ⟨_, _, _, _, _, _, _, _, _, rfl, rfl, hmono⟩

theorem event_modeOnly (code line : Nat) (enc : B48) (time : Time) (d1 d2 : Nat) : ModeOnly s (s.event code line enc time d1 d2) := by
  obtain ⟨f, heq⟩ := s.event_frame code line enc time d1 d2
  rw [heq]
  exact ⟨_, _, _, _, _, _, _, _, _, rfl, rfl, fun _ => id⟩

theorem setTck_modeOnly (st : Nat) : ModeOnly s (s.setTck st) := by
  unfold State.setTck
  split
  · exact .refl s
  · exact (s.modTick_modeOnly fun _ => rfl).trans (State.raise_modeOnly _ (v := 16) (by decide))

theorem minPeriod_modeOnly : ModeOnly s s.minPeriod := by
  unfold State.minPeriod
  exact s.modTick_modeOnly fun _ => rfl

theorem gapLines_modeOnly (reason line count : Nat) (enc encEnd : B48) (time : Time) (prov : Bool) :
    ModeOnly s (s.gapLines reason line count enc encEnd time prov) := by
  obtain ⟨f, heq⟩ := s.gapLines_frame reason line count enc encEnd time prov
  rw [heq]
  exact ⟨_, _, _, _, _, _, _, _, _, rfl, rfl, fun _ => id⟩

theorem endGap_modeOnly (enc : B48) (prov : Bool) : ModeOnly s (s.endGap enc prov) := by
  unfold State.endGap
  split
  · exact .refl s
  · refine ModeOnly.trans ?_ (State.modTick_modeOnly _ fun _ => rfl)
    split
    · exact .refl s
    · refine ModeOnly.trans ?_ (State.gapLines_modeOnly ..)
      exact s.modTick_modeOnly fun _ => rfl

theorem calFailed_modeOnly (reason tile d1 d2 : Nat) : ModeOnly s (s.calFailed reason tile d1 d2) := by
  unfold State.calFailed
  exact s.modCal_modeOnly _

theorem stepStop_modeOnly (reason : Nat) (pending : Bool) : ModeOnly s (s.stepStop reason pending) := by
  unfold State.stepStop
  split
  · unfold State.stepFail State.calIdle
    extract_lets bs s1
    have hs1 : ModeOnly s s1 := by
      dsimp only [s1]
      split
      · exact s.modCal_modeOnly _
      · exact s.modCal_modeOnly _
      · exact s.modCal_modeOnly _
    clear_value s1
    refine hs1.trans (ModeOnly.trans ?_ (State.raise_modeOnly _ (v := 19) (by decide)))
    refine ModeOnly.trans ?_ (State.modCal_modeOnly _ _)
    exact s1.calFailed_modeOnly ..
  · exact .refl s

theorem enterStopped_modeOnly : ModeOnly s s.enterStopped := by
  unfold State.enterStopped
  split
  · exact .refl s
  · extract_lets s1 s2
    have hs1 : ModeOnly s s1 := (s.endGap_modeOnly _ _).trans (State.modTick_modeOnly _ fun _ => rfl)
    clear_value s1
    have hs2 : ModeOnly s1 s2 := by
      refine ModeOnly.trans ?_ (State.stepStop_modeOnly _ _ _)
      refine ModeOnly.trans ?_ (State.modClk_modeOnly _ _)
      refine ModeOnly.trans ?_ (State.setTck_modeOnly _ _)
      unfold State.stopSeq
      exact s1.modSeq_modeOnly _
    clear_value s2
    split
    · exact (hs1.trans hs2).trans (s2.dueClose_modeOnly _)
    · exact hs1.trans hs2

theorem startMode_modeOnly : ModeOnly s s.startMode := by
  unfold State.startMode
  split
  · exact .refl s
  · extract_lets s1
    have hs1 : ModeOnly s s1 := (s.modSeq_modeOnly _).trans (State.modTick_modeOnly _ fun _ => rfl)
    clear_value s1
    split
    · exact (hs1.trans (s1.setTck_modeOnly 2)).trans (State.minPeriod_modeOnly _)
    · refine ModeOnly.trans ?_ (State.minPeriod_modeOnly _)
      refine ModeOnly.trans ?_ (State.modTick_modeOnly _ fun _ => rfl)
      refine ModeOnly.trans ?_ (State.modClk_modeOnly _ _)
      refine (hs1.trans (s1.setTck_modeOnly 1)).trans (ModeOnly.trans ?_ (State.modClk_modeOnly _ _))
      exact State.modClk_modeOnly _ _

theorem changeMode_modeOnly (old : Nat) : ModeOnly s (s.changeMode old) := by
  unfold State.changeMode
  generalize (s.mode == (if s.tick.st == 0 then 0 else old)) = b
  split
  · exact .refl s
  · exact s.enterStopped_modeOnly.trans (State.startMode_modeOnly _)

theorem commitDir_modeOnly (atTick : Bool) : ModeOnly s (s.commitDir atTick) := by
  unfold State.commitDir
  extract_lets d want
  split
  · exact .refl s
  · split
    · exact s.modTick_modeOnly fun _ => rfl
    · split
      · exact s.modTick_modeOnly fun _ => rfl
      · refine ModeOnly.trans ?_ (State.event_modeOnly ..)
        refine ModeOnly.trans (s.modTick_modeOnly fun _ => rfl) ?_
        exact ⟨_, _, _, _, _, _, _, _, _, rfl, rfl, fun _ => id⟩

end State

/-- What a commit puts in force: no banked write is pending, and one that was pending alone is in force. -/
theorem State.commitRegs_regs (s : State) : ∀ off c, s.shadow = [(off, c)] → s.commitRegs.reg off = c.val := fun off c h => by
  rw [State.commitRegs, h]
  exact State.reg_putReg_same _ off c.val

theorem State.commitEffect_spec (s : State) (n : Nat) (enc : B48) (t : Time) :
    let s' := s.commitEffect n enc t
    s'.regs = s.commitRegs.regs ∧ s'.shadow = [] ∧ s'.tick.commitLine = BitVec.ofNat 48 n ∧ s'.host.cause.getLsbD 2 = true := by
  unfold State.commitEffect
  extract_lets eng s1 s2
  obtain ⟨r, hr⟩ := s.commitRegs_frame
  have hs1 : s1.regs = s.commitRegs.regs ∧ s1.shadow = [] ∧ s1.tick.commitLine = BitVec.ofNat 48 n := by
    dsimp only [s1]
    rw [hr]
    exact ⟨rfl, rfl, rfl⟩
  clear_value s1
  have hs2 : ModeOnly s1 s2 := by
    dsimp only [s2]
    split
    · exact .refl s1
    · exact s1.modTick_modeOnly fun _ => rfl
  clear_value s2
  obtain ⟨h, o, heq, hc⟩ := State.raise_frame (s2.event 0x04 n enc t s2.tick.epoch.toNat 0) (v := 18) (by decide)
  have hk : ModeOnly s1 _ := (hs2.trans (s2.event_modeOnly 0x04 n enc t s2.tick.epoch.toNat 0)).trans (State.raise_modeOnly _ (v := 18) (by decide))
  refine ⟨hk.regs.trans hs1.1, hk.shadow.trans hs1.2.1, hk.commitLine.trans hs1.2.2, ?_⟩
  show (State.raise _ 18).host.cause.getLsbD 2 = true
  rw [heq]
  exact hc

/-- A commit without a tick. -/
theorem State.commitUntimed_spec (s : State) : let s' := s.commitUntimed
    s'.tick.commit = false ∧ s'.tick.epoch = s.tick.epoch + 1 ∧ s'.tick.commitLine = BitVec.ofNat 48 s.tick.line.toNat ∧
      s'.tick.line = s.tick.line ∧ s'.shadow = [] ∧ s'.host.cause.getLsbD 2 = true ∧ ∀ off c, s.shadow = [(off, c)] → s'.reg off = c.val := by
  unfold State.commitUntimed
  extract_lets old n s1 s2
  have hs1 : s1.shadow = [] ∧ s1.tick.commitLine = BitVec.ofNat 48 n ∧ s1.host.cause.getLsbD 2 = true ∧
      (∀ off c, s.shadow = [(off, c)] → s1.reg off = c.val) ∧ s1.tick.core = { s.tick.core with commit := false, epoch := s.tick.epoch + 1 } := by
    obtain ⟨hregs, hshadow, hline, hcause⟩ := (s.modTick fun k => { k with commit := false }).commitEffect_spec n s.encNow s.now
    have hk := State.commitDir_modeOnly ((s.modTick fun k => { k with commit := false }).commitEffect n s.encNow s.now) false
    have hcore := (((s.modTick fun k => { k with commit := false }).commitEffect_tickKept n s.encNow s.now).trans
      (State.commitDir_tickKept _ false)).core
    refine ⟨hk.shadow.trans hshadow, hk.commitLine.trans hline, hk.cause hcause, fun off c h => ?_, hcore⟩
    have hreg := (s.modTick fun k => { k with commit := false }).commitRegs_regs off c h
    rw [State.reg, State.cell, hk.regs, hregs]
    exact hreg
  clear_value s1
  obtain ⟨hshadow, hline, hcause, hreg, hcore⟩ := hs1
  have hk : ModeOnly s1 s2 ∧ TickKept s1 s2 := by
    dsimp only [s2]
    split
    · exact ⟨(s1.changeMode_modeOnly old).trans (State.minPeriod_modeOnly _), (s1.changeMode_tickKept old).trans (State.minPeriod_tickKept _)⟩
    · exact ⟨s1.minPeriod_modeOnly, s1.minPeriod_tickKept⟩
  clear_value s2
  obtain ⟨hm, ht⟩ := hk
  have hc2 := ht.core.trans hcore
  refine ⟨congrArg TickCore.commit hc2, congrArg TickCore.epoch hc2, hm.commitLine.trans hline, congrArg TickCore.line hc2, hm.shadow.trans hshadow,
    hm.cause hcause, fun off c h => ?_⟩
  rw [State.reg, State.cell, hm.regs]
  exact hreg off c h

/-- A snapshot. -/
theorem State.snapEffect_spec (s : State) (n : Nat) (enc : B48) (t : Time) : let s' := s.snapEffect n enc t
    s'.tick = { s.tick with snap := false, tag := s.tick.tag + 1, snapLine := BitVec.ofNat 48 n, snapTime := t, snapEnc := enc } ∧
      s'.snap = s.freeze.snap ∧ s'.host.cause.getLsbD 2 = true ∧ s'.regs = s.regs := by
  obtain ⟨x, hx⟩ := s.freeze_frame
  obtain ⟨h, o, heq, hc⟩ := State.raise_frame (s.freeze.modTick fun k =>
    { k with tag := k.tag + 1, snap := false, snapLine := BitVec.ofNat 48 n, snapTime := t, snapEnc := enc }) (v := 18) (by decide)
  rw [State.snapEffect, heq, hx]
  exact ⟨rfl, rfl, hc, rfl⟩

/-- Logging an event takes no interrupt cause back. -/
theorem State.logEvent_cause_mono (s : State) (unit code d1 d2 d3 : Nat) {i : Nat} (hi : s.host.cause.getLsbD i = true) :
    (s.logEvent unit code d1 d2 d3).host.cause.getLsbD i = true := by
  unfold State.logEvent
  dsimp only
  split
  · exact hi
  · split
    · exact hi
    · exact State.raise_cause_mono _ 26 hi

/-- A throttle step in force. -/
theorem State.throttleEffect_spec {s : State} {x : Nat} (hx : s.th.kNew = some x) (n : Nat) (enc : B48) (t : Time) :
    let s' := s.throttleEffect n enc t
    s'.th = { s.th with k := x, kNew := none, chg := s.th.chg + 1 } ∧ s'.host.cause.getLsbD 9 = true ∧ s'.regs = s.regs := by
  obtain ⟨s1, hs1⟩ : ∃ s1, s1 = { s with th := { s.th with k := x, kNew := none, chg := s.th.chg + 1 } } := ⟨_, rfl⟩
  have heff : s.throttleEffect n enc t =
      (((s1.event 0x08 n enc t x 0).raise 25).logEvent 0x0A 1 x s.th.k (usg 64 s1.th.tc)).minPeriod := by
    rw [State.throttleEffect, hx, hs1]
  rw [heff]
  have hkeep : s1.th = { s.th with k := x, kNew := none, chg := s.th.chg + 1 } ∧ s1.regs = s.regs := by
    rw [hs1]
    exact ⟨rfl, rfl⟩
  clear heff hs1
  obtain ⟨f, hf⟩ := s1.event_frame 0x08 n enc t x 0
  obtain ⟨h, o, heq, hc⟩ := (s1.event 0x08 n enc t x 0).raise_frame (v := 25) (by decide)
  obtain ⟨fl, h', o', hlog⟩ := State.logEvent_frame ((s1.event 0x08 n enc t x 0).raise 25) 0x0A 1 x s.th.k (usg 64 s1.th.tc)
  have hmono := State.logEvent_cause_mono ((s1.event 0x08 n enc t x 0).raise 25) 0x0A 1 x s.th.k (usg 64 s1.th.tc) (i := 9) (by rw [heq]; exact hc)
  rw [State.minPeriod_frame]
  refine ⟨?_, hmono, ?_⟩
  · show (State.logEvent _ _ _ _ _ _).th = _
    rw [hlog, heq, hf]
    exact hkeep.1
  · show (State.logEvent _ _ _ _ _ _).regs = _
    rw [hlog, heq, hf]
    exact hkeep.2

/-- Settles O18: a commit's effect (`State.commitUntimed_spec`) is followed by changes of direction and mode, which touch no register
(`ModeOnly`) and nothing of the tick generator's core (`TickKept`). -/
theorem commitAndSnapshot : Obligations.CommitAndSnapshot := by
  unfold Obligations.CommitAndSnapshot
  intro s t v src ha now k
  refine ⟨fun hreach hgo hclr hno hnone => ?_, fun hreach hgo hno => ?_, fun hc hn hst => ?_, fun hsnap hold hset => ?_, fun x hr hst hn hx => ?_⟩
  · have hexec : exec (.commitGo t (goodWr v src)) s = execCommitGo t (goodWr v src) s := rfl
    rw [hexec, execCommitGo, regCmd_good ha _ hreach]
    have hbusy : ((s.at t).modTick fun k => { k with busyRej := k.busyRej && !bit v 29 }) = s.at t := by
      rw [hclr, Bool.not_false]
      exact congrArg (fun b => (s.at t).modTick fun k => { k with busyRej := b }) (Bool.and_true _)
    rw [State.commitWrite, hbusy]
    exact congrArg _ (if_pos (by
      show (bit v 31 && !s.tick.commit && s.hng.aCommit.isNone) = true
      rw [hgo, show s.tick.commit = false from hno, hnone]
      rfl))
  · have hexec : exec (.snapshotTake t (goodWr v src)) s = execSnapshotTake t (goodWr v src) s := rfl
    rw [hexec, execSnapshotTake, regCmd_good ha _ hreach, State.snapWrite]
    exact congrArg _ (if_pos (by
      show (bit v 31 && !s.tick.snap) = true
      rw [hgo, show s.tick.snap = false from hno]
      rfl))
  · have hexec : exec (.commitNoTick t) s = execCommitNoTick t s := rfl
    refine ⟨(s.at t).commitUntimed, ?_, (s.at t).commitUntimed_spec⟩
    rw [hexec, execCommitNoTick, timed_alive ha]
    have hun : s.untimed = true := by
      simp only [State.untimed, Bool.or_eq_true, Bool.and_eq_true, beq_iff_eq, Bool.not_eq_true']
      tauto
    exact congrArg _ (if_pos (by
      show (s.tick.commit && s.untimed && !s.noTicks) = true
      rw [show s.tick.commit = true from hc, hun, hn]
      rfl))
  · have hexec : exec (.snapshotNoTick t) s = execSnapshotNoTick t s := rfl
    refine ⟨(s.at t).snapEffect s.tick.line.toNat s.encNow now, ?_, (s.at t).snapEffect_spec _ _ _⟩
    rw [hexec, execSnapshotNoTick, timed_alive ha]
    exact congrArg _ (if_pos (by
      show (s.tick.snap && decide (2000 ≤ since now s.tick.snapT) && (s.at t).settled) = true
      rw [show s.tick.snap = true from hsnap, decide_eq_true (show 2000 ≤ since now s.tick.snapT from hold), hset]
      rfl))
  · have hexec : exec (.throttleChangeNoTick t) s = execThrottleChangeNoTick t s := rfl
    refine ⟨(s.at t).throttleEffect s.tick.line.toNat s.encNow now, ?_, State.throttleEffect_spec (s := s.at t) hx _ _ _⟩
    rw [hexec, execThrottleChangeNoTick, inRun_running hr]
    have hcond : ((s.tick.st == 0 || s.tick.st == 4) && !s.noTicks) = true := by
      rw [hn, Bool.not_false, Bool.and_true, Bool.or_eq_true, beq_iff_eq, beq_iff_eq]
      exact hst
    exact congrArg _ (if_pos hcond)

end Machine
end Sys2Proof

/-! Hold triggers, the end of a delay, and the result registers of the sequence (03_sequence_table R101, R105 to R107, R116, R125 to R127). -/

namespace Sys2Proof
namespace Machine

/-- The result of a pass that fell due: its word, with the tag one further, and the records staged. -/
theorem State.resUpdate_spec (s : State) (d : Due) : ∃ f r, s.resUpdate d = { s with fab := f, seq := { s.seq with res := r } } ∧
    (d.gen = s.seq.gen → Tbl.get 0 r d.n = pack 64 [((fld (Tbl.get 0 s.seq.res d.n) 63 56 + 1) % 256, 56), (3, 54), (fld d.w0 5 0, 48),
      (s.statValue d % 2 ^ 48, 0)]) ∧
    (d.gen ≠ s.seq.gen → r = s.seq.res) ∧ ∀ n, n ≠ d.n → Tbl.get 0 r n = Tbl.get 0 s.seq.res n := by
  unfold State.resUpdate
  extract_lets old w s1 last
  have hs1 : ∃ r, s1 = { s with seq := { s.seq with res := r } } ∧ (d.gen = s.seq.gen → Tbl.get 0 r d.n = w) ∧
      (d.gen ≠ s.seq.gen → r = s.seq.res) ∧ ∀ n, n ≠ d.n → Tbl.get 0 r n = Tbl.get 0 s.seq.res n := by
    by_cases hgen : d.gen = s.seq.gen
    · exact ⟨_, if_pos (beq_iff_eq.2 hgen), fun _ => Tbl.get_set_same _ _ _ _, fun h => absurd hgen h, fun n hn => Tbl.get_set_ne _ _ _ _ _ _ hn⟩
    · exact ⟨_, if_neg (mt beq_iff_eq.1 hgen), fun h => absurd h hgen, fun _ => rfl, fun _ _ => rfl⟩
  clear_value s1
  obtain ⟨r, rfl, hres⟩ := hs1
  split
  · split
    · exact ⟨_, r, rfl, hres⟩
    · rw [(State.stageOn_frame _ _ _).choose_spec]
      exact ⟨_, r, rfl, hres⟩
  · exact ⟨_, r, rfl, hres⟩

/-- Result registers are no snapshot registers and have no stored field. -/
theorem seqRes_not_snap : ∀ n < 64, snapRegs.contains (0x23000 + 8 * n) = false := by decide

theorem State.readWord_seqRes (s : State) {n : Nat} (hn : n < 64) : s.readWord (0x23000 + 8 * n) = Tbl.get 0 s.seq.res n := by
  have hseq : s.seqReg (0x3000 + 8 * n) = some (.w64 (Tbl.get 0 s.seq.res n)) := by
    unfold State.seqReg
    dsimp only
    rw [if_neg (by simp; omega), if_neg (by simp; omega), if_neg (by simp; omega), if_neg (by simp; omega), if_neg (by simp; omega),
      if_neg (by simp; omega), if_neg (by simp; omega), if_neg (by simp; omega), if_neg (by simp; omega), if_neg (by simp; omega),
      if_neg (by simp; omega), if_neg (by simp; omega), if_pos (by simp; omega), show (0x3000 + 8 * n - 0x3000) / 8 = n by omega]
    simp [w64, pack]
  have hcomposed : s.composed (0x23000 + 8 * n) = some (.w64 (Tbl.get 0 s.seq.res n)) := by
    unfold State.composed
    rw [if_neg (by rw [bne_iff_ne]; omega), if_neg (by omega), if_neg (by omega), if_pos (by omega),
      show 0x23000 + 8 * n - 0x20000 = 0x3000 + 8 * n by omega, hseq]
  rw [State.readWord, State.live, hcomposed]
  exact if_neg (by rw [seqRes_not_snap n hn]; exact Bool.false_ne_true)

/-- A read that covers FRESH (bit 55, in byte 6) clears it; no other read changes the results. -/
theorem State.readEffect_seqRes (s : State) {n : Nat} (hn : n < 64) (lo nb : Nat) : ∃ r,
    s.readEffect (0x23000 + 8 * n) lo nb = { s with seq := { s.seq with res := r } } ∧
    Tbl.get 0 r n = (if lo ≤ 6 ∧ 6 < lo + nb then Tbl.get 0 s.seq.res n &&& ~~~(1#64 <<< 55) else Tbl.get 0 s.seq.res n) ∧
    ∀ m, m ≠ n → Tbl.get 0 r m = Tbl.get 0 s.seq.res m := by
  have hidx : (0x23000 + 8 * n - 0x23000) / 8 = n := by omega
  unfold State.readEffect
  dsimp only
  rw [hidx]
  by_cases hcover : lo ≤ 6 ∧ 6 < lo + nb
  · rw [if_neg (by simpa using hcover), if_pos (by simp; omega), if_pos hcover]
    exact ⟨_, rfl, Tbl.get_set_same _ _ _ _, fun m hm => Tbl.get_set_ne _ _ _ _ _ _ hm⟩
  · rw [if_pos (by simpa [imp_iff_not_or] using hcover), if_neg hcover]
    exact ⟨_, rfl, rfl, fun _ _ => rfl⟩

/-- Settles O21: a hold trigger acts through `State.holdTrigger`, a result that fell due through `State.resUpdate_spec`, and a read through
`State.readWord_seqRes` and `State.readEffect_seqRes`. -/
theorem holdsAndResults : Obligations.HoldsAndResults := by
  unfold Obligations.HoldsAndResults
  intro s t v src hr now q
  have ha := State.alive_of_running hr
  refine ⟨fun hreach hgo => ?_, fun hph hover => ?_, fun d hd => ?_, fun n lo nb hn hnb hlen hmem hstall => ?_⟩
  · have hexec : exec (.holdTrigFire t (goodWr v src)) s = execHoldTrigFire t (goodWr v src) s := rfl
    refine ⟨(s.at t).holdTrigger, ?_, ?_⟩
    · rw [hexec, execHoldTrigFire, regCmd_good ha _ hreach]
      exact congrArg _ (if_pos hgo)
    · rw [State.holdTrigger, State.minPeriod_frame]
      by_cases hph : q.ph = 1
      · rw [if_pos hph]
        simp only [State.modSeq, show (s.at t).seq.ph = 1 from hph, beq_self_eq_true, if_true]
        rfl
      · rw [if_neg hph]
        simp only [State.modSeq, beq_eq_false_iff_ne.2 (show (s.at t).seq.ph ≠ 1 from hph), Bool.false_eq_true, if_false]
        rfl
  · have hexec : exec (.delayExpiry t) s = execDelayExpiry t s := rfl
    rw [hexec, execDelayExpiry, inRun_running hr]
    have hcond : (s.seq.ph == 2 && s.delayOver) = true := by rw [show s.seq.ph = 2 from hph, hover]; rfl
    exact congrArg _ (if_pos hcond)
  · have hexec : exec (.seqResUpdate t) s = execSeqResUpdate t s := rfl
    have hd' : ((s.at t).seq.due.find? fun d => (s.at t).dueReady d) = some d := hd
    obtain ⟨f, r, heq, hres⟩ := (s.at t).resUpdate_spec d
    refine ⟨((s.at t).resUpdate d).modSeq fun q => { q with due := q.due.erase d }, ?_, ?_⟩
    · rw [hexec, execSeqResUpdate, inRun_running hr, hd']
    · rw [heq]
      obtain ⟨hset, hkeep, hne⟩ := hres
      exact ⟨rfl, hset, hkeep, hne, rfl⟩
  · have hexec : exec (.seqResRead t n lo nb) s = execSeqResRead t n lo nb s := rfl
    obtain ⟨r, heq, hsame, hne⟩ := (s.at t).readEffect_seqRes hn lo nb
    refine ⟨((s.at t).readEffect (0x23000 + 8 * n) lo nb).emit (.rdData (0x23000 + 8 * n + lo) nb (narrow (Tbl.get 0 q.res n) lo nb)), ?_, ?_⟩
    · rw [hexec, execSeqResRead, timed_alive ha, if_pos hn, State.busRead_running (s := s.at t) hr hmem hstall (by omega) (by omega) hlen,
        State.readWord_seqRes _ hn]
      rfl
    · rw [heq]
      exact ⟨rfl, hsame, hne, rfl⟩

end Machine
end Sys2Proof

/-! The converters: the words of a conversion, the slices of a bank, rotation and power (04_converters). -/

namespace Sys2Proof
namespace Machine

/-! The order of the samples of a line (R132, R134). -/

theorem Line.pairs_nodup (l : Line) : l.pairs.Nodup := by
  refine List.Nodup.filterMap (fun i i' p h h' => ?_) List.nodup_range
  simp only [Option.mem_def, Option.ite_none_right_eq_some, Option.some.injEq] at h h'
  have h1 := congrArg Prod.fst (h.2.trans h'.2.symm)
  have h2 := congrArg Prod.snd (h.2.trans h'.2.symm)
  simp only at h1 h2
  omega

theorem Line.mem_pairs {l : Line} {p : Nat × Nat} (h : p ∈ l.pairs) : p.1 < 4 ∧ p.2 < 2 := by
  simp only [Line.pairs, List.mem_filterMap, List.mem_range, Option.ite_none_right_eq_some, Option.some.injEq] at h
  obtain ⟨i, hi, -, rfl⟩ := h
  omega

/-- A band and gain that the entry converts have four frames. -/
theorem frames_le_pairs : ∀ a < 16, ∀ g < 4, ((List.range 4).filter fun b => a / 2 ^ b % 2 == 1).length * (if g == 0 then 2 else 1) ≤
    ((List.range 8).filterMap fun i => if a / 2 ^ (i / 2) % 2 == 1 && g != 2 - i % 2 then some (i / 2, i % 2) else none).length := by decide

theorem Line.frames_le (l : Line) : l.frames ≤ 4 * l.pairs.length := by
  have h := frames_le_pairs (fld l.w0 27 24) (fld_lt _ 27 24) (fld l.w0 23 22) (fld_lt _ 23 22)
  rw [Line.frames, Nat.mul_assoc]
  exact Nat.mul_le_mul_left 4 h

/-- The pair of band and gain of sample `j`. -/
theorem Line.pair_of {l : Line} {j : Nat} (hj : j < 8 * l.frames) : ∃ h : j / 32 < l.pairs.length,
    l.posOf j = 64 * (l.pairs[j / 32]).1 + 32 * (l.pairs[j / 32]).2 + j % 32 := by
  have hle := l.frames_le
  have h : j / 32 < l.pairs.length := by omega
  refine ⟨h, ?_⟩
  rw [Line.posOf, List.getD_eq_getElem _ _ h]

theorem Line.posOf_lt {l : Line} {j : Nat} (hj : j < 8 * l.frames) : l.posOf j < 256 := by
  obtain ⟨h, hpos⟩ := Line.pair_of hj
  have hp := Line.mem_pairs (List.getElem_mem h)
  omega

theorem Line.posOf_inj {l : Line} {i j : Nat} (hi : i < 8 * l.frames) (hj : j < 8 * l.frames) (h : l.posOf i = l.posOf j) : i = j := by
  obtain ⟨hil, hip⟩ := Line.pair_of hi
  obtain ⟨hjl, hjp⟩ := Line.pair_of hj
  have h1 := Line.mem_pairs (List.getElem_mem hil)
  have h2 := Line.mem_pairs (List.getElem_mem hjl)
  have hpair : l.pairs[i / 32] = l.pairs[j / 32] := Prod.ext (by omega) (by omega)
  have hidx : i / 32 = j / 32 := (List.Nodup.getElem_inj_iff l.pairs_nodup).1 hpair
  omega

/-- A converted position has its sample. -/
theorem Line.sampleOf_posOf {l : Line} {j : Nat} (hj : j < 8 * l.frames) : l.sampleOf (l.posOf j) ≠ none := by
  obtain ⟨h, hpos⟩ := Line.pair_of hj
  obtain ⟨h1, h2⟩ := Line.mem_pairs (List.getElem_mem h)
  have hbg : ((l.posOf j / 64, l.posOf j / 32 % 2) : Nat × Nat) = l.pairs[j / 32] := Prod.ext (by simp only; omega) (by simp only; omega)
  rw [Line.sampleOf]
  rw [hbg]
  split
  · exact Option.some_ne_none _
  · next hnone => exact absurd (List.findIdx?_eq_none_iff.1 hnone _ (List.getElem_mem h)) (by simp)

theorem Line.mem_blanks {l : Line} {p : Nat} : p ∈ l.blanks ↔ p < 256 ∧ l.sampleOf p = none := by
  simp only [Line.blanks, List.mem_filter, List.mem_range, Option.isNone_iff_eq_none]

/-! The words in a slot (R134). -/

/-- One word of `State.slotWrite`. -/
def State.slotPut (s : State) (n : Nat) (x : Engine) (p : Nat × Nat) : Engine :=
  let a := 0xC000 + 0x200 * (n % 4) + 2 * p.1
  let y := s.dWrite x a (bytesLE 2 (BitVec.ofNat 16 p.2))
  { y with dUe := y.dUe.filter (fun d => d != a / 8), dCe := y.dCe.filter fun d => d != a / 8 }

theorem State.slotWrite_eq (s : State) (e n : Nat) (ws : List (Nat × Nat)) : s.slotWrite e n ws = s.modEng e fun x => ws.foldl (s.slotPut n) x := rfl

/-- A byte after one word. -/
theorem State.dByte_slotPut (s : State) (n : Nat) (x : Engine) (p : Nat × Nat) (i : Nat) :
    let a := 0xC000 + 0x200 * (n % 4) + 2 * p.1
    s.dByte (s.slotPut n x p) i = if a ≤ i ∧ i < a + 2 then (BitVec.ofNat 16 p.2).extractLsb' (8 * (i - a)) 8 else s.dByte x i := by
  intro a
  have h := s.dByte_dWrite (bytesLE 2 (BitVec.ofNat 16 p.2)) x a i
  simp only [bytesLE, List.length_map, List.length_range, List.getElem_map, List.getElem_range] at h
  have hput : s.dByte (s.slotPut n x p) i = s.dByte (s.dWrite x a (bytesLE 2 (BitVec.ofNat 16 p.2))) i := rfl
  rw [hput, bytesLE, h]
  by_cases hin : a ≤ i ∧ i < a + 2
  · rw [if_pos hin, dif_pos (by omega)]
  · rw [if_neg hin, dif_neg (by omega)]

/-- A byte that none of the words covers. -/
theorem State.dByte_slotPuts_out (s : State) (n i : Nat) (ws : List (Nat × Nat)) (x : Engine)
    (h : ∀ q ∈ ws, ¬(0xC000 + 0x200 * (n % 4) + 2 * q.1 ≤ i ∧ i < 0xC000 + 0x200 * (n % 4) + 2 * q.1 + 2)) :
    s.dByte (ws.foldl (s.slotPut n) x) i = s.dByte x i := by
  induction ws generalizing x with
  | nil => rfl
  | cons q ws ih =>
    rw [List.foldl_cons, ih _ fun r hr => h r (List.mem_cons_of_mem _ hr), s.dByte_slotPut, if_neg (h q List.mem_cons_self)]

/-- A byte of a word whose position no other word has. -/
theorem State.dByte_slotPuts_in (s : State) (n p w i : Nat) (hi : i < 2) (ws : List (Nat × Nat)) (x : Engine) (hmem : (p, w) ∈ ws)
    (hone : ∀ q ∈ ws, q.1 = p → q.2 = w) :
    s.dByte (ws.foldl (s.slotPut n) x) (0xC000 + 0x200 * (n % 4) + 2 * p + i) = (BitVec.ofNat 16 w).extractLsb' (8 * i) 8 := by
  induction ws generalizing x with
  | nil => exact absurd hmem (List.not_mem_nil)
  | cons q ws ih =>
    rw [List.foldl_cons]
    by_cases hin : (p, w) ∈ ws
    · exact ih _ hin fun r hr => hone r (List.mem_cons_of_mem _ hr)
    · have hq : q = (p, w) := ((List.mem_cons.1 hmem).resolve_right hin).symm
      have hout : ∀ r ∈ ws, r.1 ≠ p := fun r hr hrp => by
        have hw := hone r (List.mem_cons_of_mem _ hr) hrp
        exact hin (by rw [← hrp, ← hw]; exact hr)
      rw [s.dByte_slotPuts_out n _ ws _ fun r hr hcov => hout r hr (by omega), s.dByte_slotPut, hq, if_pos (by simp only; omega)]
      congr 1
      simp only
      omega

/-! The end of a conversion (R130 to R137). -/

/-- What a conversion touches: engine memories, the progress of lines, the banks, and the accumulators of a calibration step. -/
def ConvOnly (s s' : State) : Prop :=
  ∃ ls bk acc, s' = { s with fab := { s.fab with lines := ls }, conv := { s.conv with banks := bk }, cal := { s.cal with acc := acc } }

/-- Conversion and channels of a line. -/
def Line.progress (l : Line) : W32 × Tbl Nat × BitVec 1024 := (l.w0, l.frs, l.conv)

/-- The accumulation routine keeps the progress of every line, and touches only lines and accumulators. -/
def AccKept (s s' : State) : Prop := AccOnly s s' ∧ ∀ n, (s'.line n).map Line.progress = (s.line n).map Line.progress

theorem AccKept.refl (s : State) : AccKept s s := ⟨.refl s, fun _ => rfl⟩

theorem AccKept.trans {s s' s'' : State} (h : AccKept s s') (h' : AccKept s' s'') : AccKept s s'' :=
  ⟨h.1.trans h'.1, fun n => (h'.2 n).trans (h.2 n)⟩

theorem State.accumLine_line (s : State) (t n : Nat) (l : Line) (word : Nat → Nat) (m : Nat) :
    ((s.accumLine t n l word).line m).map Line.progress = (s.line m).map Line.progress := by
  have hline : (s.accumLine t n l word).line m = (s.modLine n fun l => { l with accd := l.accd ||| (1#1024 <<< t) }).line m := rfl
  rw [hline]
  by_cases hm : m = n
  · rw [hm, State.line_modLine_same, Option.map_map]
    rfl
  · rw [State.line_modLine_ne _ _ hm]

theorem State.accumulate_accKept (s : State) (t : Nat) : AccKept s (s.accumulate t) := by
  refine ⟨s.accumulate_accOnly t, ?_⟩
  unfold State.accumulate
  split
  · split
    · refine foldl_rel (R := fun s s' => ∀ n, (s'.line n).map Line.progress = (s.line n).map Line.progress) (fun _ _ => rfl)
        (fun _ _ _ h h' n => (h' n).trans (h n)) (fun s p => ?_) _ _
      split
      · split
        · exact s.accumLine_line _ _ _ _
        · exact fun _ => rfl
      · exact fun _ => rfl
    · exact fun _ => rfl
  · exact fun _ => rfl

/-- The words of a reference line change the accumulators only. -/
theorem State.accumRef_frame (s : State) (t n : Nat) (l : Line) (word : Nat → Nat) :
    ∃ acc, s.accumRef t n l word = { s with cal := { s.cal with acc := acc } } := by
  unfold State.accumRef
  split
  · refine foldl_rel (R := fun s s' => ∃ acc, s' = { s with cal := { s.cal with acc := acc } }) (fun s => ⟨_, rfl⟩) (fun s s' s'' h h' => ?_)
      (fun s bg => ?_) _ _
    · obtain ⟨a, rfl⟩ := h
      exact h'
    · split
      · split
        · exact ⟨_, rfl⟩
        · exact ⟨_, rfl⟩
      · exact ⟨_, rfl⟩
  · exact ⟨_, rfl⟩

/-- The end of a line's conversion in a bank whose tile is not being reloaded. -/
theorem State.convDone_spec {s : State} {t : Nat} (n : Nat) (hbusy : s.palBusy t = false) :
    ConvOnly s (s.convDone t n) ∧ ((s.convDone t n).line n).map Line.progress =
      (s.line n).map fun l => (l.w0, Tbl.erase l.frs t, l.conv ||| (1#1024 <<< t)) := by
  unfold State.convDone
  extract_lets s1 s2 s3
  have hs2 : ∃ ls bk, s2 = { s with fab := { s.fab with lines := ls }, conv := { s.conv with banks := bk } } := ⟨_, _, rfl⟩
  have hl2 : (s2.line n).map Line.progress = (s.line n).map fun l => (l.w0, Tbl.erase l.frs t, l.conv ||| (1#1024 <<< t)) := by
    show (s1.line n).map Line.progress = _
    rw [State.line_modLine_same, Option.map_map]
    rfl
  clear_value s2
  obtain ⟨ls, bk, rfl⟩ := hs2
  have hs3 : s3 = { s with fab := { s.fab with lines := ls }, conv := { s.conv with banks := bk } } := if_neg (by
    show ¬s.palBusy t = true
    rw [hbusy]
    exact Bool.false_ne_true)
  clear_value s3
  rw [← hs3] at hl2
  have hframe : ∃ ls bk, s3 = { s with fab := { s.fab with lines := ls }, conv := { s.conv with banks := bk } } := ⟨ls, bk, hs3⟩
  clear hs3
  split
  · next e l he hl =>
    obtain ⟨acc, hacc⟩ := s3.accumRef_frame t n l fun p => s3.dRead (s3.eng e) (0xC000 + 0x200 * (n % 4) + 2 * p) 2
    have hk := (s3.accumRef t n l fun p => s3.dRead (s3.eng e) (0xC000 + 0x200 * (n % 4) + 2 * p) 2).accumulate_accKept t
    generalize (s3.accumRef t n l fun p => s3.dRead (s3.eng e) (0xC000 + 0x200 * (n % 4) + 2 * p) 2).accumulate t = s4 at hk ⊢
    rw [hacc] at hk
    obtain ⟨⟨ls', acc', rfl, -⟩, hlines⟩ := hk
    obtain ⟨ls, bk, rfl⟩ := hframe
    exact ⟨⟨_, _, _, rfl⟩, (hlines n).trans hl2⟩
  · obtain ⟨ls, bk, rfl⟩ := hframe
    exact ⟨⟨_, _, _, rfl⟩, hl2⟩

/-- The line a bank converts has not ended its conversion there. -/
theorem State.convLine_conv {s : State} {t n : Nat} {l : Line} (h : s.convLine t = some (n, l)) : l.conv.getLsbD t = false := by
  obtain ⟨p, -, hp⟩ := List.exists_of_findSome?_eq_some h
  split at hp
  · next l' hl' =>
    simp only [Option.ite_none_right_eq_some, Option.some.injEq, Prod.mk.injEq, Bool.and_eq_true, Bool.not_eq_true'] at hp
    obtain ⟨⟨-, hconv⟩, -, rfl⟩ := hp
    exact hconv
  · exact absurd hp.symm (Option.some_ne_none _)

/-- The words of the frames that have ended, in the order of the samples. -/
def convWords (b : Bank) (n : Nat) (l : Line) (f m : Nat) (xs : List Int) : List (Nat × Nat) :=
  let words := (List.range (8 * (m - f))).map fun i => (l.posOf (8 * f + i), bankWord b n l (8 * f + i) (xs.getD i 0))
  if m == l.frames then words ++ l.blanks.map fun p => (p, 0x8000) else words

theorem mem_convWords {b : Bank} {n : Nat} {l : Line} {f m : Nat} {xs : List Int} (hfm : f ≤ m) {q : Nat × Nat} : q ∈ convWords b n l f m xs ↔
    (∃ j, 8 * f ≤ j ∧ j < 8 * m ∧ q = (l.posOf j, bankWord b n l j (xs.getD (j - 8 * f) 0))) ∨
      (m = l.frames ∧ q.1 < 256 ∧ l.sampleOf q.1 = none ∧ q.2 = 0x8000) := by
  have hwords : (q ∈ (List.range (8 * (m - f))).map fun i => (l.posOf (8 * f + i), bankWord b n l (8 * f + i) (xs.getD i 0))) ↔
      ∃ j, 8 * f ≤ j ∧ j < 8 * m ∧ q = (l.posOf j, bankWord b n l j (xs.getD (j - 8 * f) 0)) := by
    rw [List.mem_map]
    constructor
    · rintro ⟨i, hi, rfl⟩
      rw [List.mem_range] at hi
      exact ⟨8 * f + i, by omega, by omega, by rw [Nat.add_sub_cancel_left]⟩
    · rintro ⟨j, hj, hj', rfl⟩
      exact ⟨j - 8 * f, List.mem_range.2 (by omega), by rw [Nat.add_sub_cancel' hj]⟩
  have hblanks : (q ∈ l.blanks.map fun p => (p, 0x8000)) ↔ q.1 < 256 ∧ l.sampleOf q.1 = none ∧ q.2 = 0x8000 := by
    rw [List.mem_map]
    constructor
    · rintro ⟨p, hp, rfl⟩
      obtain ⟨h1, h2⟩ := Line.mem_blanks.1 hp
      exact ⟨h1, h2, rfl⟩
    · rintro ⟨h1, h2, h3⟩
      exact ⟨q.1, Line.mem_blanks.2 ⟨h1, h2⟩, Prod.ext rfl h3.symm⟩
  rw [convWords]
  by_cases hm : m = l.frames
  · rw [if_pos (beq_iff_eq.2 hm), List.mem_append, hwords, hblanks, and_iff_right hm]
  · rw [if_neg (mt beq_iff_eq.1 hm), hwords, or_iff_left fun h => hm h.1]

theorem convWords_pos_lt {b : Bank} {n : Nat} {l : Line} {f m : Nat} {xs : List Int} (hfm : f ≤ m) (hm : m ≤ l.frames) {q : Nat × Nat}
    (h : q ∈ convWords b n l f m xs) : q.1 < 256 := by
  obtain ⟨j, -, hj, rfl⟩ | ⟨-, hlt, -⟩ := (mem_convWords hfm).1 h
  · exact Line.posOf_lt (by omega)
  · exact hlt

/-- No position has two words. -/
theorem convWords_one {b : Bank} {n : Nat} {l : Line} {f m : Nat} {xs : List Int} (hfm : f ≤ m) (hm : m ≤ l.frames) {q r : Nat × Nat}
    (hq : q ∈ convWords b n l f m xs) (hr : r ∈ convWords b n l f m xs) (h : q.1 = r.1) : q.2 = r.2 := by
  obtain ⟨i, -, hi, rfl⟩ | ⟨-, -, hq1, hq2⟩ := (mem_convWords hfm).1 hq
  · obtain ⟨j, -, hj, rfl⟩ | ⟨-, -, hr1, -⟩ := (mem_convWords hfm).1 hr
    · rw [Line.posOf_inj (by omega) (by omega) h]
    · rw [← h] at hr1
      exact absurd hr1 (Line.sampleOf_posOf (by omega))
  · obtain ⟨j, -, hj, rfl⟩ | ⟨-, -, -, hr2⟩ := (mem_convWords hfm).1 hr
    · rw [h] at hq1
      exact absurd hq1 (Line.sampleOf_posOf (by omega))
    · rw [hq2, hr2]

/-- The frames of a conversion up to the `m`-th, with their words in the slot of engine `e`. -/
def State.convWrite (s : State) (tile n e m : Nat) (words : List (Nat × Nat)) : State :=
  (s.slotWrite e n words).modLine n fun l => { l with frs := Tbl.set 0 l.frs tile m, ors := l.ors + (words.filter fun p => p.2 == 0x2FFF).length }

/-- The state a conversion's frames leave. -/
def State.convEnd (s : State) (tile n e : Nat) (l : Line) (xs : List Int) : State :=
  let f := Tbl.get 0 l.frs tile
  let m := f + xs.length / 8
  let s' := s.convWrite tile n e m (convWords (s.bank tile) n l f m xs)
  if m == l.frames then s'.convDone tile n else s'

theorem State.convWrite_spec {s : State} {n : Nat} {l : Line} (tile e m : Nat) (words : List (Nat × Nat)) (hl : s.line n = some l) :
    let s' := s.convWrite tile n e m words
    (∃ en ls, s' = { s with te := { s.te with eng := en }, fab := { s.fab with lines := ls } }) ∧
      s'.eng e = words.foldl (s.slotPut n) (s.eng e) ∧ (∀ i, i ≠ e → s'.eng i = s.eng i) ∧
      (s'.line n).map Line.progress = some (l.w0, Tbl.set 0 l.frs tile m, l.conv) := by
  refine ⟨⟨_, _, rfl⟩, s.eng_modEng_same e fun x => words.foldl (s.slotPut n) x,
    fun i hi => s.eng_modEng_ne e i (fun x => words.foldl (s.slotPut n) x) hi, ?_⟩
  rw [State.convWrite, State.line_modLine_same, show (s.slotWrite e n words).line n = s.line n from rfl, hl]
  rfl

section Conversion

variable {s : State} {t : Time} {tile n e : Nat} {l : Line} {xs : List Int} (hr : s.running = true) (hgate : s.clk.gated = false)
  (hconv : s.convLine tile = some (n, l))
include hr hgate hconv

theorem exec_conversionEnd (hserve : s.serving tile = some e) (hm : Tbl.get 0 l.frs tile + xs.length / 8 ≤ l.frames)
    (hdue : since (s.at t).now (l.tc tile + BitVec.ofNat 64 (48 * (Tbl.get 0 l.frs tile + xs.length / 8))) < 2 ^ 63) :
    exec (.conversionEnd t tile xs) s = .next ((s.at t).convEnd tile n e l xs) := by
  have hexec : exec (.conversionEnd t tile xs) s = execConversionEnd t tile xs s := rfl
  rw [hexec, execConversionEnd, inRun_running hr]
  dsimp only
  rw [show (s.at t).convLine tile = some (n, l) from hconv]
  dsimp only
  rw [if_neg, show (s.at t).serving tile = some e from hserve]
  · rfl
  · rw [show (s.at t).clk.gated = false from hgate, reached, decide_eq_true hdue]
    simpa using hm

omit hgate in
theorem exec_conversionEnd_early
    (hdue : 2 ^ 63 ≤ since (s.at t).now (l.tc tile + BitVec.ofNat 64 (48 * (Tbl.get 0 l.frs tile + xs.length / 8)))) :
    exec (.conversionEnd t tile xs) s = .next (s.at t) := by
  have hexec : exec (.conversionEnd t tile xs) s = execConversionEnd t tile xs s := rfl
  rw [hexec, execConversionEnd, inRun_running hr]
  dsimp only
  rw [show (s.at t).convLine tile = some (n, l) from hconv]
  dsimp only
  rw [if_pos]
  rw [reached, decide_eq_false (Nat.not_lt.2 hdue), Bool.not_false, Bool.or_true]

end Conversion

/-- The end of conversion frames: the slot of the engine, and what else changes. -/
theorem State.convEnd_spec {s : State} {tile n e : Nat} {l : Line} {xs : List Int} (htile : tile < 1024) (hl : s.line n = some l)
    (hconv : l.conv.getLsbD tile = false) (hbusy : s.palBusy tile = false) :
    let m := Tbl.get 0 l.frs tile + xs.length / 8
    let s' := s.convEnd tile n e l xs
    s'.eng e = (convWords (s.bank tile) n l (Tbl.get 0 l.frs tile) m xs).foldl (s.slotPut n) (s.eng e) ∧ (∀ i, i ≠ e → s'.eng i = s.eng i) ∧
      (∃ l', s'.line n = some l' ∧ l'.framesIn tile = m ∧ l'.conv = if m = l.frames then l.conv ||| (1#1024 <<< tile) else l.conv) ∧
      s' = { s with te := { s.te with eng := s'.te.eng }, fab := { s.fab with lines := s'.fab.lines },
                    conv := { s.conv with banks := s'.conv.banks }, cal := { s.cal with acc := s'.cal.acc } } := by
  intro m s'
  obtain ⟨hframe, heng, hengs, hline⟩ := State.convWrite_spec tile e m (convWords (s.bank tile) n l (Tbl.get 0 l.frs tile) m xs) hl
  have hs' : s' = if m == l.frames then (s.convWrite tile n e m (convWords (s.bank tile) n l (Tbl.get 0 l.frs tile) m xs)).convDone tile n
      else s.convWrite tile n e m (convWords (s.bank tile) n l (Tbl.get 0 l.frs tile) m xs) := rfl
  clear_value s'
  generalize s.convWrite tile n e m (convWords (s.bank tile) n l (Tbl.get 0 l.frs tile) m xs) = s1 at hframe heng hengs hline hs'
  by_cases hm : m = l.frames
  · obtain ⟨⟨ls, bk, acc, heq⟩, hdone⟩ := State.convDone_spec (s := s1) n (t := tile) (by obtain ⟨en, ls, rfl⟩ := hframe; exact hbusy)
    rw [if_pos (beq_iff_eq.2 hm)] at hs'
    rw [← hs'] at heq hdone
    obtain ⟨l1, hl1', hp1⟩ := Option.map_eq_some_iff.1 hline
    simp only [Line.progress, Prod.mk.injEq] at hp1
    obtain ⟨hw1, hfrs1, hconv1⟩ := hp1
    rw [hl1'] at hdone
    obtain ⟨l', hl', hp'⟩ := Option.map_eq_some_iff.1 hdone
    simp only [Line.progress, Prod.mk.injEq] at hp'
    obtain ⟨hw', hfrs', hconv'⟩ := hp'
    refine ⟨?_, ?_, ⟨l', hl', ?_, ?_⟩, ?_⟩
    · rw [heq]
      exact heng
    · rw [heq]
      exact hengs
    · have hbit : l'.conv.getLsbD tile = true := by
        rw [hconv']
        simp [htile]
      rw [Line.framesIn, if_pos hbit, hm, Line.frames, Line.frames, Line.nb, Line.ng, Line.nb, Line.ng, hw', hw1]
    · rw [if_pos hm, hconv', hconv1]
    · rw [heq]
      obtain ⟨en, ls, rfl⟩ := hframe
      rfl
  · rw [if_neg (mt beq_iff_eq.1 hm)] at hs'
    rw [hs']
    obtain ⟨l1, hl1', hp1⟩ := Option.map_eq_some_iff.1 hline
    simp only [Line.progress, Prod.mk.injEq] at hp1
    obtain ⟨hw1, hfrs1, hconv1⟩ := hp1
    refine ⟨heng, hengs, ⟨l1, hl1', ?_, ?_⟩, ?_⟩
    · rw [Line.framesIn, hconv1, hconv, hfrs1]
      exact Tbl.get_set_same _ _ _ _
    · rw [if_neg hm, hconv1]
    · obtain ⟨en, ls, rfl⟩ := hframe
      rfl

/-! The slices of a bank (R141 to R148, R151 to R155). -/

/-- HEALTH and READY_N take no interrupt cause back. -/
theorem State.health_cause_mono (s : State) {i : Nat} (hi : s.host.cause.getLsbD i = true) : s.health.host.cause.getLsbD i = true := by
  unfold State.health
  extract_lets f uns fb bad degr h s1
  have hs1 : s1.host = s.host := rfl
  clear_value s1
  rw [← hs1] at hi
  split
  · exact State.logEvent_cause_mono _ _ _ _ _ _ hi
  · split
    · exact State.logEvent_cause_mono _ _ _ _ _ _ hi
    · exact hi

theorem Bank.checkFail_normal {b : Bank} (n j : Nat) (h : b.st = 0) : b.checkFail n j = { b with
    fails := b.fails ++ [(n, j)], swap := if b.pos.getD (j % 8) 9 ∈ b.swap then b.swap else b.swap ++ [b.pos.getD (j % 8) 9] } := by
  rw [Bank.checkFail]
  simp only [h, beq_self_eq_true, if_true, List.contains_iff_mem]

theorem Bank.checkFail_fixed {b : Bank} {n j : Nat} (h : b.st = 1) (hv : b.vacant (j % 8) = false) : b.checkFail n j = { b with
    fails := b.fails ++ [(n, j)], gone := b.gone ++ [(j % 8, b.pos.getD (j % 8) 9)], run := b.run ++ [b.pos.getD (j % 8) 9], oot := true } := by
  have hgone : b.gone.any (fun p => p.1 == j % 8) = false := by
    simp only [Bank.vacant, Bool.or_eq_false_iff] at hv
    exact hv.2
  have hst : ¬(b.st == 0) = true := by rw [h]; decide
  rw [Bank.checkFail]
  dsimp only
  rw [if_neg hst, if_neg (by rw [hgone]; exact Bool.false_ne_true)]

/-- A check that fails: the bank, and the tile's records. -/
theorem exec_sliceCheckFail {s : State} (hr : s.running = true) (hgate : s.clk.gated = false) (t : Time) {tile n j : Nat} {l : Line}
    (hconv : s.convLine tile = some (n, l)) (hv : (s.bank tile).vacant (j % 8) = false) (hj : j < 8 * l.frames)
    (hf : Tbl.get 0 l.frs tile ≤ j / 8) : Gives (.sliceCheckFail t tile j) s fun s' =>
      s'.bank tile = (s.bank tile).checkFail n j ∧ s'.conv.chkN = s.conv.chkN + 1 ∧ s'.regs = s.regs := by
  have hexec : exec (.sliceCheckFail t tile j) s = execSliceCheckFail t tile j s := rfl
  obtain ⟨s1, hs1⟩ : ∃ s1, s1 = ((s.at t).modConv fun c => { c with chkN := c.chkN + 1 }).modBank tile fun b => b.checkFail n j := ⟨_, rfl⟩
  have hbank : s1.bank tile = (s.bank tile).checkFail n j ∧ s1.conv.chkN = s.conv.chkN + 1 ∧ s1.regs = s.regs := by
    rw [hs1]
    exact ⟨State.bank_modBank_same _ _ _, rfl, rfl⟩
  refine ⟨s1.cover true 0x02 ((s.bank tile).pos.getD (j % 8) 9) n tile tile, ?_, ?_⟩
  · rw [hexec, execSliceCheckFail, inRun_running hr]
    dsimp only
    rw [show (s.at t).convLine tile = some (n, l) from hconv]
    dsimp only
    rw [if_neg, hs1]
    · rfl
    · rw [show (s.at t).clk.gated = false from hgate, show ((s.at t).bank tile).vacant (j % 8) = false from hv, decide_eq_false (Nat.not_le.2 hj),
        decide_eq_false (Nat.not_lt.2 hf)]
      exact Bool.false_ne_true
  · obtain ⟨f, hfab⟩ := s1.cover_fabOnly true 0x02 ((s.bank tile).pos.getD (j % 8) 9) n tile tile
    rw [hfab]
    exact hbank

/-- A retirement: the bank stays as the retirement leaves it, the journal waits for it, vector 20 is raised. -/
theorem State.reportRetire_spec (s : State) (tile sl reason : Nat) (oot : Bool) (line : Nat) : let s' := s.reportRetire tile sl reason oot line
    s'.conv.banks = s.conv.banks ∧ s'.cal.jQueue = s.cal.jQueue ++ [(tile, sl, reason, line)] ∧ s'.host.cause.getLsbD 4 = true ∧
      s'.conv.chkN = s.conv.chkN ∧ s'.regs = s.regs := by
  unfold State.reportRetire
  intro s'
  extract_lets st s1 s2 s3 at s'
  have hs3 : s3.conv.banks = s.conv.banks ∧ s3.cal.jQueue = s.cal.jQueue ++ [(tile, sl, reason, line)] ∧ s3.conv.chkN = s.conv.chkN ∧
      s3.regs = s.regs := by
    have hs2 : ∃ f h o, s2 =
        { (s1.modCal fun c => { c with jQueue := c.jQueue ++ [(tile, sl, reason, line)] }) with flt := f, host := h, out := o } :=
      State.logEvent_frame _ _ _ _ _ _
    clear_value s2
    obtain ⟨f, h, o, rfl⟩ := hs2
    dsimp only [s3]
    split
    · obtain ⟨f', h', o', heq⟩ := State.logEvent_frame ({ (s1.modCal fun c => { c with jQueue := c.jQueue ++ [(tile, sl, reason, line)] }) with
        flt := f, host := h, out := o } : State) 0x04 2 tile 0 0
      rw [heq]
      exact ⟨rfl, rfl, rfl, rfl⟩
    · exact ⟨rfl, rfl, rfl, rfl⟩
  clear_value s3
  obtain ⟨h, o, heq, hc⟩ := s3.raise_frame (v := 20) (by decide)
  have hcause : s'.host.cause.getLsbD 4 = true := State.health_cause_mono _ (by rw [heq]; exact hc)
  obtain ⟨f, h', o', hh⟩ := (s3.raise 20).health_frame
  have hs' : s' = { s3 with flt := f, host := h', out := o' } := by
    dsimp only [s']
    rw [hh, heq]
  clear_value s'
  subst hs'
  exact ⟨hs3.1, hs3.2.1, hcause, hs3.2.2⟩

/-- The end of a run that passes, and of one that fails. -/
theorem exec_calRunEnd_pass {s : State} (hr : s.running = true) (hgate : s.clk.gated = false) (t : Time) {tile sl : Nat} {r : List Nat} {run : CalRun}
    {o : Int} {g : Nat} (hrun : (s.bank tile).run = sl :: r)
    (hres : runResult run (some (((s.bank tile).coef.getD sl (0, 32768, 0)).1, ((s.bank tile).coef.getD sl (0, 32768, 0)).2.1)) = .pass o g) :
    exec (.calRunEnd t tile run) s = .next ((s.at t).modBank tile fun b => b.pass sl o g s.lastLine) := by
  have hexec : exec (.calRunEnd t tile run) s = execCalRunEnd t tile run s := rfl
  rw [hexec, execCalRunEnd, inRun_running hr]
  dsimp only
  rw [show ((s.at t).bank tile).run = sl :: r from hrun]
  dsimp only
  rw [if_neg (by rw [show (s.at t).clk.gated = false from hgate]; exact Bool.false_ne_true),
    show runResult run (some ((((s.at t).bank tile).coef.getD sl (0, 32768, 0)).1, (((s.at t).bank tile).coef.getD sl (0, 32768, 0)).2.1)) = .pass o g
      from hres]
  rfl

theorem exec_calRunEnd_fail {s : State} (hr : s.running = true) (hgate : s.clk.gated = false) (t : Time) {tile sl : Nat} {r : List Nat} {run : CalRun}
    {x : Nat} (hrun : (s.bank tile).run = sl :: r)
    (hres : runResult run (some (((s.bank tile).coef.getD sl (0, 32768, 0)).1, ((s.bank tile).coef.getD sl (0, 32768, 0)).2.1)) = .fail x) :
    exec (.calRunEnd t tile run) s = .next (((s.at t).modBank tile fun b => b.retire sl).reportRetire tile sl x (s.bank tile).oot s.lastLine) := by
  have hexec : exec (.calRunEnd t tile run) s = execCalRunEnd t tile run s := rfl
  rw [hexec, execCalRunEnd, inRun_running hr]
  dsimp only
  rw [show ((s.at t).bank tile).run = sl :: r from hrun]
  dsimp only
  rw [if_neg (by rw [show (s.at t).clk.gated = false from hgate]; exact Bool.false_ne_true),
    show runResult run (some ((((s.at t).bank tile).coef.getD sl (0, 32768, 0)).1, (((s.at t).bank tile).coef.getD sl (0, 32768, 0)).2.1)) = .fail x
      from hres]
  rfl

/-- The bounds of R143 that a passed run kept. -/
theorem runResult_pass {run : CalRun} {p : Int × Nat} {o : Int} {g : Nat} (h : runResult run (some p) = .pass o g) :
    31744 ≤ g ∧ g ≤ 33792 ∧ -512 ≤ o ∧ o ≤ 511 ∧ run.chk = false ∧ (o - p.1).natAbs ≤ 32 := by
  unfold runResult at h
  extract_lets lo hi g' o' n sx sxx m at h
  clear_value lo hi g' o' n sx sxx m
  dsimp only at h
  simp only [Bool.or_eq_true, decide_eq_true_eq] at h
  split at h
  · exact absurd h RunEnd.noConfusion
  · next h2 =>
    split at h
    · exact absurd h RunEnd.noConfusion
    · next h1 =>
      split at h
      · exact absurd h RunEnd.noConfusion
      · split at h
        · exact absurd h RunEnd.noConfusion
        · split at h
          · exact absurd h RunEnd.noConfusion
          · next h5 =>
            split at h
            · exact absurd h RunEnd.noConfusion
            · next h6 =>
              injection h with ho hg
              subst ho hg
              refine ⟨by omega, by omega, by omega, by omega, Bool.eq_false_iff.2 h6, by omega⟩

/-! Rotation (R144, R145). -/

/-- What a rotation line does to a bank. -/
def Bank.rotated (b : Bank) : Bank :=
  if b.st ≠ 0 then b else if b.passed = true ∧ b.run = [] then b.rotate else { b with defer := true }

/-- One bank of a rotation. -/
def State.rotateBank (s : State) (t : Nat) : State :=
  let b := s.bank t
  if b.st != 0 then s
  else if b.passed && b.run.isEmpty then
    (s.modBank t Bank.rotate).modConv fun c => { c with defN := if b.defer then c.defN + 1 else c.defN }
  else s.modBank t fun b => { b with defer := true }

theorem State.rotateBank_spec (s : State) (t : Nat) : ∃ c, s.rotateBank t = { s with conv := c } ∧ c.rotN = s.conv.rotN ∧
    (s.rotateBank t).bank t = (s.bank t).rotated ∧ ∀ i, i ≠ t → (s.rotateBank t).bank i = s.bank i := by
  unfold State.rotateBank Bank.rotated
  dsimp only
  by_cases hst : (s.bank t).st = 0
  · rw [if_neg (by rw [hst]; decide), if_neg (not_not.2 hst)]
    by_cases hrun : (s.bank t).passed = true ∧ (s.bank t).run = []
    · rw [if_pos hrun, if_pos (by rw [hrun.1, hrun.2]; rfl)]
      exact ⟨_, rfl, rfl, s.bank_modBank_same t _, fun i hi => s.bank_modBank_ne t i _ hi⟩
    · rw [if_neg hrun, if_neg (by rw [Bool.and_eq_true, List.isEmpty_iff]; exact hrun)]
      exact ⟨_, rfl, rfl, s.bank_modBank_same t _, fun i hi => s.bank_modBank_ne t i _ hi⟩
  · rw [if_pos (bne_iff_ne.2 hst), if_pos hst]
    exact ⟨_, rfl, rfl, rfl, fun _ _ => rfl⟩

theorem State.rotateBanks_spec (ts : List Nat) (hnd : ts.Nodup) (s : State) : ∃ c, ts.foldl State.rotateBank s = { s with conv := c } ∧
    c.rotN = s.conv.rotN ∧ ∀ i, (ts.foldl State.rotateBank s).bank i = if i ∈ ts then (s.bank i).rotated else s.bank i := by
  induction ts generalizing s with
  | nil => exact ⟨_, rfl, rfl, fun i => (if_neg List.not_mem_nil).symm⟩
  | cons t ts ih =>
    obtain ⟨hnot, hnd'⟩ := List.nodup_cons.1 hnd
    obtain ⟨c, hc, hrot, hsame, hne⟩ := s.rotateBank_spec t
    obtain ⟨c', hc', hrot', hbank⟩ := ih hnd' (s.rotateBank t)
    rw [List.foldl_cons]
    refine ⟨c', ?_, ?_, fun i => ?_⟩
    · rw [hc', hc]
    · rw [hrot', hc, hrot]
    · rw [hbank]
      by_cases hi : i = t
      · rw [if_neg (hi ▸ hnot), if_pos (hi ▸ List.mem_cons_self), hi, hsame]
      · rw [hne i hi]
        simp only [List.mem_cons, hi, false_or]

theorem exec_rotation {s : State} (hr : s.running = true) (t : Time) (hlast : s.tick.last.isSome = true) (h0 : s.lastLine ≠ 0)
    (hmod : s.lastLine % 4096 = 0) (hnew : s.conv.rotLine.toNat ≠ s.lastLine) : exec (.rotation t) s = .next ((List.range 1024).foldl
      State.rotateBank ((s.at t).modConv fun c => { c with rotLine := BitVec.ofNat 48 s.lastLine, rotN := c.rotN + 1 })) := by
  have hexec : exec (.rotation t) s = execRotation t s := rfl
  have hcond : (s.tick.last.isSome && s.lastLine != 0 && s.lastLine % 4096 == 0 && s.conv.rotLine.toNat != s.lastLine) = true := by
    rw [hlast, bne_iff_ne.2 h0, beq_iff_eq.2 hmod, bne_iff_ne.2 hnew]
    rfl
  rw [hexec, execRotation, inRun_running hr]
  exact congrArg _ (if_pos hcond)

/-- A swap that is due changes the sequencer at once. -/
def State.swapWalk (s : State) : State := if s.swapDue then { s with seq := swapSeq s.seq } else s

theorem State.swapWalk_at (s : State) (t : Time) : (s.at t).swapWalk = s.swapWalk.at t := by
  unfold State.swapWalk
  by_cases h : s.swapDue = true
  · rw [if_pos h]
    exact if_pos h
  · rw [if_neg h]
    exact if_neg h

theorem State.cutFrame_at (s : State) (t : Time) (n : Nat) : (s.at t).cutFrame n = (s.cutFrame n).at t := by
  unfold State.cutFrame
  dsimp only
  by_cases h : (s.seq.frame == 0) = true
  · rw [if_pos h]
    exact if_pos h
  · rw [if_neg h]
    exact if_neg h

theorem State.beforeWalk_eq (s : State) : s.beforeWalk = (if s.tick.revPend then s.cutFrame s.tick.line.toNat else s).swapWalk := rfl

/-- The next action of the sequence does not depend on the time. -/
theorem State.beforeWalk_at (s : State) (t : Time) : (s.at t).beforeWalk = s.beforeWalk.at t := by
  rw [State.beforeWalk_eq, State.beforeWalk_eq, ← State.swapWalk_at]
  by_cases h : s.tick.revPend = true
  · rw [if_pos h, if_pos (show (s.at t).tick.revPend = true from h), ← State.cutFrame_at]
    rfl
  · rw [if_neg h, if_neg (show ¬(s.at t).tick.revPend = true from h)]

theorem State.delayOver_at (s : State) (t : Time) : (s.at t).delayOver = s.delayOver := rfl
theorem endEntry_at (s : State) (t : Time) (n : Nat) (q : Seq) : endEntry (s.at t) n q = endEntry s n q := rfl

theorem execTick_at (s : State) (t : Time) (n : Nat) (q : Seq) : execTick (s.at t) n q = execTick s n q := by
  rw [execTick, execTick, show (s.at t).entW = s.entW from rfl, show endEntry (s.at t) = endEntry s from rfl]

theorem seqWalk_at (s : State) (t : Time) (n : Nat) (late : Bool) : seqWalk (s.at t) n late = seqWalk s n late := by
  have hq : ∀ q, ({ s.at t with seq := q } : State) = ({ s with seq := q } : State).at t := fun _ => rfl
  have hlen : (s.at t).bankLen (s.at t).seq.act = s.bankLen s.seq.act := rfl
  rw [seqWalk, seqWalk, hlen]
  simp only [hq, State.entW_at, State.delayOver_at, execTick_at]
  rfl

theorem State.nextAct_at (s : State) (t : Time) : (s.at t).nextAct = s.nextAct := by
  rw [State.nextAct, State.nextAct, State.beforeWalk_at, seqWalk_at]
  generalize s.beforeWalk = x
  rfl

/-! Words (R136, R139, R140, R544). -/

theorem sampleWord_unit {x : Int} (h0 : 0 ≤ x) (h1 : x ≤ 16381) : sampleWord false 0 32768 x = ((x + 2) / 4).toNat := by
  have hy : ((x - 0) * (32768 : Nat) + 16384) / 32768 = x := by
    push_cast
    omega
  rw [sampleWord]
  simp only [hy]
  rw [if_neg (by simp [xMax]; omega), if_neg (by simp [xMin]; omega)]
  simp

theorem sampleWord_over (ten : Bool) (o : Int) (g : Nat) : sampleWord ten o g xMax = 0x2FFF := by
  rw [sampleWord]
  exact if_pos (by rw [beq_self_eq_true, Bool.true_or])

/-- Settles O22: the words of a conversion are those of `convWords`, no position has two (`convWords_one`), and `State.slotPut` writes each; a
rotation is one `State.rotateBank` per bank. -/
theorem converters : Obligations.Converters := by
  unfold Obligations.Converters
  refine ⟨fun s t tile n e l xs hr hgate htile hconv hl hserve hbusy => ?_, fun s t tile hr hgate => ?_⟩
  · intro a b f m
    refine ⟨fun hm hdue => ?_, fun _ hdue => exec_conversionEnd_early hr hconv hdue, fun j x h => if_pos ?_,
      fun j x sl hst hpos hsl hgone hfails => ?_, fun x => sampleWord_unit, sampleWord_over⟩
    · refine ⟨_, exec_conversionEnd hr hgate hconv hserve hm hdue, ?_⟩
      obtain ⟨heng, hengs, hline, hframe⟩ := State.convEnd_spec (s := s.at t) (e := e) (xs := xs) htile hl (State.convLine_conv hconv) hbusy
      generalize (s.at t).convEnd tile n e l xs = s' at heng hengs hline hframe ⊢
      have hfm : f ≤ m := Nat.le_add_right _ _
      have heng' : s'.eng e = (convWords b n l f m xs).foldl (s.slotPut n) (s.eng e) := heng
      intro holds
      have hword : ∀ p w, (p, w) ∈ convWords b n l f m xs → holds p w := fun p w hpw i hi => by
        rw [heng']
        exact s.dByte_slotPuts_in n p w i hi _ _ hpw fun q hq hqp => convWords_one hfm hm hq hpw hqp
      refine ⟨fun j hj hj' => hword _ _ ((mem_convWords hfm).2 (.inl ⟨j, hj, hj', rfl⟩)),
        fun hend p hp hno => hword _ _ ((mem_convWords hfm).2 (.inr ⟨hend, hp, hno, rfl⟩)), fun p i hp hi hno hblank => ?_,
        fun x hx => ?_, hengs, hline, hframe⟩
      · rw [heng']
        refine s.dByte_slotPuts_out n _ _ _ fun q hq hcov => ?_
        obtain rfl : q.1 = p := by
          have ha : a = 0xC000 + 0x200 * (n % 4) := rfl
          omega
        obtain ⟨j, hj, hj', hq'⟩ | ⟨hend, -, hnone, -⟩ := (mem_convWords hfm).1 hq
        · exact hno j hj hj' (congrArg Prod.fst hq').symm
        · exact hblank hend hnone
      · rw [heng']
        refine s.dByte_slotPuts_out n _ _ _ fun q hq hcov => ?_
        have hlt := convWords_pos_lt hfm hm hq
        have ha : a = 0xC000 + 0x200 * (n % 4) := rfl
        omega
    · simp only [Bank.vacant, Bool.or_eq_true, beq_iff_eq, List.contains_iff_mem]
      tauto
    · have hno : ¬(b.vacant (j % 8) || b.fails.contains (n, j)) = true := by
        rw [Bank.vacant, hgone, hfails, hpos]
        simp only [List.any_nil, List.contains_nil, Bool.or_false, Bool.or_eq_true, beq_iff_eq]
        omega
      rw [bankWord, if_neg hno, hpos]
  · intro b
    refine ⟨fun n l j hconv hv hj hf => ⟨fun hst => ?_, fun hst => ?_⟩, fun sl r hrun => ⟨fun run o g hres => ?_, fun run x hres => ?_⟩,
      fun run p o g => runResult_pass, fun hlast h0 hmod hnew => ?_, fun hnone hold hframe htile => ?_, fun hmode hitems hlo hhi => ?_⟩
    · rw [← Bank.checkFail_normal n j hst]
      exact exec_sliceCheckFail hr hgate t hconv hv hj hf
    · rw [← Bank.checkFail_fixed (n := n) hst hv]
      exact exec_sliceCheckFail hr hgate t hconv hv hj hf
    · refine ⟨_, exec_calRunEnd_pass hr hgate t hrun hres, ?_⟩
      have hbank : ((s.at t).modBank tile fun b => b.pass sl o g s.lastLine).bank tile = b.pass sl o g s.lastLine := State.bank_modBank_same _ _ _
      dsimp only
      rw [hbank]
      refine ⟨rfl, ?_, rfl, rfl, rfl⟩
      show (s.bank tile).run.drop 1 = r
      rw [hrun]
      rfl
    · refine ⟨_, exec_calRunEnd_fail hr hgate t hrun hres, ?_⟩
      obtain ⟨hbanks, hq, hcause, hchk, hregs⟩ := State.reportRetire_spec ((s.at t).modBank tile fun b => b.retire sl) tile sl x b.oot s.lastLine
      refine ⟨?_, hq, hcause, hchk, hregs⟩
      rw [State.bank, hbanks]
      exact State.bank_modBank_same _ _ _
    · refine ⟨_, exec_rotation hr t hlast h0 hmod hnew, ?_⟩
      obtain ⟨c, hc, hrot, hbank⟩ := State.rotateBanks_spec (List.range 1024) List.nodup_range
        ((s.at t).modConv fun c => { c with rotLine := BitVec.ofNat 48 s.lastLine, rotN := c.rotN + 1 })
      refine ⟨?_, ?_, fun i hi => ?_⟩
      · rw [hc]
        exact hrot
      · rw [hc]
        rfl
      · rw [hbank, if_pos (List.mem_range.2 hi)]
        rfl
    · have hexec : exec (.bankPowerDown t tile) s = execBankPowerDown t tile s := rfl
      refine ⟨((s.at t).modConv fun c => { c with asleep := c.asleep ||| (1#1024 <<< tile) }).minPeriod, ?_, ?_⟩
      · have hcond : ((s.convLine tile).isNone && decide (4000 ≤ since (s.at t).now (s.bank tile).lastConv) && !s.inFrame tile && !s.clk.gated &&
            decide (tile < 1024)) = true := by
          rw [hnone, decide_eq_true (show 4000 ≤ since (s.at t).now (s.bank tile).lastConv from hold), hframe, hgate, decide_eq_true htile]
          rfl
        rw [hexec, execBankPowerDown, inRun_running hr]
        exact congrArg _ (if_pos hcond)
      · rw [State.minPeriod_frame]
        rfl
    · have hexec : exec (.bankWakeAhead t tile) s = execBankWakeAhead t tile s := rfl
      refine ⟨((s.at t).modConv fun c => { c with asleep := c.asleep &&& ~~~(1#1024 <<< tile) }).minPeriod, ?_, ?_⟩
      · have hnext : (s.at t).nextAct = s.nextAct := s.nextAct_at t
        have hcond : (s.mode == 1 && !s.clk.gated && s.nextAct.1.items && decide (fld (s.entW s.nextAct.2 s.nextAct.1.entry 2) 31 22 ≤ tile) &&
            decide (tile ≤ fld (s.entW s.nextAct.2 s.nextAct.1.entry 2) 21 12)) = true := by
          rw [hmode, hgate, hitems, decide_eq_true hlo, decide_eq_true hhi]
          rfl
        rw [hexec, execBankWakeAhead, inRun_running hr]
        dsimp only
        rw [hnext]
        exact congrArg _ (if_pos hcond)
      · rw [State.minPeriod_frame]
        rfl

end Machine
end Sys2Proof

/-! Writes to CAL_CMD (05_calibration R166, R169, R170, R177, R178, R183, R184). -/

namespace Sys2Proof
namespace Machine

/-- A table without the keys that `p` names. -/
theorem Tbl.get_filter_key {α : Type} (d : α) (t : Tbl α) (p : Nat → Bool) (k : Nat) :
    Tbl.get d (List.filter (fun q => p q.1) t) k = if p k then Tbl.get d t k else d := by
  induction t with
  | nil => exact (ite_self d).symm
  | cons q t ih =>
    obtain ⟨j, x⟩ := q
    by_cases hp : p j = true
    · rw [List.filter_cons_of_pos (p := fun q : Nat × α => p q.1) hp, Tbl.get, Tbl.get, ih]
      by_cases hk : k = j
      · rw [if_pos hk, if_pos hk, if_pos (hk ▸ hp)]
      · rw [if_neg hk, if_neg hk]
    · rw [List.filter_cons_of_neg (p := fun q : Nat × α => p q.1) hp, ih, Tbl.get]
      by_cases hk : k = j
      · rw [if_neg (hk ▸ hp), if_neg (hk ▸ hp)]
      · rw [if_neg hk]

/-- Flash after the erasure of a copy. -/
theorem State.eraseCopy_get (s : State) (c a : Nat) : Tbl.get 0xFF (s.eraseCopy c).boot.flash a =
    if copyAddr c ≤ a ∧ a < copyAddr c + 0x200000 then 0xFF else Tbl.get 0xFF s.boot.flash a := by
  have h := Tbl.get_filter_key 0xFF s.boot.flash (fun k => !(decide (copyAddr c ≤ k) && decide (k < copyAddr c + 0x200000))) a
  rw [State.eraseCopy]
  refine h.trans ?_
  by_cases hin : copyAddr c ≤ a ∧ a < copyAddr c + 0x200000
  · rw [if_pos hin, if_neg (by simpa using hin)]
  · rw [if_neg hin, if_pos (by rw [Bool.not_eq_true', ← Bool.not_eq_true, Bool.and_eq_true, decide_eq_true_eq, decide_eq_true_eq]; exact hin)]

theorem pack_append_zero (n : Nat) (l : List (Nat × Nat)) (i : Nat) : pack n (l ++ [(0, i)]) = pack n l := by
  simp only [pack, List.foldl_append, List.foldl_cons, List.foldl_nil, Nat.zero_mul, Nat.add_zero]

/-- A failure code with no band, gain and tile. -/
theorem pack_reason (r : Nat) : pack 32 [(r, 28), (0, 26), (0, 25), (0, 15)] = pack 32 [(r, 28)] := by
  have h1 := pack_append_zero 32 [(r, 28)] 26
  have h2 := pack_append_zero 32 [(r, 28), (0, 26)] 25
  exact (pack_append_zero 32 [(r, 28), (0, 26), (0, 25)] 15).trans (h2.trans h1)

/-- A command whose fields are stored: what it touches besides. -/
def CalDone (s s' : State) : Prop := ∃ c b h o, s' = { s with cal := c, boot := b, host := h, out := o }

theorem CalDone.reg {s s' : State} (h : CalDone s s') (o : Nat) : s'.reg o = s.reg o := by
  obtain ⟨c, b, hl, out, rfl⟩ := h
  rfl

/-- A step that ends without candidates. -/
theorem State.stepFail_spec (s : State) (reason b g t : Nat) : let s' := s.stepFail reason b g t
    CalDone s s' ∧ s'.cal.failed = true ∧ s'.cal.fail = pack 32 [(reason, 28), (b, 26), (g, 25), (t, 15)] ∧ s'.cal.step.ph = 0 ∧ s'.cal.acc = [] ∧
      s'.host.cause.getLsbD 3 = true := by
  unfold State.stepFail State.calIdle
  extract_lets bs s1 s'
  have hs1 : ∃ c, s1 = { s with cal := c } := by
    dsimp only [s1]
    split <;> exact ⟨_, rfl⟩
  clear_value s1
  obtain ⟨c, rfl⟩ := hs1
  obtain ⟨h, o, heq, hc⟩ := State.raise_frame ((({ s with cal := c } : State).calFailed reason b g t).modCal fun c =>
    { c with step := { c.step with ph := 0 }, acc := [] }) (v := 19) (by decide)
  have hs' : s' = _ := heq
  clear_value s'
  subst hs'
  exact ⟨⟨_, _, _, _, rfl⟩, rfl, rfl, rfl, rfl, hc⟩

/-- CAL_CMD stores its fields at once. -/
theorem rwReg_calCmd : rwReg 0x40000 = some (0, 0x7FFFC000, false) := by decide

/-! The seven commands. -/

section Commands
variable (t : Time) (w : Wr) (s : State)

theorem exec_dark : exec (.dark t w) s = regCmd t 0x40000 w s fun v s => s.calCmd w v := rfl
theorem exec_flatHg : exec (.flatHg t w) s = regCmd t 0x40000 w s fun v s => s.calCmd w v := rfl
theorem exec_flatLg : exec (.flatLg t w) s = regCmd t 0x40000 w s fun v s => s.calCmd w v := rfl
theorem exec_apply : exec (.apply t w) s = regCmd t 0x40000 w s fun v s => s.calCmd w v := rfl
theorem exec_save : exec (.save t w) s = regCmd t 0x40000 w s fun v s => s.calCmd w v := rfl
theorem exec_restore : exec (.restore t w) s = regCmd t 0x40000 w s fun v s => s.calCmd w v := rfl
theorem exec_abort : exec (.abort t w) s = regCmd t 0x40000 w s fun v s => s.calCmd w v := rfl

end Commands

section Write

variable {s : State} (hr : s.running = true) (hreach : s.reaches 0x40000 = true) (t : Time) (v : W32) (src : BitVec 7)
include hr hreach

theorem exec_calCmd {c : Instr} (hc : ∃ k, (c, k) ∈ [(Instr.dark t (goodWr v src), 1), (.flatHg t (goodWr v src), 2), (.flatLg t (goodWr v src), 3),
    (.apply t (goodWr v src), 4), (.save t (goodWr v src), 5), (.restore t (goodWr v src), 6), (.abort t (goodWr v src), 7)]) :
    exec c s = .next ((s.at t).calCmd (goodWr v src) v) := by
  have ha := State.alive_of_running hr
  obtain ⟨k, hk⟩ := hc
  simp only [List.mem_cons, List.not_mem_nil, or_false, Prod.mk.injEq] at hk
  rcases hk with ⟨rfl, -⟩ | ⟨rfl, -⟩ | ⟨rfl, -⟩ | ⟨rfl, -⟩ | ⟨rfl, -⟩ | ⟨rfl, -⟩ | ⟨rfl, -⟩
  · rw [exec_dark, regCmd_good ha _ hreach]
  · rw [exec_flatHg, regCmd_good ha _ hreach]
  · rw [exec_flatLg, regCmd_good ha _ hreach]
  · rw [exec_apply, regCmd_good ha _ hreach]
  · rw [exec_save, regCmd_good ha _ hreach]
  · rw [exec_restore, regCmd_good ha _ hreach]
  · rw [exec_abort, regCmd_good ha _ hreach]

end Write

/-- A GO that another command rejects. -/
def Cal.rejects (k : Cal) (cmd : Nat) : Prop :=
  if cmd = 5 then k.saveBusy = true ∨ k.step.ph = 3 else if cmd = 7 then k.step.ph = 0 ∨ k.step.ph = 3 else k.step.ph ≠ 0 ∨ k.saveBusy = true

/-- The condition of `State.calCmd` on a GO. -/
theorem Cal.rejects_iff (k : Cal) {cmd : Nat} (h1 : 1 ≤ cmd) (hle : cmd ≤ 7) :
    ((cmd == 7 && !((k.step.ph != 0) && !(k.step.ph == 3))) || (cmd == 5 && (k.saveBusy || k.step.ph == 3)) ||
      ((cmd == 1 || cmd == 2 || cmd == 3 || cmd == 4 || cmd == 6) && ((k.step.ph != 0) || k.saveBusy))) = true ↔ k.rejects cmd := by
  unfold Cal.rejects
  simp only [Bool.or_eq_true, Bool.and_eq_true, beq_iff_eq, bne_iff_ne, Bool.not_eq_true', Bool.and_eq_false_iff, bne_eq_false_iff_eq,
    Bool.not_eq_false']
  split
  · next h => subst h; simp
  · split
    · next h => subst h; simp
    · next h5 h7 =>
      have hsome : (((cmd = 1 ∨ cmd = 2) ∨ cmd = 3) ∨ cmd = 4) ∨ cmd = 6 := by omega
      simp only [h5, h7, hsome, false_and, false_or, true_and]

/-- What an accepted GO does once its fields are stored. -/
def State.calGo (s : State) (cmd : Nat) (v : W32) : State :=
  match cmd with
  | 1 => s.stepGo 1 v
  | 2 => s.stepGo 2 v
  | 3 => s.stepGo 3 v
  | 4 =>
    if (List.range 4).any s.cal.complete then
      s.modCal fun c => { c with step := { c.step with ph := 3, goT := s.now, left := 4, copy := none } }
    else s.calFailed 12 0 0 0
  | 5 =>
    let a := (s.copyCounter 0).getD 0
    let b := (s.copyCounter 1).getD 0
    if max a b == 0xFFFFFFFE then (s.modCal fun k => { k with saved := false }).calFailed 15 0 0 0
    else
      let c := if (s.copyCounter 0).isNone then 0 else if (s.copyCounter 1).isNone then 1 else if a ≤ b then 0 else 1
      (if s.mbxFlashes then s else s.eraseCopy c).modCal fun k =>
        { k with saveBusy := true, saving := some (c, BitVec.ofNat 32 (max a b + 1)), saveAfter := s.mbxFlashes }
  | 6 =>
    match s.bestCopy with
    | some p => s.modCal fun c => { c with step := { c.step with ph := 3, goT := s.now, left := 4, copy := some p.1 } }
    | none => s.calFailed 14 0 0 0
  | 7 => s.stepStop 11 true
  | _ => s

theorem State.calCmd_go (s : State) (w : Wr) {v : W32} {cmd : Nat} (hcmd : fld v 30 27 = cmd) (hgo : bit v 31 = true) (h1 : 1 ≤ cmd) (h7 : cmd ≤ 7) :
    (s.cal.rejects cmd → s.calCmd w v = s.reject 4 w.src 0x40000) ∧ (¬s.cal.rejects cmd → s.calCmd w v = (s.storeReg 0x40000 v).calGo cmd v) := by
  have hiff := s.cal.rejects_iff h1 h7
  unfold State.calCmd
  dsimp only
  rw [hcmd, if_neg (by omega), if_neg (by rw [hgo]; decide)]
  exact ⟨fun h => if_pos (hiff.2 h), fun h => if_neg (mt hiff.1 h)⟩

theorem State.calCmd_bad (s : State) (w : Wr) {v : W32} (hcmd : 8 ≤ fld v 30 27) : s.calCmd w v = s.reject 3 w.src 0x40000 := if_pos hcmd

/-- A step that is pending, or that fails because no tick comes. -/
theorem State.stepGo_spec (s : State) (cmd : Nat) (v : W32) : CalDone s (s.stepGo cmd v) ∧
    (s.tick.st ≠ 0 → (s.stepGo cmd v).cal = { s.cal with acc := [], step := { CalStep.none with
      cmd := cmd, ph := 1, goT := s.now, entry := fld v 26 21, ref := if cmd = 1 ∧ bit v 14 = true then some (fld v 20 15) else none } }) ∧
    (s.tick.st = 0 → (s.stepGo cmd v).cal.failed = true ∧ (s.stepGo cmd v).cal.fail = pack 32 [(8, 28)] ∧ (s.stepGo cmd v).cal.step.ph = 0 ∧
      (s.stepGo cmd v).host.cause.getLsbD 3 = true) := by
  unfold State.stepGo
  extract_lets st s1
  have hs1 : CalDone s s1 := ⟨_, _, _, _, rfl⟩
  have hcal : s1.cal = { s.cal with acc := [], step := { CalStep.none with
      cmd := cmd, ph := 1, goT := s.now, entry := fld v 26 21, ref := if cmd = 1 ∧ bit v 14 = true then some (fld v 20 15) else none } } := by
    have href : (if (cmd == 1 && bit v 14) = true then some (fld v 20 15) else none) = if cmd = 1 ∧ bit v 14 = true then some (fld v 20 15) else none := by
      simp only [Bool.and_eq_true, beq_iff_eq]
    dsimp only [s1, State.modCal]
    rw [href]
  have htick : s1.tick = s.tick := rfl
  clear_value s1
  rw [htick]
  by_cases hst : s.tick.st = 0
  · rw [if_pos (beq_iff_eq.2 hst)]
    obtain ⟨⟨c, b, h, o, hframe⟩, hfailed, hfail, hph, -, hcause⟩ := s1.stepFail_spec 8 0 0 0
    refine ⟨?_, fun h => absurd hst h, fun _ => ⟨hfailed, hfail.trans (pack_reason 8), hph, hcause⟩⟩
    rw [hframe]
    obtain ⟨c, b, h, o, rfl⟩ := hs1
    exact ⟨_, _, _, _, rfl⟩
  · rw [if_neg (mt beq_iff_eq.1 hst)]
    exact ⟨hs1, fun _ => hcal, fun h => absurd h hst⟩

/-- Settles O23: each GO that no other command rejects (`Cal.rejects_iff`) stores its fields and does what `State.calGo` says. -/
theorem calibrationCommands : Obligations.CalibrationCommands := by
  unfold Obligations.CalibrationCommands
  intro s t v src hr hreach w k rejected does
  have hstore := (s.at t).storeReg_unbanked rwReg_calCmd v
  have hexec : ∀ {c : Instr} {n : Nat}, (c, n) ∈ [(Instr.dark t w, 1), (.flatHg t w, 2), (.flatLg t w, 3), (.apply t w, 4), (.save t w, 5),
      (.restore t w, 6), (.abort t w, 7)] → exec c s = .next ((s.at t).calCmd w v) := fun h => exec_calCmd hr hreach t v src ⟨_, h⟩
  have hcmd : ∀ {c : Instr} {n : Nat}, (c, n) ∈ [(Instr.dark t w, 1), (.flatHg t w, 2), (.flatLg t w, 3), (.apply t w, 4), (.save t w, 5),
      (.restore t w, 6), (.abort t w, 7)] → 1 ≤ n ∧ n ≤ 7 := fun h => by
    simp only [List.mem_cons, List.not_mem_nil, or_false, Prod.mk.injEq] at h
    omega
  have hdoes : ∀ {c : Instr} {n : Nat} {P : State → Prop}, (c, n) ∈ [(Instr.dark t w, 1), (.flatHg t w, 2), (.flatLg t w, 3), (.apply t w, 4),
      (.save t w, 5), (.restore t w, 6), (.abort t w, 7)] → fld v 30 27 = n → bit v 31 = true → ¬k.rejects n →
      (∀ s1 : State, s1 = { (s.at t).putReg 0x40000 (v &&& 0x7FFFC000) with flt := s1.flt } → CalDone s1 (s1.calGo n v) ∧ P (s1.calGo n v)) →
      does c P := fun {c n P} hc hn hgo hfree hP => by
    obtain ⟨h1, h7⟩ := hcmd hc
    obtain ⟨hdone, hp⟩ := hP ((s.at t).storeReg 0x40000 v) (by rw [hstore])
    refine ⟨_, (hexec hc).trans (congrArg _ (((s.at t).calCmd_go w hn hgo h1 h7).2 hfree)), hp, ?_, fun o ho => ?_⟩
    · rw [hdone.reg, hstore]
      exact State.reg_putReg_same _ _ _
    · rw [hdone.reg, hstore]
      exact State.reg_putReg_ne (s.at t) _ _ _ ho
  refine ⟨fun p hp => ⟨fun h8 => ?_, fun hn hgo hrej => ?_⟩, fun p hp hn hgo hph hsave => ?_, fun hn hgo hph hsave => ?_, fun hn hgo hph hsave h0 h1 => ?_,
    fun hn hgo hph hsave hmax => ?_, fun hn hgo hph hsave => ?_, fun hn hgo hph => ?_⟩
  · exact (hexec (n := p.2) hp).trans (congrArg _ (((s.at t).calCmd_bad w h8).trans (State.reject_of_lt _ _ _ (by decide))))
  · obtain ⟨h1, h7⟩ := hcmd (c := p.1) (n := p.2) hp
    exact (hexec (n := p.2) hp).trans (congrArg _ ((((s.at t).calCmd_go w hn hgo h1 h7).1 hrej).trans (State.reject_of_lt _ _ _ (by decide))))
  · have hp7 : (p.1, p.2) ∈ [(Instr.dark t w, 1), (.flatHg t w, 2), (.flatLg t w, 3), (.apply t w, 4), (.save t w, 5), (.restore t w, 6),
        (.abort t w, 7)] := List.mem_append_left [(Instr.apply t w, 4), (.save t w, 5), (.restore t w, 6), (.abort t w, 7)] hp
    have hp3 : p.2 = 1 ∨ p.2 = 2 ∨ p.2 = 3 := by
      simp only [List.mem_cons, List.not_mem_nil, or_false] at hp
      obtain rfl | rfl | rfl := hp <;> simp
    have hfree : ¬k.rejects p.2 := by
      rw [Cal.rejects, if_neg (by omega), if_neg (by omega), hsave]
      simp [hph]
    have hgo3 : ∀ s1 : State, s1.calGo p.2 v = s1.stepGo p.2 v := fun s1 => by
      obtain h | h | h := hp3 <;> rw [h] <;> rfl
    refine ⟨fun hst => hdoes hp7 hn hgo hfree fun s1 hs1 => ?_, fun hst => hdoes hp7 hn hgo hfree fun s1 hs1 => ?_⟩
    · obtain ⟨hdone, hpend, -⟩ := s1.stepGo_spec p.2 v
      rw [hgo3]
      refine ⟨hdone, ?_⟩
      rw [hpend (by rw [hs1]; exact hst), hs1]
      rfl
    · obtain ⟨hdone, -, hfail⟩ := s1.stepGo_spec p.2 v
      rw [hgo3]
      exact ⟨hdone, hfail (by rw [hs1]; exact hst)⟩
  · have hfree : ¬k.rejects 4 := by
      rw [Cal.rejects, if_neg (by omega), if_neg (by omega), hsave]
      simp [hph]
    refine ⟨fun ⟨b, hb, hcomp⟩ => hdoes (by simp) hn hgo hfree fun s1 hs1 => ?_, fun hnone => hdoes (by simp) hn hgo hfree fun s1 hs1 => ?_⟩
    · have hany : (List.range 4).any s1.cal.complete = true :=
        List.any_eq_true.2 ⟨b, List.mem_range.2 hb, by rw [hs1]; exact hcomp⟩
      have heq : s1.calGo 4 v = _ := if_pos hany
      rw [heq]
      refine ⟨⟨_, _, _, _, rfl⟩, ?_⟩
      rw [hs1]
      rfl
    · have hany : ¬(List.range 4).any s1.cal.complete = true := fun h => by
        obtain ⟨b, hb, hcomp⟩ := List.any_eq_true.1 h
        rw [hs1] at hcomp
        exact Bool.false_ne_true ((hnone b (List.mem_range.1 hb)).symm.trans hcomp)
      have heq : s1.calGo 4 v = _ := if_neg hany
      rw [heq]
      refine ⟨⟨_, _, _, _, rfl⟩, ?_⟩
      rw [State.calFailed, pack_reason, hs1]
      rfl
  · have hfree : ¬k.rejects 5 := by
      rw [Cal.rejects, if_pos rfl, hsave]
      simp [hph]
    refine hdoes (by simp) hn hgo hfree fun s1 hs1 => ?_
    have hc0 : s1.copyCounter 0 = none := by rw [hs1]; exact h0
    have hc1 : s1.copyCounter 1 = none := by rw [hs1]; exact h1
    have heq : s1.calGo 5 v = (if s1.mbxFlashes then s1 else s1.eraseCopy 0).modCal fun k =>
        { k with saveBusy := true, saving := some (0, 1), saveAfter := s1.mbxFlashes } := by
      simp only [State.calGo, hc0, hc1]
      rfl
    have hflash : s1.mbxFlashes = s.mbxFlashes := by rw [hs1]; rfl
    rw [heq, hflash]
    by_cases hm : s.mbxFlashes = true
    · rw [if_pos hm]
      refine ⟨⟨_, _, _, _, rfl⟩, ?_, fun _ => ?_, fun h => absurd (hm.symm.trans h) nofun⟩
      · rw [hs1]
        rfl
      · rw [hs1]
        rfl
    · rw [if_neg hm]
      refine ⟨⟨_, _, _, _, rfl⟩, ?_, fun h => absurd h hm, fun _ a => ?_⟩
      · rw [hs1]
        rfl
      · refine (s1.eraseCopy_get 0 a).trans ?_
        rw [hs1]
        rfl
  · have hfree : ¬k.rejects 5 := by
      rw [Cal.rejects, if_pos rfl, hsave]
      simp [hph]
    refine hdoes (by simp) hn hgo hfree fun s1 hs1 => ?_
    have hmax1 : max ((s1.copyCounter 0).getD 0) ((s1.copyCounter 1).getD 0) = 0xFFFFFFFE := by rw [hs1]; exact hmax
    have heq : s1.calGo 5 v = (s1.modCal fun k => { k with saved := false }).calFailed 15 0 0 0 := if_pos (beq_iff_eq.2 hmax1)
    rw [heq]
    refine ⟨⟨_, _, _, _, rfl⟩, ?_, ?_⟩
    · rw [State.calFailed, pack_reason, hs1]
      rfl
    · rw [hs1]
      rfl
  · have hfree : ¬k.rejects 6 := by
      rw [Cal.rejects, if_neg (by omega), if_neg (by omega), hsave]
      simp [hph]
    refine ⟨fun p hbest => hdoes (by simp) hn hgo hfree fun s1 hs1 => ?_, fun hbest => hdoes (by simp) hn hgo hfree fun s1 hs1 => ?_⟩
    · have hbest1 : s1.bestCopy = some p := by rw [hs1]; exact hbest
      rw [State.calGo, hbest1]
      refine ⟨⟨_, _, _, _, rfl⟩, ?_⟩
      rw [hs1]
      rfl
    · have hbest1 : s1.bestCopy = none := by rw [hs1]; exact hbest
      rw [State.calGo, hbest1]
      refine ⟨⟨_, _, _, _, rfl⟩, ?_⟩
      dsimp only
      rw [State.calFailed, pack_reason, hs1]
      rfl
  · have hfree : ¬k.rejects 7 := by
      rw [Cal.rejects, if_neg (by omega), if_pos rfl]
      omega
    refine hdoes (by simp) hn hgo hfree fun s1 hs1 => ?_
    have hstop : (s1.cal.step.ph == 2 || (true && s1.cal.step.ph == 1)) = true := by
      rw [hs1, Bool.true_and, Bool.or_eq_true, beq_iff_eq, beq_iff_eq]
      exact hph.symm
    have heq : s1.calGo 7 v = s1.stepFail 11 0 0 0 := if_pos hstop
    obtain ⟨hdone, hfailed, hfail, hph', hacc, hcause⟩ := s1.stepFail_spec 11 0 0 0
    rw [heq]
    exact ⟨hdone, hfailed, hfail.trans (pack_reason 11), hph', hacc, hcause⟩

end Machine
end Sys2Proof

/-! The palette: apply, restore, save, rewrite, reload, and the journal (05_calibration R162 to R164, R177 to R185). -/

namespace Sys2Proof
namespace Machine

/-- A loop one of whose steps gives `P`, where no step takes `Q` or `P` back: after it `P` holds. -/
theorem foldl_hits {α σ : Type} {P Q : σ → Prop} {g : σ → α → σ} (hQ : ∀ s a, Q s → Q (g s a)) (hP : ∀ s a, P s → P (g s a)) {a : α}
    (hset : ∀ s, Q s → P (g s a)) (l : List α) (ha : a ∈ l) (s : σ) (hs : Q s) : P (l.foldl g s) := by
  induction l generalizing s with
  | nil => exact absurd ha List.not_mem_nil
  | cons b l ih =>
    rw [List.foldl_cons]
    obtain rfl | hin := List.mem_cons.1 ha
    · exact List.foldlRecOn l g (hset s hs) fun s h c _ => hP s c h
    · exact ih hin _ (hQ s b hs)

/-! The apply (R177 to R179). -/

/-- What installing a palette touches: of the calibration the master copy and its bases, of the engines their regions. -/
def PalOnly (s s' : State) : Prop := ∃ c en, s' = { s with cal := c, te := { s.te with eng := en } }

theorem PalOnly.refl (s : State) : PalOnly s s := ⟨_, _, rfl⟩

theorem PalOnly.trans {s s' s'' : State} (h : PalOnly s s') (h' : PalOnly s' s'') : PalOnly s s'' := by
  obtain ⟨c, en, rfl⟩ := h
  obtain ⟨c', en', rfl⟩ := h'
  exact ⟨c', en', rfl⟩

theorem PalOnly.foldl {α : Type} {g : State → α → State} (hg : ∀ s a, PalOnly s (g s a)) (l : List α) (s : State) : PalOnly s (l.foldl g s) :=
  foldl_rel PalOnly.refl (fun _ _ _ => PalOnly.trans) hg _ _

theorem State.modCal_palOnly (s : State) (f : Cal → Cal) : PalOnly s (s.modCal f) := ⟨_, _, rfl⟩

/-- One coefficient word of the master copy, and of the region of the engine that serves the tile. -/
theorem State.putCoef_spec (s : State) (t p : Nat) (w : W32) :
    ∃ en, s.putCoef t p w = { s with cal := { s.cal with master := Tbl.set 0x80000000 s.cal.master (256 * t + p) w }, te := { s.te with eng := en } } := by
  unfold State.putCoef
  dsimp only
  split
  · exact ⟨_, rfl⟩
  · exact ⟨_, rfl⟩

theorem State.putCoef_palOnly (s : State) (t p : Nat) (w : W32) : PalOnly s (s.putCoef t p w) := by
  obtain ⟨en, h⟩ := s.putCoef_spec t p w
  exact ⟨_, _, h⟩

theorem State.putCoef_master (s : State) (t p : Nat) (w : W32) (i : Nat) :
    Tbl.get 0x80000000 (s.putCoef t p w).cal.master i = if i = 256 * t + p then w else Tbl.get 0x80000000 s.cal.master i := by
  obtain ⟨en, h⟩ := s.putCoef_spec t p w
  rw [h]
  by_cases hi : i = 256 * t + p
  · rw [if_pos hi, hi]
    exact Tbl.get_set_same _ _ _ _
  · rw [if_neg hi]
    exact Tbl.get_set_ne _ _ _ _ _ _ hi

theorem State.putCoef_base (s : State) (t p : Nat) (w : W32) : (s.putCoef t p w).cal.base = s.cal.base := by
  obtain ⟨en, h⟩ := s.putCoef_spec t p w
  rw [h]

/-- The candidates of one gain of a band of a tile. -/
def State.installGain (c0 : Cal) (b t : Nat) (s : State) (g : Nat) : State :=
  let s := s.modCal fun c => { c with base := Tbl.set 0 c.base (8 * t + 2 * b + g) (Tbl.get 0 c0.candB (8 * t + 2 * b + g)) }
  if Tbl.get false c0.flatT (8 * t + 2 * b + g) then
    (List.range 32).foldl (fun s k => s.putCoef t (64 * b + 32 * g + k) (c0.candWord (256 * t + 64 * b + 32 * g + k))) s
  else s

/-- The candidates of a band of a tile. -/
def State.installTile (c0 : Cal) (b : Nat) (s : State) (t : Nat) : State :=
  (List.range 2).foldl (State.installGain c0 b t) (s.modCal fun c => c.undrift t b)

/-- The candidates of a band, for the tiles `ts`. -/
def State.installTiles (s : State) (c0 : Cal) (b : Nat) (ts : List Nat) : State :=
  (ts.foldl (State.installTile c0 b) s).modCal fun c => { c with dark := c.dark.set b (c0.cand.getD b DarkCond.none) }

/-- The tiles with a dark step of the band. -/
def Cal.darkTiles (c0 : Cal) (b : Nat) : List Nat := (List.range 1024).filter fun t => Tbl.get false c0.darkT (4 * t + b)

/-- The candidates of the bands `bs`. -/
def State.installBands (s : State) (c0 : Cal) (bs : List Nat) : State := bs.foldl (fun s b => s.installTiles c0 b (c0.darkTiles b)) s

theorem State.installCand_eq (s : State) :
    s.installCand = (s.installBands s.cal ((List.range 4).filter s.cal.complete)).modCal fun c => { c.clearSession with source := 3 } := rfl

/-- A base and a word of the master copy are those of the candidates `c0`. -/
def State.baseIs (c0 : Cal) (i : Nat) (s : State) : Prop := Tbl.get 0 s.cal.base i = Tbl.get 0 c0.candB i
def State.wordIs (c0 : Cal) (i : Nat) (s : State) : Prop := Tbl.get 0x80000000 s.cal.master i = c0.candWord i

section Install

variable (c0 : Cal) (i : Nat)

theorem State.putCoef_baseIs (s : State) (t p : Nat) (w : W32) (h : s.baseIs c0 i) : (s.putCoef t p w).baseIs c0 i := by
  rw [State.baseIs, State.putCoef_base]
  exact h

/-- A word of the candidates put in its place. -/
theorem State.putCoef_wordIs (s : State) (b t g k : Nat) (h : s.wordIs c0 i) :
    (s.putCoef t (64 * b + 32 * g + k) (c0.candWord (256 * t + 64 * b + 32 * g + k))).wordIs c0 i := by
  rw [State.wordIs, State.putCoef_master]
  split
  · next hi => rw [hi, ← Nat.add_assoc, ← Nat.add_assoc]
  · exact h

theorem State.putCoef_sets (s : State) (b t g k : Nat) :
    (s.putCoef t (64 * b + 32 * g + k) (c0.candWord (256 * t + 64 * b + 32 * g + k))).wordIs c0 (256 * t + 64 * b + 32 * g + k) := by
  rw [State.wordIs, State.putCoef_master, if_pos (by omega)]

theorem State.installGain_baseIs (s : State) (b t g : Nat) (h : s.baseIs c0 i) : (s.installGain c0 b t g).baseIs c0 i := by
  unfold State.installGain
  extract_lets s1
  have hs1 : s1.baseIs c0 i := by
    by_cases hi : i = 8 * t + 2 * b + g
    · rw [hi]
      exact Tbl.get_set_same _ _ _ _
    · exact (Tbl.get_set_ne _ _ _ _ _ _ hi).trans h
  clear_value s1
  split
  · exact List.foldlRecOn _ _ hs1 fun s h k _ => s.putCoef_baseIs c0 i _ _ _ h
  · exact hs1

theorem State.installGain_sets_base (s : State) (b t g : Nat) : (s.installGain c0 b t g).baseIs c0 (8 * t + 2 * b + g) := by
  unfold State.installGain
  extract_lets s1
  have hs1 : s1.baseIs c0 (8 * t + 2 * b + g) := Tbl.get_set_same _ _ _ _
  clear_value s1
  split
  · exact List.foldlRecOn _ _ hs1 fun s h k _ => s.putCoef_baseIs c0 _ _ _ _ h
  · exact hs1

theorem State.installGain_wordIs (s : State) (b t g : Nat) (h : s.wordIs c0 i) : (s.installGain c0 b t g).wordIs c0 i := by
  unfold State.installGain
  extract_lets s1
  have hs1 : s1.wordIs c0 i := h
  clear_value s1
  split
  · exact List.foldlRecOn _ _ hs1 fun s h k _ => s.putCoef_wordIs c0 i _ _ _ _ h
  · exact hs1

theorem State.installGain_sets_word (s : State) {b t g k : Nat} (hk : k < 32) (hflat : Tbl.get false c0.flatT (8 * t + 2 * b + g) = true) :
    (s.installGain c0 b t g).wordIs c0 (256 * t + 64 * b + 32 * g + k) := by
  unfold State.installGain
  extract_lets s1
  clear_value s1
  rw [if_pos hflat]
  exact foldl_hits (Q := fun _ => True) (fun _ _ _ => trivial) (fun s k => s.putCoef_wordIs c0 _ b t g k) (fun s _ => s.putCoef_sets c0 b t g k) _
    (List.mem_range.2 hk) _ trivial

theorem State.installTile_baseIs (s : State) (b t : Nat) (h : s.baseIs c0 i) : (s.installTile c0 b t).baseIs c0 i := by
  have h1 : (s.modCal fun c => c.undrift t b).baseIs c0 i := h
  exact List.foldlRecOn _ _ h1 fun s h g _ => s.installGain_baseIs c0 i b t g h

theorem State.installTile_wordIs (s : State) (b t : Nat) (h : s.wordIs c0 i) : (s.installTile c0 b t).wordIs c0 i := by
  have h1 : (s.modCal fun c => c.undrift t b).wordIs c0 i := h
  exact List.foldlRecOn _ _ h1 fun s h g _ => s.installGain_wordIs c0 i b t g h

theorem State.installTile_sets_base (s : State) {b t g : Nat} (hg : g < 2) : (s.installTile c0 b t).baseIs c0 (8 * t + 2 * b + g) :=
  foldl_hits (Q := fun _ => True) (fun _ _ _ => trivial) (fun s g => s.installGain_baseIs c0 _ b t g) (fun s _ => s.installGain_sets_base c0 b t g) _
    (List.mem_range.2 hg) _ trivial

theorem State.installTile_sets_word (s : State) {b t g k : Nat} (hg : g < 2) (hk : k < 32)
    (hflat : Tbl.get false c0.flatT (8 * t + 2 * b + g) = true) : (s.installTile c0 b t).wordIs c0 (256 * t + 64 * b + 32 * g + k) :=
  foldl_hits (Q := fun _ => True) (fun _ _ _ => trivial) (fun s g => s.installGain_wordIs c0 _ b t g)
    (fun s _ => s.installGain_sets_word c0 hk hflat) _ (List.mem_range.2 hg) _ trivial

theorem State.installTiles_baseIs (s : State) (b : Nat) (ts : List Nat) (h : s.baseIs c0 i) : (s.installTiles c0 b ts).baseIs c0 i := by
  have h1 : (ts.foldl (State.installTile c0 b) s).baseIs c0 i := List.foldlRecOn _ _ h fun s h t _ => s.installTile_baseIs c0 i b t h
  exact h1

theorem State.installTiles_wordIs (s : State) (b : Nat) (ts : List Nat) (h : s.wordIs c0 i) : (s.installTiles c0 b ts).wordIs c0 i := by
  have h1 : (ts.foldl (State.installTile c0 b) s).wordIs c0 i := List.foldlRecOn _ _ h fun s h t _ => s.installTile_wordIs c0 i b t h
  exact h1

theorem State.installTiles_sets_base (s : State) {b t g : Nat} (hg : g < 2) {ts : List Nat} (ht : t ∈ ts) :
    (s.installTiles c0 b ts).baseIs c0 (8 * t + 2 * b + g) := by
  have h1 : (ts.foldl (State.installTile c0 b) s).baseIs c0 (8 * t + 2 * b + g) := foldl_hits (Q := fun _ => True) (fun _ _ _ => trivial)
    (fun s t => s.installTile_baseIs c0 _ b t) (fun s _ => s.installTile_sets_base c0 hg) _ ht s trivial
  exact h1

theorem State.installTiles_sets_word (s : State) {b t g k : Nat} (hg : g < 2) (hk : k < 32) {ts : List Nat} (ht : t ∈ ts)
    (hflat : Tbl.get false c0.flatT (8 * t + 2 * b + g) = true) : (s.installTiles c0 b ts).wordIs c0 (256 * t + 64 * b + 32 * g + k) := by
  have h1 : (ts.foldl (State.installTile c0 b) s).wordIs c0 (256 * t + 64 * b + 32 * g + k) := foldl_hits (Q := fun _ => True)
    (fun _ _ _ => trivial) (fun s t => s.installTile_wordIs c0 _ b t) (fun s _ => s.installTile_sets_word c0 hg hk hflat) _ ht s trivial
  exact h1

theorem State.installGain_palOnly (s : State) (b t g : Nat) : PalOnly s (s.installGain c0 b t g) := by
  unfold State.installGain
  extract_lets s1
  have hs1 : PalOnly s s1 := s.modCal_palOnly _
  clear_value s1
  split
  · exact hs1.trans (PalOnly.foldl (fun s k => s.putCoef_palOnly _ _ _) _ _)
  · exact hs1

theorem State.installTiles_palOnly (s : State) (b : Nat) (ts : List Nat) : PalOnly s (s.installTiles c0 b ts) := by
  refine PalOnly.trans ?_ (State.modCal_palOnly _ _)
  refine PalOnly.foldl (fun s t => ?_) _ _
  exact (s.modCal_palOnly _).trans (PalOnly.foldl (fun s g => s.installGain_palOnly c0 b t g) _ _)

end Install

theorem Cal.mem_darkTiles {c0 : Cal} {b t : Nat} (ht : t < 1024) (hdark : Tbl.get false c0.darkT (4 * t + b) = true) : t ∈ c0.darkTiles b :=
  List.mem_filter.2 ⟨List.mem_range.2 ht, hdark⟩

/-- The candidates of the bands of a list. -/
theorem State.installBands_spec (s : State) (c0 : Cal) (bs : List Nat) : PalOnly s (s.installBands c0 bs) ∧
    ∀ b i g j, b ∈ bs → g < 2 → i < 1024 → Tbl.get false c0.darkT (4 * i + b) = true → j < 32 →
      (s.installBands c0 bs).baseIs c0 (8 * i + 2 * b + g) ∧ (Tbl.get false c0.flatT (8 * i + 2 * b + g) = true →
        (s.installBands c0 bs).wordIs c0 (256 * i + 64 * b + 32 * g + j)) := by
  refine ⟨PalOnly.foldl (fun x b => x.installTiles_palOnly c0 b _) _ _, fun b i g j hb hg hi hdark hj => ⟨?_, fun hflat => ?_⟩⟩
  · exact foldl_hits (Q := fun _ => True) (fun _ _ _ => trivial) (fun x b => x.installTiles_baseIs c0 _ b _)
      (fun x _ => x.installTiles_sets_base c0 hg (Cal.mem_darkTiles hi hdark)) _ hb s trivial
  · exact foldl_hits (Q := fun _ => True) (fun _ _ _ => trivial) (fun x b => x.installTiles_wordIs c0 _ b _)
      (fun x _ => x.installTiles_sets_word c0 hg hj (Cal.mem_darkTiles hi hdark) hflat) _ hb s trivial

/-- The candidates of the complete bands are in the master copy (R178, R179). -/
theorem State.installCand_spec (s : State) : let s' := s.installCand
    PalOnly s s' ∧ s'.cal.source = 3 ∧ s'.cal.darkOk = 0 ∧ s'.cal.flatOk = 0 ∧
      ∀ b i g j, b < 4 → g < 2 → i < 1024 → s.cal.complete b = true → Tbl.get false s.cal.darkT (4 * i + b) = true → j < 32 →
        s'.baseIs s.cal (8 * i + 2 * b + g) ∧ (Tbl.get false s.cal.flatT (8 * i + 2 * b + g) = true →
          s'.wordIs s.cal (256 * i + 64 * b + 32 * g + j)) := by
  rw [State.installCand_eq]
  obtain ⟨hpal, hset⟩ := s.installBands_spec s.cal ((List.range 4).filter s.cal.complete)
  have hmem : ∀ b, b < 4 → s.cal.complete b = true → b ∈ (List.range 4).filter s.cal.complete := fun b hb hcomp =>
    List.mem_filter.2 ⟨List.mem_range.2 hb, hcomp⟩
  generalize s.installBands s.cal ((List.range 4).filter s.cal.complete) = s1 at hpal hset ⊢
  exact ⟨hpal.trans (s1.modCal_palOnly _), rfl, rfl, rfl, fun b i g j hb hg hi hcomp hdark hj => hset b i g j (hmem b hb hcomp) hg hi hdark hj⟩

/-- The words of a copy, up to the `n`-th. -/
def State.copyWords (s : State) (c n : Nat) : Tbl W32 :=
  (List.range n).foldl (fun m i => Tbl.set 0x80000000 m i (BitVec.ofNat 32 (s.flashNat (copyAddr c + 0x10000 + 4 * i) 4))) []

theorem State.copyWords_get (s : State) {c n i : Nat} (hi : i < n) :
    Tbl.get 0x80000000 (s.copyWords c n) i = BitVec.ofNat 32 (s.flashNat (copyAddr c + 0x10000 + 4 * i) 4) := by
  have h := Tbl.get_foldl_set (0x80000000 : W32) (fun i => BitVec.ofNat 32 (s.flashNat (copyAddr c + 0x10000 + 4 * i) 4)) [] n i
  rw [if_pos hi] at h
  exact h

/-- The words of a copy are in the master copy (R181). -/
theorem State.loadCopy_spec (s : State) (c cnt : Nat) : let s' := (s.loadCopy c cnt).reloadRegions.modCal Cal.clearSession
    PalOnly s s' ∧ s'.cal.source = 1 + c ∧ s'.cal.darkOk = 0 ∧ s'.cal.flatOk = 0 ∧
      ∀ i, i < 262144 → Tbl.get 0x80000000 s'.cal.master i = BitVec.ofNat 32 (s.flashNat (copyAddr c + 0x10000 + 4 * i) 4) := by
  have hmaster : ((s.loadCopy c cnt).reloadRegions.modCal Cal.clearSession).cal.master = s.copyWords c 262144 := by
    rw [State.modCal_cal, Cal.clearSession, State.reloadRegions, State.modTe_cal, State.loadCopy, State.modCal_cal, State.copyWords]
  refine ⟨⟨_, _, rfl⟩, rfl, rfl, rfl, fun i hi => ?_⟩
  rw [hmaster, s.copyWords_get hi]

/-- The end of an apply once the palette is in place. -/
theorem State.applyEnd_after (s : State) (line : B48) (enc : B48) (t : Time) :
    let s1 := s.modCal fun c => { c with applyLine := line, step := { c.step with copy := none } }
    let s' := (s1.event 0x05 line.toNat enc t s1.cal.source s1.cal.counter.toNat).calIdle
    s'.cal.applyLine = line ∧ s'.cal.step.ph = 0 ∧ s'.cal.darkOk = s.cal.darkOk ∧ s'.cal.flatOk = s.cal.flatOk ∧ s'.host.cause.getLsbD 3 = true ∧
      s'.regs = s.regs ∧ s'.cal.source = s.cal.source ∧ s'.cal.base = s.cal.base ∧ s'.cal.master = s.cal.master := by
  extract_lets s1 s'
  have hs1 : s1 = { s with cal := { s.cal with applyLine := line, step := { s.cal.step with copy := none } } } := rfl
  clear_value s1
  obtain ⟨f, hf⟩ := s1.event_frame 0x05 line.toNat enc t s1.cal.source s1.cal.counter.toNat
  obtain ⟨h, o, heq, hc⟩ := State.raise_frame ((s1.event 0x05 line.toNat enc t s1.cal.source s1.cal.counter.toNat).modCal
    fun c => { c with step := { c.step with ph := 0 }, acc := [] }) (v := 19) (by decide)
  have hs' : s' = _ := heq
  clear_value s'
  subst hs'
  rw [hf, hs1]
  exact ⟨rfl, rfl, rfl, rfl, hc, rfl, rfl, rfl, rfl⟩

theorem State.applyEnd_eq (s : State) (enc : B48) (t : Time) : s.applyEnd enc t =
    let s0 := match s.cal.step.copy with
      | some c => (s.loadCopy c (s.flashNat (copyAddr c + 4) 4)).reloadRegions.modCal Cal.clearSession
      | none => s.installCand
    let s1 := s0.modCal fun c => { c with applyLine := s0.tick.line, step := { c.step with copy := none } }
    (s1.event 0x05 s0.tick.line.toNat enc t s1.cal.source s1.cal.counter.toNat).calIdle := rfl

theorem exec_applyLoadEnd {s : State} (hr : s.running = true) (t : Time) (hph : s.cal.step.ph = 3)
    (hdue : s.cal.step.left = 0 ∨ s.tick.st = 0 ∨ s.tick.st = 4) : exec (.applyLoadEnd t) s = .next ((s.at t).applyEnd s.encNow (s.at t).now) := by
  have hexec : exec (.applyLoadEnd t) s = execApplyLoadEnd t s := rfl
  have hcond : (s.cal.step.ph == 3 && (s.cal.step.left == 0 || s.tick.st == 0 || s.tick.st == 4)) = true := by
    simp only [Bool.and_eq_true, Bool.or_eq_true, beq_iff_eq]
    tauto
  rw [hexec, execApplyLoadEnd, inRun_running hr]
  exact congrArg _ (if_pos hcond)

/-! The save (R164, R183). -/

/-- Logging an event counts no uncorrectable error. -/
theorem State.logEvent_ue (s : State) (unit code d1 d2 d3 : Nat) : (s.logEvent unit code d1 d2 d3).flt.ue = s.flt.ue := by
  unfold State.logEvent
  dsimp only
  split
  · rfl
  · split
    · rfl
    · obtain ⟨h, o, heq, -⟩ := State.raise_frame _ (v := 26) (by decide)
      rw [heq]
      rfl

/-- The master copy of a tile read where no uncorrectable error is due: a corrected error is counted. -/
theorem State.readMaster_good {s : State} {t : Nat} (h : s.cal.masterUe.contains t = false) : s.readMaster t =
    { s with cal := { s.cal with masterCe := if s.cal.masterCe.contains t then s.cal.masterCe.filter (· != t) else s.cal.masterCe },
             flt := { s.flt with ce := if s.cal.masterCe.contains t then s.flt.ce + 1 else s.flt.ce } } := by
  have hu : ¬s.cal.masterUe.contains t = true := by rw [h]; exact Bool.false_ne_true
  unfold State.readMaster
  by_cases hc : s.cal.masterCe.contains t = true
  · rw [if_pos hc]
    dsimp only
    rw [if_neg (show ¬((s.modCal fun c => { c with masterCe := c.masterCe.filter (· != t) }).modFlt
      fun f => { f with ce := f.ce + 1 }).cal.masterUe.contains t = true from hu)]
    rw [if_pos hc, if_pos hc]
    rfl
  · rw [if_neg hc]
    dsimp only
    rw [if_neg hu, if_neg hc, if_neg hc]

/-- The master copy of a tile read with an uncorrectable error: the tile is to be reloaded. -/
theorem State.readMaster_bad {s : State} {t : Nat} (h : s.cal.masterUe.contains t = true) : let s' := s.readMaster t
    s'.cal.reload = s.cal.reload ++ [t] ∧ s'.cal.masterUe = s.cal.masterUe.filter (· != t) ∧ s'.cal.rewrite = s.cal.rewrite ∧
      s'.flt.ue = s.flt.ue + 1 := by
  unfold State.readMaster
  extract_lets s1 s'
  have hs1 : s1.cal.masterUe = s.cal.masterUe ∧ s1.cal.reload = s.cal.reload ∧ s1.cal.rewrite = s.cal.rewrite ∧ s1.flt.ue = s.flt.ue := by
    dsimp only [s1]
    split <;> exact ⟨rfl, rfl, rfl, rfl⟩
  clear_value s1
  obtain ⟨hue, hre, hrw, hcnt⟩ := hs1
  have hs' : s' = ((s1.modCal fun c => { c with masterUe := c.masterUe.filter (· != t), reload := c.reload ++ [t] }).modFlt
    fun f => { f with ue := f.ue + 1 }).logEvent 0x05 2 t 0 0 := if_pos (by rw [hue]; exact h)
  clear_value s'
  have hlog := State.logEvent_ue ((s1.modCal fun c => { c with masterUe := c.masterUe.filter (· != t), reload := c.reload ++ [t] }).modFlt
    fun f => { f with ue := f.ue + 1 }) 0x05 2 t 0 0
  obtain ⟨f, hl, o, heq⟩ := State.logEvent_frame ((s1.modCal fun c => { c with masterUe := c.masterUe.filter (· != t), reload := c.reload ++ [t] }).modFlt
    fun f => { f with ue := f.ue + 1 }) 0x05 2 t 0 0
  rw [← hs'] at heq hlog
  refine ⟨?_, ?_, ?_, ?_⟩
  · rw [heq, ← hre]
    rfl
  · rw [heq, ← hue]
    rfl
  · rw [heq]
    exact hrw
  · rw [hlog, ← hcnt]
    rfl

/-- A read of the master copy: the save stays as it is, no tile leaves the reload list. -/
def ReadKept (s s' : State) : Prop := CalLogOnly s s' ∧ s'.cal.saving = s.cal.saving ∧ s'.cal.saveBusy = s.cal.saveBusy ∧
  s'.cal.saveAfter = s.cal.saveAfter ∧ s.cal.reload ⊆ s'.cal.reload

theorem ReadKept.refl (s : State) : ReadKept s s := ⟨.refl s, rfl, rfl, rfl, fun _ => id⟩

theorem ReadKept.trans {s s' s'' : State} (h : ReadKept s s') (h' : ReadKept s' s'') : ReadKept s s'' := by
  obtain ⟨h1, h2, h3, h4, h5⟩ := h
  obtain ⟨h1', h2', h3', h4', h5'⟩ := h'
  exact ⟨h1.trans h1', h2'.trans h2, h3'.trans h3, h4'.trans h4, fun _ hx => h5' (h5 hx)⟩

theorem State.readMaster_readKept (s : State) (t : Nat) : ReadKept s (s.readMaster t) := by
  refine ⟨s.readMaster_calLogOnly t, ?_⟩
  unfold State.readMaster
  extract_lets s1
  have hs1 : s1.cal.saving = s.cal.saving ∧ s1.cal.saveBusy = s.cal.saveBusy ∧ s1.cal.saveAfter = s.cal.saveAfter ∧
      s1.cal.reload = s.cal.reload := by
    dsimp only [s1]
    split <;> exact ⟨rfl, rfl, rfl, rfl⟩
  clear_value s1
  obtain ⟨h1, h2, h3, h4⟩ := hs1
  split
  · obtain ⟨f, hl, o, heq⟩ := State.logEvent_frame ((s1.modCal fun c => { c with masterUe := c.masterUe.filter (· != t), reload := c.reload ++ [t] }).modFlt
      fun f => { f with ue := f.ue + 1 }) 0x05 2 t 0 0
    rw [heq]
    refine ⟨h1, h2, h3, fun x hx => ?_⟩
    exact List.mem_append_left _ (by rw [h4]; exact hx)
  · exact ⟨h1, h2, h3, fun x hx => by rw [h4]; exact hx⟩

theorem State.readMasters_readKept (s : State) : ReadKept s s.readMasters :=
  foldl_rel ReadKept.refl (fun _ _ _ => ReadKept.trans) (fun s t => s.readMaster_readKept t) _ _

/-- A tile that is to be reloaded stays so, and one that cannot be read becomes so. -/
theorem State.readMasters_reload {s : State} (h : s.cal.masterUe ≠ [] ∨ s.cal.reload ≠ []) : s.readMasters.cal.reload ≠ [] := by
  by_cases hre : s.cal.reload = []
  · obtain ⟨t, ht⟩ := List.exists_mem_of_ne_nil _ (h.resolve_right fun h => h hre)
    have hkeep : ∀ (x : State) (u : Nat), x.cal.reload ≠ [] → (x.readMaster u).cal.reload ≠ [] := fun x u hx hnil => by
      obtain ⟨y, hy⟩ := List.exists_mem_of_ne_nil _ hx
      have hmem := (x.readMaster_readKept u).2.2.2.2 hy
      rw [hnil] at hmem
      exact List.not_mem_nil hmem
    have hstep : ∀ (x : State) (u : Nat), x.cal.masterUe.contains u = true → (x.readMaster u).cal.reload ≠ [] := fun x u hu => by
      obtain ⟨heq, -⟩ := State.readMaster_bad hu
      rw [heq]
      exact List.append_ne_nil_of_right_ne_nil _ (List.cons_ne_nil _ _)
    refine foldl_hits (P := fun x : State => x.cal.reload ≠ []) (Q := fun x : State => x.cal.masterUe.contains t = true ∨ x.cal.reload ≠ [])
      (fun x u hx => ?_) hkeep (fun x hx => ?_) _ (List.mem_append_right _ ht) _ (.inl (List.contains_iff_mem.2 ht))
    · obtain hx | hx := hx
      · by_cases hu : x.cal.masterUe.contains u = true
        · exact .inr (hstep x u hu)
        · rw [State.readMaster_good (Bool.eq_false_iff.2 hu)]
          exact .inl hx
      · exact .inr (hkeep x u hx)
    · obtain hx | hx := hx
      · exact hstep x t hx
      · exact hkeep x t hx
  · obtain ⟨y, hy⟩ := List.exists_mem_of_ne_nil _ hre
    have hmem := s.readMasters_readKept.2.2.2.2 hy
    exact List.ne_nil_of_mem hmem

theorem State.copyImage_congr {s s' : State} (hcal : s'.cal = s.cal) (hconv : s'.conv = s.conv) (n : Nat) : s'.copyImage n = s.copyImage n := by
  have hbank : s'.bank = s.bank := funext fun t => by rw [State.bank, State.bank, hconv]
  rw [State.copyImage, State.copyImage, hcal, hbank]

/-- The state a save's end works on, once the master copy has been read. -/
def State.saveWrite (s : State) (c : Nat) (cnt : W32) (good : Bool) : State :=
  let s := s.modBoot fun b => { b with mbxAfter := false }
  let img := s.copyImage cnt.toNat
  (if good then
    (s.flashPut (copyAddr c) (img ++ Config.paletteTag img)).modCal fun k =>
      { k with saveBusy := false, saving := none, saved := true, counter := cnt, source := 1 + c }
  else (s.modCal fun k => { k with saveBusy := false, saving := none, saved := false }).calFailed 13 0 0 0).raise 19

section Save

variable {s : State} (hr : s.running = true) (t : Time) (good : Bool) {c : Nat} {cnt : W32} (hsave : s.cal.saving = some (c, cnt))
include hr hsave

/-- A save waits while a tile is reloaded, and for a mailbox command that uses flash. -/
theorem exec_saveEnd_waits (h : (!(s.at t).readMasters.cal.reload.isEmpty || ((s.at t).readMasters.cal.saveAfter && (s.at t).readMasters.mbxFlashes)) =
    true) : exec (.saveEnd t good) s = .next (s.at t).readMasters := by
  have hexec : exec (.saveEnd t good) s = execSaveEnd t good s := rfl
  rw [hexec, execSaveEnd, inRun_running hr]
  dsimp only
  rw [show (s.at t).cal.saving = some (c, cnt) from hsave]
  exact congrArg _ (if_pos h)

theorem exec_saveEnd (h : (!(s.at t).readMasters.cal.reload.isEmpty || ((s.at t).readMasters.cal.saveAfter && (s.at t).readMasters.mbxFlashes)) =
    false) : exec (.saveEnd t good) s = .next ((s.at t).readMasters.saveWrite c cnt good) := by
  have hexec : exec (.saveEnd t good) s = execSaveEnd t good s := rfl
  rw [hexec, execSaveEnd, inRun_running hr]
  dsimp only
  rw [show (s.at t).cal.saving = some (c, cnt) from hsave]
  exact congrArg _ (if_neg (by rw [h]; exact Bool.false_ne_true))

end Save

/-- The bytes of a save put in flash. -/
theorem State.savePut_spec (s : State) (c : Nat) (cnt : W32) (bs : List Byte) :
    let s' := ((s.flashPut (copyAddr c) bs).modCal fun k =>
      { k with saveBusy := false, saving := none, saved := true, counter := cnt, source := 1 + c }).raise 19
    s'.cal = { s.cal with saveBusy := false, saving := none, saved := true, counter := cnt, source := 1 + c } ∧
      s'.boot.flash = memPut 0xFF s.boot.flash (copyAddr c) bs ∧ s'.host.cause.getLsbD 3 = true ∧ s'.regs = s.regs := by
  obtain ⟨h, o, heq, hc⟩ := State.raise_frame ((s.flashPut (copyAddr c) bs).modCal fun k =>
    { k with saveBusy := false, saving := none, saved := true, counter := cnt, source := 1 + c }) (v := 19) (by decide)
  dsimp only
  rw [heq]
  exact ⟨rfl, rfl, hc, rfl⟩

theorem State.saveWrite_good (s : State) (c : Nat) (cnt : W32) : let s' := s.saveWrite c cnt true
    s'.cal = { s.cal with saveBusy := false, saving := none, saved := true, counter := cnt, source := 1 + c } ∧
      s'.boot.flash = memPut 0xFF s.boot.flash (copyAddr c) (s.copyImage cnt.toNat ++ Config.paletteTag (s.copyImage cnt.toNat)) ∧
      s'.host.cause.getLsbD 3 = true ∧ s'.regs = s.regs := by
  have himg : (s.modBoot fun b => { b with mbxAfter := false }).copyImage cnt.toNat = s.copyImage cnt.toNat := State.copyImage_congr rfl rfl _
  rw [State.saveWrite]
  dsimp only
  rw [if_pos rfl, himg]
  generalize s.copyImage cnt.toNat ++ Config.paletteTag (s.copyImage cnt.toNat) = bs
  exact (s.modBoot fun b => { b with mbxAfter := false }).savePut_spec c cnt bs

theorem State.saveWrite_bad (s : State) (c : Nat) (cnt : W32) : let s' := s.saveWrite c cnt false
    s'.cal = { s.cal with saveBusy := false, saving := none, saved := false, failed := true, fail := pack 32 [(13, 28)] } ∧
      s'.boot = { s.boot with mbxAfter := false } ∧ s'.host.cause.getLsbD 3 = true ∧ s'.regs = s.regs := by
  unfold State.saveWrite
  extract_lets s1 img s'
  clear_value img
  have hs1 : s1 = { s with boot := { s.boot with mbxAfter := false } } := rfl
  clear_value s1
  obtain ⟨h, o, heq, hc⟩ := State.raise_frame ((s1.modCal fun k => { k with saveBusy := false, saving := none, saved := false }).calFailed 13 0 0 0)
    (v := 19) (by decide)
  have hs' : s' = _ := heq
  clear_value s'
  rw [hs', hs1, State.calFailed, pack_reason]
  exact ⟨rfl, rfl, hc, rfl⟩

theorem State.readMasters_nil {s : State} (hce : s.cal.masterCe = []) (hue : s.cal.masterUe = []) : s.readMasters = s := by
  rw [State.readMasters, hce, hue]
  rfl

/-! Rewrite and reload (R163, R164). -/

theorem State.writeRegion_served {s : State} {t e : Nat} (h : s.serving t = some e) : s.writeRegion t = s.modEng e Engine.regionWritten := by
  rw [State.writeRegion, h]

theorem State.writeRegion_frame (s : State) (t : Nat) : ∃ en, s.writeRegion t = { s with te := { s.te with eng := en } } := by
  unfold State.writeRegion
  split
  · exact ⟨_, rfl⟩
  · exact ⟨_, rfl⟩

theorem exec_paletteRewriteEnd {s : State} (hr : s.running = true) (t : Time) {tile : Nat} (h : s.cal.rewrite.contains tile = true) :
    exec (.paletteRewriteEnd t tile) s =
      .next ((((s.at t).modCal fun c => { c with rewrite := c.rewrite.filter (· != tile) }).readMaster tile).writeRegion tile) := by
  have hexec : exec (.paletteRewriteEnd t tile) s = execPaletteRewriteEnd t tile s := rfl
  rw [hexec, execPaletteRewriteEnd, inRun_running hr]
  exact congrArg _ (if_pos h)

/-- The words of a tile, up to the `n`-th, put in the master copy. -/
def State.putWords (s : State) (tile : Nat) (word : Nat → W32) (n : Nat) : State := (List.range n).foldl (fun s p => s.putCoef tile p (word p)) s

theorem State.putWords_spec (s : State) (tile : Nat) (word : Nat → W32) (n : Nat) :
    (∃ m en, s.putWords tile word n = { s with cal := { s.cal with master := m }, te := { s.te with eng := en } }) ∧
    ∀ i, Tbl.get 0x80000000 (s.putWords tile word n).cal.master i =
      if 256 * tile ≤ i ∧ i < 256 * tile + n then word (i - 256 * tile) else Tbl.get 0x80000000 s.cal.master i := by
  induction n with
  | zero => exact ⟨⟨_, _, rfl⟩, fun i => (if_neg (by omega)).symm⟩
  | succ n ih =>
    obtain ⟨⟨m, en, hframe⟩, hget⟩ := ih
    have hstep : s.putWords tile word (n + 1) = (s.putWords tile word n).putCoef tile n (word n) := by
      rw [State.putWords, List.range_succ, List.foldl_append]
      rfl
    rw [hstep]
    refine ⟨?_, fun i => ?_⟩
    · obtain ⟨en', h⟩ := (s.putWords tile word n).putCoef_spec tile n (word n)
      rw [h, hframe]
      exact ⟨_, _, rfl⟩
    · rw [State.putCoef_master, hget]
      by_cases hi : i = 256 * tile + n
      · rw [if_pos hi, if_pos (by omega), hi, Nat.add_sub_cancel_left]
      · rw [if_neg hi]
        by_cases hin : 256 * tile ≤ i ∧ i < 256 * tile + n
        · rw [if_pos hin, if_pos (by omega)]
        · rw [if_neg hin, if_neg (by omega)]

theorem exec_masterReloadEnd {s : State} (hr : s.running = true) (t : Time) {tile c : Nat} (h : s.cal.reload.contains tile = true)
    (hsrc : s.cal.source = 1 + c) (hc : c < 2) : exec (.masterReloadEnd t tile) s =
      .next ((((s.at t).modCal fun k => { k with reload := k.reload.filter (· != tile) }).putWords tile
        (fun p => BitVec.ofNat 32 (s.flashNat (copyAddr c + 0x10000 + 0x400 * tile + 4 * p) 4)) 256).writeRegion tile) := by
  have hexec : exec (.masterReloadEnd t tile) s = execMasterReloadEnd t tile s := rfl
  have hcopy : (if (s.at t).cal.source == 1 || (s.at t).cal.source == 2 then some ((s.at t).cal.source - 1) else (s.at t).bestCopy.map (·.1)) =
      some c := by
    rw [show (s.at t).cal.source = 1 + c from hsrc, if_pos (by rw [Bool.or_eq_true, beq_iff_eq, beq_iff_eq]; omega), Nat.add_sub_cancel_left]
  rw [hexec, execMasterReloadEnd, inRun_running hr]
  dsimp only
  rw [hcopy, if_pos (show (s.at t).cal.reload.contains tile = true from h)]
  rfl

/-! The journal (R185). -/

theorem exec_journalAppend {s : State} (ha : s.alive = true) (t : Time) {ti sl r l : Nat} {rest : List (Nat × Nat × Nat × Nat)}
    (hq : s.cal.jQueue = (ti, sl, r, l) :: rest) (hj : s.cal.journal < 2048) (good : Bool) : exec (.journalAppend t good) s = .next (
      if good then ((s.at t).flashPut (journalAddr s.cal.journal) (journalHead ti sl r l ++ Config.paletteTag (journalHead ti sl r l))).modCal
        fun c => { c with journal := c.journal + 1, jQueue := rest } else s.at t) := by
  have hexec : exec (.journalAppend t good) s = execJournalAppend t good s := rfl
  rw [hexec, execJournalAppend, timed_alive ha]
  dsimp only
  rw [show (s.at t).cal.jQueue = (ti, sl, r, l) :: rest from hq, show (s.at t).cal.journal = s.cal.journal from rfl, decide_eq_true hj, Bool.and_true]

theorem not_mem_filter_ne (l : List Nat) (a : Nat) : a ∉ l.filter (· != a) := by simp

/-- Settles O25: an apply ends as `State.installCand_spec` or `State.loadCopy_spec` gives, a save as `State.saveWrite` once `State.readMasters` leaves
no tile to reload. -/
theorem paletteCopies : Obligations.PaletteCopies := by
  unfold Obligations.PaletteCopies
  intro s t tile hr k ends
  have ha := State.alive_of_running hr
  refine ⟨fun hph hdue => ⟨fun hcopy => ?_, fun c hcopy => ?_⟩, fun c cnt hsave => ⟨fun hue hce hre hfree => ⟨?_, ?_⟩, fun haft hmbx hue hce ok => ?_,
    fun hbad ok => ?_⟩, fun e hrw hserve => ⟨fun hue => ?_, fun hue => ?_⟩, fun c hre hsrc hc htile => ?_, fun ti sl r l rest hq hj => ⟨?_, ?_⟩⟩
  · refine ⟨_, exec_applyLoadEnd hr t hph hdue, ?_⟩
    obtain ⟨⟨c, en, hframe⟩, hsrc, hdark, hflat, hset⟩ := (s.at t).installCand_spec
    rw [State.applyEnd_eq, show (s.at t).cal.step.copy = none from hcopy]
    dsimp only
    generalize (s.at t).installCand = s1 at hframe hsrc hdark hflat hset ⊢
    obtain ⟨happ, hph', hdark', hflat', hcause, hregs, hsrc', hbase, hmaster⟩ := s1.applyEnd_after s1.tick.line s.encNow (s.at t).now
    refine ⟨⟨happ.trans (by rw [hframe]; rfl), hph', hdark'.trans hdark, hflat'.trans hflat, hcause, hregs.trans (by rw [hframe]; rfl)⟩,
      hsrc'.trans hsrc, fun b i g j hb hg hi hcomp hdk hj => ?_⟩
    obtain ⟨h1, h2⟩ := hset b i g j hb hg hi hcomp hdk hj
    rw [hbase, hmaster]
    exact ⟨h1, h2⟩
  · refine ⟨_, exec_applyLoadEnd hr t hph hdue, ?_⟩
    obtain ⟨⟨c', en, hframe⟩, hsrc, hdark, hflat, hset⟩ := (s.at t).loadCopy_spec c ((s.at t).flashNat (copyAddr c + 4) 4)
    rw [State.applyEnd_eq, show (s.at t).cal.step.copy = some c from hcopy]
    dsimp only
    generalize ((s.at t).loadCopy c ((s.at t).flashNat (copyAddr c + 4) 4)).reloadRegions.modCal Cal.clearSession = s1 at hframe hsrc hdark hflat hset ⊢
    obtain ⟨happ, hph', hdark', hflat', hcause, hregs, hsrc', hbase, hmaster⟩ := s1.applyEnd_after s1.tick.line s.encNow (s.at t).now
    refine ⟨⟨happ.trans (by rw [hframe]; rfl), hph', hdark'.trans hdark, hflat'.trans hflat, hcause, hregs.trans (by rw [hframe]; rfl)⟩,
      hsrc'.trans hsrc, fun i hi => ?_⟩
    rw [hmaster]
    exact hset i hi
  · have hread : (s.at t).readMasters = s.at t := State.readMasters_nil hce hue
    refine ⟨_, exec_saveEnd hr t true hsave ?_, ?_⟩
    · rw [hread]
      show (!s.cal.reload.isEmpty || (s.cal.saveAfter && s.mbxFlashes)) = false
      rw [show s.cal.reload = [] from hre]
      obtain h | h := hfree
      · rw [show s.cal.saveAfter = false from h]
        rfl
      · rw [h, Bool.and_false]
        rfl
    · rw [hread]
      exact (s.at t).saveWrite_good c cnt
  · have hread : (s.at t).readMasters = s.at t := State.readMasters_nil hce hue
    refine ⟨_, exec_saveEnd hr t false hsave ?_, ?_⟩
    · rw [hread]
      show (!s.cal.reload.isEmpty || (s.cal.saveAfter && s.mbxFlashes)) = false
      rw [show s.cal.reload = [] from hre]
      obtain h | h := hfree
      · rw [show s.cal.saveAfter = false from h]
        rfl
      · rw [h, Bool.and_false]
        rfl
    · rw [hread]
      exact (s.at t).saveWrite_bad c cnt
  · have hread : (s.at t).readMasters = s.at t := State.readMasters_nil hce hue
    refine ⟨_, exec_saveEnd_waits hr t ok hsave ?_, ?_⟩
    · rw [hread]
      show (!s.cal.reload.isEmpty || (s.cal.saveAfter && s.mbxFlashes)) = true
      rw [show s.cal.saveAfter = true from haft, hmbx, Bool.and_true, Bool.or_true]
    · rw [hread]
      exact ⟨rfl, rfl, rfl, rfl⟩
  · have hne : (s.at t).readMasters.cal.reload ≠ [] := State.readMasters_reload hbad
    refine ⟨_, exec_saveEnd_waits hr t ok hsave ?_, ?_⟩
    · rw [Bool.or_eq_true, Bool.not_eq_true', List.isEmpty_eq_false_iff]
      exact .inl hne
    · obtain ⟨⟨c', f, h, o, hframe⟩, hsv, hbusy, -, -⟩ := (s.at t).readMasters_readKept
      refine ⟨hsv, hbusy, hne, ?_, ?_⟩
      · rw [hframe]
        rfl
      · rw [hframe]
        rfl
  · refine ⟨_, exec_paletteRewriteEnd hr t hrw, ?_⟩
    obtain ⟨s1, hs1⟩ : ∃ s1, s1 = ((s.at t).modCal fun c => { c with rewrite := c.rewrite.filter (· != tile) }).readMaster tile := ⟨_, rfl⟩
    have hgood := State.readMaster_good (s := (s.at t).modCal fun c => { c with rewrite := c.rewrite.filter (· != tile) }) hue
    rw [← hs1] at hgood ⊢
    have hserve1 : s1.serving tile = some e := by rw [hgood]; exact hserve
    rw [State.writeRegion_served hserve1]
    have heng : (s1.modEng e Engine.regionWritten).eng e = (s1.eng e).regionWritten := s1.eng_modEng_same e _
    have hengs : ∀ i, i ≠ e → (s1.modEng e Engine.regionWritten).eng i = s1.eng i := fun i hi => s1.eng_modEng_ne e i _ hi
    have heng1 : s1.eng = s.eng := by rw [hgood]; rfl
    refine ⟨?_, ?_, ?_, ?_, ?_, ?_⟩
    · rw [hgood]
      rfl
    · rw [hgood]
      show tile ∉ if s.cal.masterCe.contains tile then s.cal.masterCe.filter (· != tile) else s.cal.masterCe
      split
      · exact not_mem_filter_ne _ _
      · next h => exact fun hmem => h (List.contains_iff_mem.2 hmem)
    · rw [heng]
      rfl
    · rw [heng]
      intro d hd hin
      have hkeep := (List.mem_filter.1 hd).2
      simp [hin.1, hin.2] at hkeep
    · intro i hi
      rw [hengs i hi, heng1]
    · rw [hgood]
      rfl
  · refine ⟨_, exec_paletteRewriteEnd hr t hrw, ?_⟩
    obtain ⟨hre, hmu, hrw', hcnt⟩ := State.readMaster_bad (s := (s.at t).modCal fun c => { c with rewrite := c.rewrite.filter (· != tile) }) hue
    obtain ⟨⟨c', f, h, o, hframe⟩, -⟩ := ((s.at t).modCal fun c => { c with rewrite := c.rewrite.filter (· != tile) }).readMaster_readKept tile
    generalize ((s.at t).modCal fun c => { c with rewrite := c.rewrite.filter (· != tile) }).readMaster tile = s1 at hre hmu hrw' hcnt hframe ⊢
    obtain ⟨en, hen⟩ := s1.writeRegion_frame tile
    rw [hen]
    refine ⟨hre, ?_, ?_, hcnt, ?_⟩
    · show tile ∉ s1.cal.masterUe
      rw [hmu]
      exact not_mem_filter_ne _ _
    · show tile ∉ s1.cal.rewrite
      rw [hrw']
      exact not_mem_filter_ne _ _
    · show s1.regs = s.regs
      rw [hframe]
      rfl
  · refine ⟨_, exec_masterReloadEnd hr t hre hsrc hc, ?_⟩
    obtain ⟨⟨m, en, hframe⟩, hget⟩ := ((s.at t).modCal fun k => { k with reload := k.reload.filter (· != tile) }).putWords_spec tile
      (fun p => BitVec.ofNat 32 (s.flashNat (copyAddr c + 0x10000 + 0x400 * tile + 4 * p) 4)) 256
    generalize ((s.at t).modCal fun k => { k with reload := k.reload.filter (· != tile) }).putWords tile
      (fun p => BitVec.ofNat 32 (s.flashNat (copyAddr c + 0x10000 + 0x400 * tile + 4 * p) 4)) 256 = s1 at hframe hget ⊢
    obtain ⟨en', hen⟩ := s1.writeRegion_frame tile
    rw [hen]
    refine ⟨?_, ?_, fun p hp => ?_, fun i hi => ?_⟩
    · rw [hframe]
      rfl
    · rw [hframe]
      rfl
    · refine (hget (256 * tile + p)).trans ?_
      rw [if_pos (by omega), Nat.add_sub_cancel_left]
    · refine (hget i).trans ?_
      rw [if_neg (by omega)]
      rfl
  · rw [exec_journalAppend ha t hq hj true, if_pos rfl]
    rfl
  · rw [exec_journalAppend ha t hq hj false]
    rfl

end Machine
end Sys2Proof

/-! Statistics, CLOSE, the class C deadline, and the bridge (07_kernels_records R268, R279; 08_result_fabric R284, R299, R300, R304). -/

namespace Sys2Proof
namespace Machine

/-! Records staged by the device. -/

theorem State.stage_open {s : State} (hf : s.flt.faulted = false) (hsup : s.flt.sup = none) (ws : List W64) :
    s.stage ws = { s with fab := { s.fab with q := Tbl.set [] s.fab.q 1056 (s.queue 1056 ++ [s.devRec ws]) } } := by
  rw [State.stage, hf, hsup]
  rfl

/-- What covering records and other device records touch: lines, covers, and of the queues that of the supervisor stream. -/
def StageOnly (s s' : State) : Prop :=
  ∃ q ls cv pa, s' = { s with fab := { s.fab with q := q, lines := ls, covers := cv, paused := pa } } ∧
    ∀ i, i ≠ 1056 → Tbl.get [] q i = Tbl.get [] s.fab.q i

theorem StageOnly.refl (s : State) : StageOnly s s := ⟨_, _, _, _, rfl, fun _ _ => rfl⟩

theorem StageOnly.trans {s s' s'' : State} (h : StageOnly s s') (h' : StageOnly s' s'') : StageOnly s s'' := by
  obtain ⟨q, ls, cv, pa, rfl, hq⟩ := h
  obtain ⟨q', ls', cv', pa', rfl, hq'⟩ := h'
  exact ⟨q', ls', cv', pa', rfl, fun i hi => (hq' i hi).trans (hq i hi)⟩

theorem StageOnly.foldl {α : Type} {g : State → α → State} (hg : ∀ s a, StageOnly s (g s a)) (l : List α) (s : State) : StageOnly s (l.foldl g s) :=
  foldl_rel StageOnly.refl (fun _ _ _ => StageOnly.trans) hg _ _

theorem StageOnly.queue {s s' : State} (h : StageOnly s s') {i : Nat} (hi : i ≠ 1056) : s'.queue i = s.queue i := by
  obtain ⟨q, ls, cv, pa, rfl, hq⟩ := h
  exact hq i hi

theorem State.stage_stageOnly (s : State) (ws : List W64) : StageOnly s (s.stage ws) := by
  unfold State.stage
  dsimp only
  split
  · exact .refl s
  · split
    · exact ⟨_, _, _, _, rfl, fun _ _ => rfl⟩
    · exact ⟨_, _, _, _, rfl, fun i hi => Tbl.get_set_ne _ _ _ _ _ _ hi⟩

theorem State.coverCh_stageOnly (s : State) (failed : Bool) (reason code n a b ch : Nat) (l : Line) :
    StageOnly s (s.coverCh failed reason code n a b ch l) := by
  unfold State.coverCh
  extract_lets m s1
  have hs1 : StageOnly s s1 := ⟨_, _, _, _, rfl, fun _ _ => rfl⟩
  clear_value s1
  split
  · refine hs1.trans (StageOnly.foldl (fun s p => ?_) _ _)
    refine StageOnly.trans ?_ (State.stage_stageOnly _ _)
    exact ⟨_, _, _, _, rfl, fun _ _ => rfl⟩
  · exact hs1

theorem State.endItem_stageOnly (s : State) (failed : Bool) (reason src : Nat) (ws : List W64) : StageOnly s (s.endItem failed reason src ws) := by
  unfold State.endItem
  dsimp only
  split
  · exact s.coverCh_stageOnly ..
  · exact .refl s

/-! Statistics (R268). -/

/-- The combination of a line's contributions on one channel. -/
def State.combineCh (line : Nat) (l : Line) (s : State) (ch : Nat) : State :=
  let cs := s.fab.contrib.filter fun c => c.line == line && c.ch == ch
  if cs.isEmpty then s
  else
    let s := s.modFab fun f => { f with contrib := f.contrib.filter (fun c => !(c.line == line && c.ch == ch)), comb := f.comb ++ cs }
    if s.carries ch line then s.stage (statRec cs ch line l) else s

/-- A channel without contributions of the line. -/
theorem State.combineCh_none {s : State} {line ch : Nat} (l : Line) (h : ∀ c ∈ s.fab.contrib, c.line = line → c.ch ≠ ch) :
    s.combineCh line l ch = s := by
  refine if_pos ?_
  rw [List.isEmpty_iff, List.filter_eq_nil_iff]
  intro c hc hcond
  rw [Bool.and_eq_true, beq_iff_eq, beq_iff_eq] at hcond
  exact h c hc hcond.1 hcond.2

theorem foldl_combine_none {line : Nat} (l : Line) (chs : List Nat) {s : State}
    (h : ∀ ch ∈ chs, ∀ c ∈ s.fab.contrib, c.line = line → c.ch ≠ ch) : chs.foldl (State.combineCh line l) s = s := by
  induction chs with
  | nil => rfl
  | cons ch chs ih =>
    rw [List.foldl_cons, State.combineCh_none l (h ch List.mem_cons_self)]
    exact ih fun ch' hch' => h ch' (List.mem_cons_of_mem _ hch')

/-- All contributions of the line are for one channel. -/
theorem foldl_combine {line ch : Nat} (l : Line) {chs : List Nat} (hnd : chs.Nodup) (hmem : ch ∈ chs) {s : State}
    (h : ∀ c ∈ s.fab.contrib, c.line = line → c.ch = ch)
    (hafter : ∀ c ∈ (s.combineCh line l ch).fab.contrib, c.line ≠ line) : chs.foldl (State.combineCh line l) s = s.combineCh line l ch := by
  obtain ⟨l1, l2, rfl⟩ := List.append_of_mem hmem
  have hnot : ch ∉ l1 := fun h1 => (List.nodup_append.1 hnd).2.2 ch h1 ch List.mem_cons_self rfl
  rw [List.foldl_append, List.foldl_cons]
  have hfirst : l1.foldl (State.combineCh line l) s = s :=
    foldl_combine_none l l1 fun ch' hch' c hc hline heq => hnot (by rw [← h c hc hline, heq]; exact hch')
  rw [hfirst]
  exact foldl_combine_none l l2 fun ch' _ c hc hline => absurd hline (hafter c hc)

/-- The combination of the contributions of a line, all of one channel that carries it. -/
theorem State.combineCh_spec {s : State} {line ch : Nat} (l : Line) (hf : s.flt.faulted = false) (hsup : s.flt.sup = none)
    (hcarries : s.carries ch line = true) (hex : ∃ c, c ∈ s.fab.contrib ∧ c.line = line) (h : ∀ c, c ∈ s.fab.contrib → c.line = line → c.ch = ch) :
    let s' := s.combineCh line l ch
    s'.fab.contrib = s.fab.contrib.filter (fun c => c.line != line) ∧ s'.fab.comb = s.fab.comb ++ s.fab.contrib.filter (fun c => c.line == line) ∧
      (∃ r, s'.queue 1056 = s.queue 1056 ++ [r] ∧ r.ws = statRec (s.fab.contrib.filter fun c => c.line == line) ch line l ∧ r.dev = true) ∧
      s' = { s with fab := s'.fab } := by
  have hsame : ∀ c ∈ s.fab.contrib, (c.line == line && c.ch == ch) = (c.line == line) := fun c hc => by
    by_cases hl : c.line = line
    · rw [h c hc hl, beq_self_eq_true, Bool.and_true]
    · rw [beq_eq_false_iff_ne.2 hl, Bool.false_and]
  have hfilter : s.fab.contrib.filter (fun c => c.line == line && c.ch == ch) = s.fab.contrib.filter fun c => c.line == line :=
    List.filter_congr hsame
  have hrest : s.fab.contrib.filter (fun c => !(c.line == line && c.ch == ch)) = s.fab.contrib.filter fun c => c.line != line :=
    List.filter_congr fun c hc => congrArg (!·) (hsame c hc)
  have hne : ¬(s.fab.contrib.filter fun c => c.line == line).isEmpty = true := by
    obtain ⟨c, hc, hl⟩ := hex
    rw [List.isEmpty_iff]
    exact List.ne_nil_of_mem (List.mem_filter.2 ⟨hc, beq_iff_eq.2 hl⟩)
  obtain ⟨s1, hs1⟩ : ∃ s1, s1 = s.modFab fun f => { f with
    contrib := s.fab.contrib.filter (fun c => c.line != line), comb := f.comb ++ s.fab.contrib.filter (fun c => c.line == line) } := ⟨_, rfl⟩
  have heq : s.combineCh line l ch = s1.stage (statRec (s.fab.contrib.filter fun c => c.line == line) ch line l) := by
    have hmod : (s.modFab fun f => { f with contrib := f.contrib.filter (fun c => !(c.line == line && c.ch == ch)),
                                            comb := f.comb ++ s.fab.contrib.filter (fun c => c.line == line) }) = s1 := by
      rw [hs1, ← hrest]
      rfl
    rw [State.combineCh]
    dsimp only
    rw [hfilter, if_neg hne, hmod]
    exact if_pos (by rw [hs1]; exact hcarries)
  intro s'
  have hs' : s' = _ := heq.trans (State.stage_open (by rw [hs1]; exact hf) (by rw [hs1]; exact hsup) _)
  clear_value s'
  subst hs'
  rw [hs1]
  exact ⟨rfl, rfl, ⟨_, Tbl.get_set_same _ _ _ _, rfl, rfl⟩, rfl⟩

theorem exec_statCombine {s : State} (hr : s.running = true) (t : Time) {n : Nat} {l : Line} (hl : s.line n = some l) (hclosed : l.closed = true) :
    exec (.statCombine t n) s = .next (((List.range 16).filter fun ch => !s.statCrossing ch n).foldl (State.combineCh n l) (s.at t)) := by
  have hexec : exec (.statCombine t n) s = execStatCombine t n s := rfl
  rw [hexec, execStatCombine, inRun_running hr]
  dsimp only
  rw [show (s.at t).line n = some l from hl]
  exact congrArg _ (if_pos hclosed)

/-! CLOSE (R279). -/

/-- The CLOSE of a channel whose line is accounted for. -/
theorem exec_close {s : State} (hr : s.running = true) (hgate : s.clk.gated = false) (hf : s.flt.faulted = false) (t : Time) {ch c : Nat}
    (hdue : s.fab.closeDue.find? (fun p => p.1 == ch) = some (ch, c)) (hway : s.onWay ch c = false) (hopen : s.openUpTo ch c = false)
    (hintr : s.clk.intr = none) (hold : ∀ l, s.line c = some l → 2000 ≤ since (s.at t).now l.t) : exec (.close t ch) s = .next (
      let s1 := (s.at t).modFab fun f => { f with closeDue := f.closeDue.erase (ch, c) }
      if s.chanOn ch then ((s1.stage (s1.closeRec ch c)).closed ch c).useFree else s1) := by
  have hexec : exec (.close t ch) s = execClose t ch s := rfl
  rw [hexec, execClose, inRun_running hr]
  dsimp only
  rw [show (s.at t).fab.closeDue.find? (fun p => p.1 == ch) = some (ch, c) from hdue]
  dsimp only
  rw [if_neg]
  · rfl
  · rw [show (s.at t).onWay ch c = false from hway, show (s.at t).openUpTo ch c = false from hopen, show (s.at t).clk.gated = false from hgate,
      show (s.at t).clk.intr = none from hintr, show (s.at t).flt.faulted = false from hf]
    rw [show (s.at t).line c = s.line c from rfl]
    cases h : s.line c with
    | none => exact Bool.false_ne_true
    | some l => simp [hold l h]

/-- The CLOSE record of a channel, staged. -/
theorem State.closeStage_spec {s : State} (hf : s.flt.faulted = false) (hsup : s.flt.sup = none) (ch c : Nat) :
    let s' := ((s.stage (s.closeRec ch c)).closed ch c).useFree
    s'.fab.closeDue = s.fab.closeDue ∧ (s'.chan ch).closed = some c ∧ (∃ r, s'.queue 1056 = s.queue 1056 ++ [r] ∧ r.ws = s.closeRec ch c) ∧
      s'.regs = s.regs := by
  rw [State.stage_open hf hsup]
  refine ⟨rfl, ?_, ⟨_, Tbl.get_set_same _ _ _ _, rfl⟩, rfl⟩
  show ((State.closed _ ch c).chan ch).closed = some c
  rw [State.closed, State.chan_modChan_same]

/-! The class C deadline (R299). -/

/-- A class C record that has not begun to be sent and whose deadline has passed. -/
def State.expired (s : State) (r : QRec) : Bool := r.cls && r.sent == 0 && decide (s.left r.dl ≤ 0)

/-- A mark by a property of the element alone. -/
theorem marked_eq (s : State) (q : List QRec) (f : Nat × QRec → Bool) (h : ∀ p, f p = s.expired p.2) :
    ((List.range q.length).zip q |>.map fun p => (p.2, f p)) = q.map fun r => (r, s.expired r) := by
  have hf : (fun p : Nat × QRec => (p.2, f p)) = (fun r => (r, s.expired r)) ∘ Prod.snd := funext fun p => by rw [h p]; rfl
  rw [hf, ← List.map_map, List.map_snd_zip (by rw [List.length_range])]

theorem State.dropC_spec {s : State} {e : Nat} (he : e < 1056) (hurgent : s.urgentSrc e = false) : let s' := s.dropC e
    s'.queue e = (s.queue e).filter (fun r => !s.expired r) ∧ (∀ i, i < 1056 → i ≠ e → s'.queue i = s.queue i) ∧ s'.regs = s.regs := by
  unfold State.dropC
  extract_lets q urgent marked gone s'
  have hmarked : marked = q.map fun r => (r, s.expired r) := marked_eq s q _ fun p => by
    rw [show urgent = false from hurgent, Bool.false_and, Bool.or_false]
    rfl
  have hleft : (marked.filter fun p => !p.2).map (·.1) = q.filter fun r => !s.expired r := by
    rw [hmarked, List.filter_map, List.map_map]
    exact List.map_id _
  have hgone : gone = q.filter s.expired := by
    dsimp only [gone]
    rw [hmarked, List.filter_map, List.map_map]
    exact List.map_id _
  obtain ⟨s1, hs1⟩ : ∃ s1, s1 = if gone.isEmpty then s else s.setQueue e ((marked.filter fun p => !p.2).map (·.1)) := ⟨_, rfl⟩
  have hq1 : s1.queue e = q.filter (fun r => !s.expired r) ∧ (∀ i, i ≠ e → s1.queue i = s.queue i) ∧ s1.regs = s.regs := by
    rw [hs1, hleft, hgone]
    by_cases hnil : (q.filter s.expired).isEmpty = true
    · rw [if_pos hnil]
      refine ⟨(List.filter_eq_self.2 fun r hr => ?_).symm, fun _ _ => rfl, rfl⟩
      rw [Bool.not_eq_true', ← Bool.not_eq_true]
      exact List.filter_eq_nil_iff.1 (List.isEmpty_iff.1 hnil) r hr
    · rw [if_neg hnil]
      exact ⟨Tbl.get_set_same _ _ _ _, fun i hi => Tbl.get_set_ne _ _ _ _ _ _ hi, rfl⟩
  have hloop : (∀ i, i ≠ 1056 → s'.queue i = s1.queue i) ∧ s'.regs = s1.regs := by
    dsimp only [s']
    rw [← hs1]
    refine foldl_rel (R := fun a b => (∀ i, i ≠ 1056 → b.queue i = a.queue i) ∧ b.regs = a.regs) (fun _ => ⟨fun _ _ => rfl, rfl⟩)
      (fun _ _ _ h h' => ⟨fun i hi => (h'.1 i hi).trans (h.1 i hi), h'.2.trans h.2⟩) (fun x r => ?_) _ _
    have hend := x.endItem_stageOnly false 0x06 e r.ws
    refine ⟨fun i hi => hend.queue hi, ?_⟩
    obtain ⟨q, ls, cv, pa, heq, -⟩ := hend
    rw [heq]
    rfl
  clear_value s'
  obtain ⟨hqe, hqi, hregs⟩ := hq1
  exact ⟨(hloop.1 e (by omega)).trans hqe, fun i hi hie => (hloop.1 i (by omega)).trans (hqi i hie), hloop.2.trans hregs⟩

/-! The bridge (R284, R300, R304). -/

/-- The spine without a record that has been reassembled. -/
def State.leaveSpine (s : State) (src : Nat) (sent : Time) (r : QRec) : State :=
  s.modFab fun f => { f with spine := f.spine.erase (src, sent, r), fillL := f.fillL - r.lb, fillC := f.fillC - (r.bytes - r.lb) }

section Bridge

variable {s : State} (hr : s.running = true) (hgate : s.clk.gated = false) (t : Time) {src : Nat} {sent : Time} {r : QRec}
  (hfind : s.fab.spine.find? (fun p => p.1 == src) = some (src, sent, r)) (hue : r.ue = false) (hok : recOk r.ws = true) (hdev : r.dev = false)
include hr hgate hfind hue hdev

include hok in
/-- A whole kernel record. -/
theorem exec_recordReassembled : exec (.recordReassembled t src false false) s = .next (
    if s.takes r then ((s.at t).leaveSpine src sent r).enterEgress src sent r
    else ((s.at t).leaveSpine src sent r).loseRec (recLine r.ws) (s.eng src).tile (recCh r.ws)) := by
  have hexec : exec (.recordReassembled t src false false) s = execRecordReassembled t src false false s := rfl
  have hfind' : (if (s.at t).clk.gated then none else (s.at t).fab.spine.find? fun p => p.1 == src) = some (src, sent, r) := by
    rw [show (s.at t).clk.gated = false from hgate]
    exact hfind
  rw [hexec, execRecordReassembled, inRun_running hr]
  dsimp only
  rw [hfind']
  simp only [hue, hok, hdev, Bool.or_false, Bool.not_true, Bool.false_eq_true, if_false, Bool.not_eq_true']
  by_cases htakes : s.takes r = true
  · rw [if_pos htakes]
    exact congrArg _ (if_neg (by rw [Bool.not_eq_false]; exact htakes))
  · rw [if_neg htakes]
    exact congrArg _ (if_pos (Bool.eq_false_iff.2 htakes))

/-- A kernel record whose trailer fails. -/
theorem exec_recordReassembled_bad : exec (.recordReassembled t src false true) s =
    .next ((((s.at t).leaveSpine src sent r).logEvent 0x08 4 (recCh r.ws) (recLine r.ws) (s.eng src).tile).lostKernel src r.ws) := by
  have hexec : exec (.recordReassembled t src false true) s = execRecordReassembled t src false true s := rfl
  have hfind' : (if (s.at t).clk.gated then none else (s.at t).fab.spine.find? fun p => p.1 == src) = some (src, sent, r) := by
    rw [show (s.at t).clk.gated = false from hgate]
    exact hfind
  rw [hexec, execRecordReassembled, inRun_running hr]
  dsimp only
  rw [hfind']
  simp only [hue, hdev, Bool.or_false, Bool.true_or, Bool.or_true, Bool.false_eq_true, if_false, if_true]
  rfl

end Bridge

/-- Logging an event counts no lost record. -/
theorem State.logEvent_recs (s : State) (unit code d1 d2 d3 : Nat) : (s.logEvent unit code d1 d2 d3).flt.recs = s.flt.recs := by
  unfold State.logEvent
  dsimp only
  split
  · rfl
  · split
    · rfl
    · obtain ⟨h, o, heq, -⟩ := State.raise_frame _ (v := 26) (by decide)
      rw [heq]
      rfl

theorem State.lostKernel_spec (s : State) (src : Nat) (ws : List W64) : let s' := s.lostKernel src ws
    s'.flt.recs = s.flt.recs + 1 ∧ s'.fab.egress = s.fab.egress ∧ s'.regs = s.regs := by
  obtain ⟨q, ls, cv, pa, heq, -⟩ := (s.modFlt fun f => { f with recs := f.recs + 1 }).endItem_stageOnly true 0x09 src ws
  rw [State.lostKernel, heq]
  exact ⟨rfl, rfl, rfl⟩

/-- A late record of class L. -/
theorem late_iff (r : QRec) (d : Int) : (!r.cls && decide (d < 0)) = true ↔ r.cls = false ∧ d < 0 := by
  rw [Bool.and_eq_true, Bool.not_eq_true', decide_eq_true_eq]

/-- A record that enters the egress buffer. -/
theorem State.enterEgress_record (s : State) (src : Nat) (sent : Time) {r : QRec} (hc : r.contrib = false) :
    let d := (r.dl - sent.setWidth 32).toInt
    let s' := s.enterEgress src sent r
    s'.fab.spine = s.fab.spine ∧ (s'.chan (recCh r.ws)).recs = (s.chan (recCh r.ws)).recs + 1 ∧
      s'.fab.egress = s.fab.egress ++ [{ r := { r with ws := if r.cls = false ∧ d < 0 then recLate r.ws else r.ws }, src := src, t := s.now }] ∧
      (s'.chan (recCh r.ws)).late = (if r.cls = false ∧ d < 0 then (s.chan (recCh r.ws)).late + 1 else (s.chan (recCh r.ws)).late) ∧
      s' = { s with fab := s'.fab } := by
  unfold State.enterEgress
  extract_lets d ch late ws s1 s'
  have hs' : s' = s1.modFab fun f => { f with egress := f.egress ++ [{ r := { r with ws := ws }, src := src, t := s1.now }] } := by
    have hno : ¬r.contrib = true := by rw [hc]; exact Bool.false_ne_true
    dsimp only [s', State.modFab]
    rw [if_neg hno]
  have hchan : s1.chan ch = _ := s.chan_modChan_same ch _
  have hframe : ∃ c, s1 = { s with fab := { s.fab with ch := c } } := ⟨_, rfl⟩
  clear_value s1 s'
  subst hs'
  have hlate : late = decide (r.cls = false ∧ d < 0) := by
    exact Bool.eq_iff_iff.2 ((late_iff r d).trans decide_eq_true_iff.symm)
  have hws : ws = if r.cls = false ∧ d < 0 then recLate r.ws else r.ws := by
    dsimp only [ws]
    rw [hlate]
    simp only [decide_eq_true_eq]
  refine ⟨?_, ?_, ?_, ?_, ?_⟩
  · obtain ⟨c, rfl⟩ := hframe
    rfl
  · show (s1.chan ch).recs = _
    rw [hchan]
  · rw [← hws]
    obtain ⟨c, rfl⟩ := hframe
    rfl
  · show (s1.chan ch).late = _
    rw [hchan, hlate]
    simp only [decide_eq_true_eq]
    rfl
  · obtain ⟨c, rfl⟩ := hframe
    rfl

/-- A contribution waits at the bridge. -/
theorem State.enterEgress_contrib (s : State) (src : Nat) (sent : Time) {r : QRec} (hc : r.contrib = true) : let s' := s.enterEgress src sent r
    s'.fab.spine = s.fab.spine ∧ s'.fab.egress = s.fab.egress ∧ s' = { s with fab := s'.fab } ∧
      s'.fab.contrib = s.fab.contrib ++ [contribOf r.ws (recLine r.ws) (s.eng src).tile] := by
  unfold State.enterEgress
  extract_lets ch d late ws s1 s'
  have hs' : s' = s1.modFab fun f => { f with contrib := f.contrib ++ [contribOf r.ws (recLine r.ws) (s1.eng src).tile] } := by
    dsimp only [s', State.modFab]
    rw [if_pos hc]
  have hframe : ∃ c, s1 = { s with fab := { s.fab with ch := c } } := ⟨_, rfl⟩
  clear_value s1 s'
  subst hs'
  obtain ⟨c, rfl⟩ := hframe
  exact ⟨rfl, rfl, rfl, rfl⟩

/-- Settles O39: the contributions of a line are combined by `State.combineCh_spec`, expired records leave by `State.dropC_spec`, and a record at the
bridge is taken by `State.enterEgress_record` or `State.enterEgress_contrib`. -/
theorem recordFlow : Obligations.RecordFlow := by
  unfold Obligations.RecordFlow
  intro s t hr hgate hf hsup now
  refine ⟨fun n l ch hl hclosed hch hcarries hcross hex hall => ?_, fun ch c hdue hway hopen hintr hold => ?_, fun e he hurgent => ?_,
    fun src sent r hfind hue hok hdev => ?_, fun ch v src hch hreach hclear => ?_⟩
  · obtain ⟨hcontrib, hcomb, hq, hframe⟩ := State.combineCh_spec (s := s.at t) l hf hsup hcarries hex hall
    refine ⟨_, exec_statCombine hr t hl hclosed, ?_⟩
    have hmem : ch ∈ (List.range 16).filter fun ch => !s.statCrossing ch n := List.mem_filter.2 ⟨List.mem_range.2 hch, by rw [hcross]; rfl⟩
    rw [foldl_combine (s := s.at t) l (List.nodup_range.filter _) hmem hall fun c hc hline => by
      rw [hcontrib] at hc
      exact (bne_iff_ne.1 (List.mem_filter.1 hc).2) hline]
    exact ⟨hcontrib, hcomb, hq, hframe⟩
  · refine ⟨_, exec_close hr hgate hf t hdue hway hopen hintr hold, ?_⟩
    by_cases hon : s.chanOn ch = true
    · dsimp only
      rw [if_pos hon]
      obtain ⟨h1, h2, h3, h4⟩ := State.closeStage_spec (s := (s.at t).modFab fun f => { f with closeDue := f.closeDue.erase (ch, c) }) hf hsup ch c
      exact ⟨h1, fun _ => ⟨h2, h3⟩, fun h => absurd (hon.symm.trans h) nofun, h4⟩
    · dsimp only
      rw [if_neg hon]
      exact ⟨rfl, fun h => absurd h hon, fun _ => rfl, rfl⟩
  · have hexec : exec (.classCDrop t e) s = execClassCDrop t e s := rfl
    have hcond : (decide (e < 1056) && !s.clk.gated) = true := by
      rw [decide_eq_true he, hgate]
      rfl
    refine ⟨(s.at t).dropC e, ?_, State.dropC_spec he hurgent⟩
    rw [hexec, execClassCDrop, inRun_running hr]
    exact congrArg _ (if_pos hcond)
  · intro ch d
    refine ⟨fun htakes hc => ?_, fun htakes hc => ?_, fun htakes => ?_, ?_⟩
    · refine ⟨_, (exec_recordReassembled hr hgate t hfind hue hok hdev).trans (congrArg _ (if_pos htakes)), ?_⟩
      obtain ⟨hspine, hegress, hframe, hcontrib⟩ := ((s.at t).leaveSpine src sent r).enterEgress_contrib src sent hc
      exact ⟨hspine, hegress, hframe, hcontrib⟩
    · refine ⟨_, (exec_recordReassembled hr hgate t hfind hue hok hdev).trans (congrArg _ (if_pos htakes)), ?_⟩
      obtain ⟨hspine, hrecs, hegress, hlate, hframe⟩ := ((s.at t).leaveSpine src sent r).enterEgress_record src sent hc
      exact ⟨hspine, hrecs, hegress, hlate, hframe⟩
    · refine ⟨_, (exec_recordReassembled hr hgate t hfind hue hok hdev).trans (congrArg _ (if_neg (by rw [htakes]; exact Bool.false_ne_true))), ?_⟩
      refine ⟨rfl, ?_, rfl⟩
      rw [State.loseRec, State.chan_modChan_same]
      rfl
    · refine ⟨_, exec_recordReassembled_bad hr hgate t hfind hue hdev, ?_⟩
      have hlog := ((s.at t).leaveSpine src sent r).logEvent_recs 0x08 4 (recCh r.ws) (recLine r.ws) (s.eng src).tile
      obtain ⟨f, h, o, heq⟩ := ((s.at t).leaveSpine src sent r).logEvent_frame 0x08 4 (recCh r.ws) (recLine r.ws) (s.eng src).tile
      obtain ⟨hrecs, hegress, hregs⟩ := (((s.at t).leaveSpine src sent r).logEvent 0x08 4 (recCh r.ws) (recLine r.ws) (s.eng src).tile).lostKernel_spec
        src r.ws
      refine ⟨hrecs.trans (by rw [hlog]; rfl), hegress.trans (by rw [heq]; rfl), hregs.trans (by rw [heq]; rfl)⟩
  · have hexec : exec (.slackClear t ch (goodWr v src)) s = execSlackClear t ch (goodWr v src) s := rfl
    refine ⟨(s.at t).modChan ch fun c => { c with slack := 0x3FFFFFFF }, ?_, (s.at t).chan_modChan_same ch _,
      fun c hc => (s.at t).chan_modChan_ne ch c _ hc, rfl⟩
    rw [hexec, execSlackClear, if_pos hch, regCmd_good (State.alive_of_running hr) _ hreach]
    exact congrArg _ (if_pos hclear)

end Machine
end Sys2Proof

/-! The arbitration cycle of the spine (08_result_fabric R285, R286, R290 to R293). -/

namespace Sys2Proof
namespace Machine

/-! The rank of requests (R292). -/

theorem Req.before_urgent {a b : Req} (ha : a.urgent = true) (hb : b.urgent = false) : a.before b = true := by
  rw [Req.before, ha, hb]
  rfl

theorem Req.before_same {a b : Req} (h : a.urgent = b.urgent) : a.before b = if a.d != b.d then decide (a.d < b.d) else decide (a.inp < b.inp) := by
  rw [Req.before, h, if_neg (by rw [bne_self_eq_false]; exact Bool.false_ne_true)]

theorem Req.before_nearer {a b : Req} (h : a.urgent = b.urgent) (hd : a.d < b.d) : a.before b = true := by
  rw [Req.before_same h, if_pos (bne_iff_ne.2 (Int.ne_of_lt hd)), decide_eq_true hd]

theorem Req.before_lower {a b : Req} (h : a.urgent = b.urgent) (hd : a.d = b.d) (hi : a.inp < b.inp) : a.before b = true := by
  rw [Req.before_same h, hd, if_neg (by rw [bne_self_eq_false]; exact Bool.false_ne_true), decide_eq_true hi]

/-- No two requests go before each other. -/
theorem Req.before_asymm (a b : Req) : ¬(a.before b = true ∧ b.before a = true) := by
  rintro ⟨hab, hba⟩
  by_cases hu : a.urgent = b.urgent
  · rw [Req.before_same hu] at hab
    rw [Req.before_same hu.symm] at hba
    by_cases hd : a.d = b.d
    · rw [hd, if_neg (by rw [bne_self_eq_false]; exact Bool.false_ne_true), decide_eq_true_eq] at hab
      rw [hd, if_neg (by rw [bne_self_eq_false]; exact Bool.false_ne_true), decide_eq_true_eq] at hba
      omega
    · rw [if_pos (bne_iff_ne.2 hd), decide_eq_true_eq] at hab
      rw [if_pos (bne_iff_ne.2 (Ne.symm hd)), decide_eq_true_eq] at hba
      omega
  · rw [Req.before, if_pos (bne_iff_ne.2 hu)] at hab
    rw [Req.before, if_pos (bne_iff_ne.2 (Ne.symm hu))] at hba
    exact hu (hab.trans hba.symm)

/-- A contest of one request, and of two. -/
theorem Arb.contest_one (a : Arb) (c : Nat) (w : Req) : a.contest c [w] =
    { a with owner := some w.inp, burst := Tbl.get 0 a.kept w.inp, kept := Tbl.set 0 a.kept w.inp 0, m := Tbl.set 0 a.m w.inp 0 } := by
  simp only [Arb.contest, firstReq, List.filter_cons, bne_self_eq_false, Bool.false_eq_true, if_false, List.filter_nil, List.foldl_nil]

theorem Arb.contest_two (a : Arb) (c : Nat) {w r : Req} (hi : w.inp ≠ r.inp) (hw : w.before r = true) :
    (a.contest c [w, r]).owner = some w.inp ∧ Tbl.get 0 (a.contest c [w, r]).m w.inp = 0 ∧
      Tbl.get 0 (a.contest c [w, r]).m r.inp = Tbl.get 0 a.m r.inp + 1 ∧
      Tbl.get 0 (a.contest c [w, r]).back r.inp = c + min 64 (2 ^ Tbl.get 0 a.m r.inp) := by
  have hfirst : firstReq [w, r] = some w := by
    simp only [firstReq]
    exact if_neg fun h => Req.before_asymm w r ⟨hw, h⟩
  have hloser : [w, r].filter (fun q => q.inp != w.inp) = [r] := by
    simp only [List.filter_cons, bne_self_eq_false, Bool.false_eq_true, if_false, bne_iff_ne.2 hi.symm, if_true, List.filter_nil]
  have hm : Tbl.get 0 (Tbl.set 0 a.m w.inp 0) r.inp = Tbl.get 0 a.m r.inp := Tbl.get_set_ne _ _ _ _ _ _ hi.symm
  have heq : a.contest c [w, r] = { a with
      owner := some w.inp, burst := Tbl.get 0 a.kept w.inp, kept := Tbl.set 0 a.kept w.inp 0,
      m := Tbl.set 0 (Tbl.set 0 a.m w.inp 0) r.inp (Tbl.get 0 a.m r.inp + 1),
      back := Tbl.set 0 a.back r.inp (c + min 64 (2 ^ Tbl.get 0 a.m r.inp)) } := by
    simp only [Arb.contest, hfirst, hloser, List.foldl_cons, List.foldl_nil, hm, Nat.add_sub_cancel]
  rw [heq]
  dsimp only
  rw [Tbl.get_set_ne _ _ _ _ _ _ hi, Tbl.get_set_same, Tbl.get_set_same, Tbl.get_set_same]
  exact ⟨rfl, rfl, rfl, rfl⟩

/-! The parts of a cycle. -/

/-- Stripe arbiter `k` in cycle `c`. -/
def State.stripeStep (c : Nat) (s : State) (k : Nat) : State :=
  let r := s.stripeCycle k c
  (s.setArb k r.1).modFab fun f => { f with preS := if r.2 then f.preS + 1 else f.preS }

/-- What a grant of the top arbiter sends. -/
def State.granted (s : State) (a : Arb) (q : Req) : State :=
  let s := (s.sendFlit q.src).setArb 32 { a with burst := a.burst + 1 }
  if q.inp < 2 then s
  else
    let a := s.arb (q.inp - 2)
    s.setArb (q.inp - 2) { a with burst := a.burst + 1 }

/-- The top arbiter in cycle `c`, with the preemption margin. -/
def State.topStep (s : State) (c margin : Nat) : State :=
  let top := s.topReqs fun k => (s.arb k).owner
  let r := (s.arb 32).cycle c (s.burstLimit true) margin top s.credit
  let s := (s.setArb 32 r.1).modFab fun f => { f with preT := if r.2 then f.preT + 1 else f.preT }
  match r.1.owner.bind fun o => top.find? fun q : Req => q.inp == o with
  | some q => s.granted r.1 q
  | none => s

/-- Stripe arbiter `k` notes the inputs that requested. -/
def State.formStep (s : State) (k : Nat) : State :=
  let a := s.arb k
  s.setArb k { a with formed := (s.stripeReqs k).map Req.inp }

def State.formTop (s : State) (c : Nat) : State := s.setArb 32 { s.arb 32 with formed := (s.topReqs (s.serves (c + 1))).map Req.inp }

/-- The arbiters' cycle `c`. -/
def State.cycleFrom (s : State) (c margin : Nat) : State :=
  (((List.range 32).foldl State.formStep (((List.range 32).foldl (State.stripeStep c) s).topStep c margin)).formTop c).modFab
    fun f => { f with cyc := c + 1 }

/-- The class C records that the deadline takes before the arbiters' cycle. -/
def State.dropAll (s : State) : State := s.fab.q.foldl (fun s p => if p.1 < 1056 then s.dropC p.1 else s) s

theorem exec_arbitrationCycle {s : State} (hr : s.running = true) (hgate : s.clk.gated = false) (t : Time) :
    exec (.arbitrationCycle t) s = .next ((s.at t).dropAll.cycleFrom s.fab.cyc (8 * (s.at t).dropAll.regF 0x100000 31 20)) := by
  have hexec : exec (.arbitrationCycle t) s = execArbitrationCycle t s := rfl
  have hrun : ¬(s.at t).clk.gated = true := by rw [show (s.at t).clk.gated = false from hgate]; exact Bool.false_ne_true
  rw [hexec, execArbitrationCycle, inRun_running hr, if_neg hrun, State.cycleFrom]
  extract_lets c s0 margin s1 top r s2 won s3 s4
  have hs1 : (List.range 32).foldl (State.stripeStep s.fab.cyc) (s.at t).dropAll = s1 := rfl
  rw [hs1]
  clear_value s1
  have hs3 : s1.topStep s.fab.cyc margin = s3 := rfl
  rw [show 8 * (s.at t).dropAll.regF 0x100000 31 20 = margin from rfl, hs3]
  clear_value s3
  have hs4 : (List.range 32).foldl State.formStep s3 = s4 := rfl
  rw [hs4]
  rfl

/-! A cycle changes the fabric only. -/

theorem State.setArb_fabOnly (s : State) (i : Nat) (a : Arb) : FabOnly s (s.setArb i a) := s.modFab_fabOnly _

theorem State.dropC_fabOnly (s : State) (e : Nat) : FabOnly s (s.dropC e) := by
  unfold State.dropC
  extract_lets q urgent marked gone
  refine FabOnly.trans ?_ (FabOnly.foldl (fun s r => ?_) _ _)
  · split
    · exact .refl
    · exact s.modFab_fabOnly _
  · refine FabOnly.trans ?_ (State.modFab_fabOnly _ _)
    obtain ⟨q, ls, cv, pa, heq, -⟩ := s.endItem_stageOnly false 0x06 e r.ws
    rw [heq]
    exact ⟨_, rfl⟩

theorem State.topStep_fabOnly (s : State) (c margin : Nat) : FabOnly s (s.topStep c margin) := by
  unfold State.topStep
  extract_lets top r s1
  have hs1 : FabOnly s s1 := (s.setArb_fabOnly _ _).trans (State.modFab_fabOnly _ _)
  clear_value s1
  split
  · unfold State.granted
    extract_lets s2
    have hs2 : FabOnly s1 s2 := ⟨_, rfl⟩
    clear_value s2
    split
    · exact hs1.trans hs2
    · exact (hs1.trans hs2).trans (s2.setArb_fabOnly _ _)
  · exact hs1

theorem State.stripeStep_fabOnly (c : Nat) (s : State) (k : Nat) : FabOnly s (s.stripeStep c k) := by
  unfold State.stripeStep
  exact (s.setArb_fabOnly _ _).trans (State.modFab_fabOnly _ _)

theorem State.formStep_fabOnly (s : State) (k : Nat) : FabOnly s (s.formStep k) := s.setArb_fabOnly _ _

theorem State.formTop_fabOnly (s : State) (c : Nat) : FabOnly s (s.formTop c) := s.setArb_fabOnly _ _

theorem State.cycleFrom_fabOnly (s : State) (c margin : Nat) : FabOnly s (s.cycleFrom c margin) := by
  have h1 : FabOnly s ((List.range 32).foldl (State.stripeStep c) s) := FabOnly.foldl (State.stripeStep_fabOnly c) _ _
  have h2 := h1.trans (State.topStep_fabOnly _ c margin)
  have h3 := h2.trans (FabOnly.foldl State.formStep_fabOnly (List.range 32) _)
  exact (h3.trans (State.formTop_fabOnly _ c)).trans (State.modFab_fabOnly _ _)

theorem State.dropAll_fabOnly (s : State) : FabOnly s s.dropAll := by
  unfold State.dropAll
  refine FabOnly.foldl (fun s p => ?_) _ _
  split
  · exact s.dropC_fabOnly _
  · exact .refl

/-! A lone record of the supervisor stream. -/

/-- The arbiters as they were. -/
def ArbSame (s s' : State) : Prop := ∃ a, s' = { s with fab := { s.fab with arb := a } } ∧ ∀ i, Tbl.get Arb.fresh a i = Tbl.get Arb.fresh s.fab.arb i

theorem ArbSame.refl (s : State) : ArbSame s s := ⟨_, rfl, fun _ => rfl⟩

theorem ArbSame.trans {s s' s'' : State} (h : ArbSame s s') (h' : ArbSame s' s'') : ArbSame s s'' := by
  obtain ⟨a, rfl, ha⟩ := h
  obtain ⟨a', rfl, ha'⟩ := h'
  exact ⟨a', rfl, fun i => (ha' i).trans (ha i)⟩

/-- A stripe without requests and owner stays as it is. -/
theorem State.stripeStep_idle {s : State} {k c : Nat} (hreqs : s.stripeReqs k = []) (howner : (s.arb k).owner = none) :
    ArbSame s (s.stripeStep c k) := by
  have hcycle : s.stripeCycle k c = (s.arb k, false) := by
    rw [State.stripeCycle, hreqs, Arb.cycle]
    simp only [howner, List.filter_nil]
    rfl
  rw [State.stripeStep, hcycle]
  refine ⟨_, rfl, fun i => ?_⟩
  by_cases hi : i = k
  · rw [hi]
    exact Tbl.get_set_same _ _ _ _
  · exact Tbl.get_set_ne _ _ _ _ _ _ hi

/-- A source with an empty queue makes no request. -/
theorem State.request_none {s : State} {src : Nat} (h : s.queue src = []) (inp : Nat) : s.request inp src = none := by
  rw [State.request, h]

section Lone

variable {s : State} {r : QRec} (hq : s.fab.q = [(1056, [r])])
include hq

theorem State.queue_lone (i : Nat) : s.queue i = if i = 1056 then [r] else [] := by
  rw [State.queue, hq]
  rfl

theorem State.stripeReqs_lone {k : Nat} (hk : k < 32) : s.stripeReqs k = [] := by
  rw [State.stripeReqs, List.filterMap_eq_nil_iff]
  intro i hi
  exact State.request_none (by rw [State.queue_lone hq, if_neg (by have := List.mem_range.1 hi; omega)]) i

/-- The one request at the top arbiter. -/
theorem State.topReqs_lone (hown : ∀ k, k < 32 → (s.arb k).owner = none) : s.topReqs (fun k => (s.arb k).owner) =
    [{ inp := 0, src := 1056, d := s.left r.dl, urgent := s.urgentSrc 1056 }] := by
  have hsup : s.request 0 supSrc = some { inp := 0, src := 1056, d := s.left r.dl, urgent := s.urgentSrc 1056 } := by
    rw [State.request, show s.queue supSrc = [r] from State.queue_lone hq _]
    rfl
  have hcap : s.request 1 capSrc = none := State.request_none (State.queue_lone hq _) 1
  have hstripes : ∀ f : Nat → Option Req, (∀ k, k < 32 → f k = none) → (List.range 32).filterMap f = [] := fun f hf =>
    List.filterMap_eq_nil_iff.2 fun k hk => hf k (List.mem_range.1 hk)
  rw [State.topReqs, hsup, hcap, hstripes _ fun k hk => by rw [hown k hk]]
  rfl

end Lone

/-- The flit of a lone record of class L that fits in it. -/
theorem flitOf_lone {r : QRec} (hsent : r.sent = 0) (hcls : r.cls = false) (hlen : r.bytes ≤ 64) :
    flitOf [r] = ([], [{ r with sent := r.bytes, lb := r.lb + r.bytes }], true) := by
  have hf : flit 64 [r] = ([], [{ r with sent := r.bytes }], true) := by
    rw [flit, if_neg (by decide), if_pos (by rw [hsent]; omega), flit, hcls]
    rfl
  rw [flitOf, hf]
  simp [hsent]

/-- The top arbiter grants a lone record, and its flit goes into the spine. -/
theorem State.topStep_lone {s : State} {r : QRec} (hq : s.fab.q = [(1056, [r])]) (hsent : r.sent = 0) (hcls : r.cls = false) (hlen : r.bytes ≤ 64)
    (howner : (s.arb 32).owner = none) (hformed : (s.arb 32).formed = [0]) {c : Nat}
    (hdue : s.urgentSrc 1056 = true ∨ Tbl.get 0 (s.arb 32).back 0 ≤ c) (hfill : s.fillL + s.fillC < 0x100000)
    (hown : ∀ k, k < 32 → (s.arb k).owner = none) (margin : Nat) : let s' := s.topStep c margin
    s'.fab.spine = s.fab.spine ++ [(1056, s.now, { r with sent := r.bytes, lb := r.lb + r.bytes })] ∧ s'.fab.fillL = s.fab.fillL + r.bytes ∧
      s'.queue 1056 = [] ∧ (s'.arb 32).owner = some 0 ∧ (s'.arb 32).burst = Tbl.get 0 (s.arb 32).kept 0 + 1 ∧ s'.fab.spL = s.fab.spL + 1 := by
  have hflit := flitOf_lone hsent hcls hlen
  have hqueue : s.queue 1056 = [r] := State.queue_lone hq _
  obtain ⟨q0, hq0⟩ : ∃ q0 : Req, q0 = { inp := 0, src := 1056, d := s.left r.dl, urgent := s.urgentSrc 1056 } := ⟨_, rfl⟩
  have htop : s.topReqs (fun k => (s.arb k).owner) = [q0] := by rw [State.topReqs_lone hq hown, hq0]
  have hcredit : s.credit q0 = true := by
    rw [State.credit, hq0, hqueue, hflit]
    exact decide_eq_true hfill
  have helig : [q0].filter (fun q => (s.arb 32).formed.contains q.inp && s.credit q && (q.urgent || decide (Tbl.get 0 (s.arb 32).back q.inp ≤ c))) =
      [q0] := by
    have hdue' : (q0.urgent || decide (Tbl.get 0 (s.arb 32).back q0.inp ≤ c)) = true := by
      rw [Bool.or_eq_true, decide_eq_true_eq, hq0]
      exact hdue
    have hform : (s.arb 32).formed.contains q0.inp = true := by
      rw [hformed, hq0]
      rfl
    rw [List.filter_cons_of_pos (by rw [hform, hcredit, hdue']; rfl), List.filter_nil]
  obtain ⟨a, ha⟩ : ∃ a, a = (s.arb 32).contest c [q0] := ⟨_, rfl⟩
  have hcycle : (s.arb 32).cycle c (s.burstLimit true) margin [q0] s.credit = (a, false) := by
    rw [Arb.cycle]
    rw [helig, howner, ha]
  have haowner : a.owner = some 0 ∧ a.burst = Tbl.get 0 (s.arb 32).kept 0 := by
    rw [ha, Arb.contest_one, hq0]
    exact ⟨rfl, rfl⟩
  have hfind : (a.owner.bind fun o => [q0].find? fun q : Req => q.inp == o) = some q0 := by
    rw [haowner.1, hq0]
    rfl
  have heq : s.topStep c margin = ((((s.setArb 32 a).modFab fun f => { f with preT := f.preT }).sendFlit 1056).setArb 32
      { a with burst := a.burst + 1 }) := by
    rw [State.topStep]
    simp only [htop, hcycle, hfind, Bool.false_eq_true, if_false]
    rw [State.granted, hq0]
    exact if_pos Nat.zero_lt_two
  obtain ⟨s1, hs1⟩ : ∃ s1, s1 = (s.setArb 32 a).modFab fun f => { f with preT := f.preT } := ⟨_, rfl⟩
  have hfab1 : ∃ x, s1 = { s with fab := { s.fab with arb := x } } := ⟨_, hs1⟩
  rw [← hs1] at heq
  clear hs1
  obtain ⟨x, rfl⟩ := hfab1
  have hsend : State.sendFlit { s with fab := { s.fab with arb := x } } 1056 =
      (({ s with fab := { s.fab with arb := x } } : State).setQueue 1056 []).modFab (fun f => { f with
        spine := f.spine ++ [(1056, s.now, { r with sent := r.bytes, lb := r.lb + r.bytes })], fillL := f.fillL + r.bytes, spL := f.spL + 1 }) := by
    rw [State.sendFlit]
    dsimp only
    rw [show ({ s with fab := { s.fab with arb := x } } : State).queue 1056 = [r] from hqueue, hflit]
    simp only [List.map_nil, List.map_cons, List.sum_nil, List.sum_cons, hsent, if_true, Nat.zero_add, Nat.add_zero, Nat.sub_zero]
  rw [heq, hsend]
  refine ⟨rfl, rfl, Tbl.get_set_same [] s.fab.q 1056 [], ?_, ?_, rfl⟩
  · rw [State.arb, State.setArb, State.modFab_fab, Tbl.get_set_same]
    exact haowner.1
  · rw [State.arb, State.setArb, State.modFab_fab, Tbl.get_set_same]
    exact congrArg (· + 1) haowner.2

/-- The requests noted for the next cycle change neither the top arbiter's grant nor anything but the arbiters. -/
theorem State.forms_spec (s : State) : (∃ a, (List.range 32).foldl State.formStep s = { s with fab := { s.fab with arb := a } }) ∧
    ((List.range 32).foldl State.formStep s).arb 32 = s.arb 32 := by
  refine List.foldlRecOn (motive := fun x => (∃ a, x = { s with fab := { s.fab with arb := a } }) ∧ x.arb 32 = s.arb 32) (List.range 32)
    State.formStep ⟨⟨_, rfl⟩, rfl⟩ fun x hx k hk => ?_
  obtain ⟨⟨a, rfl⟩, h32⟩ := hx
  refine ⟨⟨_, rfl⟩, ?_⟩
  rw [← h32]
  exact Tbl.get_set_ne _ _ _ _ _ _ (by have := List.mem_range.1 hk; omega)

/-- The top arbiter notes the inputs that requested: its grant stays. -/
theorem State.formTop_spec (s : State) (c : Nat) : (∃ a, s.formTop c = { s with fab := { s.fab with arb := a } }) ∧
    ((s.formTop c).arb 32).owner = (s.arb 32).owner ∧ ((s.formTop c).arb 32).burst = (s.arb 32).burst := by
  unfold State.formTop
  generalize (s.topReqs (s.serves (c + 1))).map Req.inp = inps
  have h32 : (s.setArb 32 { s.arb 32 with formed := inps }).arb 32 = { s.arb 32 with formed := inps } := Tbl.get_set_same _ _ _ _
  refine ⟨⟨_, rfl⟩, ?_, ?_⟩
  · rw [h32]
  · rw [h32]

/-- A cycle in which a lone record of the supervisor stream is granted. -/
theorem State.cycleFrom_lone {s : State} {r : QRec} (hq : s.fab.q = [(1056, [r])]) (hsent : r.sent = 0) (hcls : r.cls = false) (hlen : r.bytes ≤ 64)
    (howner : (s.arb 32).owner = none) (hformed : (s.arb 32).formed = [0]) {c : Nat}
    (hdue : s.urgentSrc 1056 = true ∨ Tbl.get 0 (s.arb 32).back 0 ≤ c) (hfill : s.fillL + s.fillC < 0x100000)
    (hown : ∀ k, k < 32 → (s.arb k).owner = none) (margin : Nat) : let s' := s.cycleFrom c margin
    s'.fab.spine = s.fab.spine ++ [(1056, s.now, { r with sent := r.bytes, lb := r.lb + r.bytes })] ∧ s'.fab.fillL = s.fab.fillL + r.bytes ∧
      s'.queue 1056 = [] ∧ (s'.arb 32).owner = some 0 ∧ (s'.arb 32).burst = Tbl.get 0 (s.arb 32).kept 0 + 1 ∧ s'.fab.spL = s.fab.spL + 1 := by
  rw [State.cycleFrom]
  have hsame : ArbSame s ((List.range 32).foldl (State.stripeStep c) s) := by
    refine List.foldlRecOn (motive := ArbSame s) (List.range 32) (State.stripeStep c) (.refl _) fun x hx k hk => hx.trans ?_
    obtain ⟨a, rfl, ha⟩ := hx
    have hreqs := State.stripeReqs_lone (s := { s with fab := { s.fab with arb := a } }) (r := r) hq (List.mem_range.1 hk)
    refine State.stripeStep_idle hreqs ?_
    rw [State.arb, ha]
    exact hown k (List.mem_range.1 hk)
  generalize (List.range 32).foldl (State.stripeStep c) s = s1 at hsame ⊢
  obtain ⟨a, rfl, ha⟩ := hsame
  have harb : ∀ i, ({ s with fab := { s.fab with arb := a } } : State).arb i = s.arb i := ha
  obtain ⟨hspine, hfillL, hqueue, hown', hburst, hspL⟩ := State.topStep_lone (s := { s with fab := { s.fab with arb := a } }) hq hsent hcls hlen
    (by rw [harb]; exact howner) (by rw [harb]; exact hformed) (c := c) (by rw [harb]; exact hdue) hfill
    (fun k hk => by rw [harb]; exact hown k hk) margin
  rw [harb] at hburst
  generalize State.topStep { s with fab := { s.fab with arb := a } } c margin = s2 at hspine hfillL hqueue hown' hburst hspL ⊢
  obtain ⟨⟨x, hx⟩, h32⟩ := s2.forms_spec
  generalize (List.range 32).foldl State.formStep s2 = s3 at hx h32 ⊢
  obtain ⟨⟨y, hy⟩, howner', hburst'⟩ := s3.formTop_spec c
  generalize s3.formTop c = s4 at hy howner' hburst' ⊢
  rw [h32] at howner' hburst'
  subst hx
  subst hy
  exact ⟨hspine, hfillL, hqueue, howner'.trans hown', hburst'.trans hburst, hspL⟩

/-- Settles O40: the rank is an asymmetric order (`Req.before_asymm`), and a lone record is granted by `State.topStep_lone`. -/
theorem spineArbitration : Obligations.SpineArbitration := by
  unfold Obligations.SpineArbitration
  intro s t hr hgate
  refine ⟨?_, fun r hq hsent hcls hlen howner hformed hdue hfill hown => ?_, fun a b => ?_, fun a c w r hi hw => a.contest_two c hi hw⟩
  · obtain ⟨f, heq⟩ := (s.at t).dropAll_fabOnly.trans ((s.at t).dropAll.cycleFrom_fabOnly s.fab.cyc (8 * (s.at t).dropAll.regF 0x100000 31 20))
    refine ⟨_, exec_arbitrationCycle hr hgate t, rfl, ?_, ?_⟩
    · rw [heq]
      rfl
    · rw [heq]
      rfl
  · refine ⟨_, exec_arbitrationCycle hr hgate t, ?_⟩
    have hdrop : (s.at t).dropAll = s.at t := by
      rw [State.dropAll, State.at_fab, hq]
      rfl
    rw [hdrop]
    exact State.cycleFrom_lone (s := s.at t) hq hsent hcls hlen howner hformed hdue hfill hown _
  · exact ⟨Req.before_urgent, Req.before_nearer, Req.before_lower, Req.before_asymm a b⟩

end Machine
end Sys2Proof

/-! The states of a ring, and what writing into a ring touches (09_host_link R307, R320 to R334, R347). -/

namespace Sys2Proof
namespace Machine

/-! The registers of a channel. -/

theorem rwReg_chOff {ch o : Nat} (hc : ch < 16) (ho : o < 0x100) (h8 : o % 8 = 0) : rwReg (chOff ch o) = chanReg ch o := by
  have hdiv : (chOff ch o - 0x101000) / 0x100 = ch := by unfold chOff; omega
  have hmod : chOff ch o % 0x100 = o := by unfold chOff; omega
  have hlo : 0x101000 ≤ chOff ch o := by unfold chOff; omega
  have hhi : chOff ch o < 0x102000 := by unfold chOff; omega
  have hword : chOff ch o % 8 = 0 := by omega
  unfold rwReg
  rw [hdiv, hmod, if_neg (by simpa using hword), if_neg (by simp; omega), if_pos (by simp; omega)]

theorem chOff_inj_offset {ch o o' : Nat} (h : o ≠ o') : chOff ch o ≠ chOff ch o' := by
  unfold chOff
  omega

/-- A stored write of a channel register that is not banked. -/
theorem State.storeReg_chan (s : State) {ch o : Nat} (hc : ch < 16) (ho : o < 0x100) (h8 : o % 8 = 0) {r m : W32}
    (hreg : chanReg ch o = some (r, m, false)) (v : W32) : ∃ g, s.storeReg (chOff ch o) v = { s.putReg (chOff ch o) (v &&& m) with flt := g } :=
  ⟨_, s.storeReg_unbanked ((rwReg_chOff hc ho h8).trans hreg) v⟩

theorem chanReg_ringCtl (ch : Nat) : chanReg ch 0x40 = some (0x01000000, 0x3F000000, false) := rfl
theorem chanReg_tail (ch : Nat) : chanReg ch 0x68 = some (0, 0xFFFF, false) := rfl

/-! What writing into a ring touches. -/

/-- Of the host link, only the rings and the causes of messages are touched. -/
def HostLink.RingsOnly (h h' : HostLink) : Prop := ∃ r c p, h' = { h with ring := r, cause := c, pba := p }

theorem HostLink.RingsOnly.trans {a b c : HostLink} (h1 : a.RingsOnly b) (h2 : b.RingsOnly c) : a.RingsOnly c := by
  obtain ⟨r, c, p, rfl⟩ := h1
  obtain ⟨r, c, p, rfl⟩ := h2
  exact ⟨_, _, _, rfl⟩

theorem HostLink.RingsOnly.bme {h h' : HostLink} (hk : h.RingsOnly h') : h'.bme = h.bme := by
  obtain ⟨r, c, p, rfl⟩ := hk
  rfl

theorem HostLink.RingsOnly.aer {h h' : HostLink} (hk : h.RingsOnly h') : h'.aerU = h.aerU := by
  obtain ⟨r, c, p, rfl⟩ := hk
  rfl

/-- Of the state, only the host link and the outputs are touched: every other ring stays, and outputs are only added. -/
structure RingOnly (ch : Nat) (s s' : State) : Prop where
  frame : ∃ h o, s' = { s with host := h, out := o }
  host : s.host.RingsOnly s'.host
  others : ∀ c, c ≠ ch → s'.ring c = s.ring c
  out : s.out <:+ s'.out

theorem RingOnly.refl (ch : Nat) (s : State) : RingOnly ch s s := ⟨⟨_, _, rfl⟩, ⟨_, _, _, rfl⟩, fun _ _ => rfl, List.suffix_rfl⟩

theorem RingOnly.trans {ch : Nat} {a b c : State} (h1 : RingOnly ch a b) (h2 : RingOnly ch b c) : RingOnly ch a c where
  frame := by
    obtain ⟨h, o, rfl⟩ := h1.frame
    obtain ⟨h, o, rfl⟩ := h2.frame
    exact ⟨_, _, rfl⟩
  host := h1.host.trans h2.host
  others := fun d hd => (h2.others d hd).trans (h1.others d hd)
  out := h1.out.trans h2.out

theorem RingOnly.regs {ch : Nat} {s s' : State} (h : RingOnly ch s s') : s'.regs = s.regs := by
  obtain ⟨_, _, rfl⟩ := h.frame
  rfl

theorem RingOnly.reg {ch : Nat} {s s' : State} (h : RingOnly ch s s') (o : Nat) : s'.reg o = s.reg o := by
  obtain ⟨_, _, rfl⟩ := h.frame
  rfl

theorem RingOnly.fab {ch : Nat} {s s' : State} (h : RingOnly ch s s') : s'.fab = s.fab := by
  obtain ⟨_, _, rfl⟩ := h.frame
  rfl

/-- As `RingOnly`, and what `f` shows of the ring stays. -/
def RingKept {α : Type} (f : Ring → α) (ch : Nat) (s s' : State) : Prop := RingOnly ch s s' ∧ f (s'.ring ch) = f (s.ring ch)

section Kept

variable {α : Type} {f : Ring → α} {ch : Nat}

theorem RingKept.refl (f : Ring → α) (ch : Nat) (s : State) : RingKept f ch s s := ⟨.refl ch s, rfl⟩

theorem RingKept.trans {a b c : State} (h1 : RingKept f ch a b) (h2 : RingKept f ch b c) : RingKept f ch a c :=
  ⟨h1.1.trans h2.1, h2.2.trans h1.2⟩

/-- A coarser view of the ring stays too. -/
theorem RingKept.comp {β : Type} {s s' : State} (h : RingKept f ch s s') (g : α → β) : RingKept (g ∘ f) ch s s' := ⟨h.1, congrArg g h.2⟩

theorem State.modRing_ringOnly (s : State) (ch : Nat) (u : Ring → Ring) : RingOnly ch s (s.modRing ch u) :=
  ⟨⟨_, _, rfl⟩, ⟨_, _, _, rfl⟩, fun c hc => s.ring_modRing_ne ch c u hc, List.suffix_rfl⟩

theorem State.modRing_ringKept (s : State) (ch : Nat) (u : Ring → Ring) (h : ∀ r, f (u r) = f r) : RingKept f ch s (s.modRing ch u) :=
  ⟨s.modRing_ringOnly ch u, by rw [State.ring_modRing_same, h]⟩

theorem State.emit_ringOnly (s : State) (ch : Nat) (o : Out) : RingOnly ch s (s.emit o) :=
  ⟨⟨_, _, rfl⟩, ⟨_, _, _, rfl⟩, fun _ _ => rfl, List.suffix_cons ..⟩

theorem State.emit_ringKept (s : State) (o : Out) : RingKept f ch s (s.emit o) := ⟨s.emit_ringOnly ch o, rfl⟩

theorem State.memWrite_ringKept (s : State) (ro : Bool) (a : W64) (bs : List Byte) (fuel : Nat) : RingKept f ch s (s.memWrite ro a bs fuel) := by
  induction fuel generalizing s a bs with
  | zero => exact .refl f ch s
  | succ fuel ih =>
    unfold State.memWrite
    dsimp only
    split
    · exact .refl f ch s
    · exact (s.emit_ringKept _).trans (ih ..)

end Kept

/-- What messages and fetches leave of a ring. -/
def Ring.quiet (r : Ring) : Ring := { r with irqT := none, irqHeld := false, inFl := none }

/-- What the stream leaves of a ring besides. -/
def Ring.control (r : Ring) : Nat × Nat × BitVec 16 × Option Time × Nat × Bool × Time × Option (Time × Nat) :=
  (r.st, r.fault, r.noDesc, r.startT, r.startLine, r.carry, r.effT, r.stop)

/-- The message of a channel's vector. -/
theorem State.msix_ringKept (s : State) (ch : Nat) : RingKept Ring.quiet ch s (s.msix ch) := by
  unfold State.msix
  dsimp only
  split
  · exact .refl _ ch s
  · split
    · exact ⟨⟨⟨_, _, rfl⟩, ⟨_, _, _, rfl⟩, fun _ _ => rfl, List.suffix_rfl⟩, rfl⟩
    · unfold State.msixSend
      dsimp only
      split
      · exact RingKept.trans (s.modRing_ringKept ch _ (by exact fun r => rfl)) (State.emit_ringKept _ _)
      · exact s.emit_ringKept _

theorem State.chanIrq_ringKept (s : State) (ch : Nat) : RingKept Ring.quiet ch s (s.chanIrq ch) := by
  unfold State.chanIrq
  split
  · exact .refl _ ch s
  · extract_lets r early
    clear_value early
    split
    · exact s.modRing_ringKept ch _ fun r => rfl
    · exact RingKept.trans (s.modRing_ringKept ch _ (by exact fun r => rfl)) (State.msix_ringKept _ ch)

theorem State.fetchDesc_ringKept (s : State) (ch : Nat) : RingKept Ring.quiet ch s (s.fetchDesc ch) := by
  unfold State.fetchDesc
  extract_lets r ahead n
  clear_value r n
  split
  · exact RingKept.trans (s.modRing_ringKept ch _ (by exact fun r => rfl)) (State.emit_ringKept _ _)
  · exact .refl _ ch s

/-- The stream: no message, no fetch, no change of the ring's control. -/
theorem State.put_ringKept (s : State) (ch : Nat) (ws : List W64) :
    RingKept (fun r => (r.control, r.tag, r.rep)) ch s (s.put ch ws) := by
  unfold State.put
  dsimp only
  split
  · exact .refl _ ch s
  · refine (s.memWrite_ringKept ..).trans (State.modRing_ringKept _ ch _ fun r => ?_)
    split <;> rfl

theorem State.padStream_ringKept (s : State) (ch : Nat) : RingKept (fun r => (r.control, r.tag, r.rep)) ch s (s.padStream ch) := by
  unfold State.padStream
  dsimp only
  split
  · split
    · exact .refl _ ch s
    · exact s.put_ringKept ch _
  · exact .refl _ ch s

/-- No padding where no descriptor is left. -/
theorem State.padStream_noDesc (s : State) (ch : Nat) (h : (s.ring ch).desc = []) : s.padStream ch = s := by
  have hspace : (s.ring ch).space = none := by rw [Ring.space, h]; rfl
  unfold State.padStream
  dsimp only
  rw [hspace]

/-- The completion word of a ring. -/
def State.complWord (s : State) (ch : Nat) (r : Ring) : Out :=
  .memWr (s.cwb ch) (bytesLE 8 (pack 64 [(r.tag.toNat, 56), (3, 54), (r.st, 51), (r.prod % 2 ^ 48, 0)])) false

/-- The ring that its completion word has reported. -/
def Ring.reported (r : Ring) : Ring := { r with tag := r.tag + 1, rep := r.prod, oldest := none, wbDue := false }

theorem State.writeback_eq (s : State) (ch : Nat) : s.writeback ch =
    (((s.padStream ch).modRing ch Ring.reported).emit
      (((s.padStream ch).modRing ch Ring.reported).complWord ch ((s.padStream ch).ring ch).reported)).chanIrq ch := by
  unfold State.writeback
  dsimp only
  rw [State.ring_modRing_same]
  rfl

theorem State.writeback_ringKept (s : State) (ch : Nat) : RingKept Ring.control ch s (s.writeback ch) := by
  rw [State.writeback_eq]
  refine ((s.padStream_ringKept ch).comp Prod.fst).trans ?_
  refine RingKept.trans ?_ ((State.chanIrq_ringKept _ ch).comp Ring.control)
  exact RingKept.trans (State.modRing_ringKept _ ch _ (by exact fun r => rfl)) (State.emit_ringKept _ _)

/-- A completion word with no descriptor left: the stream is reported as it is. -/
theorem State.writeback_noDesc (s : State) (ch : Nat) (h : (s.ring ch).desc = []) :
    RingOnly ch s (s.writeback ch) ∧ ((s.writeback ch).ring ch).quiet = (s.ring ch).reported.quiet ∧
      s.complWord ch (s.ring ch).reported ∈ (s.writeback ch).out := by
  rw [State.writeback_eq, State.padStream_noDesc s ch h]
  have hirq := State.chanIrq_ringKept ((s.modRing ch Ring.reported).emit ((s.modRing ch Ring.reported).complWord ch (s.ring ch).reported)) ch
  refine ⟨((s.modRing_ringOnly ch _).trans (State.emit_ringOnly _ ch _)).trans hirq.1, hirq.2.trans ?_, hirq.1.out.subset ?_⟩
  · exact congrArg Ring.quiet (s.ring_modRing_same ch _)
  · exact List.mem_cons_self

/-! START and STOP (R333, R546). -/

/-- The ring that a START leaves, before its first completion word. -/
def Ring.started (r : Ring) (now : Time) : Ring :=
  { Ring.fresh with st := 1, tag := r.tag, irqT := r.irqT, irqHeld := r.irqHeld, startLine := r.startLine, startT := some now, fault := r.fault,
                    noDesc := r.noDesc }

theorem State.ringStart_spec (s : State) (ch : Nat) :
    RingOnly ch s (s.ringStart ch) ∧ ((s.ringStart ch).ring ch).control = ((s.ring ch).started s.now).control ∧
      ((s.ringStart ch).ring ch).prod = 0 ∧ ((s.ringStart ch).ring ch).head = 0 ∧
      (s.host.bme = true → s.complWord ch ((s.ring ch).started s.now).reported ∈ (s.ringStart ch).out) := by
  have h1 := s.modRing_ringOnly ch fun r => r.started s.now
  have hring : (s.modRing ch fun r => r.started s.now).ring ch = (s.ring ch).started s.now := s.ring_modRing_same ch _
  have heq : s.ringStart ch = (if s.host.bme then (s.modRing ch fun r => r.started s.now).writeback ch
      else s.modRing ch fun r => r.started s.now).fetchDesc ch := rfl
  have hfetch := fun x : State => x.fetchDesc_ringKept ch
  rw [heq]
  split
  · obtain ⟨hwb, hquiet, hout⟩ := State.writeback_noDesc (s.modRing ch fun r => r.started s.now) ch (by rw [hring]; rfl)
    rw [hring] at hquiet hout
    have hlast := (hfetch ((s.modRing ch fun r => r.started s.now).writeback ch)).2.trans hquiet
    exact ⟨(h1.trans hwb).trans (hfetch _).1, (congrArg Ring.control hlast :), (congrArg Ring.prod hlast :), (congrArg Ring.head hlast :),
      fun _ => (hfetch _).1.out.subset hout⟩
  · next hbme =>
    have hlast := (hfetch (s.modRing ch fun r => r.started s.now)).2
    rw [hring] at hlast
    exact ⟨h1.trans (hfetch _).1, (congrArg Ring.control hlast :), (congrArg Ring.prod hlast :), (congrArg Ring.head hlast :), fun h => absurd h hbme⟩

theorem State.ringStop_spec (s : State) (ch : Nat) :
    RingOnly ch s (s.ringStop ch) ∧
      ((s.ringStop ch).ring ch).control = { s.ring ch with st := 2, stop := some (s.now, s.tick.line.toNat), startT := none }.control := by
  have h1 := s.modRing_ringOnly ch fun r => { r with st := 2, stop := some (s.now, s.tick.line.toNat), startT := none }
  have hring := s.ring_modRing_same ch fun r => { r with st := 2, stop := some (s.now, s.tick.line.toNat), startT := none }
  unfold State.ringStop
  dsimp only
  split
  · have hwb := State.writeback_ringKept (s.modRing ch fun r => { r with st := 2, stop := some (s.now, s.tick.line.toNat), startT := none }) ch
    exact ⟨h1.trans hwb.1, hwb.2.trans (congrArg Ring.control hring)⟩
  · exact ⟨h1, congrArg Ring.control hring⟩

section RingCtl

variable {s : State} {ch : Nat} {w : Wr} {v : W32}

/-- The addresses of a ring and of its completion word are set. -/
def State.addrsSet (s : State) (ch : Nat) : Prop :=
  (s.reg (chOff ch 0x48) ≠ 0 ∨ s.reg (chOff ch 0x50) ≠ 0) ∧ (s.reg (chOff ch 0x58) ≠ 0 ∨ s.reg (chOff ch 0x60) ≠ 0)

theorem State.addrsSet_iff (s : State) (ch : Nat) :
    ((s.reg (chOff ch 0x48) != 0 || s.reg (chOff ch 0x50) != 0) && (s.reg (chOff ch 0x58) != 0 || s.reg (chOff ch 0x60) != 0)) = true ↔
      s.addrsSet ch := by
  simp only [State.addrsSet, Bool.and_eq_true, Bool.or_eq_true, bne_iff_ne]

theorem State.ringCtlWrite_start (hsize : fld v 29 26 ≤ 10) (hst : (s.ring ch).st = 0) (hgo : bit v 31 = true) (ha : s.addrsSet ch) :
    s.ringCtlWrite ch w v = (s.storeReg (chOff ch 0x40) v).ringStart ch := by
  have haddr := (s.addrsSet_iff ch).2 ha
  simp only [State.ringCtlWrite, if_neg (Nat.not_lt.2 hsize), hst, haddr, hgo]
  rfl

theorem State.ringCtlWrite_noAddress (hsize : fld v 29 26 ≤ 10) (hst : (s.ring ch).st = 0) (hgo : bit v 31 = true) (ha : ¬s.addrsSet ch) :
    s.ringCtlWrite ch w v = s.reject 3 w.src (chOff ch 0x40) := by
  have haddr := Bool.eq_false_iff.2 (mt (s.addrsSet_iff ch).1 ha)
  simp only [State.ringCtlWrite, if_neg (Nat.not_lt.2 hsize), hst, haddr, hgo]
  rfl

theorem State.ringCtlWrite_resize (hsize : fld v 29 26 ≤ 10) (hst : (s.ring ch).st ≠ 0) (hne : fld v 29 26 ≠ s.regF (chOff ch 0x40) 29 26) :
    s.ringCtlWrite ch w v = s.reject 4 w.src (chOff ch 0x40) := by
  have hcond : ((s.ring ch).st != 0 && fld v 29 26 != s.regF (chOff ch 0x40) 29 26) = true := by
    rw [bne_iff_ne.2 hst, bne_iff_ne.2 hne]
    rfl
  simp only [State.ringCtlWrite, if_neg (Nat.not_lt.2 hsize), hcond]
  rfl

theorem State.ringCtlWrite_stop (hsize : fld v 29 26 ≤ 10) (hst : (s.ring ch).st = 1) (hno : bit v 31 = false) (hgo : bit v 30 = true)
    (hsame : fld v 29 26 = s.regF (chOff ch 0x40) 29 26) : s.ringCtlWrite ch w v = (s.storeReg (chOff ch 0x40) v).ringStop ch := by
  simp only [State.ringCtlWrite, if_neg (Nat.not_lt.2 (hsame ▸ hsize)), hst, hno, hgo, hsame, bne_self_eq_false]
  rfl

theorem State.ringCtlWrite_clear (hsize : fld v 29 26 ≤ 10) (hst : (s.ring ch).st = 3) (hno : bit v 31 = false) (hgo : bit v 30 = true)
    (hsame : fld v 29 26 = s.regF (chOff ch 0x40) 29 26) :
    s.ringCtlWrite ch w v = (s.storeReg (chOff ch 0x40) v).modRing ch fun r => { r with st := 0 } := by
  simp only [State.ringCtlWrite, if_neg (Nat.not_lt.2 (hsame ▸ hsize)), hst, hno, hgo, hsame, bne_self_eq_false]
  rfl

end RingCtl

/-! FAULT, IDLE, and the loss of Bus Master Enable (R333). -/

/-- The last completion word touches the ring's stream and messages only. -/
theorem State.lastWord_spec (s : State) (ch st : Nat) :
    RingOnly ch s (s.lastWord ch st) ∧ ((s.lastWord ch st).ring ch).fault = (s.ring ch).fault := by
  unfold State.lastWord
  split
  · have hwb := State.writeback_ringKept (s.modRing ch fun r => { r with st := st }) ch
    refine ⟨(s.modRing_ringOnly ch _).trans hwb.1, (congrArg (fun x => x.2.1) hwb.2).trans ?_⟩
    exact (congrArg Ring.fault (s.ring_modRing_same ch fun r => { r with st := st }) :)
  · exact ⟨.refl ch s, rfl⟩

theorem State.ringIdle_spec (s : State) (ch : Nat) :
    RingOnly ch s (s.ringIdle ch) ∧ ((s.ringIdle ch).ring ch).st = 0 ∧ ((s.ringIdle ch).ring ch).stop = none ∧
      ((s.ringIdle ch).ring ch).carry = false := by
  have hring := (s.lastWord ch 0).ring_modRing_same ch fun r => r.halt 0
  exact ⟨(s.lastWord_spec ch 0).1.trans (State.modRing_ringOnly _ ch _), congrArg Ring.st hring, congrArg Ring.stop hring, congrArg Ring.carry hring⟩

/-- As `RingOnly`, of the fabric and of the faults anything besides. -/
structure RingDone (ch : Nat) (s s' : State) : Prop where
  frame : ∃ b f h o, s' = { s with fab := b, flt := f, host := h, out := o }
  host : s.host.RingsOnly s'.host
  others : ∀ c, c ≠ ch → s'.ring c = s.ring c

theorem RingDone.refl (ch : Nat) (s : State) : RingDone ch s s := ⟨⟨_, _, _, _, rfl⟩, ⟨_, _, _, rfl⟩, fun _ _ => rfl⟩

theorem RingDone.trans {ch : Nat} {a b c : State} (h1 : RingDone ch a b) (h2 : RingDone ch b c) : RingDone ch a c where
  frame := by
    obtain ⟨b, f, h, o, rfl⟩ := h1.frame
    obtain ⟨b, f, h, o, rfl⟩ := h2.frame
    exact ⟨_, _, _, _, rfl⟩
  host := h1.host.trans h2.host
  others := fun d hd => (h2.others d hd).trans (h1.others d hd)

theorem RingDone.regs {ch : Nat} {s s' : State} (h : RingDone ch s s') : s'.regs = s.regs := by
  obtain ⟨_, _, _, _, rfl⟩ := h.frame
  rfl

theorem RingOnly.done {ch : Nat} {s s' : State} (h : RingOnly ch s s') : RingDone ch s s' := by
  obtain ⟨a, b, heq⟩ := h.frame
  exact ⟨⟨_, _, a, b, heq⟩, h.host, h.others⟩

theorem State.discardEgress_ringDone (s : State) (ch c : Nat) : RingDone c s (s.discardEgress ch) := ⟨⟨_, _, _, _, rfl⟩, ⟨_, _, _, rfl⟩, fun _ _ => rfl⟩

/-- A vector that no ring has leaves every ring and every enable. -/
theorem State.msix_high (s : State) {v : Nat} (hv : 16 ≤ v) : ∃ p o, s.msix v = { s with host := { s.host with pba := p }, out := o } := by
  unfold State.msix
  dsimp only
  split
  · exact ⟨_, _, rfl⟩
  · split
    · exact ⟨_, _, rfl⟩
    · unfold State.msixSend
      rw [if_neg (Nat.not_lt.2 hv)]
      exact ⟨_, _, rfl⟩

theorem State.raise_high (s : State) {v : Nat} (hv : 16 ≤ v) : ∃ c p o, s.raise v = { s with host := { s.host with cause := c, pba := p }, out := o } := by
  unfold State.raise
  split
  · exact ⟨_, _, _, rfl⟩
  · obtain ⟨p, o, heq⟩ := (s.modHost fun h => { h with cause := h.cause ||| (1#12 <<< (v - 16)) }).msix_high hv
    rw [heq]
    exact ⟨_, _, _, rfl⟩

theorem State.logEvent_host (s : State) (unit code d1 d2 d3 : Nat) :
    ∃ f c p o, s.logEvent unit code d1 d2 d3 = { s with flt := f, host := { s.host with cause := c, pba := p }, out := o } := by
  unfold State.logEvent
  extract_lets w1 same
  clear_value same
  cases same with
  | some q => exact ⟨_, _, _, _, rfl⟩
  | none =>
    dsimp only
    split
    · exact ⟨_, _, _, _, rfl⟩
    · have raised : ∀ g, ∃ f c p o, (s.modFlt g).raise 26 = { s with flt := f, host := { s.host with cause := c, pba := p }, out := o } := fun g => by
        obtain ⟨c, p, o, heq⟩ := (s.modFlt g).raise_high (v := 26) (by decide)
        exact ⟨_, c, p, o, heq⟩
      exact raised _

/-- A RUNNING ring that enters FAULT. -/
theorem State.ringFault_running (s : State) {ch : Nat} (code : Nat) (hst : (s.ring ch).st = 1) :
    RingDone ch s (s.ringFault ch code) ∧ ((s.ringFault ch code).ring ch).st = 3 ∧ ((s.ringFault ch code).ring ch).fault = code := by
  unfold State.ringFault
  rw [if_neg (by rw [hst]; decide)]
  extract_lets s1
  have hs1 : RingDone ch s s1 := (s.discardEgress_ringDone ch ch).trans (State.modRing_ringOnly _ ch _).done
  have hfault : (s1.ring ch).fault = code := congrArg Ring.fault (State.ring_modRing_same _ ch _)
  clear_value s1
  obtain ⟨hlast, hcode⟩ := s1.lastWord_spec ch 3
  have hring := (s1.lastWord ch 3).ring_modRing_same ch fun r => r.halt 3
  have hs2 := hs1.trans (hlast.trans (State.modRing_ringOnly _ ch fun r => r.halt 3)).done
  obtain ⟨f, c, p, o, heq⟩ := State.logEvent_host ((s1.lastWord ch 3).modRing ch fun r => r.halt 3) 0x08 2 ch code 0
  rw [heq]
  exact ⟨hs2.trans ⟨⟨_, _, _, _, rfl⟩, ⟨_, _, _, rfl⟩, fun _ _ => rfl⟩, congrArg Ring.st hring, (congrArg Ring.fault hring).trans (hcode.trans hfault)⟩

theorem State.ringFault_other (s : State) {ch : Nat} (code : Nat) (hst : (s.ring ch).st ≠ 1) : s.ringFault ch code = s := by
  unfold State.ringFault
  rw [if_pos (bne_iff_ne.2 hst)]

theorem State.ringFault_done (s : State) (ch code : Nat) : RingDone ch s (s.ringFault ch code) := by
  by_cases hst : (s.ring ch).st = 1
  · exact (s.ringFault_running code hst).1
  · rw [s.ringFault_other code hst]
    exact .refl ch s

/-- A ring that is not RUNNING stays as it is, whichever ring the fault is for. -/
theorem State.ringFault_keeps (s : State) {ch : Nat} (c code : Nat) (hst : (s.ring ch).st ≠ 1) : (s.ringFault c code).ring ch = s.ring ch := by
  by_cases hc : ch = c
  · rw [← hc, s.ringFault_other code hst]
  · exact (s.ringFault_done c code).others ch hc

section BusOff

variable {ch : Nat} (l : List Nat)

theorem ringFaults_host_regs (s : State) : s.host.RingsOnly (l.foldl (fun s ch => s.ringFault ch 5) s).host ∧
    (l.foldl (fun s ch => s.ringFault ch 5) s).regs = s.regs :=
  List.foldlRecOn l _ (motive := fun x : State => s.host.RingsOnly x.host ∧ x.regs = s.regs) ⟨⟨_, _, _, rfl⟩, rfl⟩ fun x hx c _ =>
    ⟨hx.1.trans (x.ringFault_done c 5).host, (x.ringFault_done c 5).regs.trans hx.2⟩

theorem ringFaults_keep (s : State) (hst : (s.ring ch).st ≠ 1) : (l.foldl (fun s ch => s.ringFault ch 5) s).ring ch = s.ring ch :=
  List.foldlRecOn l _ (motive := fun x : State => x.ring ch = s.ring ch) rfl fun x hx c _ => (x.ringFault_keeps c 5 (by rw [hx]; exact hst)).trans hx

/-- Every RUNNING ring of the list enters FAULT. -/
theorem ringFaults_running (hmem : ch ∈ l) (s : State) (hst : (s.ring ch).st = 1) :
    ((l.foldl (fun s ch => s.ringFault ch 5) s).ring ch).st = 3 ∧ ((l.foldl (fun s ch => s.ringFault ch 5) s).ring ch).fault = 5 := by
  refine foldl_hits (P := fun x : State => (x.ring ch).st = 3 ∧ (x.ring ch).fault = 5)
    (Q := fun x : State => (x.ring ch).st = 1 ∨ ((x.ring ch).st = 3 ∧ (x.ring ch).fault = 5)) (fun x c hx => ?_) (fun x c hx => ?_) (a := ch)
    (fun x hx => ?_) l hmem s (.inl hst)
  · obtain hone | hdone := hx
    · by_cases hc : ch = c
      · subst hc
        exact .inr (x.ringFault_running 5 hone).2
      · rw [(x.ringFault_done c 5).others ch hc]
        exact .inl hone
    · rw [x.ringFault_keeps c 5 (by rw [hdone.1]; decide)]
      exact .inr hdone
  · rw [x.ringFault_keeps c 5 (by rw [hx.1]; decide)]
    exact hx
  · obtain hone | hdone := hx
    · exact (x.ringFault_running 5 hone).2
    · rw [x.ringFault_keeps ch 5 (by rw [hdone.1]; decide)]
      exact hdone

end BusOff

theorem State.busOff_spec (s : State) {ch : Nat} (hc : ch < 16) :
    HostLink.RingsOnly { s.host with bme := false } s.busOff.host ∧ s.busOff.regs = s.regs ∧
    ((s.ring ch).st = 1 → (s.busOff.ring ch).st = 3 ∧ (s.busOff.ring ch).fault = 5) ∧ ((s.ring ch).st ≠ 1 → s.busOff.ring ch = s.ring ch) := by
  have hin := List.mem_range.2 hc
  unfold State.busOff
  generalize List.range 16 = l at hin ⊢
  obtain ⟨hhost, hregs⟩ := ringFaults_host_regs l (s.modHost fun h => { h with bme := false })
  exact ⟨hhost, hregs, ringFaults_running l hin (s.modHost fun h => { h with bme := false }),
    ringFaults_keep l (s.modHost fun h => { h with bme := false })⟩

/-- A write to a channel register, as the model carries it out. -/
theorem exec_ringStart {s : State} {ch : Nat} (ha : s.alive = true) (hc : ch < 16) (h : s.reaches (chOff ch 0x40) = true) (t : Time) (v : W32)
    (src : BitVec 7) : exec (.ringStart t ch (goodWr v src)) s = .next ((s.at t).ringCtlWrite ch (goodWr v src) v) := by
  have hexec : exec (.ringStart t ch (goodWr v src)) s = execRingStart t ch (goodWr v src) s := rfl
  rw [hexec, execRingStart, if_pos hc, regCmd_good ha _ h]

theorem exec_ringStop {s : State} {ch : Nat} (ha : s.alive = true) (hc : ch < 16) (h : s.reaches (chOff ch 0x40) = true) (t : Time) (v : W32)
    (src : BitVec 7) : exec (.ringStop t ch (goodWr v src)) s = .next ((s.at t).ringCtlWrite ch (goodWr v src) v) := by
  have hexec : exec (.ringStop t ch (goodWr v src)) s = execRingStop t ch (goodWr v src) s := rfl
  rw [hexec, execRingStop, if_pos hc, regCmd_good ha _ h]

theorem exec_tailWrite {s : State} {ch : Nat} (ha : s.alive = true) (hc : ch < 16) (h : s.reaches (chOff ch 0x68) = true) (t : Time) (v : W32)
    (src : BitVec 7) : exec (.tailWrite t ch (goodWr v src)) s = .next ((s.at t).tailWrite ch (goodWr v src) v) := by
  have hexec : exec (.tailWrite t ch (goodWr v src)) s = execTailWrite t ch (goodWr v src) s := rfl
  rw [hexec, execTailWrite, if_pos hc, regCmd_good ha _ h]

/-- The completion word of a START: PRODUCED is 0. -/
theorem State.complWord_started (s : State) (ch : Nat) (r : Ring) (now : Time) : s.complWord ch (r.started now).reported =
    .memWr (s.cwb ch) (bytesLE 8 (pack 64 [((r.tag + 1).toNat, 56), (3, 54), (1, 51)])) false := by
  have hpack := pack_append_zero 64 [((r.tag + 1).toNat, 56), (3, 54), (1, 51)] 0
  rw [← hpack]
  rfl

/-- START. -/
theorem State.ringStart_stored (s : State) {ch : Nat} (hc : ch < 16) (v : W32) :
    let s' := (s.storeReg (chOff ch 0x40) v).ringStart ch
    (s'.ring ch).st = 1 ∧ (s'.ring ch).prod = 0 ∧ (s'.ring ch).head = 0 ∧ (s'.ring ch).startT = some s.now ∧ (s'.ring ch).carry = false ∧
      s'.reg (chOff ch 0x40) = v &&& 0x3F000000 ∧
      (s.host.bme = true → .memWr (s.cwb ch) (bytesLE 8 (pack 64 [(((s.ring ch).tag + 1).toNat, 56), (3, 54), (1, 51)])) false ∈ s'.out) ∧
      ∀ c, c ≠ ch → s'.ring c = s.ring c := by
  obtain ⟨f, heq⟩ := s.storeReg_chan hc (by decide) rfl (chanReg_ringCtl ch) v
  have hcwb : State.cwb { s.putReg (chOff ch 0x40) (v &&& 0x3F000000) with flt := f } ch = s.cwb ch :=
    congrArg₂ (· ++ ·) (s.reg_putReg_ne _ _ _ (chOff_inj_offset (by decide))) (s.reg_putReg_ne _ _ _ (chOff_inj_offset (by decide)))
  have hreg : State.reg { s.putReg (chOff ch 0x40) (v &&& 0x3F000000) with flt := f } (chOff ch 0x40) = v &&& 0x3F000000 := s.reg_putReg_same _ _
  obtain ⟨hframe, hctl, hprod, hhead, hout⟩ := State.ringStart_spec { s.putReg (chOff ch 0x40) (v &&& 0x3F000000) with flt := f } ch
  rw [State.complWord_started, hcwb] at hout
  dsimp only
  rw [heq]
  exact ⟨congrArg (fun x => x.1) hctl, hprod, hhead, congrArg (fun x => x.2.2.2.1) hctl, congrArg (fun x => x.2.2.2.2.2.1) hctl,
    (hframe.reg _).trans hreg, hout, hframe.others⟩

/-- STOP of a RUNNING ring. -/
theorem State.ringStop_stored (s : State) {ch : Nat} (hc : ch < 16) (v : W32) :
    let s' := (s.storeReg (chOff ch 0x40) v).ringStop ch
    (s'.ring ch).st = 2 ∧ (s'.ring ch).stop = some (s.now, s.tick.line.toNat) ∧ ∀ c, c ≠ ch → s'.ring c = s.ring c := by
  obtain ⟨f, heq⟩ := s.storeReg_chan hc (by decide) rfl (chanReg_ringCtl ch) v
  obtain ⟨hframe, hctl⟩ := State.ringStop_spec { s.putReg (chOff ch 0x40) (v &&& 0x3F000000) with flt := f } ch
  dsimp only
  rw [heq]
  exact ⟨congrArg (fun x => x.1) hctl, congrArg (fun x => x.2.2.2.2.2.2.2) hctl, hframe.others⟩

/-- A START in effect. -/
theorem State.startEffect_ring (s : State) (ch n : Nat) (t : Time) :
    (s.startEffect ch n t).ring ch = { s.ring ch with startT := none, startLine := n, carry := true, effT := t } ∧
      ∀ c, c ≠ ch → (s.startEffect ch n t).ring c = s.ring c :=
  ⟨s.ring_modRing_same ch fun r => { r with startT := none, startLine := n, carry := true, effT := t },
    fun c h => s.ring_modRing_ne ch c (fun r => { r with startT := none, startLine := n, carry := true, effT := t }) h⟩

theorem State.discardEgress_dis (s : State) (ch : Nat) : ((s.discardEgress ch).chan ch).dis =
    (s.chan ch).dis + BitVec.ofNat 16 (s.fab.egress.filter fun r => recCh r.r.ws == ch).length := by
  have hsame := s.chan_modChan_same ch fun c => { c with dis := c.dis + BitVec.ofNat 16 (s.fab.egress.filter fun r => recCh r.r.ws == ch).length }
  exact (congrArg Chan.dis hsame :)

/-- A ring that is discarded, then IDLE. -/
theorem State.discardEgress_idle (s : State) (ch : Nat) :
    let s' := (s.discardEgress ch).ringIdle ch
    (s'.ring ch).st = 0 ∧ (s'.ring ch).stop = none ∧
      (s'.chan ch).dis = (s.chan ch).dis + BitVec.ofNat 16 (s.fab.egress.filter fun r => recCh r.r.ws == ch).length ∧
      s'.fab.egress = s.fab.egress.filter (fun r => recCh r.r.ws != ch) ∧ s'.regs = s.regs := by
  obtain ⟨hframe, hst, hstop, -⟩ := (s.discardEgress ch).ringIdle_spec ch
  have hchan : (((s.discardEgress ch).ringIdle ch).chan ch).dis = ((s.discardEgress ch).chan ch).dis :=
    congrArg (fun f : Fab => (Tbl.get Chan.fresh f.ch ch).dis) hframe.fab
  exact ⟨hst, hstop, hchan.trans (s.discardEgress_dis ch), congrArg Fab.egress hframe.fab, hframe.regs⟩

/-- Settles O41: a START, a STOP and a FAULT each change only their own ring; the completion words and messages they send touch its stream only. -/
theorem ringStates : Obligations.RingStates := by
  unfold Obligations.RingStates
  intro s t ch v src ha hc
  refine ⟨fun hreach hsize => ⟨fun hst hgo hadr => ?_, fun hst hgo hadr => ?_, fun hst hno hgo hsame => ?_, fun hst hno hgo hsame => ?_,
    fun hst hne => ?_⟩, fun x hx hlate hset => ?_, fun x l hstop hst => ⟨fun hticks hany => ?_, fun hlate => ?_⟩,
    fun hreach => ⟨fun hin => ?_, fun hbad => ?_⟩, ?_⟩
  · refine ⟨_, exec_ringStart ha hc hreach t v src, ?_⟩
    rw [State.ringCtlWrite_start hsize (s := s.at t) hst hgo hadr]
    exact (s.at t).ringStart_stored hc v
  · exact (exec_ringStart ha hc hreach t v src).trans (congrArg _ (State.ringCtlWrite_noAddress (s := s.at t) hsize hst hgo hadr))
  · refine ⟨_, exec_ringStop ha hc hreach t v src, ?_⟩
    rw [State.ringCtlWrite_stop hsize (s := s.at t) hst hno hgo hsame]
    exact (s.at t).ringStop_stored hc v
  · refine ⟨_, exec_ringStop ha hc hreach t v src, ?_⟩
    rw [State.ringCtlWrite_clear hsize (s := s.at t) hst hno hgo hsame]
    obtain ⟨f, heq⟩ := (s.at t).storeReg_chan hc (by decide) rfl (chanReg_ringCtl ch) v
    rw [heq]
    exact State.ring_modRing_same { (s.at t).putReg (chOff ch 0x40) (v &&& 0x3F000000) with flt := f } ch fun r => { r with st := 0 }
  · exact (exec_ringStop ha hc hreach t v src).trans (congrArg _ (State.ringCtlWrite_resize (s := s.at t) hsize hst hne))
  · have hexec : exec (.ringStartEffect t ch) s = execRingStartEffect t ch s := rfl
    obtain ⟨hring, hothers⟩ := (s.at t).startEffect_ring ch s.tick.line.toNat (s.at t).now
    refine ⟨(s.at t).startEffect ch s.tick.line.toNat (s.at t).now, ?_, congrArg Ring.carry hring, congrArg Ring.startLine hring,
      congrArg Ring.startT hring, (congrArg Ring.st hring :), hothers⟩
    rw [hexec, execRingStartEffect, timed_alive ha, State.ring_at, hx]
    exact congrArg _ (if_pos (by rw [decide_eq_true hc, decide_eq_true hlate, hset]; rfl))
  · have hexec : exec (.stoppingDrained t ch) s = execStoppingDrained t ch s := rfl
    obtain ⟨hframe, hidle, hnone, hcarry⟩ := (s.at t).ringIdle_spec ch
    refine ⟨(s.at t).ringIdle ch, ?_, hidle, hnone, hcarry, hframe.regs⟩
    rw [hexec, execStoppingDrained, timed_alive ha, State.ring_at, hstop]
    refine congrArg _ ((if_neg ?_).trans (if_pos ?_))
    · show ¬((s.ring ch).st != 2 || decide (ch ≥ 16) || s.noTicks) = true
      rw [hst, hticks, decide_eq_false (Nat.not_le.2 hc)]
      decide
    · show (!((s.ring ch).carry && decide ((s.ring ch).startLine < l))) = true
      obtain hcar | hle := hany
      · rw [hcar]
        rfl
      · rw [decide_eq_false (Nat.not_lt.2 hle), Bool.and_false]
        rfl
  · have hexec : exec (.stoppingTimeout t ch) s = execStoppingTimeout t ch s := rfl
    refine ⟨((s.at t).discardEgress ch).ringIdle ch, ?_, (s.at t).discardEgress_idle ch⟩
    rw [hexec, execStoppingTimeout, timed_alive ha, State.ring_at, hstop]
    exact congrArg _ (if_pos (by rw [hst, decide_eq_true hc, decide_eq_true hlate]; rfl))
  · refine ⟨_, exec_tailWrite ha hc hreach t v src, ?_⟩
    obtain ⟨f, heq⟩ := (s.at t).storeReg_chan hc (by decide) rfl (chanReg_tail ch) v
    have htail : (s.at t).tailWrite ch (goodWr v src) v = ((s.at t).storeReg (chOff ch 0x68) v).fetchDesc ch := if_neg (Nat.not_lt.2 hin)
    have hfetch := (State.fetchDesc_ringKept { (s.at t).putReg (chOff ch 0x68) (v &&& 0xFFFF) with flt := f } ch).1
    rw [htail, heq]
    exact ⟨(hfetch.reg _).trans ((s.at t).reg_putReg_same _ _), fun o ho => (hfetch.reg o).trans ((s.at t).reg_putReg_ne _ _ _ ho), hfetch.others⟩
  · exact (exec_tailWrite ha hc hreach t v src).trans (congrArg _ (if_pos hbad))
  · have hexec : exec (.busMasterDisable t) s = execBusMasterDisable t s := rfl
    obtain ⟨hhost, hrest⟩ := (s.at t).busOff_spec hc
    exact ⟨(s.at t).busOff, by rw [hexec, execBusMasterDisable, timed_alive ha], hhost.bme, hrest⟩

end Machine
end Sys2Proof

/-! What goes through a ring: descriptors, records, completion words, drops (09_host_link R311, R319 to R331). -/

namespace Sys2Proof
namespace Machine

/-! Descriptors (R319, R322). -/

/-- An error that AER reports. -/
theorem State.aer_spec (s : State) {code : Nat} (hc : code < 32) :
    (s.aer code).host.aerU.getLsbD code = true ∧ ∀ c, (s.aer code).ring c = s.ring c := by
  rw [s.aer_eq code]
  exact ⟨by simp [hc], fun _ => rfl⟩

/-- One descriptor: the rules of R319 in order. -/
theorem checkDescs_one (w0 w1 : W64) : checkDescs [(w0, w1)] = if fld w0 11 0 ≠ 0 then .inl 3
    else if fld w1 63 32 ≠ 0 ∨ fld w1 31 0 % 4096 ≠ 0 ∨ fld w1 31 0 < 4096 ∨ 16777216 < fld w1 31 0 then .inl 4 else .inr [(w0, fld w1 31 0)] := by
  simp only [checkDescs, bne_iff_ne, Bool.or_eq_true, decide_eq_true_eq, or_assoc]

/-- The ring of a fetch that ends with descriptors. -/
theorem State.fetched_ring (s : State) (ch : Nat) (ds : List (W64 × Nat)) :
    let s' := (s.modRing ch fun r => { r with inFl := none, desc := r.desc ++ ds, fetch := (r.fetch + ds.length) % 65536 }).fetchDesc ch
    (s'.ring ch).desc = (s.ring ch).desc ++ ds ∧ (s'.ring ch).fetch = ((s.ring ch).fetch + ds.length) % 65536 ∧ (s'.ring ch).st = (s.ring ch).st ∧
      s'.regs = s.regs := by
  have hring := s.ring_modRing_same ch fun r => { r with inFl := none, desc := r.desc ++ ds, fetch := (r.fetch + ds.length) % 65536 }
  obtain ⟨hframe, hquiet⟩ := State.fetchDesc_ringKept
    (s.modRing ch fun r => { r with inFl := none, desc := r.desc ++ ds, fetch := (r.fetch + ds.length) % 65536 }) ch
  rw [hring] at hquiet
  exact ⟨(congrArg Ring.desc hquiet :), (congrArg Ring.fetch hquiet :), (congrArg Ring.st hquiet :), hframe.regs⟩

section FetchDone

variable {s : State} {ch x n : Nat} {again : Bool}

theorem exec_fetchError (ha : s.alive = true) (hin : (s.ring ch).inFl = some (x, n, again)) (t : Time) (p : Bool) :
    exec (.descriptorFetchDone t ch (.error p)) s = .next ((if p then (s.at t).aer 12 else s.at t).ringFault ch 2) := by
  have hexec : exec (.descriptorFetchDone t ch (.error p)) s = execDescriptorFetchDone t ch (.error p) s := rfl
  rw [hexec, execDescriptorFetchDone, timed_alive ha, State.ring_at, hin]

theorem exec_fetchTimeout_again (ha : s.alive = true) (hin : (s.ring ch).inFl = some (x, n, true)) (t : Time) :
    exec (.descriptorFetchDone t ch .timeout) s = .next (((s.at t).aer 14).ringFault ch 1) := by
  have hexec : exec (.descriptorFetchDone t ch .timeout) s = execDescriptorFetchDone t ch .timeout s := rfl
  rw [hexec, execDescriptorFetchDone, timed_alive ha, State.ring_at, hin]
  dsimp only
  rw [if_pos rfl]

theorem exec_fetchTimeout_first (ha : s.alive = true) (hin : (s.ring ch).inFl = some (x, n, false)) (t : Time) :
    exec (.descriptorFetchDone t ch .timeout) s = .next
      ((((s.at t).aer 14).modRing ch fun r => { r with inFl := some (x, n, true) }).emit (.memRd (((s.at t).aer 14).descAddr ch x) (16 * n))) := by
  have hexec : exec (.descriptorFetchDone t ch .timeout) s = execDescriptorFetchDone t ch .timeout s := rfl
  rw [hexec, execDescriptorFetchDone, timed_alive ha, State.ring_at, hin]
  dsimp only
  rw [if_neg Bool.false_ne_true]

theorem exec_fetchBad (ha : s.alive = true) (hin : (s.ring ch).inFl = some (x, n, again)) (t : Time) {ws : List (W64 × W64)} {code : Nat}
    (hd : checkDescs (ws.take n) = .inl code) : exec (.descriptorFetchDone t ch (.data ws)) s = .next ((s.at t).ringFault ch code) := by
  have hexec : exec (.descriptorFetchDone t ch (.data ws)) s = execDescriptorFetchDone t ch (.data ws) s := rfl
  rw [hexec, execDescriptorFetchDone, timed_alive ha, State.ring_at, hin]
  dsimp only
  rw [hd]

theorem exec_fetchGood (ha : s.alive = true) (hin : (s.ring ch).inFl = some (x, n, again)) (t : Time) {ws : List (W64 × W64)}
    {ds : List (W64 × Nat)} (hd : checkDescs (ws.take n) = .inr ds) : exec (.descriptorFetchDone t ch (.data ws)) s =
    .next (((s.at t).modRing ch fun r => { r with inFl := none, desc := r.desc ++ ds, fetch := (r.fetch + ds.length) % 65536 }).fetchDesc ch) := by
  have hexec : exec (.descriptorFetchDone t ch (.data ws)) s = execDescriptorFetchDone t ch (.data ws) s := rfl
  rw [hexec, execDescriptorFetchDone, timed_alive ha, State.ring_at, hin]
  dsimp only
  rw [hd]

end FetchDone

/-! Records (R320, R323, R324). -/

/-- Outputs are only added, and every one added satisfies `P`. -/
def NewOut (P : Out → Prop) (s s' : State) : Prop := ∃ l, s'.out = l ++ s.out ∧ ∀ o ∈ l, P o

theorem NewOut.of_eq {P : Out → Prop} {s s' : State} (h : s'.out = s.out) : NewOut P s s' := ⟨[], h, by simp⟩

theorem NewOut.trans {P : Out → Prop} {a b c : State} (h1 : NewOut P a b) (h2 : NewOut P b c) : NewOut P a c := by
  obtain ⟨l1, ho1, hp1⟩ := h1
  obtain ⟨l2, ho2, hp2⟩ := h2
  exact ⟨l2 ++ l1, by rw [ho2, ho1, List.append_assoc], fun o ho => (List.mem_append.1 ho).elim (hp2 o) (hp1 o)⟩

/-- The outputs added are the front of the list. -/
theorem NewOut.front {P : Out → Prop} {s s' : State} (h : NewOut P s s') {o : Out} (ho : o ∈ s'.out.take (s'.out.length - s.out.length)) : P o := by
  obtain ⟨l, heq, hp⟩ := h
  rw [heq, List.length_append, Nat.add_sub_cancel, List.take_left] at ho
  exact hp o ho

theorem State.emit_newOut {P : Out → Prop} (s : State) {o : Out} (h : P o) : NewOut P s (s.emit o) :=
  ⟨[o], rfl, by simpa using h⟩

/-- A write of at most `mps` bytes that crosses no 4 KiB boundary. -/
def Out.withinPayload (mps : Nat) (ro : Bool) (o : Out) : Prop :=
  ∀ p ∈ o.writes, p.2.1.length ≤ mps ∧ p.1.toNat % 4096 + p.2.1.length ≤ 4096 ∧ p.2.2 = ro

theorem State.memWrite_newOut (s : State) (ro : Bool) (a : W64) (bs : List Byte) (fuel : Nat) :
    NewOut (Out.withinPayload s.maxPayload ro) s (s.memWrite ro a bs fuel) := by
  induction fuel generalizing s a bs with
  | zero => exact .of_eq rfl
  | succ fuel ih =>
    unfold State.memWrite
    dsimp only
    split
    · exact .of_eq rfl
    · refine (s.emit_newOut ?_).trans (ih (s.emit _) _ _)
      intro p hp
      obtain rfl := List.mem_singleton.1 hp
      simp only [List.length_take, and_true]
      omega

/-- Bytes that fit in one write go in one write. -/
theorem State.memWrite_whole (s : State) (ro : Bool) (a : W64) {bs : List Byte} {fuel : Nat} (hf : fuel ≠ 0) (hne : bs ≠ [])
    (hmps : bs.length ≤ s.maxPayload) (hpage : a.toNat % 4096 + bs.length ≤ 4096) : .memWr a bs ro ∈ (s.memWrite ro a bs fuel).out := by
  obtain ⟨fuel, rfl⟩ := Nat.exists_eq_succ_of_ne_zero hf
  unfold State.memWrite
  rw [if_neg (by simpa using hne)]
  have htake : bs.take (min s.maxPayload (4096 - a.toNat % 4096)) = bs := List.take_of_length_le (by omega)
  dsimp only
  rw [htake]
  exact (State.memWrite_ringKept (f := id) (ch := 0) (s.emit _) ro _ _ fuel).1.out.subset List.mem_cons_self

theorem length_wordsLE (ws : List W64) : (wordsLE ws).length = 8 * ws.length := by
  induction ws with
  | nil => rfl
  | cons w ws ih =>
    rw [wordsLE, List.flatMap_cons, List.length_append, length_bytesLE, ← wordsLE, ih, List.length_cons]
    omega

theorem State.fetchDesc_newOut {P : Out → Prop} (s : State) (ch : Nat) (h : ∀ a n, P (.memRd a n)) : NewOut P s (s.fetchDesc ch) := by
  unfold State.fetchDesc
  extract_lets r ahead n
  split
  · exact ⟨[_], rfl, by simpa using h _ _⟩
  · exact .of_eq rfl

/-- The ring with words appended to its current buffer of `len` bytes. -/
def Ring.appended (r : Ring) (ws : List W64) (len : Nat) (ds : List (W64 × Nat)) (now : Time) : Ring :=
  let r' := { r with part := (r.part ++ ws).drop ((r.part ++ ws).length / 8 * 8), used := r.used + 8 * ws.length, prod := r.prod + 8 * ws.length,
                     oldest := some (r.oldest.getD now) }
  if len ≤ r.used + 8 * ws.length then { r' with used := 0, head := (r.head + 1) % 65536, desc := ds, wbDue := true } else r'

theorem State.modRing_congr {s : State} {ch : Nat} {f g : Ring → Ring} (h : f (s.ring ch) = g (s.ring ch)) : s.modRing ch f = s.modRing ch g :=
  congrArg (fun r => s.modHost fun x => { x with ring := Tbl.set Ring.fresh x.ring ch r }) h

section Put

variable {s : State} {ch : Nat} {ws : List W64} {a : W64} {len : Nat} {ds : List (W64 × Nat)}

/-- The bytes of the whole blocks, and where they go. -/
def Ring.blocks (r : Ring) (ws : List W64) : List Byte := wordsLE ((r.part ++ ws).take ((r.part ++ ws).length / 8 * 8))

def Ring.blockAddr (r : Ring) (a : W64) : W64 := a + BitVec.ofNat 64 (r.used - 8 * r.part.length)

/-- The words' whole blocks go to host memory, and the ring takes the rest. -/
theorem State.put_eq (hd : (s.ring ch).desc = (a, len) :: ds) : s.put ch ws =
    (s.memWrite (s.relaxed ch) ((s.ring ch).blockAddr a) ((s.ring ch).blocks ws) (((s.ring ch).part ++ ws).length / 8 * 8 / 8)).modRing ch
      fun _ => (s.ring ch).appended ws len ds s.now := by
  unfold State.put
  dsimp only
  rw [hd]
  dsimp only
  have hkept := State.memWrite_ringKept (f := id) (ch := ch) s (s.relaxed ch) ((s.ring ch).blockAddr a) ((s.ring ch).blocks ws)
    (((s.ring ch).part ++ ws).length / 8 * 8 / 8)
  have hring : (s.memWrite (s.relaxed ch) ((s.ring ch).blockAddr a) ((s.ring ch).blocks ws) (((s.ring ch).part ++ ws).length / 8 * 8 / 8)).ring ch =
    s.ring ch := hkept.2
  have hnow : (s.memWrite (s.relaxed ch) ((s.ring ch).blockAddr a) ((s.ring ch).blocks ws) (((s.ring ch).part ++ ws).length / 8 * 8 / 8)).now = s.now := by
    obtain ⟨h, o, heq⟩ := hkept.1.frame
    rw [heq]
  refine State.modRing_congr ?_
  unfold Ring.blockAddr Ring.blocks at hring hnow
  unfold Ring.appended
  rw [← hnow, hring]

theorem State.put_spec (hd : (s.ring ch).desc = (a, len) :: ds) : RingOnly ch s (s.put ch ws) ∧
    (s.put ch ws).ring ch = (s.ring ch).appended ws len ds s.now ∧ NewOut (Out.withinPayload s.maxPayload (s.relaxed ch)) s (s.put ch ws) ∧
    (8 ≤ ((s.ring ch).part ++ ws).length → ((s.ring ch).blocks ws).length ≤ s.maxPayload →
      ((s.ring ch).blockAddr a).toNat % 4096 + ((s.ring ch).blocks ws).length ≤ 4096 →
      .memWr ((s.ring ch).blockAddr a) ((s.ring ch).blocks ws) (s.relaxed ch) ∈ (s.put ch ws).out) := by
  have hkept := State.memWrite_ringKept (f := id) (ch := ch) s (s.relaxed ch) ((s.ring ch).blockAddr a) ((s.ring ch).blocks ws)
    (((s.ring ch).part ++ ws).length / 8 * 8 / 8)
  have hnew := s.memWrite_newOut (s.relaxed ch) ((s.ring ch).blockAddr a) ((s.ring ch).blocks ws) (((s.ring ch).part ++ ws).length / 8 * 8 / 8)
  have hlen : ((s.ring ch).blocks ws).length = 8 * (((s.ring ch).part ++ ws).length / 8 * 8) := by
    rw [Ring.blocks, length_wordsLE, List.length_take, Nat.min_eq_left (Nat.div_mul_le_self ..)]
  have hwhole := fun (h8 : 8 ≤ ((s.ring ch).part ++ ws).length) => s.memWrite_whole (s.relaxed ch) ((s.ring ch).blockAddr a)
    (bs := (s.ring ch).blocks ws) (fuel := ((s.ring ch).part ++ ws).length / 8 * 8 / 8) (by omega)
    (List.ne_nil_of_length_pos (by omega))
  rw [State.put_eq hd]
  exact ⟨hkept.1.trans (State.modRing_ringOnly _ ch _), State.ring_modRing_same _ ch _, hnew.trans (.of_eq rfl), hwhole⟩

end Put

/-! The record that goes into the current buffer (R324, R330). -/

/-- The record fits in the current buffer, with nothing left or space for a FILL record. -/
theorem State.place_here {s : State} {ch : Nat} {ws : List W64} {a : W64} {len : Nat} {ds : List (W64 × Nat)}
    (hd : (s.ring ch).desc = (a, len) :: ds) (hfit : 8 * ws.length = len - (s.ring ch).used ∨ 8 * ws.length + 40 ≤ len - (s.ring ch).used)
    (fuel : Nat) : s.place ch ws (fuel + 1) = (s.put ch ws, true) := by
  have hspace : (s.ring ch).space = some (len - (s.ring ch).used) := by
    rw [Ring.space, hd]
    rfl
  unfold State.place
  dsimp only
  rw [hspace]
  exact if_pos (by simpa using hfit)

section Egress

variable {s : State} {ch : Nat} {r : ERec} {a : W64} {len : Nat} {ds : List (W64 × Nat)}

/-- The state after the record has gone into the ring. -/
def State.written (s : State) (ch : Nat) (r : ERec) : State :=
  ((((s.modFab fun f => { f with egress := f.egress.erase r }).put ch r.r.ws).modChan ch fun c =>
    { c with since := if countsLine r.r.ws then c.since ++ [recLine r.r.ws] else c.since }).fetchDesc ch)

theorem execEgressWrite_here (ha : s.alive = true) (hc : ch < 16) (t : Time) (hnext : (s.at t).nextOut ch = some r) (hbme : s.host.bme = true)
    (hclk : s.clk.gated = false) (hd : (s.ring ch).desc = (a, len) :: ds)
    (hfirst : ∀ c q, c < 16 → (s.at t).nextOut c = some q → (s.at t).before q r = false)
    (hfit : 8 * r.r.ws.length = len - (s.ring ch).used ∨ 8 * r.r.ws.length + 40 ≤ len - (s.ring ch).used) :
    exec (.egressWrite t ch false) s = .next ((s.at t).written ch r) := by
  have hexec : exec (.egressWrite t ch false) s = execEgressWrite t ch false s := rfl
  rw [hexec, execEgressWrite, timed_alive ha, hnext]
  dsimp only
  rw [if_neg (by
    simp only [Bool.or_eq_true, not_or, Bool.not_eq_true, Bool.not_eq_false', decide_eq_false_iff_not]
    refine ⟨⟨⟨List.all_eq_true.2 fun c hin => ?_, hbme⟩, Nat.not_le.2 hc⟩, hclk⟩
    cases hq : (s.at t).nextOut c with
    | none => rfl
    | some q =>
      dsimp only
      rw [hfirst c q (List.mem_range.1 hin) hq]
      rfl), if_neg Bool.false_ne_true, State.place_here (s := (s.at t).modFab fun f => { f with egress := f.egress.erase r }) hd hfit]
  rfl

theorem State.written_spec (hd : (s.ring ch).desc = (a, len) :: ds) : let s' := s.written ch r
    let r' := (s.ring ch).appended r.r.ws len ds s.now
    s'.regs = s.regs ∧ s'.fab.egress = s.fab.egress.erase r ∧ (s'.ring ch).quiet = r'.quiet ∧
      NewOut (Out.withinPayload s.maxPayload (s.relaxed ch)) s s' ∧
      (8 ≤ ((s.ring ch).part ++ r.r.ws).length → ((s.ring ch).blocks r.r.ws).length ≤ s.maxPayload →
        ((s.ring ch).blockAddr a).toNat % 4096 + ((s.ring ch).blocks r.r.ws).length ≤ 4096 →
        .memWr ((s.ring ch).blockAddr a) ((s.ring ch).blocks r.r.ws) (s.relaxed ch) ∈ s'.out) := by
  intro s' r'
  obtain ⟨s1, hs1⟩ : ∃ s1, s1 = s.modFab fun f => { f with egress := f.egress.erase r } := ⟨_, rfl⟩
  obtain ⟨s2, hs2⟩ : ∃ s2, s2 = (s1.put ch r.r.ws).modChan ch fun c =>
    { c with since := if countsLine r.r.ws then c.since ++ [recLine r.r.ws] else c.since } := ⟨_, rfl⟩
  have hs' : s' = s2.fetchDesc ch := by rw [hs2, hs1]; rfl
  have hring : s1.ring ch = s.ring ch := by rw [hs1]; rfl
  obtain ⟨hput, happ, hnew, hwhole⟩ := State.put_spec (s := s1) (ws := r.r.ws) (hd := by rw [hring]; exact hd)
  obtain ⟨hfetch, hquiet⟩ := s2.fetchDesc_ringKept ch
  have hfetched := s2.fetchDesc_newOut (P := Out.withinPayload s.maxPayload (s.relaxed ch)) ch fun a n p hp => absurd hp List.not_mem_nil
  have hout2 : s2.out = (s1.put ch r.r.ws).out := by rw [hs2]; rfl
  rw [hs']
  refine ⟨?_, ?_, ?_, ?_, ?_⟩
  · have hregs1 : s1.regs = s.regs := by rw [hs1]; rfl
    have hregs2 : s2.regs = (s1.put ch r.r.ws).regs := by rw [hs2]; rfl
    exact hfetch.regs.trans (hregs2.trans (hput.regs.trans hregs1))
  · have hfab2 : s2.fab.egress = (s1.put ch r.r.ws).fab.egress := by rw [hs2]; rfl
    have hfab1 : s1.fab.egress = s.fab.egress.erase r := by rw [hs1]; rfl
    rw [hfetch.fab, hfab2, hput.fab, hfab1]
  · have hring2 : s2.ring ch = (s1.put ch r.r.ws).ring ch := by rw [hs2]; rfl
    have hnow1 : s1.now = s.now := by rw [hs1]; rfl
    rw [hquiet, hring2, happ, hring, hnow1]
  · have hmps : s1.maxPayload = s.maxPayload := by rw [hs1]; rfl
    have hro : s1.relaxed ch = s.relaxed ch := by rw [hs1]; rfl
    have hout1 : s1.out = s.out := by rw [hs1]; rfl
    rw [hmps, hro] at hnew
    exact (NewOut.of_eq hout1).trans (hnew.trans ((NewOut.of_eq hout2).trans hfetched))
  · have hmps : s1.maxPayload = s.maxPayload := by rw [hs1]; rfl
    have hro : s1.relaxed ch = s.relaxed ch := by rw [hs1]; rfl
    rw [hmps, hro, hring, ← hout2] at hwhole
    exact fun h8 hlen hpage => hfetch.out.subset (hwhole h8 hlen hpage)

end Egress

/-- The two ends of a buffer: filled, or with bytes left. -/
theorem Ring.appended_spec (r : Ring) (ws : List W64) (len : Nat) (ds : List (W64 × Nat)) (now : Time) :
    (r.appended ws len ds now).prod = r.prod + 8 * ws.length ∧ (r.appended ws len ds now).part = (r.part ++ ws).drop ((r.part ++ ws).length / 8 * 8) ∧
      (len ≤ r.used + 8 * ws.length → (r.appended ws len ds now).head = (r.head + 1) % 65536 ∧ (r.appended ws len ds now).used = 0 ∧
        (r.appended ws len ds now).wbDue = true) := by
  unfold Ring.appended
  dsimp only
  split
  · exact ⟨rfl, rfl, fun _ => ⟨rfl, rfl, rfl⟩⟩
  · next h => exact ⟨rfl, rfl, fun hle => absurd hle h⟩

/-! Messages (R329). -/

/-- A message that the holdoff withheld. -/
theorem State.msix_ring (s : State) {ch : Nat} (hc : ch < 16) : (s.msix ch).ring ch = { s.ring ch with
    irqT := if s.host.msixEn = true ∧ s.host.bme = true ∧ s.host.fnMask = false ∧ (Tbl.get Msix.masked s.host.msix ch).mask = false then some s.now
      else (s.ring ch).irqT } := by
  unfold State.msix
  dsimp only
  split
  · next h =>
    rw [if_neg (fun hall => by rw [hall.1, hall.2.1] at h; exact absurd h (by decide))]
  · next h =>
    have hon : s.host.msixEn = true ∧ s.host.bme = true := by simpa using h
    split
    · next hm =>
      rw [if_neg (fun hall => by rw [hall.2.2.1, hall.2.2.2] at hm; exact absurd hm (by decide))]
      rfl
    · next hm =>
      have hfree : (Tbl.get Msix.masked s.host.msix ch).mask = false ∧ s.host.fnMask = false := by simpa using hm
      rw [if_pos ⟨hon.1, hon.2, hfree.2, hfree.1⟩]
      unfold State.msixSend
      dsimp only
      rw [if_pos hc]
      exact s.ring_modRing_same ch fun r => { r with irqT := some s.now }

/-- Settles O42: each command's effect on its ring, with the writes to host memory that R323 bounds. -/
theorem ringStream : Obligations.RingStream := by
  unfold Obligations.RingStream
  intro s t ch ha hc now g
  refine ⟨fun x n again hin hst => ⟨fun p => ?_, fun hagain => ?_, fun hagain => ?_, fun ws code hcode => ?_, fun ws ds hds => ?_⟩, checkDescs_one,
    fun r a len ds hnext hbme hclk hd hfirst hused hfit => ?_, fun hst hbme hready hd => ?_, fun x hx hheld hlate => ?_,
    fun r hfind hst hstarved hlate => ?_⟩
  · refine ⟨_, exec_fetchError ha hin t p, ?_⟩
    obtain ⟨haer, hrings⟩ := (s.at t).aer_spec (code := 12) (by decide)
    cases p with
    | true =>
      obtain ⟨hdone, h3, h2⟩ := ((s.at t).aer 12).ringFault_running 2 (ch := ch) (by rw [hrings]; exact hst)
      exact ⟨h3, h2, fun _ => by rw [if_pos rfl, hdone.host.aer]; exact haer⟩
    | false =>
      obtain ⟨-, h3, h2⟩ := (s.at t).ringFault_running 2 (ch := ch) hst
      exact ⟨h3, h2, fun h => absurd h Bool.false_ne_true⟩
  · refine ⟨_, exec_fetchTimeout_again ha (hagain ▸ hin) t, ?_⟩
    obtain ⟨haer, hrings⟩ := (s.at t).aer_spec (code := 14) (by decide)
    obtain ⟨hdone, h3, h1⟩ := ((s.at t).aer 14).ringFault_running 1 (ch := ch) (by rw [hrings]; exact hst)
    exact ⟨h3, h1, by rw [hdone.host.aer]; exact haer⟩
  · refine ⟨_, exec_fetchTimeout_first ha (hagain ▸ hin) t, ?_⟩
    have heq := (s.at t).aer_eq 14
    obtain ⟨haer, hrings⟩ := (s.at t).aer_spec (code := 14) (by decide)
    refine ⟨?_, haer, ?_⟩
    · have hring := ((s.at t).aer 14).ring_modRing_same ch fun r => { r with inFl := some (x, n, true) }
      rw [hrings] at hring
      exact hring
    · rw [heq]
      rfl
  · refine ⟨_, exec_fetchBad ha hin t hcode, ?_⟩
    exact ((s.at t).ringFault_running code (ch := ch) hst).2
  · refine ⟨_, exec_fetchGood ha hin t hds, ?_⟩
    obtain ⟨hdesc, hfetch, hone, hregs⟩ := (s.at t).fetched_ring ch ds
    exact ⟨hdesc, hfetch, hone.trans hst, hregs⟩
  · refine ⟨_, execEgressWrite_here ha hc t hnext hbme hclk hd hfirst hfit, ?_⟩
    obtain ⟨hregs, hegress, hquiet, hnew, hwhole⟩ := State.written_spec (s := s.at t) (r := r) hd
    obtain ⟨hprod, hpart, hfull⟩ := (s.ring ch).appended_spec r.r.ws len ds (s.at t).now
    exact ⟨(congrArg Ring.prod hquiet :).trans hprod, (congrArg Ring.part hquiet :).trans hpart, hegress, hwhole, fun o ho => hnew.front ho,
      fun hle => ⟨(congrArg Ring.head hquiet :).trans (hfull hle).1, (congrArg Ring.used hquiet :).trans (hfull hle).2.1,
        (congrArg Ring.wbDue hquiet :).trans (hfull hle).2.2⟩, hregs⟩
  · have hexec : exec (.writeback t ch) s = execWriteback t ch s := rfl
    obtain ⟨hframe, hquiet, hout⟩ := (s.at t).writeback_noDesc ch hd
    refine ⟨(s.at t).writeback ch, ?_, (congrArg Ring.tag hquiet :), (congrArg Ring.rep hquiet :), (congrArg Ring.wbDue hquiet :),
      (congrArg Ring.oldest hquiet :), hout, hframe.regs⟩
    have hrun : ((s.ring ch).st == 1 || (s.ring ch).st == 2) = true := by simpa using hst
    rw [hexec, execWriteback, timed_alive ha]
    refine congrArg _ (if_pos ?_)
    show (decide (ch < 16) && ((s.ring ch).st == 1 || (s.ring ch).st == 2) && s.host.bme && (s.at t).wbReady ch) = true
    rw [decide_eq_true hc, hrun, hbme, hready]
    rfl
  · have hexec : exec (.irqHoldoffEnd t ch) s = execIrqHoldoffEnd t ch s := rfl
    have hring := ((s.at t).modRing ch fun r => { r with irqHeld := false }).msix_ring hc
    rw [State.ring_modRing_same] at hring
    refine ⟨((s.at t).modRing ch fun r => { r with irqHeld := false }).msix ch, ?_, hring, (State.msix_ringKept _ ch).1.regs⟩
    rw [hexec, execIrqHoldoffEnd, timed_alive ha, State.ring_at, hx]
    exact congrArg _ (if_pos (by rw [decide_eq_true hc, hheld]; exact decide_eq_true hlate))
  · have hexec : exec (.starvedDrop t ch) s = execStarvedDrop t ch s := rfl
    have hrun : ((s.ring ch).st == 1 || (s.ring ch).st == 2) = true := by simpa using hst
    have hring := ((s.at t).modFab fun f => { f with egress := f.egress.erase r }).ring_modRing_same ch fun g => { g with noDesc := g.noDesc + 1 }
    obtain ⟨q, ls, cv, pa, heq, -⟩ := (((s.at t).modFab fun f => { f with egress := f.egress.erase r }).modRing ch fun g =>
      { g with noDesc := g.noDesc + 1 }).endItem_stageOnly false 0x07 r.src r.r.ws
    refine ⟨(((s.at t).modFab fun f => { f with egress := f.egress.erase r }).modRing ch fun g =>
      { g with noDesc := g.noDesc + 1 }).endItem false 0x07 r.src r.r.ws, ?_, ?_⟩
    · rw [hexec, execStarvedDrop, timed_alive ha]
      dsimp only [State.at]
      rw [hfind]
      refine congrArg _ (if_pos ?_)
      show (decide (ch < 16) && ((s.ring ch).st == 1 || (s.ring ch).st == 2) && s.starved ch &&
        decide (2000 * s.regF 0x104000 31 24 ≤ since (s.at t).now r.t)) = true
      rw [decide_eq_true hc, hrun, hstarved, decide_eq_true hlate]
      rfl
    · rw [heq]
      exact ⟨rfl, hring, rfl⟩

end Machine
end Sys2Proof

/-! The resets of the function, and D3hot (09_host_link R307 to R309, R342 to R344). -/

namespace Sys2Proof
namespace Machine

/-! Rings that are stopped without a completion word. -/

theorem State.ringKill_done (s : State) (ch : Nat) : RingDone ch s (s.ringKill ch) :=
  (s.discardEgress_ringDone ch ch).trans (State.modRing_ringOnly _ ch _).done

theorem State.ringKill_ring (s : State) (ch : Nat) : (s.ringKill ch).ring ch = (s.ring ch).halt 0 :=
  (s.discardEgress ch).ring_modRing_same ch fun r => r.halt 0

/-- The ring neither runs nor carries lines. -/
def Ring.halted (r : Ring) : Prop := r.st = 0 ∧ r.carry = false

/-- What stopping rings touches: the fabric and the rings. -/
def KillOnly (s s' : State) : Prop := ∃ b r, s' = { s with fab := b, host := { s.host with ring := r } }

theorem KillOnly.refl (s : State) : KillOnly s s := ⟨_, _, rfl⟩

theorem KillOnly.trans {a b c : State} (h1 : KillOnly a b) (h2 : KillOnly b c) : KillOnly a c := by
  obtain ⟨b, r, rfl⟩ := h1
  obtain ⟨b, r, rfl⟩ := h2
  exact ⟨_, _, rfl⟩

theorem State.ringKill_killOnly (s : State) (ch : Nat) : KillOnly s (s.ringKill ch) := ⟨_, _, rfl⟩

theorem State.ringKill_halts (s : State) (ch c : Nat) (h : c = ch ∨ (s.ring c).halted) : ((s.ringKill ch).ring c).halted := by
  by_cases hc : c = ch
  · rw [hc, s.ringKill_ring ch]
    exact ⟨rfl, rfl⟩
  · rw [(s.ringKill_done ch).others c hc]
    exact h.resolve_left hc

theorem State.killRings_killOnly (s : State) : KillOnly s s.killRings :=
  foldl_rel KillOnly.refl (fun _ _ _ => KillOnly.trans) State.ringKill_killOnly _ _

theorem State.killRings_halts (s : State) {ch : Nat} (hc : ch < 16) : (s.killRings.ring ch).halted := by
  have hin := List.mem_range.2 hc
  unfold State.killRings
  generalize List.range 16 = l at hin ⊢
  exact foldl_hits (P := fun x : State => (x.ring ch).halted) (Q := fun _ => True) (fun _ _ _ => trivial)
    (fun x c hx => x.ringKill_halts c ch (.inr hx)) (a := ch) (fun x _ => x.ringKill_halts ch ch (.inl rfl)) l hin s trivial

theorem KillOnly.d3 {s x : State} (hk : KillOnly s x) (hh : ∀ ch, ch < 16 → (x.ring ch).halted) :
    let s' := x.modHost fun h => { h with d3 := true }
    s'.host.d3 = true ∧ (∀ ch, ch < 16 → (s'.ring ch).st = 0 ∧ (s'.ring ch).carry = false) ∧ s'.regs = s.regs ∧ s'.seq = s.seq := by
  refine ⟨rfl, hh, ?_⟩
  obtain ⟨b, r, rfl⟩ := hk
  exact ⟨rfl, rfl⟩

theorem State.d3Enter_eq (s : State) (hd3 : s.host.d3 = false) : s.d3Enter = s.killRings.modHost fun h => { h with d3 := true } := by
  unfold State.d3Enter
  rw [if_neg (by rw [hd3]; exact Bool.false_ne_true)]

/-! Registers at their reset values. -/

/-- Registers put at their reset values. -/
def State.resetRegs (s : State) (l : List Nat) : State := l.foldl (fun s off => s.putReg off (regReset off)) s

theorem State.resetRegs_frame (l : List Nat) (s : State) : ∃ g, s.resetRegs l = { s with regs := g } :=
  List.foldlRecOn l _ (motive := fun x : State => ∃ g, x = { s with regs := g }) ⟨_, rfl⟩ fun x ⟨g, hx⟩ o _ => by
    rw [hx]
    exact ⟨_, rfl⟩

theorem State.reg_putReset (s : State) (off o : Nat) (h : o = off ∨ s.reg o = regReset o) : (s.putReg off (regReset off)).reg o = regReset o := by
  by_cases ho : o = off
  · rw [ho, State.reg_putReg_same]
  · rw [State.reg_putReg_ne _ _ _ _ ho]
    exact h.resolve_left ho

/-- The register has its reset value. -/
def State.isReset (s : State) (o : Nat) : Prop := s.reg o = regReset o

theorem State.resetRegs_mem {l : List Nat} {o : Nat} (ho : o ∈ l) (s : State) : (s.resetRegs l).isReset o := by
  unfold State.resetRegs
  exact foldl_hits (P := fun x : State => x.isReset o) (Q := fun _ => True) (fun _ _ _ => trivial)
    (fun x c hx => x.reg_putReset c o (.inr hx)) (a := o) (fun x _ => x.reg_putReset o o (.inl rfl)) l ho s trivial

theorem State.resetRegs_not_mem {l : List Nat} {o : Nat} (ho : o ∉ l) (s : State) : (s.resetRegs l).reg o = s.reg o := by
  unfold State.resetRegs
  exact List.foldlRecOn l _ (motive := fun x : State => x.reg o = s.reg o) rfl fun x hx c hc =>
    (x.reg_putReg_ne c o _ fun h => ho (h ▸ hc)).trans hx

/-! The reset of the function (R342). -/

/-- The host link that a reset of the function leaves: its counters, link, link control, sticky words and staging regions are kept. -/
def HostLink.fnCleared (h : HostLink) : HostLink :=
  { h with ring := [], msix := [], pba := 0, cause := 0, memEn := false, bme := false, msixEn := false, fnMask := false, devCtl := 0x2010, d3 := false,
           rwin := [], rwait := [] }

/-- A lock of the local function is released. -/
def State.fnUnlock (s : State) : State := if s.seq.held && !bit s.seq.src 6 then s.unlock else s

theorem State.fnUnlock_spec (s : State) : (∃ q, s.fnUnlock = { s with seq := q }) ∧
    (s.seq.held = true → bit s.seq.src 6 = false → s.fnUnlock.seq.held = false) ∧ (bit s.seq.src 6 = true → s.fnUnlock = s) := by
  unfold State.fnUnlock
  split
  · next h =>
    obtain ⟨hh, hb⟩ := (Bool.and_eq_true _ _).mp h
    have hb : bit s.seq.src 6 = false := by simpa using hb
    rw [State.unlock_held hh]
    exact ⟨⟨_, rfl⟩, fun _ _ => rfl, fun ht => absurd (ht.symm.trans hb) (by decide)⟩
  · next h => exact ⟨⟨_, rfl⟩, fun hh hb => absurd (by rw [hh, hb]; rfl) h, fun _ => rfl⟩

theorem State.sendBcast_frame (s : State) (p : Bool) (typ : Nat) (ws : List W64) : ∃ o, s.sendBcast p typ ws = { s with out := o } := by
  unfold State.sendBcast State.sendFrame
  split
  · exact ⟨_, rfl⟩
  · split <;> exact ⟨_, rfl⟩

theorem State.broadcast_frame (s : State) (typ tag : Nat) (payload : W64) : ∃ o, s.broadcast typ tag payload = { s with out := o } := by
  unfold State.broadcast
  dsimp only
  obtain ⟨o1, h1⟩ := s.sendBcast_frame false typ (frame true typ (s.hpos.getD 0) 0 tag payload)
  rw [h1]
  exact State.sendBcast_frame _ true typ _

/-- What a reset of the function leaves: registers, lock, host link, and every block it does not reach. -/
theorem State.fnReset_spec (s : State) (kind : Nat) : let s' := s.fnReset kind
    (∀ o ∈ fnRegs, s'.reg o = regReset o) ∧ (∀ o, o ∉ fnRegs → s'.reg o = s.reg o) ∧ s'.host = s.host.fnCleared ∧
      (s.seq.held = true → bit s.seq.src 6 = false → s'.seq.held = false) ∧ (bit s.seq.src 6 = true → s'.seq = s.seq) ∧
      s'.tick = s.tick ∧ s'.te = s.te ∧ s'.boot = s.boot := by
  intro s'
  obtain ⟨l, hl⟩ : ∃ l, l = fnRegs := ⟨_, rfl⟩
  obtain ⟨s1, hs1⟩ : ∃ s1, s1 = s.killRings.resetRegs l := ⟨_, rfl⟩
  obtain ⟨s2, hs2⟩ : ∃ s2, s2 = s1.modHost HostLink.fnCleared := ⟨_, rfl⟩
  have hs' : s' = if s2.fnUnlock.hpos.isSome then s2.fnUnlock.broadcast 0x0C 0 (BitVec.ofNat 64 kind) else s2.fnUnlock := by
    rw [hs2, hs1, hl]
    rfl
  clear_value s'
  obtain ⟨o, ho⟩ : ∃ o, s' = { s2.fnUnlock with out := o } := by
    rw [hs']
    split
    · exact s2.fnUnlock.broadcast_frame _ _ _
    · exact ⟨_, rfl⟩
  obtain ⟨⟨q, hq⟩, hlocal, hremote⟩ := s2.fnUnlock_spec
  obtain ⟨b, r, hkill⟩ := s.killRings_killOnly
  obtain ⟨g, hg⟩ := s.killRings.resetRegs_frame l
  have h2 : s2 = { s with fab := b, host := s.host.fnCleared, regs := g } := by rw [hs2, hs1, hg, hkill]; rfl
  have hseq : s2.seq = s.seq := by rw [h2]
  rw [hseq] at hlocal hremote
  have hreg : ∀ a, s'.reg a = s1.reg a := by
    rw [ho, hq, hs2]
    exact fun _ => rfl
  rw [← hl]
  refine ⟨fun a ha => ?_, fun a ha => ?_, ?_, ?_, ?_, ?_, ?_, ?_⟩
  · rw [hreg, hs1]
    exact State.resetRegs_mem ha _
  · rw [hreg, hs1, State.resetRegs_not_mem ha, hkill]
    rfl
  · rw [ho, hq, h2]
  · rw [ho]
    exact hlocal
  · intro hr
    rw [ho, hremote hr]
    exact hseq
  · rw [ho, hq, h2]
  · rw [ho, hq, h2]
  · rw [ho, hq, h2]

/-- The update leaves what a reset of the function clears. -/
def KeepsCleared (f : HostLink → HostLink) : Prop :=
  ∀ h, (f h).ring = h.ring ∧ (f h).memEn = h.memEn ∧ (f h).bme = h.bme ∧ (f h).msixEn = h.msixEn ∧ (f h).fnMask = h.fnMask ∧
    (f h).devCtl = h.devCtl ∧ (f h).d3 = h.d3 ∧ (f h).cause = h.cause ∧ (f h).pba = h.pba ∧ (f h).msix = h.msix

/-- Settles O43: every reset of the function is `State.fnReset` and an update of the host link. -/
theorem functionResets : Obligations.FunctionResets := by
  unfold Obligations.FunctionResets
  intro s t ha sticky reset
  have hreset : ∀ (kind : Nat) (f : HostLink → HostLink), KeepsCleared f → reset (((s.at t).fnReset kind).modHost f) ∧
      (((s.at t).fnReset kind).modHost f).host = f s.host.fnCleared := by
    intro kind f hf
    obtain ⟨hin, hout, hhost, hlocal, hremote, htick, hte, hboot⟩ := (s.at t).fnReset_spec kind
    obtain ⟨hring, hmem, hbme, hmsixEn, hmask, hdev, hd3, hcause, hpba, hmsix⟩ := hf ((s.at t).fnReset kind).host
    generalize (s.at t).fnReset kind = x at *
    rw [hhost] at hring hmem hbme hmsixEn hmask hdev hd3 hcause hpba hmsix
    have hheq : (x.modHost f).host = f s.host.fnCleared := congrArg f hhost
    refine ⟨⟨fun ch => ?_, hin, hout, ?_, ?_, ?_, ?_, ?_, ?_, ?_, ?_, ?_, hlocal, hremote, htick, hte, hboot⟩, hheq⟩
    · show Tbl.get Ring.fresh (x.modHost f).host.ring ch = Ring.fresh
      rw [hheq]
      exact congrArg (fun l => Tbl.get Ring.fresh l ch) hring
    all_goals rw [hheq]; assumption
  refine ⟨?_, ?_, ?_, fun hp => ?_, fun hp => ?_, ?_, fun hd3 => ?_, fun sp wd fl hp h1 h6 hw hfl => ?_⟩
  · have hexec : exec (.flr t) s = execFlr t s := rfl
    obtain ⟨hr, hhost⟩ := hreset 1 (fun h => { h with flr := h.flr + 1, flrBusy := true }) fun h => by simp
    refine ⟨_, by rw [hexec, execFlr, timed_alive ha, State.flrStart], hr, ?_⟩
    rw [hhost]
    exact ⟨rfl, rfl, rfl, rfl⟩
  · have hexec : exec (.hotReset t) s = execHotReset t s := rfl
    obtain ⟨hr, hhost⟩ := hreset 2 (fun h => { h with hot := h.hot + 1, flrBusy := false, linkCtl := 0 }) fun h => by simp
    refine ⟨_, by rw [hexec, execHotReset, timed_alive ha], hr, ?_⟩
    rw [hhost]
    exact ⟨rfl, rfl, rfl, rfl⟩
  · have hexec : exec (.linkDown t) s = execLinkDown t s := rfl
    obtain ⟨hr, hhost⟩ := hreset 3 (fun h =>
      { h with down := h.down + 1, flrBusy := false, linkCtl := 0, dlUp := false, flit := false, speed := 0, width := 0 }) fun h => by simp
    refine ⟨_, by rw [hexec, execLinkDown, timed_alive ha], hr, ?_⟩
    rw [hhost]
    exact ⟨rfl, rfl, rfl, rfl⟩
  · have hexec : exec (.pciePerstN t) s = execPciePerstN t s := rfl
    obtain ⟨hr, hhost⟩ := hreset 3 (fun h =>
      { h with perstN := h.perstN + 1, perst := true, ready := false, flrBusy := false, linkCtl := 0, dlUp := false, flit := false, speed := 0,
               width := 0, aerU := 0, aerUM := HostLink.reset.aerUM, aerUS := HostLink.reset.aerUS, aerC := 0, aerCM := HostLink.reset.aerCM })
      fun h => by simp
    have hoff : ¬(s.at t).host.perst = true := fun h => Bool.false_ne_true (hp.symm.trans h)
    refine ⟨_, by rw [hexec, execPciePerstN, timed_alive ha, if_neg hoff], hr, ?_⟩
    rw [hhost]
    exact ⟨rfl, rfl, rfl, rfl, rfl⟩
  · have hexec : exec (.pciePerstNRelease t) s = execPciePerstNRelease t s := rfl
    rw [hexec, execPciePerstNRelease, timed_alive ha]
    exact congrArg _ (if_pos hp)
  · have hexec : exec (.flrComplete t) s = execFlrComplete t s := rfl
    rw [hexec, execFlrComplete, timed_alive ha]
    rfl
  · have hexec : exec (.d3hotEntry t) s = execD3hotEntry t s := rfl
    refine ⟨_, by rw [hexec, execD3hotEntry, timed_alive ha, State.d3Enter_eq (s := s.at t) hd3], ?_⟩
    exact (s.at t).killRings_killOnly.d3 fun ch hc => (s.at t).killRings_halts hc
  · have hexec : exec (.linkUp t sp wd fl) s = execLinkUp t sp wd fl s := rfl
    rw [hexec, execLinkUp, timed_alive ha]
    refine congrArg _ (if_neg ?_)
    show ¬(s.host.perst || sp == 0 || decide (6 < sp) || !([1, 2, 4, 8, 16].contains wd) || (sp == 6 && !fl)) = true
    have hz : (sp == 0) = false := beq_eq_false_iff_ne.2 (by omega)
    have hcontains : [1, 2, 4, 8, 16].contains wd = true := List.contains_iff_mem.2 hw
    have h64 : (sp == 6 && !fl) = false := by
      by_cases h : sp = 6
      · rw [hfl h, Bool.not_true, Bool.and_false]
      · rw [beq_eq_false_iff_ne.2 h, Bool.false_and]
    rw [hp, hz, decide_eq_false (Nat.not_lt.2 h6), hcontains, h64]
    decide

end Machine
end Sys2Proof

/-! Configuration requests, overlong reads, BAR2 writes, messages (09_host_link R309 to R316, R329, R343). -/

namespace Sys2Proof
namespace Machine

/-! Configuration requests (R307 to R311, R343). -/

section Config

variable {s : State} (ha : s.alive = true) (hp : s.host.perst = false)
include ha hp

theorem exec_configRequest_retry (hb : s.host.flrBusy = true) (t : Time) (req : CfgReq) :
    exec (.configRequest t req) s = .next { s.at t with out := .cfg 1 0 :: s.out } := by
  have hexec : exec (.configRequest t req) s = execConfigRequest t req s := rfl
  have hperst : ¬(s.at t).host.perst = true := fun h => Bool.false_ne_true (hp.symm.trans h)
  rw [hexec, execConfigRequest, timed_alive ha, if_neg hperst]
  exact congrArg _ (if_pos hb)

/-- A request that is served: the device is ready from then on. -/
theorem exec_configRequest_served (hb : s.host.flrBusy = false) (t : Time)
    (hready : s.host.ready = true ∨ 200000000 ≤ since (s.at t).now s.host.relT) (req : CfgReq) :
    exec (.configRequest t req) s = .next (((s.at t).modHost fun h => { h with ready := true }).cfgDone req) := by
  have hexec : exec (.configRequest t req) s = execConfigRequest t req s := rfl
  have hperst : ¬(s.at t).host.perst = true := fun h => Bool.false_ne_true (hp.symm.trans h)
  have hbusy : ¬(s.at t).host.flrBusy = true := fun h => Bool.false_ne_true (hb.symm.trans h)
  rw [hexec, execConfigRequest, timed_alive ha, if_neg hperst, if_neg hbusy]
  by_cases hr : s.host.ready = true
  · have hsame : (s.at t).modHost (fun h => { h with ready := true }) = s.at t := by
      have hhost : { s.host with ready := true } = s.host := by rw [← hr]
      exact congrArg (fun h => { s.at t with host := h }) hhost
    rw [hsame]
    exact congrArg _ (if_pos hr)
  · have hlate := hready.resolve_left hr
    refine congrArg _ ((if_neg hr).trans ((if_pos ?_).trans ?_))
    · rw [Bool.or_eq_true]
      exact .inl (decide_eq_true hlate)
    · exact congrArg (fun x : State => (x.modHost fun h => { h with ready := true }).cfgDone req) (if_pos hlate)

end Config

/-- All four bytes enabled: the dword written replaces the old one. -/
theorem beMask_full : beMask 0xF = 0xFFFFFFFF#32 := by decide

theorem merge_full (old v : W32) : (old &&& ~~~0xFFFFFFFF#32) ||| (v &&& 0xFFFFFFFF#32) = v := by
  have hnot : ~~~0xFFFFFFFF#32 = 0#32 := by decide
  have hall : 0xFFFFFFFF#32 = BitVec.allOnes 32 := by decide
  rw [hnot, BitVec.and_zero, BitVec.zero_or, hall, BitVec.and_allOnes]

/-- A dword of which every bit is given. -/
theorem given_full (r x : W32) : r &&& 0xFFFFFFFF#32 ||| (x &&& ~~~0xFFFFFFFF#32) = r := by
  have hnot : ~~~0xFFFFFFFF#32 = 0#32 := by decide
  have hall : 0xFFFFFFFF#32 = BitVec.allOnes 32 := by decide
  rw [hnot, BitVec.and_zero, BitVec.or_zero, hall, BitVec.and_allOnes]

/-- A bit that is given reads as given. -/
theorem bit_given {r m x : W32} {i : Nat} (hm : m.getLsbD i = true) : bit (r &&& m ||| (x &&& ~~~m)) i = bit r i := by
  simp [bit, hm]

/-- The enables of the Command register. -/
theorem bit_command (m b : Bool) : bit (pack 32 [(m.toNat, 1), (b.toNat, 2), (1, 20)] : W32) 1 = m ∧
    bit (pack 32 [(m.toNat, 1), (b.toNat, 2), (1, 20)] : W32) 2 = b := by
  revert m b
  decide

/-! Enables of the Command register and of MSI-X. -/

/-- Fetches of every ring leave the registers and the host link's enables. -/
theorem fetches_host_regs (l : List Nat) (s : State) : s.host.RingsOnly (l.foldl State.fetchDesc s).host ∧ (l.foldl State.fetchDesc s).regs = s.regs :=
  List.foldlRecOn l _ (motive := fun x : State => s.host.RingsOnly x.host ∧ x.regs = s.regs) ⟨⟨_, _, _, rfl⟩, rfl⟩ fun x hx c _ =>
    ⟨hx.1.trans (x.fetchDesc_ringKept c).1.host, (x.fetchDesc_ringKept c).1.regs.trans hx.2⟩

theorem State.msixFree_host_regs (s : State) (v : Nat) : s.host.RingsOnly (s.msixFree v).host ∧ (s.msixFree v).regs = s.regs := by
  unfold State.msixFree
  dsimp only
  split
  · unfold State.msixSend
    dsimp only
    split <;> exact ⟨⟨_, _, _, rfl⟩, rfl⟩
  · exact ⟨⟨_, _, _, rfl⟩, rfl⟩

theorem frees_host_regs (l : List Nat) (s : State) : s.host.RingsOnly (l.foldl State.msixFree s).host ∧ (l.foldl State.msixFree s).regs = s.regs :=
  List.foldlRecOn l _ (motive := fun x : State => s.host.RingsOnly x.host ∧ x.regs = s.regs) ⟨⟨_, _, _, rfl⟩, rfl⟩ fun x hx v _ =>
    ⟨hx.1.trans (x.msixFree_host_regs v).1, (x.msixFree_host_regs v).2.trans hx.2⟩

theorem State.busOn_spec (s : State) : HostLink.RingsOnly { s.host with bme := true } s.busOn.host ∧ s.busOn.regs = s.regs := by
  unfold State.busOn
  generalize List.range 16 = l
  exact fetches_host_regs l (s.modHost fun h => { h with bme := true })

theorem State.cmdWrite_spec (s : State) (m b : Bool) :
    HostLink.RingsOnly { s.host with memEn := m, bme := b } (s.cmdWrite m b).host ∧ (s.cmdWrite m b).regs = s.regs := by
  unfold State.cmdWrite
  dsimp only
  split
  · next h =>
    have hb : b = s.host.bme := beq_iff_eq.1 h
    rw [hb]
    exact ⟨⟨_, _, _, rfl⟩, rfl⟩
  · split
    · next h =>
      rw [h]
      exact (s.modHost fun x => { x with memEn := m }).busOn_spec
    · next h =>
      obtain ⟨hhost, hregs, -⟩ := (s.modHost fun x => { x with memEn := m }).busOff_spec (ch := 0) (by decide)
      rw [Bool.not_eq_true] at h
      rw [h]
      exact ⟨hhost, hregs⟩

theorem State.msixCtl_spec (s : State) (en mask : Bool) :
    HostLink.RingsOnly { s.host with msixEn := en, fnMask := mask } (s.msixCtl en mask).host ∧ (s.msixCtl en mask).regs = s.regs := by
  unfold State.msixCtl
  generalize List.range 64 = l
  exact frees_host_regs l (s.modHost fun h => { h with msixEn := en, fnMask := mask })

/-! Writes of a whole dword (R307 to R311, R343). -/

section Writes

variable (s : State) (v : W32)

theorem State.cfgWrite_command : s.cfgWrite 0x04 (beMask 0xF) v = s.cmdWrite (bit v 1) (bit v 2) := by
  have hmix := merge_full (s.cfgLow 0x04).1 v
  rw [beMask_full]
  generalize 0xFFFFFFFF#32 = m at hmix ⊢
  unfold State.cfgWrite
  dsimp only
  rw [if_pos (by decide), hmix]

theorem State.cfgWrite_msix : s.cfgWrite 0x50 (beMask 0xF) v = s.msixCtl (bit v 31) (bit v 30) := by
  have hmix := merge_full (s.cfgLow 0x50).1 v
  rw [beMask_full]
  generalize 0xFFFFFFFF#32 = m at hmix ⊢
  unfold State.cfgWrite
  dsimp only
  rw [if_neg (by decide), if_neg (by decide), if_pos (by decide), hmix]

/-- Device Control: bit 15 initiates an FLR. -/
theorem State.cfgWrite_devCtl : s.cfgWrite 0x78 (beMask 0xF) v =
    if bit v 15 then (s.modHost fun h => { h with devCtl := v.setWidth 16 &&& 0x7FFF }).flrStart
    else s.modHost fun h => { h with devCtl := v.setWidth 16 &&& 0x7FFF } := by
  have hmix := merge_full (s.host.devCtl.setWidth 32) v
  rw [beMask_full]
  generalize 0xFFFFFFFF#32 = m at hmix ⊢
  unfold State.cfgWrite
  dsimp only
  rw [if_neg (by decide), if_neg (by decide), if_neg (by decide), if_pos (by decide)]
  simp only [hmix]

theorem State.cfgWrite_aer : s.cfgWrite 0x104 (beMask 0xF) v = s.modHost fun h => { h with aerU := h.aerU &&& ~~~v } := by
  have hall : v &&& 0xFFFFFFFF#32 = v := BitVec.and_allOnes
  rw [beMask_full]
  generalize 0xFFFFFFFF#32 = m at hall ⊢
  unfold State.cfgWrite
  dsimp only
  rw [if_neg (by decide), if_neg (by decide), if_neg (by decide), if_neg (by decide), if_neg (by decide), if_pos (by decide), hall]

/-- With the FLR bit clear Device Control holds what is written. -/
theorem devCtl_written (h : bit v 15 = false) : v.setWidth 16 &&& 0x7FFF#16 = v.setWidth 16 := by
  refine BitVec.eq_of_getLsbD_eq fun i hi => ?_
  have hmask : ∀ i < 16, (0x7FFF#16).getLsbD i = decide (i ≠ 15) := by decide
  have h15 : v.getLsbD 15 = false := h
  rw [BitVec.getLsbD_and, hmask i hi]
  by_cases hi15 : i = 15
  · rw [hi15, BitVec.getLsbD_setWidth, h15, Bool.and_false, Bool.false_and]
  · rw [decide_eq_true hi15, Bool.and_true]

end Writes

/-! Bytes into the staging regions (R314, R315). -/

theorem getLsbD_ff (k : Nat) : (0xFF#32).getLsbD k = decide (k < 8) := by
  rw [BitVec.getLsbD_ofNat]
  by_cases hk : k < 8
  · have h255 : ∀ k < 8, (decide (k < 32) && Nat.testBit 255 k) = true := by decide
    rw [h255 k hk, decide_eq_true hk]
  · have hlt : 255 < 2 ^ k := lt_of_lt_of_le (by decide : 255 < 2 ^ 8) (Nat.pow_le_pow_right (by decide) (Nat.not_lt.1 hk))
    rw [Nat.testBit_lt_two_pow hlt, Bool.and_false, decide_eq_false hk]

/-- A byte of a dword replaced. -/
theorem getLsbD_byteSet (w : W32) (b : Byte) {i j : Nat} (hj : j < 32) :
    ((w &&& ~~~(0xFF#32 <<< (8 * i))) ||| (b.setWidth 32 <<< (8 * i))).getLsbD j =
      if 8 * i ≤ j ∧ j < 8 * i + 8 then b.getLsbD (j - 8 * i) else w.getLsbD j := by
  rw [BitVec.getLsbD_or, BitVec.getLsbD_and, BitVec.getLsbD_not, BitVec.getLsbD_shiftLeft, BitVec.getLsbD_shiftLeft, getLsbD_ff, BitVec.getLsbD_setWidth]
  simp only [hj, decide_true, Bool.true_and]
  by_cases hlo : j < 8 * i
  · rw [if_neg (fun h => Nat.not_le.2 hlo h.1)]
    simp [hlo]
  · by_cases hhi : j < 8 * i + 8
    · have h8 : j - 8 * i < 8 := by omega
      have h32 : j - 8 * i < 32 := by omega
      rw [if_pos ⟨Nat.not_lt.1 hlo, hhi⟩]
      simp [hlo, h8, h32]
    · have h8 : ¬j - 8 * i < 8 := by omega
      have hbit : b.getLsbD (j - 8 * i) = false := BitVec.getLsbD_of_ge _ _ (Nat.not_lt.1 h8)
      rw [if_neg (fun h => hhi h.2)]
      simp [hlo, h8, hbit]
/-- Bytes of `v` staged from `off` on. -/
def HostLink.stageN (h : HostLink) (off : Nat) (v : W64) (n : Nat) : HostLink :=
  (List.range n).foldl (fun h i => h.stage (off + i) (v.extractLsb' (8 * i) 8)) h

theorem HostLink.stageN_succ (h : HostLink) (off : Nat) (v : W64) (n : Nat) :
    h.stageN off v (n + 1) = (h.stageN off v n).stage (off + n) (v.extractLsb' (8 * n) 8) := by
  rw [HostLink.stageN, List.range_succ, List.foldl_append]
  rfl

theorem State.stage_bytes (s : State) (off : Nat) (v : W64) (n : Nat) :
    (List.range n).foldl (fun s i => s.modHost fun h => h.stage (off + i) (v.extractLsb' (8 * i) 8)) s = s.modHost fun h => h.stageN off v n := by
  induction n with
  | zero => rfl
  | succ n ih =>
    rw [List.range_succ, List.foldl_append, ih]
    exact congrArg (fun h => { s with host := h }) (s.host.stageN_succ off v n).symm

section Staging

variable (h : HostLink) {off : Nat} (v : W64)

/-- Bytes into the parameters: each at its place, no other place. -/
theorem HostLink.stageN_params (ho : 0x2104000 ≤ off) (n : Nat) : ∃ p, h.stageN off v n = { h with stParams := p } ∧
    (∀ i, i < n → Tbl.get 0 p (off - 0x2104000 + i) = v.extractLsb' (8 * i) 8) ∧
    ∀ a, a < off - 0x2104000 ∨ off - 0x2104000 + n ≤ a → Tbl.get 0 p a = Tbl.get 0 h.stParams a := by
  induction n with
  | zero => exact ⟨h.stParams, rfl, fun i hi => absurd hi (Nat.not_lt_zero i), fun _ _ => rfl⟩
  | succ n ih =>
    obtain ⟨p, heq, hin, hout⟩ := ih
    have hplace : off + n - 0x2104000 = off - 0x2104000 + n := by omega
    refine ⟨Tbl.set 0 p (off - 0x2104000 + n) (v.extractLsb' (8 * n) 8), ?_, fun i hi => ?_, fun a ha => ?_⟩
    · rw [HostLink.stageN_succ, heq, HostLink.stage, if_neg (by omega), hplace]
    · obtain hlt | rfl := Nat.lt_succ_iff_lt_or_eq.1 hi
      · rw [Tbl.get_set_ne _ _ _ _ _ _ (by omega), hin i hlt]
      · exact Tbl.get_set_same ..
    · rw [Tbl.get_set_ne _ _ _ _ _ _ (by omega), hout a (by omega)]

/-- Bytes into one dword of the image: bits of that dword, no other dword. -/
theorem HostLink.stageN_image (ho : 0x2100000 ≤ off) (hw : off + 4 ≤ 0x2104000) (h4 : off % 4 = 0) {n : Nat} (hn : n ≤ 4) :
    ∃ p, h.stageN off v n = { h with stImage := p } ∧
    (∀ j, j < 32 → (Tbl.get 0 p ((off - 0x2100000) / 4)).getLsbD j =
      if j < 8 * n then v.getLsbD j else (Tbl.get 0 h.stImage ((off - 0x2100000) / 4)).getLsbD j) ∧
    ∀ k, k ≠ (off - 0x2100000) / 4 → Tbl.get 0 p k = Tbl.get 0 h.stImage k := by
  induction n with
  | zero => exact ⟨h.stImage, rfl, fun j _ => (if_neg (Nat.not_lt_zero j)).symm, fun _ _ => rfl⟩
  | succ n ih =>
    obtain ⟨p, heq, hin, hout⟩ := ih (by omega)
    have hplace : (off + n - 0x2100000) / 4 = (off - 0x2100000) / 4 := by omega
    have hbyte : (off + n) % 4 = n := by omega
    refine ⟨Tbl.set 0 p ((off - 0x2100000) / 4) ((Tbl.get 0 p ((off - 0x2100000) / 4) &&& ~~~(0xFF#32 <<< (8 * n))) |||
      ((v.extractLsb' (8 * n) 8).setWidth 32 <<< (8 * n))), ?_, fun j hj => ?_, fun k hk => ?_⟩
    · rw [HostLink.stageN_succ, heq, HostLink.stage, if_pos (by omega), hplace, hbyte]
    · rw [Tbl.get_set_same, getLsbD_byteSet _ _ hj, hin j hj]
      by_cases hlo : j < 8 * n
      · rw [if_neg (by omega), if_pos hlo, if_pos (by omega)]
      · by_cases hhi : j < 8 * n + 8
        · have hbit : (v.extractLsb' (8 * n) 8).getLsbD (j - 8 * n) = v.getLsbD j := by
            rw [BitVec.getLsbD_extractLsb', decide_eq_true (by omega), Bool.true_and]
            congr 1
            omega
          rw [if_pos (by omega), if_pos (by omega), hbit]
        · rw [if_neg (by omega), if_neg hlo, if_neg (by omega)]
    · rw [Tbl.get_set_ne _ _ _ _ _ _ hk, hout k hk]

/-- Four bytes are the dword. -/
theorem HostLink.stageN_dword (ho : 0x2100000 ≤ off) (hw : off + 4 ≤ 0x2104000) (h4 : off % 4 = 0) :
    ∃ p, h.stageN off v 4 = { h with stImage := p } ∧ Tbl.get 0 p ((off - 0x2100000) / 4) = v.setWidth 32 ∧
    ∀ k, k ≠ (off - 0x2100000) / 4 → Tbl.get 0 p k = Tbl.get 0 h.stImage k := by
  obtain ⟨p, heq, hin, hout⟩ := h.stageN_image v ho hw h4 (n := 4) (by decide)
  refine ⟨p, heq, BitVec.eq_of_getLsbD_eq fun j hj => ?_, hout⟩
  rw [hin j hj, if_pos (by omega), BitVec.getLsbD_setWidth, decide_eq_true hj, Bool.true_and]

end Staging

/-! Requests to BAR0 and BAR2. -/

section Bars

variable {s : State} (ha : s.alive = true)
include ha

theorem exec_bar2Write (t : Time) (off nb : Nat) (v : W64) (hm : s.host.memEn = true) (hr : s.running = true) (hl : s.te.loadBusy = false) (hn : nb ≤ 8)
    (hin : inStaging off nb = true) : exec (.bar2Write t off nb v) s = .next ((s.at t).modHost fun h => h.stageN off v nb) := by
  have hexec : exec (.bar2Write t off nb v) s = execBar2Write t off nb v s := rfl
  rw [hexec, execBar2Write, timed_alive ha, ← State.stage_bytes]
  refine congrArg _ ((if_neg ?_).trans ((if_neg ?_).trans (if_pos ?_)))
  · show ¬(!s.host.memEn) = true
    rw [hm]
    decide
  · show ¬(!s.running || s.te.loadBusy) = true
    rw [hr, hl]
    decide
  · rw [decide_eq_true hn, hin]
    rfl

/-- With Memory Space disabled every request is an Unsupported Request. -/
theorem exec_bar2Write_disabled (t : Time) (off nb : Nat) (v : W64) (hm : s.host.memEn = false) :
    exec (.bar2Write t off nb v) s = .next ((s.at t).aer 20) := by
  have hexec : exec (.bar2Write t off nb v) s = execBar2Write t off nb v s := rfl
  rw [hexec, execBar2Write, timed_alive ha]
  refine congrArg _ (if_pos ?_)
  show (!s.host.memEn) = true
  rw [hm]
  rfl

theorem exec_bar2Write_rejected (t : Time) (off nb : Nat) (v : W64) (hm : s.host.memEn = true) (hr : s.running = false ∨ s.te.loadBusy = true) :
    exec (.bar2Write t off nb v) s = .next ((s.at t).reject 4 0 off) := by
  have hexec : exec (.bar2Write t off nb v) s = execBar2Write t off nb v s := rfl
  rw [hexec, execBar2Write, timed_alive ha]
  refine congrArg _ ((if_neg ?_).trans (if_pos ?_))
  · show ¬(!s.host.memEn) = true
    rw [hm]
    decide
  · show (!s.running || s.te.loadBusy) = true
    obtain hr | hl := hr
    · rw [hr]
      rfl
    · rw [hl, Bool.or_true]

theorem exec_bar0OverlongRead (t : Time) {off nb : Nat} (h8 : 8 < off % 8 + nb) :
    exec (.bar0OverlongRead t off nb) s = .next (if s.host.memEn then ((s.at t).emit (.rdAbort off)).aer 15 else (s.at t).aer 20) := by
  have hexec : exec (.bar0OverlongRead t off nb) s = execBar0OverlongRead t off nb s := rfl
  have hlong : (decide (8 < off % 8 + nb) || nb == 0) = true := by rw [decide_eq_true h8, Bool.true_or]
  rw [hexec, execBar0OverlongRead, timed_alive ha, if_pos h8]
  refine congrArg _ ?_
  unfold State.busRead
  dsimp only
  rw [if_pos hlong]
  cases hm : s.host.memEn with
  | true => exact if_neg (show ¬(!s.host.memEn) = true by rw [hm]; decide)
  | false => exact if_pos (show (!s.host.memEn) = true by rw [hm]; rfl)

end Bars

/-- A message that is not masked. -/
theorem State.msix_sent (s : State) {v : Nat} (he : s.host.msixEn = true) (hb : s.host.bme = true)
    (hm : (Tbl.get Msix.masked s.host.msix v).mask = false) (hf : s.host.fnMask = false) : s.msix v = s.msixSend v := by
  unfold State.msix
  dsimp only
  rw [he, hb, hm, hf]
  rfl

/-- Settles O44: requests by their kind; a write of a dword replaces it whole, and staged bytes go to their places. -/
theorem hostRequests : Obligations.HostRequests := by
  unfold Obligations.HostRequests
  intro s t ha unsupported
  refine ⟨fun hp => ⟨fun req hb => exec_configRequest_retry ha hp hb t req, fun hb hready => ?_⟩, fun off nb h8 => ⟨fun hm => ?_, fun hm => ?_⟩,
    fun off nb v hm hr hl hn => ⟨fun hlo hhi => ?_, fun hlo hhi h4 hnb => ?_⟩, fun off nb v => ⟨fun hm hr => ?_, fun hm => ?_⟩,
    fun vec m hb he hmeq => ⟨fun hm => ?_, fun hm hf => ?_⟩⟩
  · have hserved := exec_configRequest_served ha hp hb t hready
    refine ⟨?_, ?_, fun v => ?_, fun v => ?_, fun v => ?_, fun v => ?_⟩
    · rw [hserved]
      have hword : (0x32041F5C &&& 0xFFFFFFFF#32 ||| ((Config.freeValue s.free).setWidth 32 &&& ~~~0xFFFFFFFF#32)) = 0x32041F5C#32 := given_full ..
      exact congrArg (fun w => Host.Outcome.next { s.at t with
        out := .cfg 0 w :: s.out, host := { s.host with ready := true }, free := s.free + 1 }) hword
    · obtain ⟨hmem, hbme⟩ := bit_command s.host.memEn s.host.bme
      exact ⟨_, hserved _, (bit_given (m := 0x00100006#32) (by decide)).trans hmem,
        (bit_given (m := 0x00100006#32) (by decide)).trans hbme⟩
    · obtain ⟨⟨r, c, p, hhost⟩, hregs⟩ := ((s.at t).modHost fun h => { h with ready := true }).cmdWrite_spec (bit v 1) (bit v 2)
      refine ⟨_, hserved _, ?_⟩
      rw [State.cfgDone, State.cfgWrite_command]
      exact ⟨congrArg HostLink.memEn hhost, congrArg HostLink.bme hhost, hregs⟩
    · obtain ⟨⟨r, c, p, hhost⟩, hregs⟩ := ((s.at t).modHost fun h => { h with ready := true }).msixCtl_spec (bit v 31) (bit v 30)
      refine ⟨_, hserved _, ?_⟩
      rw [State.cfgDone, State.cfgWrite_msix]
      exact ⟨congrArg HostLink.msixEn hhost, congrArg HostLink.fnMask hhost, hregs⟩
    · refine ⟨_, hserved _, ?_⟩
      rw [State.cfgDone, State.cfgWrite_devCtl]
      cases hv : bit v 15 with
      | true =>
        obtain ⟨-, -, hhost, -⟩ := (((s.at t).modHost fun h => { h with ready := true }).modHost fun h =>
          { h with devCtl := v.setWidth 16 &&& 0x7FFF }).fnReset_spec 1
        rw [if_pos rfl, if_pos rfl, State.flrStart]
        exact ⟨rfl, (congrArg (fun h : HostLink => h.flr + 1) hhost :), (congrArg HostLink.devCtl hhost :)⟩
      | false =>
        rw [if_neg Bool.false_ne_true, if_neg Bool.false_ne_true]
        exact ⟨devCtl_written v hv, rfl⟩
    · rw [hserved, State.cfgDone, State.cfgWrite_aer]
      rfl
  · rw [exec_bar0OverlongRead ha t h8, hm, if_pos rfl, State.aer_eq]
    rfl
  · show exec _ s = _
    rw [exec_bar0OverlongRead ha t h8, hm, if_neg Bool.false_ne_true, State.aer_eq]
    rfl
  · have hin : inStaging off nb = true := by
      unfold inStaging
      rw [decide_eq_true hlo, decide_eq_true hhi]
      exact Bool.or_true _
    obtain ⟨p, heq, hbytes, hrest⟩ := s.host.stageN_params v hlo nb
    refine ⟨_, exec_bar2Write ha t off nb v hm hr hl hn hin, ?_⟩
    have hhost : ((s.at t).modHost fun h => h.stageN off v nb) = { s.at t with host := { s.host with stParams := p } } :=
      congrArg (fun h => { s.at t with host := h }) heq
    rw [hhost]
    exact ⟨hbytes, hrest, rfl⟩
  · subst hnb
    have hin : inStaging off 4 = true := by
      unfold inStaging
      rw [decide_eq_true hlo, decide_eq_true hhi]
      rfl
    obtain ⟨p, heq, hword, hrest⟩ := s.host.stageN_dword v hlo (by omega) h4
    refine ⟨_, exec_bar2Write ha t off 4 v hm hr hl hn hin, ?_⟩
    have hhost : ((s.at t).modHost fun h => h.stageN off v 4) = { s.at t with host := { s.host with stImage := p } } :=
      congrArg (fun h => { s.at t with host := h }) heq
    rw [hhost]
    exact ⟨hword, hrest, rfl⟩
  · exact ⟨_, exec_bar2Write_rejected ha t off nb v hm hr, rfl, rfl⟩
  · show exec _ s = _
    rw [exec_bar2Write_disabled ha t off nb v hm, State.aer_eq]
    rfl
  · subst hmeq
    exact s.msix_masked vec he hb hm
  · subst hmeq
    rw [s.msix_sent he hb hm hf, State.msixSend]
    by_cases hv : vec < 16
    · rw [if_pos hv]
      exact ⟨rfl, rfl, fun _ => congrArg Ring.irqT (s.ring_modRing_same vec fun r => { r with irqT := some s.now }),
        fun h => absurd hv (Nat.not_lt.2 h)⟩
    · rw [if_neg hv]
      exact ⟨rfl, rfl, fun h => absurd h hv, fun _ => rfl⟩

end Machine
end Sys2Proof

/-! The reference sources of the CPLL (10_clocks R351 to R354, R547). -/

namespace Sys2Proof
namespace Machine

/-! The gating of the CPLL domains (R357, R359, R360). -/

/-- A table whose values are all mapped. -/
theorem Tbl.get_map_val {α : Type} (d : α) (g : α → α) (hd : g d = d) (t : Tbl α) (k : Nat) :
    Tbl.get d (t.map fun p => (p.1, g p.2)) k = g (Tbl.get d t k) := by
  induction t with
  | nil => exact hd.symm
  | cons p t ih =>
    rw [List.map_cons, Tbl.get, Tbl.get]
    split
    · rfl
    · exact ih

theorem State.failLine_fabOnly (s : State) (reason code n : Nat) : FabOnly s (s.failLine reason code n) := by
  unfold State.failLine
  split
  · exact .refl
  · split
    · exact (s.cover_fabOnly true reason code n 0 1023).trans ⟨_, rfl⟩
    · exact s.stageOn_frame _ _

theorem State.coverRuns_fabOnly (s : State) (rs : List (Nat × Nat)) (n ch : Nat) (l : Line) :
    FabOnly s (rs.foldl (fun s r => s.coverCh true 0x07 0 n r.1 r.2 ch l) s) := by
  induction rs generalizing s with
  | nil => exact .refl
  | cons r rs ih => exact (s.coverCh_fabOnly true 0x07 0 n r.1 r.2 ch l).trans (ih _)

/-- The failing of lines is a matter of the result fabric. -/
theorem State.clockFail_fabOnly (s : State) (lastPass : Time) : FabOnly s (s.clockFail lastPass) := by
  unfold State.clockFail
  refine FabOnly.foldl (fun s p => ?_) _ _
  dsimp only
  split
  · exact .refl
  · split
    · exact (s.failLine_fabOnly 0x07 0 p.1).trans ⟨_, rfl⟩
    · split
      · exact .refl
      · refine FabOnly.trans (FabOnly.foldl (fun s ch => ?_) _ s) ⟨_, rfl⟩
        exact s.coverRuns_fabOnly _ _ _ _

/-- What the end of a range of object lines not taken touches. -/
theorem State.endGap_frame (s : State) (enc : B48) (prov : Bool) :
    ∃ g n f b, s.endGap enc prov = { s with tick := { s.tick with gap := g, gapN := n }, free := f, fab := b } := by
  unfold State.endGap
  split
  · exact ⟨_, _, _, _, rfl⟩
  · next reason line e0 x r h =>
    obtain ⟨f, hf⟩ := State.gapLines_frame (s.modTick fun k => { k with gapN := k.gapN + BitVec.ofNat 32 (s.linesIn ((enc - e0).toInt + r)).1 })
      reason line.toNat (s.linesIn ((enc - e0).toInt + r)).1 e0 enc s.lastTime prov
    dsimp only
    rw [hf]
    split <;> exact ⟨_, _, _, _, rfl⟩

/-- What the gating of the CPLL domains does to the clocks, the held trigger, the slots, and what it leaves. -/
theorem State.gateCpll_spec (s : State) (cause : Nat) (start lastPass : Time) (target : Nat) : let s' := s.gateCpll cause start lastPass target
    (s'.clk.gated = true ∧ s'.clk.cLock = false ∧ s'.clk.intr = some (s.clk.intr.getD start) ∧ s'.clk.ref = target ∧ s'.clk.fN = s.clk.fN ∧
      s'.clk.absent = s.clk.absent ∧ s'.clk.cN = s.clk.cN + 1 ∧ s'.clk.intrCause = if target = 3 then 4 else cause) ∧
    s'.host.cause.getLsbD 6 = true ∧ s'.regs = s.regs ∧ s'.tick.held = none ∧ s'.tick.line = s.tick.line ∧
    ∀ e, (s'.eng e).slots = (s.eng e).slots.map fun q => { q with rev := q.rev || q.held } := by
  unfold State.gateCpll
  extract_lets s1 base held now new s2 s3 s4 s5 s6 s7 s'
  have h1 : ∃ g n f b, s1 = { s with tick := { s.tick with gap := g, gapN := n }, free := f, fab := b } := by
    dsimp only [s1]
    split
    · exact s.endGap_frame _ _
    · exact ⟨_, _, _, _, rfl⟩
  clear_value s1
  obtain ⟨g, n, f, b, rfl⟩ := h1
  obtain ⟨b', h3⟩ : FabOnly s2 s3 := s2.clockFail_fabOnly lastPass
  clear_value s3
  subst h3
  have heng : ∀ e, (s7.eng e).slots = (s.eng e).slots.map fun q => { q with rev := q.rev || q.held } := fun e =>
    congrArg Engine.slots (Tbl.get_map_val Engine.fresh (fun x => { x with slots := x.slots.map fun q => { q with rev := q.rev || q.held } }) rfl
      s.te.eng e)
  obtain ⟨h, o, heq, hcause⟩ := s7.raise_frame (v := 22) (by decide)
  have hs' : s' = State.relock { s7 with host := h, out := o } target := congrArg (fun x => State.relock x target) heq
  clear_value s'
  subst hs'
  have hclk : s7.clk.gated = true ∧ s7.clk.cLock = false ∧ s7.clk.intr = some (s.clk.intr.getD start) ∧ s7.clk.fN = s.clk.fN ∧
      s7.clk.absent = s.clk.absent ∧ s7.clk.cN = s.clk.cN + 1 ∧ s7.clk.intrCause = cause := by
    dsimp only [s7, State.modClk]
    split <;> exact ⟨rfl, rfl, rfl, rfl, rfl, rfl, rfl⟩
  have hrest : s7.regs = s.regs ∧ s7.tick.held = none ∧ s7.tick.line = s.tick.line := ⟨rfl, rfl, rfl⟩
  clear_value s7
  obtain ⟨hgated, hlock, hintr, hfN, habsent, hcN, hic⟩ := hclk
  obtain ⟨hregs, hheld, hline⟩ := hrest
  refine ⟨⟨hgated, hlock, hintr, rfl, hfN, habsent, hcN, ?_⟩, hcause, hregs, hheld, hline, heng⟩
  show (if target == 3 then 4 else s7.clk.intrCause) = _
  rw [hic]
  simp only [beq_iff_eq]

/-! Failover (R352, R354). -/

theorem State.countFailover_frame (s : State) :
    ∃ h o, s.countFailover = { s with clk := { s.clk with fN := s.clk.fN + 1 }, host := h, out := o } ∧ h.cause.getLsbD 6 = true := by
  obtain ⟨h, o, heq, hcause⟩ := (s.modClk fun c => { c with fN := c.fN + 1 }).raise_frame (v := 22) (by decide)
  exact ⟨h, o, heq, hcause⟩

/-- A source that is absent is never taken. -/
theorem State.refOk_absent {s : State} {r : Nat} (h : bit s.clk.absent r = true) : s.refOk r = false := by
  rw [State.refOk, h]
  rfl

theorem find_getD_ne {l : List Nat} {p : Nat → Bool} {r d : Nat} (hp : p r = false) (hd : r ≠ d) : (l.find? p).getD d ≠ r := by
  cases hf : l.find? p with
  | none => exact hd.symm
  | some x =>
    rintro rfl
    exact Bool.false_ne_true (hp.symm.trans (List.find?_some hf))

theorem State.refNext_ne {s : State} {r : Nat} (h : bit s.clk.absent r = true) (h3 : r ≠ 3) (x : Nat) : s.refNext x ≠ r := by
  unfold State.refNext
  split
  · exact find_getD_ne (State.refOk_absent h) h3
  · exact find_getD_ne (State.refOk_absent h) h3

/-- The bit of a source that has gone absent. -/
theorem bit_absent (a : BitVec 3) {r : BitVec 2} (h : r ≠ 3) : bit (a ||| (1#3 <<< r.toNat)) r.toNat = true := by
  revert a r
  decide

/-- The mark of a source that is absent. -/
def State.markAbsent (s : State) (r : Nat) : State := s.modClk fun c => { c with absent := c.absent ||| (1#3 <<< r) }

theorem State.refLost_other {s : State} {r : Nat} (ha : bit s.clk.absent r = false) (hr : s.clk.ref ≠ r) : s.refLost r = s.markAbsent r := by
  unfold State.refLost
  rw [if_neg (by rw [ha]; exact Bool.false_ne_true)]
  exact if_pos (bne_iff_ne.2 hr)

theorem State.refLost_locked {s : State} {r : Nat} (ha : bit s.clk.absent r = false) (hr : s.clk.ref = r) (hl : s.clk.cLock = true) :
    s.refLost r = (s.markAbsent r).failover := by
  unfold State.refLost
  rw [if_neg (by rw [ha]; exact Bool.false_ne_true)]
  refine (if_neg ?_).trans (if_pos hl)
  show ¬(s.clk.ref != r) = true
  rw [hr, bne_self_eq_false]
  exact Bool.false_ne_true

/-- A further loss within an interruption. -/
def State.goOn (s : State) (nxt : Nat) : State :=
  ((if nxt == 3 || s.clk.again then s else s.countFailover).modClk fun c => { c with intrCause := 2 }).relock nxt

theorem State.refLost_again {s : State} {r : Nat} (ha : bit s.clk.absent r = false) (hr : s.clk.ref = r) (hl : s.clk.cLock = false) {x : Time}
    (hi : s.clk.intr = some x) : s.refLost r = (s.markAbsent r).goOn ((s.markAbsent r).refNext r) := by
  unfold State.refLost
  rw [if_neg (by rw [ha]; exact Bool.false_ne_true)]
  refine (if_neg ?_).trans ((if_neg ?_).trans (if_neg ?_))
  · show ¬(s.clk.ref != r) = true
    rw [hr, bne_self_eq_false]
    exact Bool.false_ne_true
  · show ¬s.clk.cLock = true
    rw [hl]
    exact Bool.false_ne_true
  · show ¬s.clk.intr.isNone = true
    rw [hi]
    exact Bool.false_ne_true

theorem State.failover_spec (s : State) : let nxt := s.refNext s.clk.ref
    s.failover.clk.gated = true ∧ s.failover.clk.cLock = false ∧ s.failover.clk.intr = some (s.clk.intr.getD s.now) ∧
      s.failover.clk.absent = s.clk.absent ∧ s.failover.clk.ref = nxt ∧ s.failover.clk.fN = (if nxt = 3 then s.clk.fN else s.clk.fN + 1) ∧
      s.failover.clk.intrCause = (if nxt = 3 then 4 else 2) ∧ s.failover.host.cause.getLsbD 6 = true ∧ s.failover.regs = s.regs := by
  unfold State.failover
  extract_lets nxt s1
  have h1 : ∃ h o, s1 = { s with clk := { s.clk with fN := if nxt = 3 then s.clk.fN else s.clk.fN + 1 }, host := h, out := o } := by
    dsimp only [s1]
    simp only [beq_iff_eq]
    by_cases h3 : nxt = 3
    · rw [if_pos h3, if_pos h3]
      exact ⟨_, _, rfl⟩
    · rw [if_neg h3, if_neg h3]
      obtain ⟨h, o, heq, -⟩ := s.countFailover_frame
      exact ⟨h, o, heq⟩
  clear_value s1 nxt
  obtain ⟨h, o, rfl⟩ := h1
  obtain ⟨⟨hgated, hlock, hintr, href, hfN, habsent, -, hic⟩, hcause, hregs, -⟩ := State.gateCpll_spec (State.useFree { s with
    clk := { s.clk with fN := if nxt = 3 then s.clk.fN else s.clk.fN + 1 }, host := h, out := o }) 2 s.now
    (State.window { s with clk := { s.clk with fN := if nxt = 3 then s.clk.fN else s.clk.fN + 1 }, host := h, out := o } (s.now - 400)) nxt
  exact ⟨hgated, hlock, hintr, habsent, href, hfN, hic, hcause, hregs⟩

theorem State.goOn_spec (s : State) (nxt : Nat) : (s.goOn nxt).clk.ref = nxt ∧ (s.goOn nxt).clk.relockT = s.now ∧
    (s.goOn nxt).clk.intr = s.clk.intr ∧ (s.goOn nxt).clk.gated = s.clk.gated ∧
    (s.goOn nxt).clk.fN = (if nxt = 3 ∨ s.clk.again = true then s.clk.fN else s.clk.fN + 1) ∧
    (s.goOn nxt).clk.intrCause = (if nxt = 3 then 4 else 2) ∧ (s.goOn nxt).regs = s.regs := by
  have hcause : (if nxt == 3 then 4 else 2) = if nxt = 3 then 4 else 2 := by simp only [beq_iff_eq]
  unfold State.goOn
  by_cases h : nxt = 3 ∨ s.clk.again = true
  · rw [if_pos (by simpa using h), if_pos h]
    exact ⟨rfl, rfl, rfl, rfl, rfl, hcause, rfl⟩
  · obtain ⟨x, o, heq, -⟩ := s.countFailover_frame
    rw [if_neg (by simpa using h), if_neg h, heq]
    exact ⟨rfl, rfl, rfl, rfl, rfl, hcause, rfl⟩

/-! Presence (R351, R354). -/

theorem toNat_ne_three {r : BitVec 2} (h : r ≠ 3) : r.toNat ≠ 3 := by
  revert r
  decide

theorem exec_refAbsent {s : State} (ha : s.alive = true) (t : Time) {r : BitVec 2} (h3 : r ≠ 3) :
    exec (.refAbsent t r) s = .next ((s.at t).refLost r.toNat) := by
  have hexec : exec (.refAbsent t r) s = execRefAbsent t r s := rfl
  rw [hexec, execRefAbsent, timed_alive ha, if_neg (mt beq_iff_eq.1 (show r ≠ 3#2 from h3))]

/-- A relock that has taken 20 us. -/
theorem exec_relockTimeout {s : State} (ha : s.alive = true) (t : Time) (hg : s.clk.gated = true) (hr : s.clk.ref ≠ 3)
    (hlate : 40000 ≤ since (s.at t).now s.clk.relockT) : exec (.relockTimeout t) s = .next (
      if s.refAfter s.clk.ref == 3 then ((s.at t).modClk fun c => { c with again := true }).relock s.refFirst
      else if s.clk.again then (s.at t).relock (s.refAfter s.clk.ref)
      else ((s.at t).countFailover.modClk fun c => { c with intrCause := 2 }).relock (s.refAfter s.clk.ref)) := by
  have hexec : exec (.relockTimeout t) s = execRelockTimeout t s := rfl
  rw [hexec, execRelockTimeout, timed_alive ha]
  refine congrArg _ (if_neg ?_)
  show ¬(!s.clk.gated || s.clk.ref == 3 || decide (since (s.at t).now s.clk.relockT < 40000)) = true
  rw [hg, beq_eq_false_iff_ne.2 hr, decide_eq_false (Nat.not_lt.2 hlate)]
  decide

/-- A register reads the same where the stored registers are the same. -/
theorem reg_of_regs {s s' : State} (h : s'.regs = s.regs) (o : Nat) : s'.reg o = s.reg o := by
  rw [State.reg, State.cell, h]
  rfl

/-- With LREF alone present it is the first of either order. -/
theorem State.refFirst_lref {s : State} (h0 : bit s.clk.absent 0 = false) (h1 : bit s.clk.absent 1 = true) : s.refFirst = 0 := by
  have hok : s.refOk 0 = true := by
    rw [State.refOk, h0]
    rfl
  have hno : s.refOk 1 = false := State.refOk_absent h1
  unfold State.refFirst State.refOrder
  split
  · rw [List.find?_cons_of_neg (by rw [hno]; exact Bool.false_ne_true), List.find?_cons_of_pos hok]
    rfl
  · rw [List.find?_cons_of_pos hok]
    rfl

theorem execRefPresent_present {s : State} (ha : s.alive = true) (t : Time) {r : BitVec 2} (h3 : r ≠ 3) (hb : bit s.clk.absent r.toNat = true) :
    exec (.refPresent t r) s = .next (
      let s := (s.at t).modClk fun c => { c with absent := c.absent &&& ~~~(1#3 <<< r.toNat) }
      if s.clk.gated && s.clk.ref == 3 then s.relock s.refFirst else s) := by
  have hexec : exec (.refPresent t r) s = execRefPresent t r s := rfl
  rw [hexec, execRefPresent, timed_alive ha]
  refine congrArg _ (if_neg ?_)
  show ¬(r == 3#2 || !bit s.clk.absent r.toNat) = true
  rw [hb, beq_eq_false_iff_ne.2 (show r ≠ 3#2 from h3)]
  decide

/-! Writes to CLK_REF (R353). -/

theorem rwReg_clkRef : rwReg 0x180008 = some (0x40000000, 0xC0000000, false) := by decide

section ClkRef

variable {s : State} {w : Wr} {v : W32}

theorem State.clkRefWrite_unplugged (hv : fld v 31 31 = 1) (hup : s.hng.up.st = 0 ∨ s.hng.up.st = 1) :
    s.clkRefWrite w v = s.reject 3 w.src 0x180008 := by
  have hdown : (s.hng.up.st == 0 || s.hng.up.st == 1) = true := by simpa using hup
  unfold State.clkRefWrite
  rw [hv, hdown]
  rfl

theorem State.clkRefWrite_absent (hv : fld v 31 31 = 0) (hrev : bit v 29 = true) (hb : bit s.clk.absent 0 = true) :
    s.clkRefWrite w v = s.reject 4 w.src 0x180008 := by
  unfold State.clkRefWrite
  rw [hv, hrev]
  dsimp only
  rw [hb]
  rfl

/-- A write that no rule rejects. -/
theorem State.clkRefWrite_stored (hv : fld v 31 31 = 0) (hok : bit v 29 = false ∨ bit s.clk.absent 0 = false) :
    ∃ f, s.clkRefWrite w v =
      let s' : State := { s.putReg 0x180008 (v &&& 0xC0000000) with flt := f }
      if !(bit v 29 || 0 != s.primary) || s.clk.ref == 0 || bit s.clk.absent 0 then
        if s.clk.gated && s.clk.ref == 3 then s'.relock s'.refFirst else s'
      else if s.clk.cLock then s'.useFree.gateCpll 3 s'.now (s'.window s'.now) 0
      else if s.clk.intr.isNone then s'
      else (s'.modClk fun c => { c with intrCause := 3 }).relock 0 := by
  have hrej : ¬(bit v 29 && bit s.clk.absent 0) = true := by
    obtain h | h := hok
    · rw [h]
      exact Bool.false_ne_true
    · rw [h, Bool.and_false]
      exact Bool.false_ne_true
  refine ⟨{ s.flt with repair := s.flt.repair.filter (· != 0x180008) }, ?_⟩
  unfold State.clkRefWrite
  dsimp only
  rw [hv, if_neg (fun h => absurd ((Bool.and_eq_true _ _).mp h).1 (by decide)), if_neg hrej, s.storeReg_unbanked rwReg_clkRef]
  rfl

/-- A write that changes to another source that is present. -/
theorem State.clkRefWrite_changes (hv : fld v 31 31 = 0) (hchange : bit v 29 = true ∨ s.primary = 1) (hb : bit s.clk.absent 0 = false)
    (hr : s.clk.ref ≠ 0) : ∃ f, s.clkRefWrite w v =
      let s' : State := { s.putReg 0x180008 (v &&& 0xC0000000) with flt := f }
      if s.clk.cLock then s'.useFree.gateCpll 3 s'.now (s'.window s'.now) 0
      else if s.clk.intr.isNone then s'
      else (s'.modClk fun c => { c with intrCause := 3 }).relock 0 := by
  obtain ⟨f, heq⟩ := State.clkRefWrite_stored (w := w) hv (.inr hb)
  refine ⟨f, heq.trans (if_neg ?_)⟩
  have hgo : (bit v 29 || 0 != s.primary) = true := by
    obtain h | h := hchange
    · rw [h]
      rfl
    · rw [h]
      exact Bool.or_true _
  rw [hgo, hb, beq_eq_false_iff_ne.2 hr]
  decide

end ClkRef

/-- Settles O45: each rule on the references names one branch of the loss, the presence, the relock, or the write to CLK_REF. -/
theorem referenceSources : Obligations.ReferenceSources := by
  unfold Obligations.ReferenceSources
  intro s t r v src ha
  refine ⟨fun h3 hb hr => ?_, fun h3 hb hr hl => ?_, fun x hx h3 hb hr hl => ?_, fun h3 hb hno => ?_, fun h0 h1 h2 hg hr => ?_,
    fun ppm h0 h2 hlo hhi => ?_, fun hg hr hlate => ⟨fun hnext hagain => ?_, fun hnone hfirst => ?_, fun hnext hagain => ?_⟩, fun i hi hreach => ?_⟩
  · rw [exec_refAbsent ha t h3, State.refLost_other (s := s.at t) hb hr]
    rfl
  · obtain ⟨hgated, hlock, hintr, habsent, href, hfN, hic, hcause, hregs⟩ := ((s.at t).markAbsent r.toNat).failover_spec
    have hmark : bit ((s.at t).markAbsent r.toNat).clk.absent r.toNat = true := bit_absent s.clk.absent h3
    refine ⟨((s.at t).markAbsent r.toNat).failover, ?_, hgated, hlock, hintr, ?_, ?_, ?_, ?_, hcause, hregs⟩
    · rw [exec_refAbsent ha t h3, State.refLost_locked (s := s.at t) hb hr hl]
    · rw [habsent]
      exact hmark
    · rw [href]
      exact State.refNext_ne hmark (toNat_ne_three h3) _
    · rw [hfN, href]
      rfl
    · rw [hic, href]
  · have hmark : bit ((s.at t).markAbsent r.toNat).clk.absent r.toNat = true := bit_absent s.clk.absent h3
    obtain ⟨href, hrel, hintr, hgated, hfN, hic, hregs⟩ := ((s.at t).markAbsent r.toNat).goOn_spec (((s.at t).markAbsent r.toNat).refNext r.toNat)
    refine ⟨((s.at t).markAbsent r.toNat).goOn (((s.at t).markAbsent r.toNat).refNext r.toNat), ?_, ?_, hrel, hintr.trans hx, hgated, ?_, ?_, hregs⟩
    · rw [exec_refAbsent ha t h3, State.refLost_again (s := s.at t) hb hr hl hx]
    · rw [href]
      exact State.refNext_ne hmark (toNat_ne_three h3) _
    · rw [hfN, href]
      rfl
    · rw [hic, href]
  · rw [execRefPresent_present ha t h3 hb]
    refine congrArg _ (if_neg ?_)
    show ¬(s.clk.gated && s.clk.ref == 3) = true
    obtain hno | hno := hno
    · rw [hno]
      exact Bool.false_ne_true
    · rw [beq_eq_false_iff_ne.2 hno, Bool.and_false]
      exact Bool.false_ne_true
  · rw [execRefPresent_present ha t (r := 0) (by decide) h0]
    have h0' : bit (s.clk.absent &&& ~~~(1#3 <<< 0)) 0 = false := by simp [bit]
    have h1' : bit (s.clk.absent &&& ~~~(1#3 <<< 0)) 1 = true := by
      have h1 : s.clk.absent.getLsbD 1 = true := h1
      simp [bit, h1]
    have hfirst := State.refFirst_lref (s := (s.at t).modClk fun c => { c with absent := c.absent &&& ~~~(1#3 <<< 0) }) h0' h1'
    refine congrArg _ ((if_pos ?_).trans ?_)
    · show (s.clk.gated && s.clk.ref == 3) = true
      rw [hg, hr]
      rfl
    · exact congrArg (fun x => State.relock ((s.at t).modClk fun c => { c with absent := c.absent &&& ~~~(1#3 <<< 0) }) x) hfirst
  · have hexec : exec (.refMonitorMeasure t ppm) s = execRefMonitorMeasure t ppm s := rfl
    rw [hexec, execRefMonitorMeasure, timed_alive ha]
    refine congrArg _ ((if_neg ?_).trans ?_)
    · show ¬(bit s.clk.absent 0 || bit s.clk.absent 2) = true
      rw [h0, h2]
      decide
    · have hclamp : max (-32768) (min 32767 ppm) = ppm := by omega
      exact congrArg (fun x : Int => { s.at t with clk := { s.clk with ppm := BitVec.ofInt 16 x, foBlk := decide (300 < ppm.natAbs) } }) hclamp
  · obtain ⟨h, o, heq, hcause⟩ := (s.at t).countFailover_frame
    have hstep : exec (.relockTimeout t) s = .next (((s.at t).countFailover.modClk fun c => { c with intrCause := 2 }).relock (s.refAfter s.clk.ref)) := by
      rw [exec_relockTimeout ha t hg hr hlate, if_neg (by simpa using hnext), if_neg (by rw [hagain]; exact Bool.false_ne_true)]
    refine ⟨_, hstep, ?_⟩
    rw [heq]
    refine ⟨?_, hcause⟩
    have hnone : (s.refAfter s.clk.ref == 3) = false := beq_eq_false_iff_ne.2 hnext
    simp only [State.relock, State.modClk, hnone]
    rfl
  · rw [exec_relockTimeout ha t hg hr hlate, if_pos (by simpa using hnone)]
    have hne : (s.refFirst == 3) = false := beq_eq_false_iff_ne.2 hfirst
    have href : State.refFirst ((s.at t).modClk fun c => { c with again := true }) = s.refFirst := rfl
    simp only [State.relock, State.modClk, hne]
    rfl
  · rw [exec_relockTimeout ha t hg hr hlate, if_neg (by simpa using hnext), if_pos hagain]
    have hne : (s.refAfter s.clk.ref == 3) = false := beq_eq_false_iff_ne.2 hnext
    simp only [State.relock, State.modClk, hne]
    rfl
  · have hstep : exec i s = .next ((s.at t).clkRefWrite (goodWr v src) v) := by
      simp only [List.mem_cons, List.not_mem_nil, or_false] at hi
      obtain rfl | rfl := hi
      · have hexec : exec (.clkRefSrcWrite t (goodWr v src)) s = execClkRefSrcWrite t (goodWr v src) s := rfl
        rw [hexec, execClkRefSrcWrite, regCmd_good ha _ hreach]
      · have hexec : exec (.revert t (goodWr v src)) s = execRevert t (goodWr v src) s := rfl
        rw [hexec, execRevert, regCmd_good ha _ hreach]
    refine ⟨fun hv hup => ?_, fun hv hrev hb => ?_, fun hv hchange hb hr hl => ?_, fun x hx hv hchange hb hr hl => ?_, fun hv hr hg hok => ?_⟩
    · rw [hstep, State.clkRefWrite_unplugged (s := s.at t) hv hup, State.reject_of_lt _ _ _ (by decide)]
      rfl
    · rw [hstep, State.clkRefWrite_absent (s := s.at t) hv hrev hb, State.reject_of_lt _ _ _ (by decide)]
      rfl
    · refine ⟨_, hstep, ?_⟩
      obtain ⟨f, heq⟩ := State.clkRefWrite_changes (s := s.at t) (w := goodWr v src) hv hchange hb hr
      obtain ⟨⟨hgated, -, hintr, href, -, -, -, hic⟩, -, hregs, -⟩ := State.gateCpll_spec
        (State.useFree { (s.at t).putReg 0x180008 (v &&& 0xC0000000) with flt := f }) 3 (s.at t).now
        (State.window { (s.at t).putReg 0x180008 (v &&& 0xC0000000) with flt := f } (s.at t).now) 0
      rw [heq.trans (if_pos hl)]
      exact ⟨(reg_of_regs hregs 0x180008).trans ((s.at t).reg_putReg_same _ _), hgated, href, hic, hintr⟩
    · refine ⟨_, hstep, ?_⟩
      obtain ⟨f, heq⟩ := State.clkRefWrite_changes (s := s.at t) (w := goodWr v src) hv hchange hb hr
      have hunlocked : ¬s.clk.cLock = true := by rw [hl]; exact Bool.false_ne_true
      have hintr : ¬s.clk.intr.isNone = true := by rw [hx]; exact Bool.false_ne_true
      rw [heq.trans ((if_neg hunlocked).trans (if_neg hintr))]
      exact ⟨(s.at t).reg_putReg_same _ _, rfl⟩
    · refine ⟨_, hstep, ?_⟩
      obtain ⟨f, heq⟩ := State.clkRefWrite_stored (s := s.at t) (w := goodWr v src) hv hok
      have hstay : (!(bit v 29 || 0 != s.primary) || s.clk.ref == 0 || bit s.clk.absent 0) = true := by
        rw [hr]
        simp
      have hrun : ¬(s.clk.gated && s.clk.ref == 3) = true := by rw [hg]; exact Bool.false_ne_true
      rw [heq.trans ((if_pos hstay).trans (if_neg hrun))]
      exact ⟨(s.at t).reg_putReg_same _ _, rfl⟩

end Machine
end Sys2Proof

/-! Interruptions of the CPLL and of the APLL (10_clocks R356 to R363). -/

namespace Sys2Proof
namespace Machine

/-! Logging and health, besides. -/

theorem State.msix_out (s : State) (v : Nat) : s.out <:+ (s.msix v).out := by
  unfold State.msix
  dsimp only
  split
  · exact List.suffix_rfl
  · split
    · exact List.suffix_rfl
    · unfold State.msixSend
      dsimp only
      split <;> exact List.suffix_cons ..

/-- Raising a vector takes no output back. -/
theorem State.raise_out (s : State) (v : Nat) : s.out <:+ (s.raise v).out := by
  unfold State.raise
  split
  · exact List.suffix_rfl
  · refine List.IsSuffix.trans ?_ (State.msix_out _ v)
    exact List.suffix_rfl

theorem State.logEvent_long (s : State) (unit code d1 d2 d3 : Nat) : (s.logEvent unit code d1 d2 d3).flt.long = s.flt.long := by
  unfold State.logEvent
  dsimp only
  split
  · rfl
  · split
    · rfl
    · obtain ⟨h, o, heq, -⟩ := State.raise_frame _ (v := 26) (by decide)
      rw [heq]
      rfl

theorem State.health_long (s : State) : s.health.flt.long = s.flt.long := by
  unfold State.health
  extract_lets f uns fb bad degr h s1
  have hs1 : s1.flt.long = s.flt.long := rfl
  clear_value s1
  rw [← hs1]
  split
  · exact State.logEvent_long ..
  · split
    · exact State.logEvent_long ..
    · rfl

/-- No access has waited: nothing is made again. -/
theorem State.replay_none {s : State} (h : s.clk.wait = []) : s.replay = s := by
  have hclk : { s.clk with wait := [] } = s.clk := by rw [← h]
  unfold State.replay
  rw [h]
  exact congrArg (fun c => { s with clk := c }) hclk

/-! The end of an interruption (R359, R360). -/

/-- What the GAP record of an interruption touches. -/
def GapOnly (s s' : State) : Prop := ∃ k x f b, s' = { s with
  tick := { s.tick with gapN := k }, clk := { s.clk with clampEnc := x }, free := f, fab := b }

theorem GapOnly.gapLines {s x : State} (h : GapOnly s x) (reason line count : Nat) (enc encEnd : B48) (time : Time) (prov : Bool) :
    GapOnly s (x.gapLines reason line count enc encEnd time prov) := by
  obtain ⟨f, hf⟩ := x.gapLines_frame reason line count enc encEnd time prov
  obtain ⟨k, e, f', b, rfl⟩ := h
  rw [hf]
  exact ⟨_, _, _, _, rfl⟩

theorem State.clockGap_gapOnly (s : State) : GapOnly s s.clockGap := by
  have hsame : GapOnly s s := ⟨_, _, _, _, rfl⟩
  unfold State.clockGap
  dsimp only
  split
  · exact hsame
  · split
    · exact hsame.gapLines ..
    · split
      · exact ⟨_, _, _, _, rfl⟩
      · refine GapOnly.gapLines ?_ ..
        exact ⟨_, _, _, _, rfl⟩

/-- The engines after the interruption. -/
theorem State.resumeEngs_eng (s : State) (e : Nat) : s.resumeEngs.eng e = { s.eng e with
    blk := (s.eng e).blk.map fun b => { b with t := b.t + (s.now - s.clk.stopT) }, hbT := if (s.eng e).st = 1 then s.now else (s.eng e).hbT } := by
  have hd : (BitVec.ofNat 64 (since s.now s.clk.stopT) : Time) = s.now - s.clk.stopT := (BitVec.ofNat_toNat 64 _).trans (BitVec.setWidth_eq _)
  have hget := Tbl.get_map_val Engine.fresh (fun x => { x with
    blk := x.blk.map (fun b => { b with t := b.t + BitVec.ofNat 64 (since s.now s.clk.stopT) }), hbT := if x.st == 1 then s.now else x.hbT }) rfl s.te.eng e
  refine Eq.trans hget ?_
  dsimp only
  rw [hd]
  simp only [beq_iff_eq]
  rfl

/-- The tick generator armed again, the engines resumed, the interruption over. -/
def State.resumed (s : State) (x : Time) : State :=
  (s.clockGap.resumeEngs.modTick fun k => { k with flushed := 64, idleBase := s.now }).modClk fun c =>
    { c with intr := none, lastInv := some (x, s.now), lastRef := none, liLen := min 65535 (s.intrNs x / 100), liCause := s.clk.intrCause }

theorem State.resumed_spec (s : State) (x : Time) : let s' := s.resumed x
    s'.clk.intr = none ∧ s'.clk.lastInv = some (x, s.now) ∧ s'.clk.lastRef = none ∧ s'.clk.liCause = s.clk.intrCause ∧
      s'.clk.liLen = min 65535 (since s.now x / 2 / 100) ∧ s'.tick.flushed = 64 ∧ s'.tick.idleBase = s.now ∧ s'.tick.line = s.tick.line ∧
      s'.regs = s.regs ∧ ∀ e, s'.eng e = { s.eng e with
        blk := (s.eng e).blk.map fun b => { b with t := b.t + (s.now - s.clk.stopT) }
        hbT := if (s.eng e).st = 1 then s.now else (s.eng e).hbT } := by
  obtain ⟨k, y, f, b, hgap⟩ := s.clockGap_gapOnly
  have heng := fun e => s.clockGap.resumeEngs_eng e
  unfold State.resumed
  rw [hgap] at heng ⊢
  exact ⟨rfl, rfl, rfl, rfl, rfl, rfl, rfl, rfl, rfl, heng⟩

/-- The event and the health after an interruption. -/
def State.reportEnd (s : State) (cause ns : Nat) : State :=
  let s := (if s.tick.st == 1 then s.openGap 0x02 else s).logEvent 0x06 1 cause ns 0
  if s.clk.aGated.isNone then (s.modFlt fun f => { f with long := false }).health else s

theorem State.reportEnd_frame (s : State) (cause ns : Nat) :
    ∃ g f h o, s.reportEnd cause ns = { s with tick := { s.tick with gap := g }, flt := f, host := h, out := o } := by
  unfold State.reportEnd
  extract_lets s1
  have h1 : ∃ g f h o, s1 = { s with tick := { s.tick with gap := g }, flt := f, host := h, out := o } := by
    dsimp only [s1]
    split
    · obtain ⟨f, h, o, heq⟩ := (s.openGap 0x02).logEvent_frame 0x06 1 cause ns 0
      rw [heq]
      exact ⟨_, _, _, _, rfl⟩
    · obtain ⟨f, h, o, heq⟩ := s.logEvent_frame 0x06 1 cause ns 0
      rw [heq]
      exact ⟨_, _, _, _, rfl⟩
  clear_value s1
  obtain ⟨g, f, h, o, rfl⟩ := h1
  split
  · obtain ⟨f', h', o', heq⟩ := State.health_frame (({ s with tick := { s.tick with gap := g }, flt := f, host := h, out := o } : State).modFlt fun f =>
      { f with long := false })
    rw [heq]
    exact ⟨_, _, _, _, rfl⟩
  · exact ⟨_, _, _, _, rfl⟩

section Intr

variable {s : State} {x : Time} (ha : s.alive = true)
include ha

theorem exec_interruptionEnd (hi : s.clk.intr = some x) (hg : s.clk.gated = false) (t : Time) :
    exec (.interruptionEnd t) s = .next (((s.at t).resumed x).reportEnd s.clk.intrCause ((s.at t).intrNs x)) := by
  have hexec : exec (.interruptionEnd t) s = execInterruptionEnd t s := rfl
  have hrun : ¬(s.at t).clk.gated = true := fun h => Bool.false_ne_true (hg.symm.trans h)
  have hi' : (s.at t).clk.intr = some x := hi
  rw [hexec, execInterruptionEnd, timed_alive ha, hi']
  exact congrArg _ (if_neg hrun)

theorem exec_interruptionEnd_gated (hg : s.clk.gated = true) (t : Time) : exec (.interruptionEnd t) s = .next (s.at t) := by
  have hexec : exec (.interruptionEnd t) s = execInterruptionEnd t s := rfl
  have hrun : (s.at t).clk.gated = true := hg
  rw [hexec, execInterruptionEnd, timed_alive ha]
  refine congrArg _ ?_
  split
  · rfl
  · exact if_pos hrun

theorem exec_interruptionLong (hi : s.clk.intr = some x) (t : Time) (hlate : 80000 < since (s.at t).now x) :
    exec (.interruptionLong t) s = .next ((s.at t).modFlt fun f => { f with long := true }).health := by
  have hexec : exec (.interruptionLong t) s = execInterruptionLong t s := rfl
  have hi' : (s.at t).clk.intr = some x := hi
  rw [hexec, execInterruptionLong, timed_alive ha, hi']
  exact congrArg _ (if_pos (by rw [Bool.or_eq_true]; exact .inl (decide_eq_true hlate)))

/-! Accesses that wait (R360, R363). -/

section Waiting

variable {y : Wait} {r : List Wait} (hw : s.clk.wait = y :: r) (t : Time)
include hw

theorem exec_gatedAccess_early (h : since (s.at t).now y.t < 90000) : exec (.gatedAccessTimeout t) s = .next (s.at t) := by
  have hexec : exec (.gatedAccessTimeout t) s = execGatedAccessTimeout t s := rfl
  have hw' : (s.at t).clk.wait = y :: r := hw
  rw [hexec, execGatedAccessTimeout, timed_alive ha, hw']
  exact congrArg _ (if_pos h)

variable (h : 90000 ≤ since (s.at t).now y.t)
include h

theorem exec_gatedAccess_write {w : Wr} (hy : y.w = some w) :
    exec (.gatedAccessTimeout t) s = .next (((s.at t).modClk fun c => { c with wait := r }).reject 4 w.src y.off) := by
  have hexec : exec (.gatedAccessTimeout t) s = execGatedAccessTimeout t s := rfl
  have hw' : (s.at t).clk.wait = y :: r := hw
  rw [hexec, execGatedAccessTimeout, timed_alive ha, hw']
  dsimp only
  rw [if_neg (Nat.not_lt.2 h), hy]

theorem exec_gatedAccess_remote {q n : Nat} (hy : y.w = none) (hrem : y.rem = some (q, n)) :
    exec (.gatedAccessTimeout t) s = .next (((s.at t).modClk fun c => { c with wait := r }).sendTo q 0x0A n 0) := by
  have hexec : exec (.gatedAccessTimeout t) s = execGatedAccessTimeout t s := rfl
  have hw' : (s.at t).clk.wait = y :: r := hw
  rw [hexec, execGatedAccessTimeout, timed_alive ha, hw']
  dsimp only
  rw [if_neg (Nat.not_lt.2 h), hy, hrem]

theorem exec_gatedAccess_read (hy : y.w = none) (hrem : y.rem = none) : exec (.gatedAccessTimeout t) s = .next
    (((s.at t).modClk fun c => { c with wait := r }).emit (if y.bar2 then .rdBar2 y.off (List.replicate y.nb 0) false else .rdData y.off y.nb 0)) := by
  have hexec : exec (.gatedAccessTimeout t) s = execGatedAccessTimeout t s := rfl
  have hw' : (s.at t).clk.wait = y :: r := hw
  rw [hexec, execGatedAccessTimeout, timed_alive ha, hw']
  dsimp only
  rw [if_neg (Nat.not_lt.2 h), hy, hrem]

end Waiting
end Intr

theorem State.drainPulse_frame (s : State) : ∃ p, p = { s.pix.emptied s.tick.dir (s.now + 4000) with drainT := some (s.now + 4000) } ∧
    s.drainPulse = { s with out := .drain s.now :: s.out, pix := p } := ⟨_, rfl, rfl⟩

/-- The CPLL domains run again: the drain gates are pulsed. -/
theorem State.ungateCpll_spec (s : State) : s.ungateCpll.clk = { s.clk with cLock := true, gated := false } ∧ .drain s.now ∈ s.ungateCpll.out ∧
    s.ungateCpll.pix = { s.pix.emptied s.tick.dir (s.now + 4000) with drainT := some (s.now + 4000) } ∧
    s.ungateCpll.host.cause.getLsbD 6 = true ∧ s.ungateCpll.regs = s.regs := by
  obtain ⟨p, hp, hdrain⟩ := (s.modClk fun c => { c with cLock := true, gated := false }).drainPulse_frame
  have hpulsed : (s.modClk fun c => { c with cLock := true, gated := false }).drainPulse.clk = { s.clk with cLock := true, gated := false } ∧
      .drain s.now ∈ (s.modClk fun c => { c with cLock := true, gated := false }).drainPulse.out ∧
      (s.modClk fun c => { c with cLock := true, gated := false }).drainPulse.pix = p ∧
      (s.modClk fun c => { c with cLock := true, gated := false }).drainPulse.regs = s.regs := by
    rw [hdrain]
    exact ⟨rfl, List.mem_cons_self, rfl, rfl⟩
  unfold State.ungateCpll
  generalize (s.modClk fun c => { c with cLock := true, gated := false }).drainPulse = x at hpulsed ⊢
  obtain ⟨hclk, hout, hpix, hregs⟩ := hpulsed
  obtain ⟨h, o, heq, hcause⟩ := x.raise_frame (v := 22) (by decide)
  have hin := (x.raise_out 22).subset hout
  rw [heq] at hin ⊢
  exact ⟨hclk, hin, hpix.trans hp, hcause, hregs⟩

/-- The APLL is locked again. -/
theorem State.ungateApll_spec (s : State) (x : Time) : (s.ungateApll x).clk = { s.clk with
      aLock := true, aGated := none, encSus := true, liLen := min 65535 (since s.now x / 2 / 100), liCause := 5 } ∧
    (s.ungateApll x).host.cause.getLsbD 6 = true ∧ (s.ungateApll x).regs = s.regs := by
  unfold State.ungateApll
  extract_lets ns s1 s2
  obtain ⟨f, h, o, hlog⟩ := s1.logEvent_frame 0x06 2 0 ns 0
  obtain ⟨h', o', hraise, hcause⟩ := (s1.logEvent 0x06 2 0 ns 0).raise_frame (v := 22) (by decide)
  have h2 : s2.clk = s1.clk ∧ s2.host.cause.getLsbD 6 = true ∧ s2.regs = s.regs := by
    dsimp only [s2]
    rw [hraise, hlog]
    exact ⟨rfl, hcause, rfl⟩
  clear_value s2
  obtain ⟨hclk, hc, hregs⟩ := h2
  split
  · have hmono := State.health_cause_mono (s2.modFlt fun f => { f with long := false }) hc
    obtain ⟨f, h, o, heq⟩ := (s2.modFlt fun f => { f with long := false }).health_frame
    rw [heq] at hmono ⊢
    exact ⟨hclk, hmono, hregs⟩
  · exact ⟨hclk, hc, hregs⟩

/-- Settles O46: the gating, the lock and the end of an interruption, each by its own lemma. -/
theorem clockInterruptions : Obligations.ClockInterruptions := by
  unfold Obligations.ClockInterruptions
  intro s t left lp ha
  refine ⟨fun hl hr => ?_, fun hg hr hs hw => ?_, fun x hi hg => ?_, fun hg => exec_interruptionEnd_gated ha hg t, fun x hi hlate => ?_,
    fun x r hw hlate => ⟨fun w hx => ?_, fun hx hrem => ?_, fun q n hx hrem => ?_⟩, fun x r hw h => exec_gatedAccess_early ha hw t h,
    fun hl hn => ?_, fun x hx hw => ?_⟩
  · have hexec : exec (.cpllLossOfLock t ⟨left, lp⟩) s = execCpllLossOfLock t ⟨left, lp⟩ s := rfl
    have hlock : (s.at t).clk.cLock = true := hl
    obtain ⟨⟨hgated, hcl, hintr, href, -, -, hcN, hic⟩, hcause, hregs, hheld, hline, heng⟩ :=
      (s.at t).gateCpll_spec 1 (if since (s.at t).now left ≤ 4000 then left else (s.at t).now) lp s.clk.ref
    refine ⟨(s.at t).gateCpll 1 (if since (s.at t).now left ≤ 4000 then left else (s.at t).now) lp s.clk.ref, ?_, hgated, hcl, hintr,
      hic.trans (if_neg hr), hcN, href, hheld, hcause, heng, hline, hregs⟩
    rw [hexec, execCpllLossOfLock, timed_alive ha, if_pos hlock]
    rfl
  · have hexec : exec (.cpllLock t) s = execCpllLock t s := rfl
    obtain ⟨hclk, hout, hpix, hcause, hregs⟩ := (s.at t).ungateCpll_spec
    have hwait : (s.at t).ungateCpll.clk.wait = [] := by rw [hclk]; exact hw
    refine ⟨(s.at t).ungateCpll, ?_, hclk, hout, hpix, hcause, hregs⟩
    rw [hexec, execCpllLock, timed_alive ha]
    refine congrArg _ ((if_pos ?_).trans (State.replay_none hwait))
    show (s.clk.gated && s.clk.ref != 3 && s.th.shut == 0) = true
    rw [hg, bne_iff_ne.2 hr, hs]
    rfl
  · refine ⟨_, exec_interruptionEnd ha hi hg t, ?_⟩
    have hspec := (s.at t).resumed_spec x
    obtain ⟨g, f, h, o, heq⟩ := ((s.at t).resumed x).reportEnd_frame s.clk.intrCause ((s.at t).intrNs x)
    rw [heq]
    exact hspec
  · have hlong := ((s.at t).modFlt fun f => { f with long := true }).health_long
    obtain ⟨f, h, o, heq⟩ := ((s.at t).modFlt fun f => { f with long := true }).health_frame
    refine ⟨_, exec_interruptionLong ha hi t hlate, ?_⟩
    rw [heq] at hlong ⊢
    exact ⟨hlong, rfl, rfl⟩
  · exact exec_gatedAccess_write ha hw t hlate hx
  · exact exec_gatedAccess_read ha hw t hlate hx hrem
  · exact exec_gatedAccess_remote ha hw t hlate hx hrem
  · have hexec : exec (.apllLossOfLock t) s = execApllLossOfLock t s := rfl
    obtain ⟨h, o, heq, hcause⟩ := ((s.at t).modClk fun c =>
      { c with aLock := false, aGated := some (s.at t).now, aN := c.aN + 1, liTime := (s.at t).now }).raise_frame (v := 22) (by decide)
    have hloss : (s.clk.aLock && s.clk.aGated.isNone) = true := by
      rw [hl, hn]
      rfl
    have hstep : exec (.apllLossOfLock t) s = .next { s.at t with
        clk := { s.clk with aLock := false, aGated := some (s.at t).now, aN := s.clk.aN + 1, liTime := (s.at t).now }, host := h, out := o } := by
      rw [hexec, execApllLossOfLock, timed_alive ha]
      exact congrArg _ ((if_pos hloss).trans heq)
    exact ⟨_, hstep, rfl, hcause, rfl⟩
  · have hexec : exec (.apllLock t) s = execApllLock t s := rfl
    have hx' : (s.at t).clk.aGated = some x := hx
    obtain ⟨hclk, hcause, hregs⟩ := (s.at t).ungateApll_spec x
    have hwait : ((s.at t).ungateApll x).clk.wait = [] := by rw [hclk]; exact hw
    refine ⟨(s.at t).ungateApll x, ?_, hclk, hcause, hregs⟩
    rw [hexec, execApllLock, timed_alive ha, hx']
    exact congrArg _ (State.replay_none hwait)

end Machine
end Sys2Proof

/-! The line PLL (01_line_tick R47, R52; 10_clocks R366 to R370). -/

namespace Sys2Proof
namespace Machine

/-- A change of the tick generator's state raises vector 16 and takes no cause back. -/
theorem State.setTck_raises (s : State) {st : Nat} (h : s.tick.st ≠ st) :
    ∃ h o, s.setTck st = { s with tick := { s.tick with st := st }, host := h, out := o } ∧ h.cause.getLsbD 0 = true ∧
      ∀ i, s.host.cause.getLsbD i = true → h.cause.getLsbD i = true := by
  have hmono := fun i => (s.modTick fun k => { k with st := st }).raise_cause_mono 16 (i := i)
  obtain ⟨h', o, heq, hc⟩ := State.raise_frame (s.modTick fun k => { k with st := st }) (v := 16) (by decide)
  rw [heq] at hmono
  rw [State.setTck, if_neg (mt beq_iff_eq.1 h), heq]
  exact ⟨h', o, rfl, hc, hmono⟩

/-! Reference edges (R366, R368, R370). -/

section Edge

variable {s : State} {stamp x : Time} {r : List (Option Time)} (hr : s.running = true)
include hr

theorem exec_lineReference_invalid (h : s.clk.refQ = none :: r) (t : Time) :
    exec (.lineReference t) s = .next { s.at t with clk := { s.clk with refQ := r } } := by
  have hexec : exec (.lineReference t) s = execLineReference t s := rfl
  have h' : (s.at t).clk.refQ = none :: r := h
  rw [hexec, execLineReference, inRun_running hr, h']
  rfl

/-- The clocks that an edge leaves before the LPLL judges its period. -/
def Clk.seen (c : Clk) (r : List (Option Time)) (stamp : Time) (T : Nat) : Clk :=
  { c with refQ := r, lastRef := some stamp, period := T % 2 ^ 32 }

theorem exec_lineReference_period (hn : s.noTicks = false) (h : s.clk.refQ = some stamp :: r) (hx : s.clk.lastRef = some x)
    (hT : since stamp x ≠ 0) (hst : ¬(s.tick.st = 4 ∧ s.clk.lpll = 4)) (h0 : s.clk.lpll ≠ 0) (t : Time) :
    exec (.lineReference t) s = .next (
      let s1 : State := { s.at t with clk := s.clk.seen r stamp (since stamp x) }
      if s.clk.lpll == 1 then s1.acqPeriod (since stamp x) else s1.runPeriod (since stamp x)) := by
  have hexec : exec (.lineReference t) s = execLineReference t s := rfl
  have h' : (s.at t).clk.refQ = some stamp :: r := h
  have hon : ¬(s.clk.lpll == 0 || s.noTicks) = true := by
    rw [beq_eq_false_iff_ne.2 h0, hn]
    decide
  have hrun : ¬(s.tick.st == 4 && s.clk.lpll == 4) = true := by
    rw [Bool.and_eq_true, beq_iff_eq, beq_iff_eq]
    exact hst
  have hTne : ¬(since stamp x == 0) = true := mt beq_iff_eq.1 hT
  have hlast : ((s.at t).modClk fun c => { c with refQ := r }).clk.lastRef = some x := hx
  rw [hexec, execLineReference, inRun_running hr, h']
  refine congrArg _ ((if_neg hon).trans ?_)
  rw [State.refEdge]
  refine (if_neg hrun).trans ?_
  rw [hlast]
  exact if_neg hTne

end Edge

/-! Acquisition (R366). -/

section Acquisition

variable {s : State} {T : Nat}

theorem State.acqPeriod_chooses {b : Nat} (h0 : s.clk.t0 = 0) (hp : s.clk.prev ≠ 0) (hnear : off2 T s.clk.prev = false) (hb : s.selBand T = some b) :
    s.acqPeriod T = s.modClk fun c => { c with t0 := T, prev := T, tickT := T, good := 0, band := b, noBand := false } := by
  have hcond : (s.clk.prev != 0 && !off2 T s.clk.prev) = true := by
    rw [bne_iff_ne.2 hp, hnear]
    rfl
  unfold State.acqPeriod
  dsimp only
  rw [if_pos (beq_iff_eq.2 h0), if_pos hcond, hb]

theorem State.acqPeriod_good (h0 : s.clk.t0 ≠ 0) (hnear : off2 T s.clk.t0 = false) :
    s.acqPeriod T = s.modClk fun c => { c with good := min 4 (c.good + 1), prev := T, tickT := T } := by
  have hfar : ¬off2 T s.clk.t0 = true := by rw [hnear]; exact Bool.false_ne_true
  unfold State.acqPeriod
  dsimp only
  rw [if_neg (mt beq_iff_eq.1 h0), if_neg hfar]

theorem State.acqPeriod_far (h0 : s.clk.t0 ≠ 0) (hfar : off2 T s.clk.t0 = true) : s.acqPeriod T = s.reacquire := by
  unfold State.acqPeriod
  dsimp only
  rw [if_neg (mt beq_iff_eq.1 h0), if_pos hfar]

end Acquisition

/-! A locked LPLL and HOLDOVER (R52, R368, R369). -/

/-- What following a period touches: the clocks, and with the phase error a free value. -/
theorem State.follow_spec (s : State) (T : Nat) (pull : Bool) : ∃ c f, s.follow T pull = { s with clk := c, free := f } ∧
    c.lpll = (if T < s.capT then 3 else 2) ∧
    (s.capT ≤ T → c = { s.clk with lpll := 2, tickT := T, prev := T, phErr := c.phErr, pullin := c.pullin }) := by
  unfold State.follow
  by_cases h : T < s.capT
  · rw [if_pos h, if_pos h]
    exact ⟨_, _, rfl, rfl, fun hle => absurd h (Nat.not_lt.2 hle)⟩
  · rw [if_neg h, if_neg h]
    exact ⟨_, _, rfl, rfl, fun _ => rfl⟩

section Running

variable {s : State} {T : Nat}

theorem State.runPeriod_follows (hl : s.clk.lpll = 2) (hnear : off2 T s.clk.prev = false) (hb : s.bandExit T = false) :
    s.runPeriod T = s.follow T false := by
  have hstep : ¬((s.clk.lpll == 2 && off2 T s.clk.prev) || s.bandExit T) = true := by
    rw [hnear, hb, Bool.and_false]
    decide
  unfold State.runPeriod
  dsimp only
  rw [hl] at hstep ⊢
  rw [if_neg (by decide), if_neg hstep]
  rfl

theorem State.runPeriod_steps (hl : s.clk.lpll = 2) (hfar : off2 T s.clk.prev = true) : s.runPeriod T = s.holdEntry := by
  have hstep : ((s.clk.lpll == 2 && off2 T s.clk.prev) || s.bandExit T) = true := by
    rw [hl, hfar]
    rfl
  unfold State.runPeriod
  dsimp only
  rw [if_neg (by rw [hl]; decide), if_pos hstep]

theorem State.runPeriod_hold (hl : s.clk.lpll = 4) (hfar : off2 T s.clk.tickT = true) : s.runPeriod T = s := by
  unfold State.runPeriod
  dsimp only
  rw [if_pos (beq_iff_eq.2 hl), hfar, Bool.true_or, if_pos rfl]

/-- A good period regains the lock. -/
theorem State.runPeriod_regains (hl : s.clk.lpll = 4) (hnear : off2 T s.clk.tickT = false) (hb : s.bandExit T = false) (hst : s.tick.st = 3) :
    let s' := s.runPeriod T
    s'.tick.st = 2 ∧ s'.tick.hold = false ∧ s'.tick.holdN = 0 ∧ s'.clk.lpll = (if T < s.capT then 3 else 2) ∧
      s'.host.cause.getLsbD 6 = true ∧ s'.regs = s.regs := by
  obtain ⟨c, f, hfollow, hlpll, -⟩ := (s.modTick fun k => { k with hold := false, holdN := 0 }).follow_spec T true
  obtain ⟨h, o, hraise, hcause⟩ := State.raise_frame ({ s.modTick (fun k => { k with hold := false, holdN := 0 }) with clk := c, free := f } : State)
    (v := 22) (by decide)
  have hst1 : ({ s.modTick (fun k => { k with hold := false, holdN := 0 }) with clk := c, free := f, host := h, out := o } : State).tick.st = 3 := hst
  obtain ⟨h', o', hset, -, hmono⟩ := State.setTck_raises ({ s.modTick (fun k => { k with hold := false, holdN := 0 }) with
    clk := c, free := f, host := h, out := o } : State) (st := 2) (by rw [hst1]; decide)
  have heq : s.runPeriod T = State.setTck ({ s.modTick (fun k => { k with hold := false, holdN := 0 }) with
      clk := c, free := f, host := h, out := o } : State) 2 := by
    unfold State.runPeriod
    dsimp only
    rw [if_pos (beq_iff_eq.2 hl), hnear, hb, if_neg (by decide), hfollow, hraise]
    exact if_pos (beq_iff_eq.2 hst)
  dsimp only
  rw [heq, hset]
  exact ⟨rfl, rfl, rfl, hlpll, hmono 6 hcause, rfl⟩

end Running

/-- The lock is lost while RUNNING. -/
theorem State.holdEntry_spec {s : State} (hst : s.tick.st = 2) (hhold : s.tick.hold = false) : s.holdEntry.regs = s.regs ∧
    s.holdEntry.host.cause.getLsbD 6 = true ∧
    (s.regF 0x10020 15 0 ≠ 0 → s.holdEntry.clk = { s.clk with lpll := 4, pullin := false } ∧
      s.holdEntry.tick = { s.tick with st := 3, hold := true, holdN := 0 } ∧ s.holdEntry.host.cause.getLsbD 0 = true) ∧
    (s.regF 0x10020 15 0 = 0 → s.holdEntry.clk.lpll = 1 ∧ s.holdEntry.tick.st = 1 ∧ s.holdEntry.tick.hold = false) := by
  obtain ⟨h, o, hraise, hcause⟩ := (s.modClk fun c => { c with lpll := 4, pullin := false }).raise_frame (v := 22) (by decide)
  obtain ⟨s1, hs1⟩ : ∃ s1 : State, s1 = { s with clk := { s.clk with lpll := 4, pullin := false }, host := h, out := o } := ⟨_, rfl⟩
  have hraise' : (s.modClk fun c => { c with lpll := 4, pullin := false }).raise 22 = s1 := hraise.trans hs1.symm
  have hst1 : s1.tick.st = 2 := by rw [hs1]; exact hst
  have hhold1 : s1.tick.hold = false := by rw [hs1]; exact hhold
  have hreg1 : s1.regF 0x10020 15 0 = s.regF 0x10020 15 0 := by rw [hs1]; rfl
  have hcause1 : s1.host.cause.getLsbD 6 = true := by rw [hs1]; exact hcause
  have hregs1 : s1.regs = s.regs := by rw [hs1]
  have heq : s.holdEntry = if s.regF 0x10020 15 0 == 0 then s1.toLocking
      else (s1.modTick fun k => { k with hold := true, holdN := 0 }).setTck 3 := by
    unfold State.holdEntry
    rw [hraise']
    dsimp only
    rw [hst1, hhold1, hreg1]
    refine (if_pos rfl).trans ?_
    split
    · rfl
    · exact if_pos (beq_iff_eq.2 hst1)
  by_cases h0 : s.regF 0x10020 15 0 = 0
  · obtain ⟨hst', hlpll', hhold', -, -, hregs', -⟩ := s1.toLocking_spec
    have hlock : s1.toLocking.host.cause.getLsbD 6 = true := by
      obtain ⟨h', o', hset, -, hmono⟩ := State.setTck_raises
        (s1.modTick fun k => { k with hold := false, holdN := 0, flushAb := k.st == 5, flush := 0 }) (st := 1) (by
          show s1.tick.st ≠ 1
          rw [hst1]
          decide)
      unfold State.toLocking
      dsimp only
      rw [hset]
      exact hmono 6 hcause1
    rw [heq, if_pos (beq_iff_eq.2 h0)]
    exact ⟨hregs'.trans hregs1, hlock, fun h => absurd h0 h, fun _ => ⟨hlpll', hst', hhold'⟩⟩
  · obtain ⟨h', o', hset, hc0, hmono⟩ := State.setTck_raises (s1.modTick fun k => { k with hold := true, holdN := 0 }) (st := 3) (by
      show s1.tick.st ≠ 3
      rw [hst1]
      decide)
    rw [heq, if_neg (mt beq_iff_eq.1 h0), hset]
    refine ⟨hregs1, hmono 6 hcause1, fun _ => ⟨?_, ?_, hc0⟩, fun h => absurd h h0⟩
    · show s1.clk = _
      rw [hs1]
    · show { s1.tick with st := 3, hold := true, holdN := 0 } = _
      rw [hs1]

/-! Loss of the reference, and the lock (R47, R366, R368). -/

section Reference

variable {s : State} (hr : s.running = true) (hn : s.noTicks = false) (t : Time)
include hr hn

/-- A locked LPLL that has seen an edge loses its reference 1.25 periods after it. -/
theorem exec_referenceLoss {x : Time} (hl : s.clk.lpll = 2) (hx : s.clk.lastRef = some x) (hp : s.clk.prev ≠ 0) :
    exec (.referenceLoss t) s = .next (
      if 5 * s.clk.prev + (if s.tckSrc = 0 then 0 else 320 * s.clk.refHops) ≤ 4 * since (s.at t).now x then (s.at t).holdEntry else s.at t) := by
  have hexec : exec (.referenceLoss t) s = execReferenceLoss t s := rfl
  have hon : ¬(s.at t).noTicks = true := fun h => Bool.false_ne_true (hn.symm.trans h)
  have hlpll : ¬((s.at t).clk.lpll == 1) = true := by
    show ¬(s.clk.lpll == 1) = true
    rw [hl]
    decide
  have hlast : (s.at t).clk.lastRef.orElse (fun _ => (s.at t).clk.lastInv.map (·.2)) = some x := by
    show s.clk.lastRef.orElse (fun _ => s.clk.lastInv.map (·.2)) = some x
    rw [hx]
    rfl
  have hlocked : ((s.at t).clk.lpll == 2 || (s.at t).clk.lpll == 3) = true := by
    show (s.clk.lpll == 2 || s.clk.lpll == 3) = true
    rw [hl]
    rfl
  have hprev : ¬((s.at t).clk.prev == 0) = true := mt beq_iff_eq.1 hp
  rw [hexec, execReferenceLoss, inRun_running hr]
  dsimp only
  rw [if_neg hon, if_neg hlpll, hlocked, hlast, if_neg hprev, Bool.true_and]
  dsimp only
  simp only [decide_eq_true_eq, beq_iff_eq]
  rfl

/-- The LPLL that a lock leaves. -/
def State.lockedLpll (s : State) : State :=
  let s1 := ((if s.clk.prev < s.capT then s.toClamp s.clk.prev else s.modClk fun c => { c with lpll := 2, tickT := c.prev, pullin := false }).modClk
    fun c => { c with acq := c.acq + 1 }).raise 22
  s1.modTick fun k => { k with idleBase := if k.ticked then k.idleBase else s1.now }

omit hr hn in
theorem State.lockedLpll_spec (s : State) : s.lockedLpll.clk.lpll = (if s.clk.prev < s.capT then 3 else 2) ∧ s.lockedLpll.clk.acq = s.clk.acq + 1 ∧
    s.lockedLpll.host.cause.getLsbD 6 = true ∧ s.lockedLpll.regs = s.regs ∧ s.lockedLpll.tick.st = s.tick.st ∧
    s.lockedLpll.tick.flushAb = s.tick.flushAb := by
  obtain ⟨c, hc, hl, ha⟩ : ∃ c, (if s.clk.prev < s.capT then s.toClamp s.clk.prev
      else s.modClk fun c => { c with lpll := 2, tickT := c.prev, pullin := false }) = { s with clk := c } ∧
      c.lpll = (if s.clk.prev < s.capT then 3 else 2) ∧ c.acq = s.clk.acq := by
    split <;> exact ⟨_, rfl, rfl, rfl⟩
  obtain ⟨h, o, hraise, hcause⟩ := State.raise_frame (State.modClk { s with clk := c } fun c => { c with acq := c.acq + 1 }) (v := 22) (by decide)
  unfold State.lockedLpll
  dsimp only
  rw [hc, hraise]
  exact ⟨hl, congrArg (· + 1) ha, hcause, rfl, rfl, rfl⟩

theorem exec_lpllLock (hl : s.clk.lpll = 1) (hg : 4 ≤ s.clk.good) (hst : s.tick.st = 1) : exec (.lpllLock t) s = .next (
    let s1 := (s.at t).lockedLpll
    if s1.tick.flushAb then (s1.modTick fun k => { k with flush := 64, flushAb := false }).setTck 5
    else (s1.modTick fun k => { k with flushed := 64 }).setTck 2) := by
  have hexec : exec (.lpllLock t) s = execLpllLock t s := rfl
  rw [hexec, execLpllLock, inRun_running hr]
  refine congrArg _ ((if_neg ?_).trans ?_)
  · show ¬(s.clk.lpll != 1 || decide (s.clk.good < 4) || s.tick.st != 1 || s.noTicks) = true
    rw [hl, decide_eq_false (Nat.not_lt.2 hg), hst, hn]
    decide
  · rfl

end Reference

/-- Settles O47: an edge is judged by the state of the LPLL; every change of the tick generator goes through `State.setTck`. -/
theorem linePll : Obligations.LinePll := by
  unfold Obligations.LinePll
  intro s t stamp x r hr hn
  refine ⟨fun h => exec_lineReference_invalid hr h t, fun h hx hT hst => ⟨fun hl => ⟨fun b h0 hp hnear hb => ?_, fun h0 hnear => ?_, fun h0 hfar => ?_⟩,
    fun hl => ⟨fun hnear hb hcap => ?_, fun hfar hst2 hhold => ?_⟩, fun hl => ⟨fun hfar => ?_, fun hnear hb hst3 => ?_⟩⟩,
    fun hl hx hp hst hhold hlines => ⟨fun hlate => ?_, fun hin => ?_⟩, fun hl hg hst => ?_⟩
  · rw [exec_lineReference_period hr hn h hx hT hst (by rw [hl]; decide) t]
    exact congrArg _ ((if_pos (beq_iff_eq.2 hl)).trans
      (State.acqPeriod_chooses (s := { s.at t with clk := s.clk.seen r stamp (since stamp x) }) h0 hp hnear hb))
  · rw [exec_lineReference_period hr hn h hx hT hst (by rw [hl]; decide) t]
    exact congrArg _ ((if_pos (beq_iff_eq.2 hl)).trans
      (State.acqPeriod_good (s := { s.at t with clk := s.clk.seen r stamp (since stamp x) }) h0 hnear))
  · rw [exec_lineReference_period hr hn h hx hT hst (by rw [hl]; decide) t]
    exact congrArg _ ((if_pos (beq_iff_eq.2 hl)).trans
      (State.acqPeriod_far (s := { s.at t with clk := s.clk.seen r stamp (since stamp x) }) h0 hfar))
  · obtain ⟨c, f, hfollow, -, hkept⟩ := State.follow_spec { s.at t with clk := s.clk.seen r stamp (since stamp x) } (since stamp x) false
    have hstep := exec_lineReference_period hr hn h hx hT hst (by rw [hl]; decide) t
    have hrun := State.runPeriod_follows (s := { s.at t with clk := s.clk.seen r stamp (since stamp x) }) hl hnear hb
    refine ⟨_, hstep.trans (congrArg _ ((if_neg (by rw [hl]; decide)).trans (hrun.trans hfollow))), hkept hcap, rfl⟩
  · obtain ⟨hregs, hcause, hlines, hno⟩ := State.holdEntry_spec (s := { s.at t with clk := s.clk.seen r stamp (since stamp x) }) hst2 hhold
    have hstep := exec_lineReference_period hr hn h hx hT hst (by rw [hl]; decide) t
    have hrun := State.runPeriod_steps (s := { s.at t with clk := s.clk.seen r stamp (since stamp x) }) hl hfar
    refine ⟨_, hstep.trans (congrArg _ ((if_neg (by rw [hl]; decide)).trans hrun)), hregs, hcause, fun h0 => ?_, hno⟩
    obtain ⟨hclk, htick, -⟩ := hlines h0
    rw [hclk, htick]
    exact ⟨rfl, rfl, rfl, rfl⟩
  · have hstep := exec_lineReference_period hr hn h hx hT hst (by rw [hl]; decide) t
    have hrun := State.runPeriod_hold (s := { s.at t with clk := s.clk.seen r stamp (since stamp x) }) hl hfar
    exact hstep.trans (congrArg _ ((if_neg (by rw [hl]; decide)).trans hrun))
  · have hstep := exec_lineReference_period hr hn h hx hT hst (by rw [hl]; decide) t
    have hspec := State.runPeriod_regains (s := { s.at t with clk := s.clk.seen r stamp (since stamp x) }) hl hnear hb hst3
    exact ⟨_, hstep.trans (congrArg _ (if_neg (by rw [hl]; decide))), hspec⟩
  · obtain ⟨-, hcause, hlate', -⟩ := State.holdEntry_spec (s := s.at t) hst hhold
    obtain ⟨hclk, htick, hc0⟩ := hlate' hlines
    exact ⟨_, (exec_referenceLoss hr hn t hl hx hp).trans (congrArg _ (if_pos hlate)), hclk, htick, hc0, hcause⟩
  · exact (exec_referenceLoss hr hn t hl hx hp).trans (congrArg _ (if_neg (Nat.not_le.2 hin)))
  · obtain ⟨hlpll, hacq, hcause, hregs, hst1, hab⟩ := (s.at t).lockedLpll_spec
    have hstep := exec_lpllLock hr hn t hl hg hst
    have hone : (s.at t).lockedLpll.tick.st = 1 := hst1.trans hst
    generalize (s.at t).lockedLpll = s1 at hlpll hacq hcause hregs hab hstep hone
    cases hf : s.tick.flushAb with
    | true =>
      have hab1 : s1.tick.flushAb = true := hab.trans hf
      obtain ⟨h, o, hset, hc0, hmono⟩ := State.setTck_raises (s1.modTick fun k => { k with flush := 64, flushAb := false }) (st := 5) (by
        show s1.tick.st ≠ 5
        rw [hone]
        decide)
      exact ⟨_, hstep.trans (congrArg _ ((if_pos hab1).trans hset)), hlpll, hacq, hc0, hmono 6 hcause, hregs, fun _ => ⟨rfl, rfl, rfl⟩,
        fun h => absurd h (by decide)⟩
    | false =>
      have hab1 : ¬s1.tick.flushAb = true := by
        rw [hab]
        exact fun h => Bool.false_ne_true (hf.symm.trans h)
      obtain ⟨h, o, hset, hc0, hmono⟩ := State.setTck_raises (s1.modTick fun k => { k with flushed := 64 }) (st := 2) (by
        show s1.tick.st ≠ 2
        rw [hone]
        decide)
      exact ⟨_, hstep.trans (congrArg _ ((if_neg hab1).trans hset)), hlpll, hacq, hc0, hmono 6 hcause, hregs, fun h => absurd h (by decide),
        fun _ => ⟨rfl, rfl⟩⟩

end Machine
end Sys2Proof

/-! The ASYNC divider reset, FIRE and the CLKOUT dividers (10_clocks R372 to R376). -/

namespace Sys2Proof
namespace Machine

/-- The top bit of a word cleared by its value. -/
theorem clearTop (w : W32) : BitVec.ofNat 32 (w.toNat - w.toNat / 2 ^ 31 % 2 ^ (31 + 1 - 31) * 2 ^ 31 + 0 % 2 ^ (31 + 1 - 31) * 2 ^ 31) =
    w &&& 0x7FFFFFFF := by
  have hw := w.isLt
  have hmask : (0x7FFFFFFF : W32).toNat = 2 ^ 31 - 1 := by decide
  refine BitVec.eq_of_toNat_eq ?_
  rw [BitVec.toNat_ofNat, BitVec.toNat_and, hmask, Nat.and_two_pow_sub_one_eq_mod]
  omega

theorem fld_clearTop (w : W32) : fld (w &&& 0x7FFFFFFF) 31 31 = 0 := by
  have hmask : (0x7FFFFFFF : W32).toNat = 2 ^ 31 - 1 := by decide
  rw [fld, BitVec.toNat_and, hmask, Nat.and_two_pow_sub_one_eq_mod, Nat.div_eq_of_lt (Nat.mod_lt _ (by decide))]
  rfl

/-! An edge (R372, R373). -/

/-- An edge that no rule lets reset the dividers. -/
theorem State.asyncEdge_ignored {s : State} (h : s.regF 0x180040 31 31 = 0 ∨ ¬(s.tick.st = 0 ∨ s.tick.st = 4) ∨ s.noTicks = true) :
    s.asyncEdge = s.modClk fun c => { c with asIgn := c.asIgn + 1 } := by
  refine if_neg ?_
  simp only [Bool.and_eq_true, beq_iff_eq, Bool.or_eq_true, Bool.not_eq_true']
  rintro ⟨⟨harm, hst⟩, hon⟩
  obtain h | h | h := h
  · exact absurd (h.symm.trans harm) (by decide)
  · exact h hst
  · exact Bool.false_ne_true (hon.symm.trans h)

/-- The first VCO edge is at most one unit of array time later. -/
theorem since_reset_edge (x : Time) (d : Nat) : since (x + BitVec.ofNat 64 (d % 3 / 2)) x ≤ 1 := by
  have hd : d % 3 / 2 ≤ 1 := by omega
  have hsub : x + BitVec.ofNat 64 (d % 3 / 2) - x = BitVec.ofNat 64 (d % 3 / 2) := by rw [BitVec.add_comm, BitVec.add_sub_cancel]
  rw [since, hsub, BitVec.toNat_ofNat]
  exact (Nat.mod_le _ _).trans hd

/-- An armed edge resets the dividers and disarms. -/
theorem State.asyncEdge_armed {s : State} (harm : s.regF 0x180040 31 31 = 1) (hst : s.tick.st = 0 ∨ s.tick.st = 4) (hn : s.noTicks = false) :
    let s' := s.asyncEdge
    s'.clk.asDone = true ∧ since s'.clk.asT (s.now + BitVec.ofNat 64 (16 + s.regF 0x180040 26 16)) ≤ 1 ∧ s'.clk.asIgn = s.clk.asIgn ∧
      s'.out = s.out ∧ s'.reg 0x180040 = s.reg 0x180040 &&& 0x7FFFFFFF ∧ (∀ o, o ≠ 0x180040 → s'.reg o = s.reg o) ∧ s'.tick = s.tick := by
  have hgo : (s.regF 0x180040 31 31 == 1 && (s.tick.st == 0 || s.tick.st == 4) && !s.noTicks) = true := by
    simp only [Bool.and_eq_true, beq_iff_eq, Bool.or_eq_true, Bool.not_eq_true']
    exact ⟨⟨harm, hst⟩, hn⟩
  have hset : s.useFree.setFld 0x180040 31 31 0 = s.useFree.putReg 0x180040 (s.reg 0x180040 &&& 0x7FFFFFFF) :=
    congrArg (s.useFree.putReg 0x180040) (clearTop (s.reg 0x180040))
  have hsame : (s.useFree.putReg 0x180040 (s.reg 0x180040 &&& 0x7FFFFFFF)).reg 0x180040 = s.reg 0x180040 &&& 0x7FFFFFFF :=
    s.useFree.reg_putReg_same _ _
  have hother : ∀ o, o ≠ 0x180040 → (s.useFree.putReg 0x180040 (s.reg 0x180040 &&& 0x7FFFFFFF)).reg o = s.reg o := fun o ho =>
    s.useFree.reg_putReg_ne _ _ _ ho
  unfold State.asyncEdge
  rw [if_pos hgo]
  dsimp only
  rw [hset]
  exact ⟨rfl, since_reset_edge _ _, rfl, rfl, hsame, hother, rfl⟩

section Edge

variable {s : State} (hr : s.running = true) (t : Time)
include hr

theorem exec_asyncEdge : exec (.asyncEdge t) s =
    .next (if s.regF 0x180040 29 28 == 1 then ((s.at t).emit (.async (s.at t).now)).asyncEdge else (s.at t).asyncEdge) := by
  have hexec : exec (.asyncEdge t) s = execAsyncEdge t s := rfl
  rw [hexec, execAsyncEdge, inRun_running hr]
  exact congrArg _ (apply_ite State.asyncEdge _ _ _)

end Edge

/-! FIRE (R374). -/

theorem rwReg_async : rwReg 0x180040 = some (0x10000000, 0xB7FF0000, false) := by decide

theorem State.asyncWrite_bad {s : State} {v : W32} (w : Wr) (h : fld v 29 28 = 3) : s.asyncWrite w v = s.reject 3 w.src 0x180040 :=
  if_pos (beq_iff_eq.2 h)

/-- A write with FIRE in OUT_MODE 2: the stored register, then a pulse that acts as an edge. -/
theorem State.asyncWrite_fire (s : State) (w : Wr) {v : W32} (h : fld v 29 28 = 2) (hf : bit v 30 = true) : ∃ f, s.asyncWrite w v =
    State.asyncEdge { s.putReg 0x180040 (v &&& 0xB7FF0000) with
      flt := f, clk := { s.clk with asDone := s.clk.asDone && !bit v 27 }, out := .async s.now :: s.out } := by
  have hfire : (bit v 30 && fld v 29 28 == 2) = true := by
    rw [hf, h]
    rfl
  refine ⟨{ s.flt with repair := s.flt.repair.filter (· != 0x180040) }, ?_⟩
  unfold State.asyncWrite
  rw [if_neg (by rw [h]; decide)]
  dsimp only
  rw [if_pos hfire, s.storeReg_unbanked rwReg_async]
  rfl

theorem fld_top (w : W32) : fld w 31 31 = (w.getLsbD 31).toNat := by
  rw [BitVec.getLsbD, Nat.testBit_eq_decide_div_mod_eq, fld]
  obtain h | h := Nat.mod_two_eq_zero_or_one (w.toNat / 2 ^ 31) <;> rw [h] <;> exact h

/-- ARM as written. -/
theorem fld_arm (v : W32) : fld (v &&& 0xB7FF0000) 31 31 = fld v 31 31 := by
  rw [fld_top, fld_top, BitVec.getLsbD_and]
  have hmask : (0xB7FF0000 : W32).getLsbD 31 = true := by decide
  rw [hmask, Bool.and_true]

/-! CLKOUT (R375, R376). -/

theorem rwReg_clkOut {j : Nat} (hj : j < 2) : rwReg (0x180050 + 8 * j) = some (0x20000, 0xFFFFE000, false) := by
  interval_cases j <;> decide

section ClkOut

variable {s : State} {j : Nat} (w : Wr) {v : W32}

theorem State.clkOutWrite_bad (h : fld v 30 29 = 3 ∨ fld v 28 13 = 0 ∨ 250000000 * fld v 28 13 < s.clkSrcHz (fld v 30 29)) :
    s.clkOutWrite j w v = s.reject 3 w.src (0x180050 + 8 * j) := by
  refine if_pos ?_
  simpa [or_assoc] using h

theorem State.clkOutWrite_good (hj : j < 2) (h : ¬(fld v 30 29 = 3 ∨ fld v 28 13 = 0 ∨ 250000000 * fld v 28 13 < s.clkSrcHz (fld v 30 29))) :
    ∃ f, s.clkOutWrite j w v = { s.putReg (0x180050 + 8 * j) (v &&& 0xFFFFE000) with flt := f, out := .clkout j v :: s.out } := by
  refine ⟨{ s.flt with repair := s.flt.repair.filter (· != 0x180050 + 8 * j) }, (if_neg ?_).trans ?_⟩
  · simpa [or_assoc] using h
  · rw [s.storeReg_unbanked (rwReg_clkOut hj)]
    rfl

end ClkOut

/-- Settles O48: an edge is either the reset of the dividers or counted; FIRE is a stored write and an edge. -/
theorem asyncAndClkout : Obligations.AsyncAndClkout := by
  unfold Obligations.AsyncAndClkout
  intro s t v src j hr
  have ha := State.alive_of_running hr
  refine ⟨fun harm hst hn => ?_, fun hmode hno => ?_, fun hreach hv => ?_, fun hreach hv hf => ?_, fun hj hreach => ⟨fun hbad => ?_, fun hgood => ?_⟩⟩
  · refine ⟨_, exec_asyncEdge hr t, ?_⟩
    by_cases hm : s.regF 0x180040 29 28 = 1
    · obtain ⟨hdone, hsince, hign, hout, hreg, hother, htick⟩ := State.asyncEdge_armed (s := (s.at t).emit (.async (s.at t).now)) harm hst hn
      rw [if_pos (beq_iff_eq.2 hm)]
      exact ⟨hdone, hsince, (congrArg (fun w => fld w 31 31) hreg).trans (fld_clearTop _), hign, fun _ => hout, hother, htick⟩
    · obtain ⟨hdone, hsince, hign, hout, hreg, hother, htick⟩ := State.asyncEdge_armed (s := s.at t) harm hst hn
      rw [if_neg (mt beq_iff_eq.1 hm)]
      exact ⟨hdone, hsince, (congrArg (fun w => fld w 31 31) hreg).trans (fld_clearTop _), hign, fun h => absurd h hm, hother, htick⟩
  · rw [exec_asyncEdge hr t, if_neg (mt beq_iff_eq.1 hmode), State.asyncEdge_ignored (s := s.at t) hno]
    rfl
  · have hexec : exec (.fire t (goodWr v src)) s = execFire t (goodWr v src) s := rfl
    show exec _ s = _
    rw [hexec, execFire, regCmd_good ha _ hreach, State.asyncWrite_bad _ hv, State.reject_of_lt _ _ _ (by decide)]
    rfl
  · have hexec : exec (.fire t (goodWr v src)) s = execFire t (goodWr v src) s := rfl
    obtain ⟨f, heq⟩ := (s.at t).asyncWrite_fire (goodWr v src) hv hf
    have hput := (s.at t).reg_putReg_same 0x180040 (v &&& 0xB7FF0000)
    have hput' := fun o ho => (s.at t).reg_putReg_ne 0x180040 o (v &&& 0xB7FF0000) ho
    obtain ⟨s1, hs1⟩ : ∃ s1 : State, s1 = { (s.at t).putReg 0x180040 (v &&& 0xB7FF0000) with
      flt := f, clk := { s.clk with asDone := s.clk.asDone && !bit v 27 }, out := .async (s.at t).now :: s.out } := ⟨_, rfl⟩
    have hreg1 : s1.reg 0x180040 = v &&& 0xB7FF0000 := by rw [hs1]; exact hput
    have hother1 : ∀ o, o ≠ 0x180040 → s1.reg o = s.reg o := by rw [hs1]; exact hput'
    have harm1 : s1.regF 0x180040 31 31 = fld v 31 31 := by rw [State.regF, hreg1, fld_arm]
    have hrest : s1.out = .async (s.at t).now :: s.out ∧ s1.tick = s.tick ∧ s1.noTicks = s.noTicks ∧ s1.clk.asIgn = s.clk.asIgn := by
      rw [hs1]
      exact ⟨rfl, rfl, rfl, rfl⟩
    have hstep : exec (.fire t (goodWr v src)) s = .next s1.asyncEdge := by
      rw [hexec, execFire, regCmd_good ha _ hreach, heq, hs1]
      rfl
    clear hs1 heq
    obtain ⟨hout1, htick1, hnt1, hign1⟩ := hrest
    refine ⟨_, hstep, ?_⟩
    by_cases hgo : fld v 31 31 = 1 ∧ (s.tick.st = 0 ∨ s.tick.st = 4) ∧ s.noTicks = false
    · obtain ⟨harm, hst, hn⟩ := hgo
      obtain ⟨hdone, -, -, hout, hreg, hother, -⟩ := State.asyncEdge_armed (harm1.trans harm) (by rw [htick1]; exact hst) (hnt1.trans hn)
      refine ⟨hout.trans hout1, fun o ho => (hother o ho).trans (hother1 o ho), fun _ _ _ => ⟨hdone, ?_⟩, fun h => absurd (h.symm.trans harm) (by decide)⟩
      have hmask : (0xB7FF0000 : W32) &&& 0x7FFFFFFF = 0x37FF0000 := by decide
      rw [hreg, hreg1, BitVec.and_assoc, hmask]
    · have hcase : s1.regF 0x180040 31 31 = 0 ∨ ¬(s1.tick.st = 0 ∨ s1.tick.st = 4) ∨ s1.noTicks = true := by
        rw [harm1, htick1, hnt1]
        obtain h | h := Nat.mod_two_eq_zero_or_one (v.toNat / 2 ^ 31)
        · exact .inl h
        · by_cases hst : s.tick.st = 0 ∨ s.tick.st = 4
          · refine .inr (.inr ?_)
            by_contra hn
            exact hgo ⟨h, hst, by simpa using hn⟩
          · exact .inr (.inl hst)
      rw [State.asyncEdge_ignored hcase]
      exact ⟨hout1, hother1, fun h hst hn => absurd ⟨h, hst, hn⟩ hgo, fun _ => ⟨congrArg (· + 1) hign1, hreg1⟩⟩
  · have hexec : exec (.clkOutWrite t j (goodWr v src)) s = execClkOutWrite t j (goodWr v src) s := rfl
    show exec _ s = _
    rw [hexec, execClkOutWrite, if_pos hj, regCmd_good ha _ hreach, State.clkOutWrite_bad (s := s.at t) _ hbad, State.reject_of_lt _ _ _ (by omega)]
    rfl
  · have hexec : exec (.clkOutWrite t j (goodWr v src)) s = execClkOutWrite t j (goodWr v src) s := rfl
    obtain ⟨f, heq⟩ := State.clkOutWrite_good (s := s.at t) (goodWr v src) hj hgood
    refine ⟨_, by rw [hexec, execClkOutWrite, if_pos hj, regCmd_good ha _ hreach, heq], ?_⟩
    exact ⟨(s.at t).reg_putReg_same _ _, rfl, fun o ho => (s.at t).reg_putReg_ne _ _ _ ho, rfl⟩

end Machine
end Sys2Proof

/-! The thermal sample (15_thermal R496 to R502, R506, R507), the shutdown, the thermal registers, and the rearm (R507 to R513). -/

namespace Sys2Proof
namespace Machine

/-! The sensors of a sample (R496 to R499). -/

theorem getD_map_range {α : Type} (f : Nat → α) {i n : Nat} (d : α) (h : i < n) : ((List.range n).map f).getD i d = f i := by
  rw [List.getD_eq_getElem?_getD, List.getElem?_map, List.getElem?_range h]
  rfl

section Sense

variable (s : State) (rs : Nat → Reading)

/-- A sensor after its own checks. -/
def State.tookSen (i : Nat) : Sensor := if s.senActive i then (s.sen i).take (rs i) ((s.senCauses rs).getD i 0) s.now else s.sen i

/-- The sensors that are forced to the limit: two neighbours fail. -/
def State.forcedSen : List Bool :=
  (List.range 40).map fun i => (s.senCauses rs).getD i 0 != 0 && (List.range 40).any fun j =>
    (s.senCauses rs).getD j 0 != 0 && ((senNbrs i).contains j || (senNbrs j).contains i)

/-- The effective readings of the sample. -/
def State.effSen : List Int := s.effective rs (s.senCauses rs) (((List.range 40).map (s.tookSen rs)).map (·.sub)) (s.forcedSen rs)

/-- A sensor after the sample. -/
def State.sampled (i : Nat) : Sensor :=
  let x := ((List.range 40).map (s.tookSen rs)).getD i Sensor.fresh
  if s.senActive i then { x with eff := (s.effSen rs).getD i 0, forced := (s.forcedSen rs).getD i false } else x

/-- What is logged and counted of one sensor of the sample. -/
def State.logSen (xs : List Sensor) (z : State) (i : Nat) : State :=
  let was := s.sen i
  let x := xs.getD i Sensor.fresh
  let z := if x.sub && !was.sub then
      let z := { z with th := { z.th with ack := true, subs := z.th.subs + 1 } }
      (z.raise 25).logEvent 0x0A 2 i x.cause (usg 64 x.raw.toInt)
    else if was.sub && !x.sub then z.logEvent 0x0A 3 i 0 0
    else z
  if x.forced then
    ((List.range 40).filter fun j => i < j && (xs.getD j Sensor.fresh).forced && ((senNbrs i).contains j || (senNbrs j).contains i) &&
      !(was.forced && (s.sen j).forced)).foldl (fun z j => z.logEvent 0x0A 4 i j 0) z
  else z

/-- The sensors are stored, then what changed is logged. -/
def State.storeSen (xs : List Sensor) : State :=
  { s with
    th := { s.th with sen := (List.range 40).foldl (fun t i => Tbl.set Sensor.fresh t i (xs.getD i Sensor.fresh)) s.th.sen }
    free := s.free + 40 }

theorem State.senseAll_eq : s.senseAll rs =
    (List.range 40).foldl (s.logSen ((List.range 40).map (s.sampled rs))) (s.storeSen ((List.range 40).map (s.sampled rs))) := rfl

/-! A known reading stays through the rounds of substitution (R498). -/

theorem State.subRound_known {fail : List Nat} {eff : List (Option Int)} {i : Nat} {e : Int} (hi : i < 40) (h : eff.getD i none = some e) :
    (s.subRound fail eff).getD i none = some e := by
  unfold State.subRound
  dsimp only
  rw [getD_map_range _ _ hi, h]
  rfl

theorem State.effective_known {fail : List Nat} {sub forced : List Bool} {i : Nat} (hi : i < 40) (ha : s.senActive i = true)
    (hforced : forced.getD i false = false) (hsub : sub.getD i false = false) : (s.effective rs fail sub forced).getD i 0 = rval (rs i) := by
  unfold State.effective
  extract_lets lim known eff
  have hknown : known.getD i none = some (rval (rs i)) := by
    dsimp only [known]
    rw [getD_map_range _ _ hi, ha, hforced, hsub]
    rfl
  have heff : eff.getD i none = some (rval (rs i)) :=
    List.foldlRecOn (List.range 40) _ (motive := fun e : List (Option Int) => e.getD i none = some (rval (rs i))) hknown fun e he j _ =>
      s.subRound_known hi he
  rw [getD_map_range _ _ hi, heff]
  rfl

end Sense

section Sampled

variable (s : State) (rs : Nat → Reading) {i : Nat} (hi : i < 40)
include hi

theorem State.sampled_inactive (ha : s.senActive i = false) : s.sampled rs i = s.sen i := by
  have hno : ¬s.senActive i = true := by rw [ha]; exact Bool.false_ne_true
  unfold State.sampled
  dsimp only
  rw [if_neg hno, getD_map_range _ _ hi, State.tookSen, if_neg hno]

theorem State.sampled_active (ha : s.senActive i = true) : s.sampled rs i =
    { (s.sen i).take (rs i) ((s.senCauses rs).getD i 0) s.now with eff := (s.effSen rs).getD i 0, forced := (s.forcedSen rs).getD i false } := by
  unfold State.sampled
  dsimp only
  rw [if_pos ha, getD_map_range _ _ hi, State.tookSen, if_pos ha]

/-- A sensor that fails its checks is substituted. -/
theorem State.sampled_fails (ha : s.senActive i = true) (hc : (s.senCauses rs).getD i 0 ≠ 0) :
    (s.sampled rs i).sub = true ∧ (s.sampled rs i).cause = (s.senCauses rs).getD i 0 ∧ (s.sampled rs i).good = 0 := by
  rw [s.sampled_active rs hi ha, Sensor.take, if_pos (bne_iff_ne.2 hc)]
  exact ⟨rfl, rfl, rfl⟩

/-- A sensor that passes has complementary halves. -/
theorem State.senCauses_passes (ha : s.senActive i = true) (hc : (s.senCauses rs).getD i 0 = 0) : (rs i).c = ~~~(rs i).v := by
  by_contra hne
  have hown : (((List.range 40).map fun i => if s.senActive i then ownCheck (s.sen i) (rs i) s.now else 0).getD i 0) = 4 := by
    rw [getD_map_range _ _ hi, if_pos ha, ownCheck, if_pos (bne_iff_ne.2 hne)]
  unfold State.senCauses at hc
  dsimp only at hc
  rw [getD_map_range _ _ hi, hown] at hc
  rw [if_pos (show (4 != 0 || !s.senActive i) = true from rfl)] at hc
  exact absurd hc (by decide)

/-- A sensor that passes its checks and is not substituted reads itself. -/
theorem State.sampled_passes (ha : s.senActive i = true) (hc : (s.senCauses rs).getD i 0 = 0) (hsub : (s.sen i).sub = false) :
    (s.sampled rs i).sub = false ∧ (s.sampled rs i).eff = (rs i).v.toInt ∧ (s.sampled rs i).raw = (rs i).v := by
  have hpair : ¬((rs i).c != ~~~(rs i).v) = true := by
    rw [s.senCauses_passes rs hi ha hc, bne_self_eq_false]
    exact Bool.false_ne_true
  have hpass : ¬((s.senCauses rs).getD i 0 != 0) = true := by
    rw [hc]
    decide
  have htake : ((s.sen i).take (rs i) ((s.senCauses rs).getD i 0) s.now).sub = false ∧
      ((s.sen i).take (rs i) ((s.senCauses rs).getD i 0) s.now).raw = (rs i).v := by
    rw [Sensor.take, if_neg hpair, if_neg hpass, hsub]
    exact ⟨rfl, rfl⟩
  have hforced : (s.forcedSen rs).getD i false = false := by
    rw [State.forcedSen, getD_map_range _ _ hi, hc]
    rfl
  have hsubs : (((List.range 40).map (s.tookSen rs)).map (·.sub)).getD i false = false := by
    rw [List.map_map, getD_map_range _ _ hi, Function.comp_apply, State.tookSen, if_pos ha]
    exact htake.1
  have heff : (s.effSen rs).getD i 0 = rval (rs i) := s.effective_known rs hi ha hforced hsubs
  rw [s.sampled_active rs hi ha]
  exact ⟨htake.1, heff, htake.2⟩

end Sampled

/-! What the log of a sample touches. -/

/-- Logging a sample touches ACK_REQ, the counts and the log. -/
def SenLogged (s s' : State) : Prop :=
  ∃ a n f h o, s' = { s with th := { s.th with ack := a, subs := n }, flt := f, host := h, out := o }

theorem SenLogged.refl (s : State) : SenLogged s s := ⟨_, _, _, _, _, rfl⟩

theorem SenLogged.trans {a b c : State} (h1 : SenLogged a b) (h2 : SenLogged b c) : SenLogged a c := by
  obtain ⟨a, n, f, h, o, rfl⟩ := h1
  obtain ⟨a, n, f, h, o, rfl⟩ := h2
  exact ⟨_, _, _, _, _, rfl⟩

theorem SenLogged.foldl {α : Type} {g : State → α → State} (hg : ∀ s a, SenLogged s (g s a)) (l : List α) (s : State) : SenLogged s (l.foldl g s) :=
  foldl_rel SenLogged.refl (fun _ _ _ => SenLogged.trans) hg _ _

theorem State.logEvent_senLogged (s : State) (unit code d1 d2 d3 : Nat) : SenLogged s (s.logEvent unit code d1 d2 d3) := by
  obtain ⟨f, h, o, heq⟩ := s.logEvent_frame unit code d1 d2 d3
  rw [heq]
  exact ⟨_, _, _, _, _, rfl⟩

theorem State.raise_senLogged (s : State) {v : Nat} (hv : v < 28) : SenLogged s (s.raise v) := by
  obtain ⟨h, o, heq, -⟩ := s.raise_frame hv
  rw [heq]
  exact ⟨_, _, _, _, _, rfl⟩

theorem State.logSen_senLogged (s : State) (xs : List Sensor) (z : State) (i : Nat) : SenLogged z (s.logSen xs z i) := by
  unfold State.logSen
  extract_lets was x th zs z1
  have h1 : SenLogged z z1 := by
    dsimp only [z1]
    split
    · refine SenLogged.trans ?_ (State.logEvent_senLogged _ _ _ _ _ _)
      refine SenLogged.trans ?_ (State.raise_senLogged _ (v := 25) (by decide))
      exact ⟨_, _, _, _, _, rfl⟩
    · split
      · exact z.logEvent_senLogged ..
      · exact .refl z
  clear_value z1
  split
  · exact h1.trans (SenLogged.foldl (fun z j => z.logEvent_senLogged 0x0A 4 i j 0) _ z1)
  · exact h1

theorem State.storeSen_sen (s : State) (xs : List Sensor) {i : Nat} (hi : i < 40) : (s.storeSen xs).sen i = xs.getD i Sensor.fresh :=
  (Tbl.get_foldl_set Sensor.fresh (fun i => xs.getD i Sensor.fresh) s.th.sen 40 i).trans (if_pos hi)

/-- The state after the sensors have been read. -/
theorem State.senseAll_spec (s : State) (rs : Nat → Reading) : let s' := s.senseAll rs
    (∀ i, i < 40 → s'.sen i = s.sampled rs i) ∧ s'.tick = s.tick ∧ s'.regs = s.regs ∧ s'.boot = s.boot ∧ s'.th.k = s.th.k ∧
      s'.th.hotN = s.th.hotN ∧ s'.th.shut = s.th.shut := by
  obtain ⟨xs, hxs⟩ : ∃ xs, xs = (List.range 40).map (s.sampled rs) := ⟨_, rfl⟩
  have hget : ∀ i, i < 40 → xs.getD i Sensor.fresh = s.sampled rs i := fun i hi => by rw [hxs, getD_map_range _ _ hi]
  have hsen := fun i (hi : i < 40) => (s.storeSen_sen xs hi).trans (hget i hi)
  obtain ⟨a, n, f, h, o, heq⟩ := SenLogged.foldl (s.logSen_senLogged xs) (List.range 40) (s.storeSen xs)
  rw [State.senseAll_eq, ← hxs, heq]
  exact ⟨hsen, rfl, rfl, rfl, rfl, rfl, rfl⟩

/-! Temperatures and the warning (R496, R506). -/

/-- The running maximum of readings. -/
def hottest (f : Nat → Int) (m : Nat × Int) (j : Nat) : Nat × Int := if m.2 < f j then (j, f j) else m

theorem hottest_spec (f : Nat → Int) (l : List Nat) (i : Nat) (m : Nat × Int) (hm : m.2 = f i) : let p := l.foldl (hottest f) m
    (∀ j ∈ i :: l, f j ≤ p.2) ∧ ∃ j ∈ i :: l, f j = p.2 := by
  induction l generalizing i m with
  | nil => exact ⟨fun j hj => by rw [List.mem_singleton.1 hj, ← hm]; exact le_refl _, i, List.mem_singleton_self i, hm.symm⟩
  | cons k l ih =>
    dsimp only
    rw [List.foldl_cons]
    by_cases hlt : m.2 < f k
    · have hstep : hottest f m k = (k, f k) := if_pos hlt
      obtain ⟨hle, j, hj, heq⟩ := ih k (k, f k) rfl
      rw [hstep]
      refine ⟨fun x hx => ?_, j, List.mem_cons_of_mem i hj, heq⟩
      obtain rfl | hx := List.mem_cons.1 hx
      · exact (hm ▸ hlt).le.trans (hle k List.mem_cons_self)
      · exact hle x hx
    · have hstep : hottest f m k = m := if_neg hlt
      obtain ⟨hle, j, hj, heq⟩ := ih i m hm
      rw [hstep]
      refine ⟨fun x hx => ?_, j, ?_, heq⟩
      · obtain rfl | hx := List.mem_cons.1 hx
        · exact hle x List.mem_cons_self
        · obtain rfl | hx := List.mem_cons.1 hx
          · exact (hm ▸ not_lt.1 hlt).trans (hle i List.mem_cons_self)
          · exact hle x (List.mem_cons_of_mem i hx)
      · obtain rfl | hj := List.mem_cons.1 hj
        · exact List.mem_cons_self
        · exact List.mem_cons_of_mem i (List.mem_cons_of_mem k hj)

/-- T_c is the highest effective reading of the active sensors; nothing else that a sample's decisions use changes. -/
theorem State.temps_spec (s : State) (h34 : s.senActive 34 = true) :
    (∀ i, i < 40 → s.senActive i = true → (s.sen i).eff ≤ s.temps.th.tc) ∧ (∃ i, i < 40 ∧ s.senActive i = true ∧ (s.sen i).eff = s.temps.th.tc) ∧
      ∃ a b c d e, s.temps = { s with th := { s.th with tc := a, hot := b, pix := c, max := d, maxS := e } } := by
  have hmem : ∀ i, i ∈ (List.range 40).filter s.senActive ↔ i < 40 ∧ s.senActive i = true := fun i => by rw [List.mem_filter, List.mem_range]
  unfold State.temps
  extract_lets act
  cases hact : act with
  | nil => exact absurd ((hmem 34).2 ⟨by decide, h34⟩) (by rw [show (List.range 40).filter s.senActive = [] from hact]; exact List.not_mem_nil)
  | cons i r =>
    have hact' : (List.range 40).filter s.senActive = i :: r := hact
    obtain ⟨hle, j, hj, heq⟩ := hottest_spec (fun j => (s.sen j).eff) r i (i, (s.sen i).eff) rfl
    rw [← hact'] at hle hj
    obtain ⟨hj40, hjact⟩ := (hmem j).1 hj
    exact ⟨fun x hx hxa => hle x ((hmem x).2 ⟨hx, hxa⟩), ⟨j, hj40, hjact, heq⟩, _, _, _, _, _, rfl⟩

theorem State.warning_frame (s : State) : ∃ w f h o, s.warning = { s with th := { s.th with warn := w }, flt := f, host := h, out := o } := by
  unfold State.warning
  dsimp only
  split
  · obtain ⟨h, o, hraise, -⟩ := State.raise_frame { s with th := { s.th with warn := true } } (v := 25) (by decide)
    obtain ⟨f, h', o', hlog⟩ := State.logEvent_frame { s with th := { s.th with warn := true }, host := h, out := o } 0x0A 5 s.th.hot (usg 64 s.th.tc) 0
    rw [hraise, hlog]
    exact ⟨_, _, _, _, rfl⟩
  · split
    · exact ⟨_, _, _, _, rfl⟩
    · exact ⟨_, _, _, _, rfl⟩

/-! The decision of a sample (R501, R507). -/

/-- The thermal state, the registers and the tick generator are kept. -/
def ThKept (s s' : State) : Prop := s'.th = s.th ∧ s'.regs = s.regs ∧ s'.tick = s.tick

theorem ThKept.refl (s : State) : ThKept s s := ⟨rfl, rfl, rfl⟩

theorem ThKept.trans {a b c : State} (h1 : ThKept a b) (h2 : ThKept b c) : ThKept a c :=
  ⟨h2.1.trans h1.1, h2.2.1.trans h1.2.1, h2.2.2.trans h1.2.2⟩

theorem ThKept.foldl {α : Type} {g : State → α → State} (hg : ∀ s a, ThKept s (g s a)) (l : List α) (s : State) : ThKept s (l.foldl g s) :=
  foldl_rel ThKept.refl (fun _ _ _ => ThKept.trans) hg _ _

theorem State.raise_thKept (s : State) {v : Nat} (hv : v < 28) : ThKept s (s.raise v) := by
  obtain ⟨h, o, heq, -⟩ := s.raise_frame hv
  rw [heq]
  exact ⟨rfl, rfl, rfl⟩

theorem State.showOut_thKept (s : State) (e o : Nat) : ThKept s (s.showOut e o) := by
  unfold State.showOut
  split
  · exact ⟨rfl, rfl, rfl⟩
  · exact .refl s

theorem State.idleOuts_thKept (s : State) (e : Nat) : ThKept s (s.idleOuts e) := by
  unfold State.idleOuts State.showOuts
  refine ThKept.trans ?_ (ThKept.foldl (fun s o => s.showOut_thKept e o) _ _)
  exact ⟨rfl, rfl, rfl⟩

theorem State.ringStop_thKept (s : State) (ch : Nat) : ThKept s (s.ringStop ch) := by
  obtain ⟨h, o, heq⟩ := (s.ringStop_spec ch).1.frame
  rw [heq]
  exact ⟨rfl, rfl, rfl⟩

theorem State.abandonFlash_thKept (s : State) : ThKept s s.abandonFlash := by
  unfold State.abandonFlash
  extract_lets s1
  have h1 : ThKept s s1 := by
    dsimp only [s1]
    split
    · refine ThKept.trans ?_ (State.raise_thKept _ (v := 19) (by decide))
      exact ⟨rfl, rfl, rfl⟩
    · exact .refl s
  clear_value s1
  refine h1.trans ?_
  split
  · split
    · exact ⟨rfl, rfl, rfl⟩
    · exact .refl s1
  · exact .refl s1

/-- The outputs of the pin engines idle. -/
def State.idlePin (s : State) (e : Nat) : State := (s.modPx e fun p => { p with st := 0, blk := none, seen := [], stopReq := false }).idleOuts e

theorem State.idlePin_thKept (s : State) (e : Nat) : ThKept s (s.idlePin e) := by
  refine ThKept.trans ?_ (State.idleOuts_thKept _ e)
  exact ⟨rfl, rfl, rfl⟩

/-- A shutdown begins: STOPPED, and of the thermal state only its own fields. -/
theorem State.shutDown_spec (s : State) : s.shutDown.tick.st = 0 ∧ s.shutDown.regs = s.regs ∧
    ∃ a b, s.shutDown.th = { s.th with shut := 1, shutT := a, shutH := b } := by
  unfold State.shutDown
  extract_lets now h th s1 s2 s3
  have h1 : s1.tick.st = 0 ∧ s1.regs = s.regs ∧ s1.th = { s.th with shut := 1, shutT := now, shutH := h } := by
    obtain ⟨f, hh, o, hhealth⟩ := State.health_frame { s with th := { s.th with shut := 1, shutT := now, shutH := h } }
    obtain ⟨-, hst⟩ := (State.health { s with th := { s.th with shut := 1, shutT := now, shutH := h } }).enterStopped_spec
    obtain ⟨k, q, x, c, cl, fb, fr, hl, o', hmode, -⟩ :=
      enterStopped_modeOnly (s := State.health { s with th := { s.th with shut := 1, shutT := now, shutH := h } })
    refine ⟨hst, ?_, ?_⟩
    · show (State.enterStopped _).regs = _
      rw [hmode, hhealth]
    · show (State.enterStopped _).th = _
      rw [hmode, hhealth]
  have h2 : ThKept s1 s2 := ThKept.foldl State.idlePin_thKept _ s1
  have h3 : ThKept s2 s3 := ThKept.foldl State.ringStop_thKept _ s2
  clear_value s1 s2 s3
  obtain ⟨hth, hregs, htick⟩ := (h2.trans h3).trans s3.abandonFlash_thKept
  obtain ⟨hst, hregs1, hth1⟩ := h1
  exact ⟨(congrArg Tick.st htick).trans hst, hregs.trans hregs1, _, _, hth.trans hth1⟩

/-- A throttle decision: of the tick generator only the next period and the worst one. -/
theorem State.decideStep_spec (s : State) : ∃ a b c d n w, s.decideStep = { s with
    th := { s.th with prev := a, low := b, kNew := c, chT := d }, tick := { s.tick with next := n, worst := w } } := by
  unfold State.decideStep
  extract_lets prev hyst low th s1 free
  have h1 : ∃ a b, s1 = { s with th := { s.th with prev := a, low := b } } := ⟨_, _, rfl⟩
  clear_value s1 free
  obtain ⟨a, b, rfl⟩ := h1
  split
  · split
    · exact ⟨_, _, _, _, _, _, rfl⟩
    · exact ⟨_, _, _, _, _, _, rfl⟩
  · exact ⟨_, _, _, _, _, _, rfl⟩

/-- The state of a sample before its decision. -/
def State.sampleRead (s : State) (rs : Nat → Reading) : State :=
  let s1 := (s.senseAll rs).temps.warning
  { s1 with th := { s1.th with hotN := if 16 * (s1.regF 0x1E0000 15 8 : Int) ≤ s1.th.tc then s1.th.hotN + 1 else 0 } }

theorem State.sampleRead_spec (s : State) (rs : Nat → Reading) (h34 : s.senActive 34 = true) : let s' := s.sampleRead rs
    (∀ i, i < 40 → s'.sen i = s.sampled rs i) ∧ s'.tick = s.tick ∧ s'.regs = s.regs ∧ s'.th.k = s.th.k ∧ s'.th.shut = s.th.shut ∧
      (∀ i, i < 40 → s.senActive i = true → (s'.sen i).eff ≤ s'.th.tc) ∧ (∃ i, i < 40 ∧ s.senActive i = true ∧ (s'.sen i).eff = s'.th.tc) ∧
      s'.th.hotN = (if 16 * (s.regF 0x1E0000 15 8 : Int) ≤ s'.th.tc then s.th.hotN + 1 else 0) := by
  obtain ⟨hsen, htick, hregs, hboot, hk, hhot, hshut⟩ := s.senseAll_spec rs
  have hact : ∀ i, (s.senseAll rs).senActive i = s.senActive i := fun i => by
    unfold State.senActive
    rw [hboot]
  obtain ⟨hle, hmax, a, b, c, d, e, htemps⟩ := (s.senseAll rs).temps_spec ((hact 34).trans h34)
  simp only [hact] at hle hmax
  have hregF : (s.senseAll rs).regF 0x1E0000 15 8 = s.regF 0x1E0000 15 8 := congrArg (fun w => fld w 15 8) (reg_of_regs hregs 0x1E0000)
  unfold State.sampleRead
  generalize s.senseAll rs = z at *
  rw [htemps] at hle hmax ⊢
  obtain ⟨w, f, h, o, hwarn⟩ := State.warning_frame { z with th := { z.th with tc := a, hot := b, pix := c, max := d, maxS := e } }
  dsimp only
  rw [hwarn]
  refine ⟨hsen, htick, hregs, hk, hshut, hle, hmax, ?_⟩
  rw [← hregF, ← hhot]
  rfl

theorem exec_thermalSample {s : State} (ha : s.alive = true) (hg : s.clk.aGated = none) (hs : s.th.shut = 0) (h34 : s.senActive 34 = true) (t : Time)
    (rs : List Reading) : exec (.thermalSample t rs) s = .next (
      let z := (s.at t).sampleRead fun i => rs.getD i { v := 0, c := 0 }
      if 2 ≤ z.th.hotN then z.shutDown else z.decideStep) := by
  have hexec : exec (.thermalSample t rs) s = execThermalSample t rs s := rfl
  rw [hexec, execThermalSample, timed_alive ha]
  refine congrArg _ ((if_neg ?_).trans rfl)
  show ¬(s.clk.aGated.isSome || s.th.shut != 0 || !s.senActive 34) = true
  rw [hg, hs, h34]
  decide

theorem thermalSample_spec {s : State} (ha : s.alive = true) (hg : s.clk.aGated = none) (hs : s.th.shut = 0) (h34 : s.senActive 34 = true) (t : Time)
    (rs : List Reading) : Gives (.thermalSample t rs) s fun s' =>
      (∀ i, i < 40 → s'.sen i = (s.at t).sampled (fun i => rs.getD i { v := 0, c := 0 }) i) ∧
      (∀ i, i < 40 → s.senActive i = true → (s'.sen i).eff ≤ s'.th.tc) ∧ (∃ i, i < 40 ∧ s.senActive i = true ∧ (s'.sen i).eff = s'.th.tc) ∧
      s'.th.hotN = (if 16 * (s.regF 0x1E0000 15 8 : Int) ≤ s'.th.tc then s.th.hotN + 1 else 0) ∧
      (2 ≤ s'.th.hotN → s'.th.shut = 1 ∧ s'.tick.st = 0) ∧
      (s'.th.hotN < 2 → s'.th.shut = 0 ∧ s'.tick = { s.tick with next := s'.tick.next, worst := s'.tick.worst }) ∧
      s'.th.k = s.th.k ∧ s'.regs = s.regs := by
  refine ⟨_, exec_thermalSample ha hg hs h34 t rs, ?_⟩
  obtain ⟨hsen, htick, hregs, hk, hshut, hle, hmax, hhot⟩ := (s.at t).sampleRead_spec (fun i => rs.getD i { v := 0, c := 0 }) h34
  generalize (s.at t).sampleRead (fun i => rs.getD i { v := 0, c := 0 }) = z at *
  dsimp only
  by_cases h2 : 2 ≤ z.th.hotN
  · obtain ⟨hst, hregs', a, b, hth⟩ := z.shutDown_spec
    rw [if_pos h2]
    generalize z.shutDown = y at *
    have hsen' : ∀ i, y.sen i = z.sen i := fun i => (congrArg (fun h : Therm => Tbl.get Sensor.fresh h.sen i) hth :)
    simp only [hsen']
    rw [hth]
    exact ⟨hsen, hle, hmax, hhot, fun _ => ⟨rfl, hst⟩, fun h => absurd h2 (Nat.not_le.2 h), hk, hregs'.trans hregs⟩
  · obtain ⟨a, b, c, d, n, w, heq⟩ := z.decideStep_spec
    rw [if_neg h2, heq]
    refine ⟨hsen, hle, hmax, hhot, fun h => absurd h h2, fun _ => ⟨hshut.trans hs, ?_⟩, hk, hregs⟩
    show { z.tick with next := n, worst := w } = _
    rw [htick]
    rfl

/-! The shutdown (R507 to R509). -/

theorem State.drainRing_done (s : State) (ch : Nat) : RingDone ch s ((s.discardEgress ch).ringIdle ch) :=
  (s.discardEgress_ringDone ch ch).trans (State.ringIdle_spec _ ch).1.done

/-- What draining rings keeps. -/
theorem drainRings_frame (l : List Nat) (s : State) :
    ∃ b f h o, l.foldl (fun s ch => (s.discardEgress ch).ringIdle ch) s = { s with fab := b, flt := f, host := h, out := o } := by
  refine foldl_rel (R := fun s s' : State => ∃ b f h o, s' = { s with fab := b, flt := f, host := h, out := o }) (fun s => ⟨_, _, _, _, rfl⟩) ?_
    (fun s ch => (s.drainRing_done ch).frame) l s
  rintro a b c ⟨_, _, _, _, rfl⟩ ⟨_, _, _, _, rfl⟩
  exact ⟨_, _, _, _, rfl⟩

theorem drainRings_idle (l : List Nat) (s : State) {ch : Nat} (hch : ch ∈ l) :
    ((l.foldl (fun s ch => (s.discardEgress ch).ringIdle ch) s).ring ch).st = 0 := by
  have hidle : ∀ s : State, (((s.discardEgress ch).ringIdle ch).ring ch).st = 0 := fun s => (State.ringIdle_spec _ ch).2.1
  refine @foldl_hits Nat State (fun s => (s.ring ch).st = 0) (fun _ => True) (fun s ch => (s.discardEgress ch).ringIdle ch) (fun _ _ _ => trivial)
    (fun s c hs => ?_) ch (fun s _ => hidle s) l hch s trivial
  by_cases hc : ch = c
  · rw [← hc]
    exact hidle s
  · rw [(s.drainRing_done c).others ch hc]
    exact hs

theorem shutdownDrainEnd_spec {s : State} (ha : s.alive = true) (t : Time) (hs : s.th.shut = 1) (hd : 2000000 ≤ since (s.at t).now s.th.shutT) :
    Gives (.shutdownDrainEnd t) s fun s' => s'.th.shut = 2 ∧ s'.clk.gated = true ∧
      s'.clk.cLock = false ∧ (∀ ch, ch < 16 → (s.ring ch).st = 2 → (s'.ring ch).st = 0) ∧ s'.regs = s.regs := by
  have hexec : exec (.shutdownDrainEnd t) s = execShutdownDrainEnd t s := rfl
  have hcond : ((s.at t).th.shut == 1 && decide (2000000 ≤ since (s.at t).now (s.at t).th.shutT)) = true := by
    show (s.th.shut == 1 && decide (2000000 ≤ since (s.at t).now s.th.shutT)) = true
    rw [hs, decide_eq_true hd]
    rfl
  rw [execShutdownDrainEnd, timed_alive ha, if_pos hcond] at hexec
  refine ⟨_, hexec, ?_⟩
  have hrange : ∀ ch, ch < 16 → ch ∈ List.range 16 := fun _ => List.mem_range.2
  clear hexec
  generalize List.range 16 = l at *
  have hidle := fun ch => @drainRings_idle (l.filter fun ch => ((s.at t).ring ch).st == 2) (s.at t) ch
  obtain ⟨b, f, h, o, heq⟩ := drainRings_frame (l.filter fun ch => ((s.at t).ring ch).st == 2) (s.at t)
  dsimp only
  rw [heq] at hidle ⊢
  exact ⟨rfl, rfl, rfl, fun ch hch hst => hidle ch (List.mem_filter.2 ⟨hrange ch hch, beq_iff_eq.2 hst⟩), rfl⟩

theorem State.length_shutRecord (s : State) (kind health : Nat) (t : Time) : (s.shutRecord kind health t).length = 128 := by
  unfold State.shutRecord
  simp only [List.length_append, length_bytesLE]

theorem State.eraseAhead_inSector (s : State) (h : s.th.recPos % 512 ≠ 0) : s.eraseAhead = s := if_pos (bne_iff_ne.2 h)

theorem State.eraseAhead_frame (s : State) : ∃ b, s.eraseAhead = { s with boot := b } := by
  unfold State.eraseAhead
  split
  · exact ⟨_, rfl⟩
  · exact ⟨_, rfl⟩

theorem State.eraseAhead_put (s : State) (a : Nat) (bs : List Byte) (th : Therm) :
    ∃ b, State.eraseAhead { s.flashPut a bs with th := th } = { s with boot := b, th := th } := by
  obtain ⟨b, hb⟩ := State.eraseAhead_frame { s.flashPut a bs with th := th }
  exact ⟨b, hb⟩

/-- The thermal state after a record. -/
def Therm.recorded (h : Therm) (kind : Nat) : Therm :=
  { h with recPos := (h.recPos + 1) % 8192, recSeq := h.recSeq + 1, recKind := kind, recShut := if kind == 1 then h.recSeq + 1 else h.recShut }

theorem State.flashPut_th (s : State) (a : Nat) (bs : List Byte) : (s.flashPut a bs).th = s.th := rfl

theorem State.appendRecord_true (s : State) (kind health : Nat) (t : Time) : s.appendRecord kind health t true =
    State.eraseAhead { s.flashPut (recAddr s.th.recPos) (s.shutRecord kind health t) with
      th := (s.flashPut (recAddr s.th.recPos) (s.shutRecord kind health t)).th.recorded kind } := by
  unfold State.appendRecord
  simp only [if_true]
  rfl

/-- A record appended where no sector is erased ahead. -/
theorem State.appendRecord_inSector (s : State) (kind health : Nat) (t : Time) (h : (s.th.recPos + 1) % 512 ≠ 0) :
    s.appendRecord kind health t true = { s.flashPut (recAddr s.th.recPos) (s.shutRecord kind health t) with th := s.th.recorded kind } := by
  have h512 : (s.th.recorded kind).recPos % 512 ≠ 0 := by
    show (s.th.recPos + 1) % 8192 % 512 ≠ 0
    omega
  rw [State.appendRecord_true, State.flashPut_th]
  exact State.eraseAhead_inSector _ h512

/-- An appended record: flash, and of the thermal state the records' own fields. -/
theorem State.appendRecord_frame (s : State) (kind health : Nat) (t : Time) :
    ∃ b, s.appendRecord kind health t true = { s with boot := b, th := s.th.recorded kind } := by
  rw [State.appendRecord_true, State.flashPut_th]
  exact s.eraseAhead_put _ _ _

/-- The ports after a shutdown record, and the end of the shutdown. -/
def State.powerGate (s : State) : State :=
  (((s.modHost fun h => { h with dlUp := false, speed := 0, width := 0, flit := false }).modHng fun h =>
    { h with up := { h.up with st := 0 }, dn := { h.dn with st := 0 } }).modTh fun h => { h with shut := 3, shdn := true }).emit (.shdn true)

theorem shutdownRecordWritten_spec {s : State} (ha : s.alive = true) (t : Time) (hs : s.th.shut = 2) (h : (s.th.recPos + 1) % 512 ≠ 0) :
    Gives (.shutdownRecordWritten t true) s fun s' => s'.th.shut = 3 ∧ s'.th.shdn = true ∧
      s'.out = .shdn true :: s.out ∧ s'.hng.up.st = 0 ∧ s'.hng.dn.st = 0 ∧ s'.host.dlUp = false ∧ s'.alive = false ∧ s'.regs = s.regs ∧
      (∀ i, i < 128 → Tbl.get 0xFF s'.boot.flash (recAddr s.th.recPos + i) = (s.shutRecord 1 s.th.shutH s.th.shutT).getD i 0) ∧
      ∀ a, a < recAddr s.th.recPos ∨ recAddr s.th.recPos + 128 ≤ a → Tbl.get 0xFF s'.boot.flash a = Tbl.get 0xFF s.boot.flash a := by
  have hexec : exec (.shutdownRecordWritten t true) s = .next ((s.at t).appendRecord 1 s.th.shutH s.th.shutT true).powerGate := by
    have hexec : exec (.shutdownRecordWritten t true) s = execShutdownRecordWritten t true s := rfl
    rw [hexec, execShutdownRecordWritten, timed_alive ha]
    refine congrArg _ (if_neg ?_)
    show ¬(s.th.shut != 2) = true
    rw [hs]
    decide
  have hrecord : (s.at t).shutRecord 1 s.th.shutH s.th.shutT = s.shutRecord 1 s.th.shutH s.th.shutT := rfl
  have hlen := s.length_shutRecord 1 s.th.shutH s.th.shutT
  rw [(s.at t).appendRecord_inSector 1 _ _ h, hrecord] at hexec
  generalize s.shutRecord 1 s.th.shutH s.th.shutT = bs at *
  refine ⟨_, hexec, rfl, rfl, rfl, rfl, rfl, rfl, Bool.and_false _, rfl, fun i hi => ?_, fun a hout => ?_⟩
  · exact memPut_get_in _ _ _ _ _ (by rwa [hlen])
  · exact memPut_get_out _ _ _ _ _ _ (by rwa [hlen])

/-! The thermal registers and the rearm (R500, R502, R511 to R513). -/

theorem exec_thAck {s : State} (ha : s.alive = true) (hreach : s.reaches 0x1E0018 = true) (t : Time) {v : W32} (src : BitVec 7) (hv : bit v 31 = true) :
    exec (.thAck t (goodWr v src)) s =
      .next (({ s.at t with th := { s.th with ack := false } }).logEvent 0x0A 8 ((s.subMap.map fun i => 2 ^ i).foldl (· + ·) 0) 0 0) := by
  have hexec : exec (.thAck t (goodWr v src)) s = execThAck t (goodWr v src) s := rfl
  rw [hexec, execThAck, regCmd_good ha _ hreach]
  exact congrArg _ (if_pos hv)

theorem exec_rearm {s : State} (ha : s.alive = true) (hreach : s.reaches 0x1E0020 = true) (t : Time) {v : W32} (src : BitVec 7) (hv : bit v 31 = true) :
    exec (.rearm t (goodWr v src)) s = .next (
      if s.th.rearm && s.subMap.isEmpty && s.th.tc < 16 * ((s.regF 0x1E0000 31 24 : Int) - s.regF 0x1E0000 20 16) then
        { s.at t with th := { s.th with rearming := true } }
      else (s.at t).reject 4 src 0x1E0020) := by
  have hexec : exec (.rearm t (goodWr v src)) s = execRearm t (goodWr v src) s := rfl
  have hneg : ¬(!bit v 31) = true := by
    rw [hv]
    decide
  rw [hexec, execRearm, regCmd_good ha _ hreach]
  exact congrArg _ (if_neg hneg)

theorem exec_thMaxClear {s : State} (ha : s.alive = true) (hreach : s.reaches 0x1E0030 = true) (t : Time) {v : W32} (src : BitVec 7)
    (hv : bit v 0 = true) : exec (.thMaxClear t (goodWr v src)) s = .next { s.at t with th := { s.th with max := -32768, maxS := 0 } } := by
  have hexec : exec (.thMaxClear t (goodWr v src)) s = execThMaxClear t (goodWr v src) s := rfl
  rw [hexec, execThMaxClear, regCmd_good ha _ hreach]
  exact congrArg _ (if_pos hv)

theorem rearmRecordWritten_spec {s : State} (ha : s.alive = true) (t : Time) (hr : s.th.rearming = true) (hs : s.th.shut = 0) :
    Gives (.rearmRecordWritten t) s fun s' => s'.th.rearm = false ∧ s'.th.rearming = false ∧
      s'.th.recKind = 2 ∧ s'.th.recSeq = s.th.recSeq + 1 ∧ s'.regs = s.regs := by
  have hexec : exec (.rearmRecordWritten t) s = execRearmRecordWritten t s := rfl
  have hcond : ((s.at t).th.rearming && (s.at t).th.shut == 0) = true := by
    show (s.th.rearming && s.th.shut == 0) = true
    rw [hr, hs]
    rfl
  rw [execRearmRecordWritten, timed_alive ha, if_pos hcond] at hexec
  refine ⟨_, hexec, ?_⟩
  obtain ⟨b, happ⟩ := (s.at t).appendRecord_frame 2 1 (s.at t).now
  dsimp only
  rw [happ]
  obtain ⟨f, h, o, hlog⟩ := State.logEvent_frame { s.at t with boot := b, th := s.th.recorded 2 } 0x0A 7 (s.th.recSeq + 1) s.th.recShut 0
  have hend : ∀ z : State, z.th = s.th.recorded 2 → z.regs = s.regs →
      (z.modTh fun h => { h with rearm := false, rearming := false }).startMode.th = { s.th.recorded 2 with rearm := false, rearming := false } ∧
      (z.modTh fun h => { h with rearm := false, rearming := false }).startMode.regs = s.regs := fun z hth hregs => by
    obtain ⟨k, sq, x, c, cl, fb, fr, hl, o', hmode, -⟩ :=
      State.startMode_modeOnly (s := z.modTh fun h => { h with rearm := false, rearming := false })
    rw [hmode]
    exact ⟨congrArg (fun h : Therm => { h with rearm := false, rearming := false }) hth, hregs⟩
  obtain ⟨hth, hregs⟩ := hend _ ((congrArg State.th hlog :)) ((congrArg State.regs hlog :))
  exact ⟨congrArg Therm.rearm hth, congrArg Therm.rearming hth, congrArg Therm.recKind hth, congrArg Therm.recSeq hth, hregs⟩

/-- The values TH_CTL rejects. -/
def thCtlBad (v : W32) : Bool :=
  fld v 31 24 < 60 || 100 < fld v 31 24 || fld v 23 21 == 0 || fld v 20 16 == 0 || fld v 15 8 < 90 || 105 < fld v 15 8 ||
    fld v 15 8 - 2 < fld v 31 24 + 7 * fld v 23 21

theorem thCtlBad_iff (v : W32) : thCtlBad v = true ↔ (fld v 31 24 < 60 ∨ 100 < fld v 31 24 ∨ fld v 23 21 = 0 ∨ fld v 20 16 = 0 ∨ fld v 15 8 < 90 ∨
    105 < fld v 15 8 ∨ fld v 15 8 - 2 < fld v 31 24 + 7 * fld v 23 21) := by
  simp only [thCtlBad, Bool.or_eq_true, decide_eq_true_eq, beq_iff_eq, or_assoc]

theorem exec_thCtlWrite {s : State} (ha : s.alive = true) (hreach : s.reaches 0x1E0000 = true) (t : Time) (v : W32) (src : BitVec 7) :
    exec (.thCtlWrite t 0x1E0000 (goodWr v src)) s = .next (if thCtlBad v then (s.at t).reject 3 src 0x1E0000
      else ((s.at t).storeReg 0x1E0000 v).modTh fun h => { h with prev := none, low := List.replicate 8 0 }) := by
  have hexec : exec (.thCtlWrite t 0x1E0000 (goodWr v src)) s = execThCtlWrite t 0x1E0000 (goodWr v src) s := rfl
  rw [hexec, execThCtlWrite, if_pos (by decide), regCmd_good ha _ hreach]
  rfl

theorem thCtlWrite_legal {s : State} (ha : s.alive = true) (hreach : s.reaches 0x1E0000 = true) (t : Time) {v : W32} (src : BitVec 7)
    (hok : ¬thCtlBad v = true) : Gives (.thCtlWrite t 0x1E0000 (goodWr v src)) s fun s' =>
      s'.reg 0x1E0000 = v &&& 0xFFFFFF00 ∧ (∀ o, o ≠ 0x1E0000 → s'.reg o = s.reg o) ∧
        s'.th = { s.th with prev := none, low := List.replicate 8 0 } ∧ s' = { s.at t with regs := s'.regs, flt := s'.flt, th := s'.th } := by
  have hexec := exec_thCtlWrite ha hreach t v src
  rw [if_neg hok, State.storeReg_unbanked (s.at t) (show rwReg 0x1E0000 = some (0x56236400, 0xFFFFFF00, false) by decide)] at hexec
  refine ⟨_, hexec, ?_, fun o ho => ?_, rfl, rfl⟩
  · exact (s.at t).reg_putReg_same _ _
  · exact (s.at t).reg_putReg_ne _ _ _ ho

/-- Settles O49: a sample (`thermalSample_spec`), the shutdown and the rearm. -/
theorem thermal : Obligations.Thermal := by
  unfold Obligations.Thermal
  refine ⟨fun s t rs ha hg hs h34 => ?_, fun s t v src ha => ?_⟩
  · intro rd cause
    obtain ⟨s', hexec, hsen, hle, hmax, hhot, hshut, hrun, hk, hregs⟩ := thermalSample_spec ha hg hs h34 t rs
    refine ⟨s', hexec, fun i hi hact hc => ?_, fun i hi hact hc hsub => ?_, fun i hi hact => ?_, hle, hmax, hhot, hshut, hrun, hk, hregs⟩
    · rw [hsen i hi]
      exact (s.at t).sampled_fails rd hi hact hc
    · rw [hsen i hi]
      exact (s.at t).sampled_passes rd hi hact hc hsub
    · rw [hsen i hi]
      exact (s.at t).sampled_inactive rd hi hact
  · intro now w rejected on bad
    refine ⟨shutdownDrainEnd_spec ha t, shutdownRecordWritten_spec ha t, fun hreach hv => ⟨_, exec_thAck ha hreach t src hv, ?_⟩,
      fun hreach hv => ?_, rearmRecordWritten_spec ha t, fun hreach hv => exec_thMaxClear ha hreach t src hv, fun hreach => ⟨fun hb => ?_, fun hb => ?_⟩⟩
    · exact List.sum_eq_foldl.symm
    · intro ok
      have hok : (s.th.rearm && s.subMap.isEmpty && decide (s.th.tc < 16 * ((s.regF 0x1E0000 31 24 : Int) - s.regF 0x1E0000 20 16))) = true ↔ ok := by
        simp only [ok, Bool.and_eq_true, decide_eq_true_eq, List.isEmpty_iff, and_assoc]
      refine ⟨fun h => ?_, fun h => ?_⟩
      · exact (exec_rearm ha hreach t src hv).trans (congrArg _ (if_pos (hok.2 h)))
      · refine (exec_rearm ha hreach t src hv).trans (congrArg _ ((if_neg (mt hok.1 h)).trans ?_))
        exact State.reject_of_lt _ _ _ (by decide)
    · refine (exec_thCtlWrite ha hreach t v src).trans (congrArg _ ((if_pos ((thCtlBad_iff v).2 hb)).trans ?_))
      exact State.reject_of_lt _ _ _ (by decide)
    · exact thCtlWrite_legal ha hreach t src (mt (thCtlBad_iff v).1 hb)

end Machine
end Sys2Proof

/-! The pin engine instructions of flow, output and event (11_pin_engines R387, R393, R394, R398, R402). -/

namespace Sys2Proof
namespace Machine

/-! What an instruction does to its engine. -/

/-- The engine goes on at the next instruction. -/
def Px.next (p : Px) : Px := { p with pc := (p.pc + 1) % 32, blk := none, seen := [], resume := false }

/-- The engine blocks since `now`, or still blocks. -/
def Px.waits (p : Px) (now : Time) : Px := { p with blk := some (p.blk.getD now), seen := if p.blk.isSome then p.seen else [] }

/-- The engine's state becomes `q`; no other pin engine and no other part of the state changes. -/
def PxBecomes (s : State) (t : Time) (e : Nat) (q : Px) (s' : State) : Prop :=
  s'.pin e = q ∧ (∀ i, i ≠ e → s'.pin i = s.pin i) ∧ s' = { s.at t with px := s'.px }

theorem modPx_becomes (s : State) (t : Time) (e : Nat) (f : Px → Px) : PxBecomes s t e (f (s.pin e)) ((s.at t).modPx e f) :=
  ⟨(s.at t).pin_modPx_same e f, fun i hi => (s.at t).pin_modPx_ne e i f hi, rfl⟩

theorem pxGo_becomes (s : State) (t : Time) (e pc : Nat) (f : Px → Px) :
    PxBecomes s t e { f (s.pin e) with pc := pc % 32, blk := none, seen := [], resume := false } ((s.at t).pxGo e pc f) := modPx_becomes s t e _

theorem pxNext_becomes (s : State) (t : Time) (e : Nat) : PxBecomes s t e (s.pin e).next ((s.at t).pxNext e id) := modPx_becomes s t e _

theorem pxBlock_becomes (s : State) (t : Time) (e : Nat) : PxBecomes s t e ((s.pin e).waits (s.at t).now) ((s.at t).pxBlock e) := by
  have hwait : (if (s.pin e).blk.isSome then s.pin e else { s.pin e with blk := some (s.at t).now, seen := [] }) = (s.pin e).waits (s.at t).now := by
    unfold Px.waits
    cases hblk : (s.pin e).blk with
    | none => rfl
    | some x =>
      show s.pin e = { s.pin e with blk := some x, seen := (s.pin e).seen }
      rw [← hblk]
  rw [← hwait]
  exact modPx_becomes s t e _

/-- A step that only shows levels keeps the engines. -/
theorem State.stopOuts_frame (s : State) (e : Nat) :
    (∃ px o, s.stopOuts e = { s with px := px, out := o }) ∧ (∀ i, i ≠ e → (s.stopOuts e).pin i = s.pin i) ∧
      (s.stopOuts e).pin e = { s.pin e with outs := if bit (s.reg (pxBase e + 0x30)) 23 then List.replicate 4 none else (s.pin e).outs } := by
  unfold State.stopOuts
  split
  · obtain ⟨hself, hothers, -⟩ := s.idleOuts_pin e
    obtain ⟨o, ho⟩ := s.idleOuts_frame e
    exact ⟨⟨_, _, ho⟩, hothers, hself⟩
  · exact ⟨⟨_, _, rfl⟩, fun _ _ => rfl, rfl⟩

/-- An instruction that breaks its row puts the engine into FAULT, has no effect, and raises the host event (R393, R398, R402). -/
theorem State.pxFault_spec (s : State) (e : Nat) : let s' := s.pxFault e
    s'.pin e = { s.pin e with st := 2, cause := 1, evt := true, blk := none, seen := [], stopReq := false, resume := false,
                              outs := if bit (s.reg (pxBase e + 0x30)) 23 then List.replicate 4 none else (s.pin e).outs } ∧
      s'.host.cause.getLsbD 7 = true ∧ s'.regs = s.regs ∧ s'.fab = s.fab ∧ ∀ i, i ≠ e → s'.pin i = s.pin i := by
  unfold State.pxFault
  obtain ⟨s1, hs1⟩ : ∃ s1, s1 = s.modPx e fun p => { p with st := 2, cause := 1, evt := true, blk := none, seen := [], stopReq := false, resume := false } :=
    ⟨_, rfl⟩
  have hself : s1.pin e = { s.pin e with st := 2, cause := 1, evt := true, blk := none, seen := [], stopReq := false, resume := false } := by
    rw [hs1]
    exact s.pin_modPx_same e _
  have hothers : ∀ i, i ≠ e → s1.pin i = s.pin i := fun i hi => by
    rw [hs1]
    exact s.pin_modPx_ne e i _ hi
  have hregs : s1.regs = s.regs ∧ s1.fab = s.fab := by
    rw [hs1]
    exact ⟨rfl, rfl⟩
  obtain ⟨⟨px, o, hstop⟩, hpins, hpin⟩ := s1.stopOuts_frame e
  obtain ⟨h, o', hraise, hbit⟩ := (s1.stopOuts e).raise_frame (v := 23) (by decide)
  have hraised : ∀ i, ((s1.stopOuts e).raise 23).pin i = (s1.stopOuts e).pin i := fun i => by
    rw [hraise]
    rfl
  rw [← hs1]
  refine ⟨?_, (congrArg (fun z : State => z.host.cause.getLsbD 7) hraise).trans hbit, ?_, ?_, fun i hi => (hraised i).trans ((hpins i hi).trans (hothers i hi))⟩
  · rw [hraised, hpin, hself, reg_of_regs hregs.1]
  · rw [hraise]
    exact (congrArg State.regs hstop).trans hregs.1
  · rw [hraise]
    exact (congrArg State.fab hstop).trans hregs.2

/-- An output driven: its level, and what its pin shows (R380, R402). -/
theorem State.driveOut_spec (s : State) (e o lev : Nat) : let s' := s.driveOut e o lev
    s'.pin e = { s.pin e with outs := (s.pin e).outs.modify o fun _ => some lev } ∧ (∀ i, i ≠ e → s'.pin i = s.pin i) ∧
      (s.outSel e o < 36 → o < (s.pin e).outs.length → s'.out = .pin (s.outSel e o) lev :: s.out) ∧ (36 ≤ s.outSel e o → s'.out = s.out) ∧
      s' = { s with px := s'.px, out := s'.out } := by
  have hself := s.pin_modPx_same e fun p => { p with outs := upd p.outs o fun _ => some lev }
  have hothers := fun i hi => s.pin_modPx_ne e i (fun p => { p with outs := upd p.outs o fun _ => some lev }) hi
  have hlevel : o < (s.pin e).outs.length → (s.modPx e fun p => { p with outs := upd p.outs o fun _ => some lev }).outLevel e o = lev := fun ho => by
    unfold State.outLevel
    rw [hself]
    simp [upd, ho]
  unfold State.driveOut State.showOut
  by_cases hsel : s.outSel e o < 36
  · rw [if_pos (show (s.modPx e fun p => { p with outs := upd p.outs o fun _ => some lev }).outSel e o < 36 from hsel)]
    refine ⟨hself, hothers, fun _ ho => ?_, fun h => absurd hsel (Nat.not_lt.2 h), rfl⟩
    rw [hlevel ho]
    rfl
  · rw [if_neg (show ¬(s.modPx e fun p => { p with outs := upd p.outs o fun _ => some lev }).outSel e o < 36 from hsel)]
    exact ⟨hself, hothers, fun h => absurd h hsel, fun _ => rfl, rfl⟩

/-- An instruction that changes its engine by `f` and drives an output. -/
theorem modPx_driveOut (s : State) (t : Time) (e : Nat) (f : Px → Px) (o lev : Nat) : let s' := ((s.at t).modPx e f).driveOut e o lev
    s'.pin e = { f (s.pin e) with outs := (f (s.pin e)).outs.modify o fun _ => some lev } ∧ (∀ i, i ≠ e → s'.pin i = s.pin i) ∧
      (s.outSel e o < 36 → o < (f (s.pin e)).outs.length → s'.out = .pin (s.outSel e o) lev :: s.out) ∧ (36 ≤ s.outSel e o → s'.out = s.out) ∧
      s' = { s.at t with px := s'.px, out := s'.out } := by
  obtain ⟨hself, hothers, hout, hnone, hframe⟩ := ((s.at t).modPx e f).driveOut_spec e o lev
  obtain ⟨hpin, hpins, -⟩ := modPx_becomes s t e f
  rw [hpin] at hself hout
  exact ⟨hself, fun i hi => (hothers i hi).trans (hpins i hi), hout, hnone, hframe⟩

/-! The instructions of flow (R387, R393, R394). -/

section Flow

variable {s : State} {e : Nat} (hp : PinReady s e) (t : Time)
include hp

theorem exec_pxNop : exec (.pxNop t e) s = .next ((s.at t).pxNext e id) := by
  have hexec : exec (.pxNop t e) s = execPxNop t e s := rfl
  rw [hexec, execPxNop, pxOp_ready hp]

theorem exec_pxWaite_bad {mask : BitVec 4} {edge : BitVec 2} (h : mask = 0 ∨ edge = 0) :
    exec (.pxWaite t e mask edge) s = .next ((s.at t).pxFault e) := by
  have hexec : exec (.pxWaite t e mask edge) s = execPxWaite t e mask edge s := rfl
  have hbad : (mask == 0 || edge == 0) = true := by simpa using h
  rw [hexec, execPxWaite, pxOp_ready hp, if_pos hbad]

section Waite

variable {mask : BitVec 4} {edge : BitVec 2} (hm : mask ≠ 0) (he : edge ≠ 0)
include hm he

theorem exec_pxWaite_starts (hb : (s.pin e).blk = none) : exec (.pxWaite t e mask edge) s = .next ((s.at t).pxBlock e) := by
  have hexec : exec (.pxWaite t e mask edge) s = execPxWaite t e mask edge s := rfl
  have hok : ¬(mask == 0 || edge == 0) = true := by simpa using ⟨hm, he⟩
  rw [hexec, execPxWaite, pxOp_ready hp, if_neg hok, if_pos (Option.isNone_iff_eq_none.2 hb)]

theorem exec_pxWaite_idle (hb : (s.pin e).blk ≠ none)
    (hhit : ((s.pin e).seen.find? fun x => mask.getLsbD x.1 && edge.getLsbD (if x.2.1 then 0 else 1)) = none) :
    exec (.pxWaite t e mask edge) s = .next (s.at t) := by
  have hexec : exec (.pxWaite t e mask edge) s = execPxWaite t e mask edge s := rfl
  have hok : ¬(mask == 0 || edge == 0) = true := by simpa using ⟨hm, he⟩
  rw [hexec, execPxWaite, pxOp_ready hp, if_neg hok, if_neg (mt Option.isNone_iff_eq_none.1 hb), hhit]

theorem exec_pxWaite_hit {x : Nat × Bool × Time × Bool} (hb : (s.pin e).blk ≠ none)
    (hhit : ((s.pin e).seen.find? fun x => mask.getLsbD x.1 && edge.getLsbD (if x.2.1 then 0 else 1)) = some x) :
    exec (.pxWaite t e mask edge) s = .next ((s.at t).pxNext e fun p => { p with edge := some (x.2.2.1, x.2.2.2), wIn := some x.1 }) := by
  have hexec : exec (.pxWaite t e mask edge) s = execPxWaite t e mask edge s := rfl
  have hok : ¬(mask == 0 || edge == 0) = true := by simpa using ⟨hm, he⟩
  rw [hexec, execPxWaite, pxOp_ready hp, if_neg hok, if_neg (mt Option.isNone_iff_eq_none.1 hb), hhit]

end Waite

theorem exec_pxWaitl (i : BitVec 2) (level : Bool) : exec (.pxWaitl t e i level) s =
    .next (if (s.pin e).lev.getLsbD i.toNat == level then (s.at t).pxNext e id else (s.at t).pxBlock e) := by
  have hexec : exec (.pxWaitl t e i level) s = execPxWaitl t e i level s := rfl
  rw [hexec, execPxWaitl, pxOp_ready hp]

theorem exec_pxWaitc (a b c cond : BitVec 2) : exec (.pxWaitc t e a b c cond) s =
    .next (if waitCond ((s.pin e).ctr a.toNat) ((s.pin e).ctr b.toNat) ((s.pin e).ctr c.toNat) cond then
      (s.at t).pxNext e fun p => { p with edge := p.cnt.getD a.toNat none } else (s.at t).pxBlock e) := by
  have hexec : exec (.pxWaitc t e a b c cond) s = execPxWaitc t e a b c cond s := rfl
  rw [hexec, execPxWaitc, pxOp_ready hp]

theorem exec_pxJmp_bad {n : BitVec 2} (hn : n ≠ 0) (target : BitVec 5) : exec (.pxJmp t e 0 n target) s = .next ((s.at t).pxFault e) := by
  have hexec : exec (.pxJmp t e 0 n target) s = execPxJmp t e 0 n target s := rfl
  have hbad : ((0 : BitVec 3) == 0 && n != 0) = true := by simpa using hn
  rw [hexec, execPxJmp, pxOp_ready hp, if_pos hbad]

/-- A JMP that jumps, or falls through; COND 4 also counts down. -/
theorem exec_pxJmp {cond : BitVec 3} {n : BitVec 2} (hrow : cond = 0 → n = 0) (target : BitVec 5) : exec (.pxJmp t e cond n target) s =
    .next (if (s.pin e).jumps cond n then
      (if cond == 4 then (s.at t).writeCtr e n.toNat ((s.pin e).ctr n.toNat - 1) else s.at t).pxGo e target.toNat id
      else (s.at t).pxNext e id) := by
  have hexec : exec (.pxJmp t e cond n target) s = execPxJmp t e cond n target s := rfl
  have hok : ¬(cond == 0 && n != 0) = true := by simpa using hrow
  rw [hexec, execPxJmp, pxOp_ready hp, if_neg hok]

/-- The level an OUT drives, where the output has the level `old`. -/
def outOf (act : BitVec 2) (old : Nat) : Nat :=
  if act == 0 then 0 else if act == 1 then 1 else if act == 3 then 2 else if old == 0 then 1 else if old == 1 then 0 else 2

theorem exec_pxOut (o act : BitVec 2) :
    exec (.pxOut t e o act) s = .next (((s.at t).pxNext e id).driveOut e o.toNat (outOf act (s.outLevel e o.toNat))) := by
  have hexec : exec (.pxOut t e o act) s = execPxOut t e o act s := rfl
  rw [hexec, execPxOut, pxOp_ready hp]
  rfl

/-- The engine cycles a DLY waits. -/
def Px.delay (p : Px) (src : Bool) (k : BitVec 2) (n : BitVec 24) : Nat :=
  if src then min (max (p.ctr k.toNat).toInt 0).toNat 16777215 else n.toNat

theorem exec_pxDly_starts (hb : (s.pin e).blk = none) (src : Bool) (k : BitVec 2) (n : BitVec 24) :
    exec (.pxDly t e src k n) s = .next (if (s.pin e).delay src k n == 0 then (s.at t).pxNext e id else (s.at t).pxBlock e) := by
  have hexec : exec (.pxDly t e src k n) s = execPxDly t e src k n s := rfl
  rw [hexec, execPxDly, pxOp_ready hp, hb]
  rfl

theorem exec_pxDly_waits {x : Time} (hb : (s.pin e).blk = some x) (src : Bool) (k : BitVec 2) (n : BitVec 24) :
    exec (.pxDly t e src k n) s =
      .next (if s.pxCycles e x + (s.pin e).delay src k n ≤ s.pxCycles e (s.at t).now then (s.at t).pxNext e id else s.at t) := by
  have hexec : exec (.pxDly t e src k n) s = execPxDly t e src k n s := rfl
  rw [hexec, execPxDly, pxOp_ready hp, hb]
  rfl

theorem exec_pxIrq (code : Byte) :
    exec (.pxIrq t e code) s = .next (((s.at t).pxNext e fun p => { p with code := code, evt := true }).raise 23) := by
  have hexec : exec (.pxIrq t e code) s = execPxIrq t e code s := rfl
  rw [hexec, execPxIrq, pxOp_ready hp]

theorem exec_pxHalt : exec (.pxHalt t e) s = .next ((s.at t).pxHalt e) := by
  have hexec : exec (.pxHalt t e) s = execPxHalt t e s := rfl
  rw [hexec, execPxHalt, pxOp_ready hp]

/-! Instructions that break their row. -/

theorem exec_pxIllegalInstruction_bad {w : W32} (h : 0x14 ≤ fld w 31 27 ∨ (w &&& 0x07FFFFFF &&& ~~~pxFields w) ≠ 0) :
    exec (.pxIllegalInstruction t e w) s = .next ((s.at t).pxFault e) := by
  have hexec : exec (.pxIllegalInstruction t e w) s = execPxIllegalInstruction t e w s := rfl
  have hbad : pxIllegal e w = true := by
    unfold pxIllegal
    simp only [Bool.or_eq_true]
    iterate 8 left
    simpa using h
  rw [hexec, execPxIllegalInstruction, pxOp_ready hp, if_pos hbad]

theorem exec_pxCalc_bad (d a b : BitVec 2) {op : BitVec 3} (h : 5 ≤ op.toNat) : exec (.pxCalc t e d a b op) s = .next ((s.at t).pxFault e) := by
  have hexec : exec (.pxCalc t e d a b op) s = execPxCalc t e d a b op s := rfl
  rw [hexec, execPxCalc, pxOp_ready hp, if_pos h]

theorem exec_pxXsh_bad (k : BitVec 2) : exec (.pxXsh t e 3 k) s = .next ((s.at t).pxFault e) := by
  have hexec : exec (.pxXsh t e 3 k) s = execPxXsh t e 3 k s := rfl
  rw [hexec, execPxXsh, pxOp_ready hp, if_pos (by decide)]

theorem exec_pxGet_bad (dst : Bool) (k : BitVec 2) : exec (.pxGet t e dst k true true) s = .next ((s.at t).pxFault e) := by
  have hexec : exec (.pxGet t e dst k true true) s = execPxGet t e dst k true true s := rfl
  rw [hexec, execPxGet, pxOp_ready hp]
  rfl

theorem exec_pxCnt_bad {k : BitVec 2} {mode : BitVec 3} {eng : BitVec 3} (h : mode = 7 ∨ (mode = 6 ∧ eng.toNat = e ∧ k = 0)) (a b x : BitVec 2)
    (xen : Bool) : exec (.pxCnt t e k mode a b x xen eng) s = .next ((s.at t).pxFault e) := by
  have hexec : exec (.pxCnt t e k mode a b x xen eng) s = execPxCnt t e k mode a b x xen eng s := rfl
  have hbad : (mode == 7 || (mode == 6 && eng.toNat == e && k == 0)) = true := by simpa [and_assoc] using h
  rw [hexec, execPxCnt, pxOp_ready hp, if_pos hbad]

theorem exec_pxPut_bad (m i : BitVec 2) : exec (.pxPut t e m 7 i) s = .next ((s.at t).pxFault e) := by
  have hexec : exec (.pxPut t e m 7 i) s = execPxPut t e m 7 i s := rfl
  rw [hexec, execPxPut, pxOp_ready hp, if_pos (by decide)]

theorem exec_pxCap_bad (i : BitVec 2) : exec (.pxCap t e 7 i) s = .next ((s.at t).pxFault e) := by
  have hexec : exec (.pxCap t e 7 i) s = execPxCap t e 7 i s := rfl
  rw [hexec, execPxCap, pxOp_ready hp, if_pos (by decide)]

end Flow

/-! The conditions of WAITC and JMP. -/

theorem waitCond_iff (ca cb cc : B48) (cond : BitVec 2) : waitCond ca cb cc cond = true ↔
    (cond = 0 ∧ 0 ≤ (ca - cb).toInt) ∨ (cond = 1 ∧ (ca - cb).toInt ≤ 0) ∨ (cond = 2 ∧ (ca - cb).toInt = 0) ∨
      (cond = 3 ∧ cc.toInt ≤ (ca - cb).toInt.natAbs) := by
  have hall : ∀ c : BitVec 2, c = 0 ∨ c = 1 ∨ c = 2 ∨ c = 3 := by decide
  unfold waitCond
  generalize (ca - cb).toInt = d
  rcases hall cond with rfl | rfl | rfl | rfl <;> simp

theorem Px.jumps_iff (p : Px) {cond : BitVec 3} (h4 : cond ≠ 4) (n : BitVec 2) : p.jumps cond n = true ↔
    cond = 0 ∨ (cond = 1 ∧ p.lev.getLsbD n.toNat = true) ∨ (cond = 2 ∧ p.lev.getLsbD n.toNat = false) ∨ (cond = 3 ∧ p.ctr n.toNat = 0) ∨
      (cond = 5 ∧ (p.ctr n.toNat).toInt < 0) ∨ (cond = 6 ∧ p.full.getLsbD (n.toNat % 2) = true) ∨ (cond = 7 ∧ p.wIn = some n.toNat) := by
  have hall : ∀ c : BitVec 3, c = 0 ∨ c = 1 ∨ c = 2 ∨ c = 3 ∨ c = 4 ∨ c = 5 ∨ c = 6 ∨ c = 7 := by decide
  unfold Px.jumps
  generalize p.ctr n.toNat = v
  rcases hall cond with rfl | rfl | rfl | rfl | rfl | rfl | rfl | rfl
  · simp
  · simp
  · simp
  · simp
  · exact absurd rfl h4
  · simp [BitVec.msb_eq_toInt]
  · simp
  · simp

/-- A JMP of COND 4 jumps where its counter is not 0. -/
theorem Px.jumps_four (p : Px) (n : BitVec 2) : p.jumps 4 n = true ↔ p.ctr n.toNat ≠ 0 := by
  simp [Px.jumps]

/-- Settles O51: each instruction leaves the engine in its new state (`PxBecomes`), or in FAULT (`State.pxFault_spec`). -/
theorem pinFlow : Obligations.PinFlow := by
  unfold Obligations.PinFlow
  intro s t e hp p now goes next waits act faults
  have hnext : ∀ {c : Instr}, exec c s = .next ((s.at t).pxNext e id) → goes c next := fun h => ⟨_, h, pxNext_becomes s t e⟩
  have hwaits : ∀ {c : Instr}, exec c s = .next ((s.at t).pxBlock e) → goes c waits := fun h => ⟨_, h, pxBlock_becomes s t e⟩
  have hfaults : ∀ {c : Instr}, exec c s = .next ((s.at t).pxFault e) → faults c := fun h => by
    obtain ⟨hpin, hbit, hregs, hfab, hothers⟩ := (s.at t).pxFault_spec e
    exact ⟨_, h, congrArg Px.st hpin, congrArg Px.cause hpin, congrArg Px.evt hpin, (congrArg Px.pc hpin :), (congrArg Px.c hpin :),
      (congrArg Px.sh hpin :), (congrArg Px.full hpin :), congrArg Px.outs hpin, hbit, hregs, hfab, hothers⟩
  refine ⟨hnext (exec_pxNop hp t), fun mask edge hm he => ?_, fun i level => ⟨fun h => ?_, fun h => ?_⟩, fun a b c cond => ?_, fun cond n target h4 hrow => ?_,
    fun n target hz => ?_, fun o act' hlen => ?_, fun src k n => ?_, fun code => ?_, ⟨_, exec_pxHalt hp t, (s.at t).pxHalt_frame e⟩,
    fun w hw => hfaults (exec_pxIllegalInstruction_bad hp t hw), fun mask edge h => hfaults (exec_pxWaite_bad hp t h),
    fun n target hn => hfaults (exec_pxJmp_bad hp t hn target), fun d a b op h => hfaults (exec_pxCalc_bad hp t d a b h),
    fun k => hfaults (exec_pxXsh_bad hp t k), fun dst k => hfaults (exec_pxGet_bad hp t dst k),
    fun k mode a b x xen eng h => hfaults (exec_pxCnt_bad hp t h a b x xen),
    fun m i => ⟨hfaults (exec_pxPut_bad hp t m i), hfaults (exec_pxCap_bad hp t i)⟩⟩
  · intro hit
    exact ⟨fun hb => hwaits (exec_pxWaite_starts hp t hm he hb), fun hb hhit => exec_pxWaite_idle hp t hm he hb hhit,
      fun i r x ok hb hhit => ⟨_, exec_pxWaite_hit hp t hm he hb hhit, modPx_becomes s t e _⟩⟩
  · exact hnext ((exec_pxWaitl hp t i level).trans (congrArg _ (if_pos (beq_iff_eq.2 h))))
  · exact hwaits ((exec_pxWaitl hp t i level).trans (congrArg _ (if_neg (mt beq_iff_eq.1 h))))
  · intro d holds
    have hiff := waitCond_iff (p.ctr a.toNat) (p.ctr b.toNat) (p.ctr c.toNat) cond
    refine ⟨fun h => ⟨_, (exec_pxWaitc hp t a b c cond).trans (congrArg _ (if_pos (hiff.2 h))), modPx_becomes s t e _⟩, fun h => hwaits ?_⟩
    exact (exec_pxWaitc hp t a b c cond).trans (congrArg _ (if_neg (mt hiff.1 h)))
  · intro v taken
    have hiff := p.jumps_iff h4 n
    refine ⟨fun h => ⟨_, (exec_pxJmp hp t hrow target).trans (congrArg _ (if_pos (hiff.2 h))), ?_⟩, fun h => hnext ?_⟩
    · rw [if_neg (mt beq_iff_eq.1 h4)]
      have hgo := pxGo_becomes s t e target.toNat id
      rw [Nat.mod_eq_of_lt target.isLt] at hgo
      exact hgo
    · exact (exec_pxJmp hp t hrow target).trans (congrArg _ (if_neg (mt hiff.1 h)))
  · refine hnext ((exec_pxJmp hp t (fun h => absurd h (by decide)) target).trans (congrArg _ (if_neg fun h => ?_)))
    exact (p.jumps_four n).1 h hz
  · intro old lev
    have hlev : outOf act' (s.outLevel e o.toNat) = lev := by
      simp only [outOf, beq_iff_eq]
      rfl
    have hexec := exec_pxOut hp t o act'
    rw [hlev] at hexec
    obtain ⟨hself, hothers, hout, hnone, hframe⟩ := modPx_driveOut s t e
      (fun q => { q with pc := (p.pc + 1) % 32, blk := none, seen := [], resume := false }) o.toNat lev
    exact ⟨_, hexec, hself, fun h => hout h (by rw [hlen]; exact o.isLt), hnone, hothers, hframe⟩
  · intro c
    refine ⟨fun hb hc => hnext ?_, fun hb hc => hwaits ?_, fun x hb hc => hnext ?_, fun x hb hc => ?_⟩
    · exact (exec_pxDly_starts hp t hb src k n).trans (congrArg _ (if_pos (beq_iff_eq.2 hc)))
    · exact (exec_pxDly_starts hp t hb src k n).trans (congrArg _ (if_neg (mt beq_iff_eq.1 hc)))
    · exact (exec_pxDly_waits hp t hb src k n).trans (congrArg _ (if_pos hc))
    · exact (exec_pxDly_waits hp t hb src k n).trans (congrArg _ (if_neg (Nat.not_le.2 hc)))
  · obtain ⟨h, o, hraise, hbit⟩ := ((s.at t).pxNext e fun p => { p with code := code, evt := true }).raise_frame (v := 23) (by decide)
    obtain ⟨hself, hothers, -⟩ := modPx_becomes s t e fun p => { p with
      code := code, evt := true, pc := (((s.at t).pin e).pc + 1) % 32, blk := none, seen := [], resume := false }
    refine ⟨_, exec_pxIrq hp t code, ?_⟩
    dsimp only
    rw [hraise]
    exact ⟨hself, hbit, hothers, rfl⟩

end Machine
end Sys2Proof

/-! A line reference event of an EVT (11_pin_engines R396, R548; 12_hinge_array R417). -/

namespace Sys2Proof
namespace Machine

/-- The tick source of an array, its partner beyond the downstream port UP, whose LPLL takes the line references of its own pin engine 1. -/
def relayingState : State := (({ State.reset with
  boot := { State.reset.boot with stage := 8 }
  clk := { State.reset.clk with cLock := true, aLock := true }
  px := [(1, { Px.fresh with st := 1 })]
  hng := { State.reset.hng with dn := { State.reset.hng.dn with st := 2 } } }).putReg 0x10000 0x40100000).putReg 0x1C0000 0x90000000

theorem relayingState_ready : PinReady relayingState 1 := ⟨rfl, by decide, rfl, rfl⟩

/-- An EVT of engine 1 is an event, and a REF frame to the partner. -/
theorem relayingState_relays : ∃ s', exec (.pxEvt 0 1 true) relayingState = .next s' ∧ s'.out.length = 2 := by
  have hexec : exec (.pxEvt 0 1 true) relayingState = execPxEvt 0 1 true relayingState := rfl
  rw [execPxEvt, pxOp_ready relayingState_ready] at hexec
  exact ⟨_, hexec, by decide⟩

/-- Refutes O52: the EVT of a tick source's line reference also sends a REF frame, so that its output is not the event alone. -/
theorem not_pinData : ¬ Obligations.PinData := by
  unfold Obligations.PinData
  intro h
  obtain ⟨-, -, -, -, -, -, hevt, -⟩ := h relayingState 0 1 relayingState_ready
  obtain ⟨-, hgives⟩ := hevt true
  obtain ⟨s', hnext, -, -, -, -, -, -, hout, -⟩ := hgives fun x hx => absurd (show none = some x from hx) nofun
  obtain ⟨s'', hnext', hlen⟩ := relayingState_relays
  obtain rfl := Host.Outcome.next.inj (hnext.symm.trans hnext')
  rw [hout] at hlen
  exact absurd hlen (by decide)

end Machine
end Sys2Proof

/-! The pin engine instructions that write a counter or set its counting (11_pin_engines R388, R389, R393, R400). -/

namespace Sys2Proof
namespace Machine

/-! Mirrors (R388, R389). -/

theorem Px.any_mirror {p : Px} {k : Nat} (h : p.modeOf k = 6) : p.mode.any (fun m => m.1 == 6) = true := by
  have hk : k < p.mode.length := by
    by_contra hk
    rw [Px.modeOf, List.getD_eq_default _ _ (Nat.not_lt.1 hk)] at h
    exact absurd h (by decide)
  rw [Px.modeOf, List.getD_eq_getElem _ _ hk] at h
  exact List.any_eq_true.2 ⟨_, List.getElem_mem hk, beq_iff_eq.2 h⟩

/-- The engine a counter mirrors. -/
def Px.mirrored (p : Px) (k : Nat) : Nat := (p.mode.getD k (0, 0, 0, 0)).2.2.2

/-- One of the four counters after the mirrors of its engine take their values. -/
theorem State.mirrorOne_ctr (s : State) (e : Nat) {k : Nat} (hk : k < 4) : ((s.mirrorOne e).pin e).ctr k =
    if (s.pin e).modeOf k = 6 then (s.pin ((s.pin e).mirrored k)).ctr 0 else (s.pin e).ctr k := by
  unfold State.mirrorOne
  dsimp only
  by_cases hany : (s.pin e).mode.any (fun m => m.1 == 6) = true
  · rw [if_pos hany, State.pin_modPx_same]
    by_cases hm : (s.pin e).modeOf k = 6
    · simp [Px.ctr, hk, hm, Px.mirrored]
    · simp [Px.ctr, hk, hm]
  · have hm : (s.pin e).modeOf k ≠ 6 := fun hm => hany (Px.any_mirror hm)
    rw [if_neg hany, if_neg hm]

theorem State.mirrorOne_pin_ne (s : State) {i e : Nat} (h : e ≠ i) : (s.mirrorOne i).pin e = s.pin e := by
  unfold State.mirrorOne
  dsimp only
  by_cases hany : (s.pin i).mode.any (fun m => m.1 == 6) = true
  · rw [if_pos hany, State.pin_modPx_ne _ _ _ _ h]
  · rw [if_neg hany]

theorem State.mirrorOne_mode (s : State) (i e : Nat) : ((s.mirrorOne i).pin e).mode = (s.pin e).mode := ((s.mirrorOne_frame i).2 e).mode_eq

theorem State.mirrors_mode (s : State) (e : Nat) : (s.mirrors.pin e).mode = (s.pin e).mode := (s.mirrors_frame.2 e).mode_eq

/-- A counter that is no mirror keeps its value when mirrors take theirs. -/
theorem State.mirrorOne_kept_ctr (s : State) (i e : Nat) {k : Nat} (hk : k < 4) (hm : (s.pin e).modeOf k ≠ 6) :
    ((s.mirrorOne i).pin e).ctr k = (s.pin e).ctr k := by
  by_cases he : e = i
  · rw [← he, s.mirrorOne_ctr e hk, if_neg hm]
  · rw [s.mirrorOne_pin_ne he]

/-- What stays the same of a counter that is no mirror. -/
def CtrStays (e k : Nat) (mode : List (Nat × Nat × Nat × Nat)) (v : B48) (s : State) : Prop := (s.pin e).mode = mode ∧ (s.pin e).ctr k = v

theorem CtrStays.mirrorOne {e k : Nat} {mode : List (Nat × Nat × Nat × Nat)} {v : B48} {s : State} (hk : k < 4)
    (hm : (mode.getD k (0, 0, 0, 0)).1 ≠ 6) (i : Nat) (h : CtrStays e k mode v s) : CtrStays e k mode v (s.mirrorOne i) := by
  obtain ⟨hmode, hctr⟩ := h
  refine ⟨(s.mirrorOne_mode i e).trans hmode, (s.mirrorOne_kept_ctr i e hk ?_).trans hctr⟩
  rw [Px.modeOf, hmode]
  exact hm

theorem State.mirrors_kept_ctr (s : State) (e : Nat) {k : Nat} (hk : k < 4) (hm : (s.pin e).modeOf k ≠ 6) :
    (s.mirrors.pin e).ctr k = (s.pin e).ctr k := by
  have hall : CtrStays e k (s.pin e).mode ((s.pin e).ctr k) s.mirrors :=
    List.foldlRecOn (motive := CtrStays e k (s.pin e).mode ((s.pin e).ctr k)) (List.range 64) (fun s i => s.mirrorOne (i % 8)) ⟨rfl, rfl⟩
      fun z hz i _ => hz.mirrorOne hk hm (i % 8)
  exact hall.2

/-- What stays the same of a mirror in engine `e` of c0 of engine `g`, while mirrors take their values. -/
def MirrorStays (s : State) (e g : Nat) (z : State) : Prop := (z.pin e).mode = (s.pin e).mode ∧ CtrStays g 0 (s.pin g).mode ((s.pin g).ctr 0) z

theorem MirrorStays.mirrorOne {s z : State} {e g : Nat} (hsrc : (s.pin g).modeOf 0 ≠ 6) (i : Nat) (h : MirrorStays s e g z) :
    MirrorStays s e g (z.mirrorOne i) := ⟨(z.mirrorOne_mode i e).trans h.1, h.2.mirrorOne (by decide) hsrc i⟩

/-- The mirror takes the value at its own engine's turn. -/
theorem MirrorStays.takes {s z : State} {e k : Nat} (hk : k < 4) (hm : (s.pin e).modeOf k = 6) (h : MirrorStays s e ((s.pin e).mirrored k) z) :
    ((z.mirrorOne e).pin e).ctr k = (s.pin ((s.pin e).mirrored k)).ctr 0 := by
  obtain ⟨hmode, -, hctr⟩ := h
  have hzm : (z.pin e).modeOf k = 6 := by
    rw [Px.modeOf, hmode]
    exact hm
  have hzg : (z.pin e).mirrored k = (s.pin e).mirrored k := by rw [Px.mirrored, hmode, Px.mirrored]
  rw [z.mirrorOne_ctr e hk, if_pos hzm, hzg, hctr]

/-- A mirror takes the value of c0 of the engine it names, where that is no mirror itself. -/
theorem State.mirrors_ctr (s : State) {e k : Nat} (he : e < 8) (hk : k < 4) (hm : (s.pin e).modeOf k = 6)
    (hsrc : (s.pin ((s.pin e).mirrored k)).modeOf 0 ≠ 6) : (s.mirrors.pin e).ctr k = (s.pin ((s.pin e).mirrored k)).ctr 0 := by
  have hkeeps : ∀ (z : State) (i : Nat), MirrorStays s e ((s.pin e).mirrored k) z ∧ (z.pin e).ctr k = (s.pin ((s.pin e).mirrored k)).ctr 0 →
      MirrorStays s e ((s.pin e).mirrored k) (z.mirrorOne i) ∧ ((z.mirrorOne i).pin e).ctr k = (s.pin ((s.pin e).mirrored k)).ctr 0 := fun z i h => by
    refine ⟨h.1.mirrorOne hsrc i, ?_⟩
    by_cases hi : e = i
    · rw [← hi]
      exact h.1.takes hk hm
    · rw [z.mirrorOne_pin_ne hi]
      exact h.2
  have hmod : e % 8 = e := Nat.mod_eq_of_lt he
  have hhit := @foldl_hits Nat State
    (fun z => MirrorStays s e ((s.pin e).mirrored k) z ∧ (z.pin e).ctr k = (s.pin ((s.pin e).mirrored k)).ctr 0)
    (MirrorStays s e ((s.pin e).mirrored k)) (fun z i => z.mirrorOne (i % 8)) (fun z i h => h.mirrorOne hsrc (i % 8)) (fun z i h => hkeeps z (i % 8) h) e
    (fun z h => by
      rw [hmod]
      exact ⟨h.mirrorOne hsrc e, h.takes hk hm⟩)
    (List.range 64) (List.mem_range.2 (by omega)) s ⟨rfl, rfl, rfl⟩
  exact hhit.2

/-! A counter written (R389). -/

theorem State.pin_modTick (s : State) (f : Tick → Tick) (e : Nat) : (s.modTick f).pin e = s.pin e := rfl

theorem State.pxGo_pin (s : State) (e pc : Nat) :
    (s.pxGo e pc id).pin e = { s.pin e with pc := pc % 32, blk := none, seen := [], resume := false } ∧ (∀ i, i ≠ e → (s.pxGo e pc id).pin i = s.pin i) ∧
      s.pxGo e pc id = { s with px := (s.pxGo e pc id).px } := ⟨s.pin_modPx_same e _, fun i hi => s.pin_modPx_ne e i _ hi, rfl⟩

/-- What a write of `v` to counter `k` of engine `e` in state `s` leaves in `s'`. -/
structure CtrWritten (s : State) (e k : Nat) (v : B48) (s' : State) : Prop where
  takes : (s.pin e).modeOf k ≠ 6 → (s'.pin e).ctr k = v
  mirror : (s.pin e).modeOf k = 6 → (s.pin ((s.pin e).mirrored k)).modeOf 0 ≠ 6 → (s'.pin e).ctr k = (s.pin ((s.pin e).mirrored k)).ctr 0
  others : ∀ j, j ≠ k → (s.pin e).modeOf j ≠ 6 → (s'.pin e).ctr j = (s.pin e).ctr j
  rest : s'.pin e = { s.pin e with c := (s'.pin e).c, cnt := (s'.pin e).cnt, down := (s'.pin e).down }
  pins : ∀ i, i ≠ e → (s.pin i).mode.any (fun m => m.1 == 6) = false → s'.pin i = s.pin i
  frame : s' = { s with px := s'.px, tick := { s.tick with turn := s'.tick.turn } }

theorem State.writeCtr_written (s : State) {e k : Nat} (v : B48) (he : e < 8) (hk : k < 4) (hlen : (s.pin e).c.length = 4) :
    CtrWritten s e k v (s.writeCtr e k v) := by
  obtain ⟨⟨px, hpx⟩, hall⟩ := (s.modPx e fun p => p.writeCtr k v).mirrors_frame
  have hself : (s.modPx e fun p => p.writeCtr k v).pin e = (s.pin e).writeCtr k v := s.pin_modPx_same e _
  have hne : ∀ i, i ≠ e → (s.modPx e fun p => p.writeCtr k v).pin i = s.pin i := fun i hi => s.pin_modPx_ne e i _ hi
  have hpin : ∀ i, (s.writeCtr e k v).pin i = (s.modPx e fun p => p.writeCtr k v).mirrors.pin i := fun i => by
    rw [State.writeCtr_eq, State.pin_modTick]
  have hframe : s.writeCtr e k v = { s with px := (s.writeCtr e k v).px, tick := { s.tick with turn := (s.writeCtr e k v).tick.turn } } := by
    rw [State.writeCtr_eq, hpx]
    rfl
  have hpins : ∀ i, i ≠ e → (s.pin i).mode.any (fun m => m.1 == 6) = false → (s.writeCtr e k v).pin i = s.pin i := fun i hi hm => by
    rw [hpin, (hall i).unmirrored (by rwa [hne i hi]), hne i hi]
  by_cases hm : (s.pin e).modeOf k = 6
  · have hsame : (s.pin e).writeCtr k v = s.pin e := if_pos (beq_iff_eq.2 hm)
    have hz : ∀ i, (s.modPx e fun p => p.writeCtr k v).pin i = s.pin i := fun i => by
      by_cases hi : i = e
      · rw [hi, hself, hsame]
      · exact hne i hi
    have hmir := (s.modPx e fun p => p.writeCtr k v).mirrors_ctr he hk
    have hp := hall e
    simp only [hz, ← hpin] at hmir hp
    exact ⟨fun h => absurd hm h, hmir, fun j _ hj => (hp.kept hlen).2 j hj, hp.rest, hpins, hframe⟩
  · obtain ⟨htakes, hothers, -, -⟩ := s.writeCtr_frame v hk hm hlen
    have hrest := (hall e).rest
    rw [hself, Px.writeCtr_unmirrored hm, ← hpin] at hrest
    exact ⟨fun _ => htakes, fun h => absurd h hm, hothers, hrest, hpins, hframe⟩

/-- A state that differs from `s` in the input flags of engine `e` at most. -/
structure FullSet (s : State) (t : Time) (e : Nat) (full : BitVec 2) (z : State) : Prop where
  self : z.pin e = { s.pin e with full := full }
  others : ∀ i, i ≠ e → z.pin i = s.pin i
  frame : z = { s.at t with px := z.px }

theorem FullSet.refl (s : State) (t : Time) (e : Nat) : FullSet s t e (s.pin e).full (s.at t) := ⟨rfl, fun _ _ => rfl, rfl⟩

/-- The end of an instruction that writes a counter, the statement of O50. -/
def CtrInstr (s : State) (t : Time) (e k : Nat) (v : B48) (pc : Nat) (full : BitVec 2) (s' : State) : Prop :=
  let p := s.pin e
  (p.modeOf k ≠ 6 → (s'.pin e).ctr k = v) ∧
    (p.modeOf k = 6 → (s.pin (p.mode.getD k (0, 0, 0, 0)).2.2.2).modeOf 0 ≠ 6 →
      (s'.pin e).ctr k = (s.pin (p.mode.getD k (0, 0, 0, 0)).2.2.2).ctr 0) ∧
    (∀ j, j ≠ k → p.modeOf j ≠ 6 → (s'.pin e).ctr j = p.ctr j) ∧ (s'.pin e).mode = p.mode ∧ (s'.pin e).pc = pc % 32 ∧ (s'.pin e).st = 1 ∧
    (s'.pin e).blk = none ∧ (s'.pin e).sh = p.sh ∧ (s'.pin e).full = full ∧
    (∀ i, i ≠ e → (s.pin i).mode.any (fun m => m.1 == 6) = false → s'.pin i = s.pin i) ∧
      s' = { s.at t with px := s'.px, tick := { s.tick with turn := s'.tick.turn } }

section Writes

variable {s : State} {t : Time} {e k : Nat} {full : BitVec 2} {z : State} (hp : PinReady s e) (hlen : (s.pin e).c.length = 4) (hk : k < 4)
  (hz : FullSet s t e full z)
include hp hlen hk hz

theorem writeCtr_pxGo (v : B48) (pc : Nat) : CtrInstr s t e k v pc full ((z.writeCtr e k v).pxGo e pc id) := by
  obtain ⟨hself, hothers, hframe⟩ := hz
  obtain ⟨htakes, hmirror, hkept, hrest, hpins, hw⟩ := z.writeCtr_written v hp.lt hk (by rw [hself]; exact hlen)
  generalize z.writeCtr e k v = y at *
  obtain ⟨hpin, hpinne, hgo⟩ := y.pxGo_pin e pc
  have hctr : ∀ j, ((y.pxGo e pc id).pin e).ctr j = (y.pin e).ctr j := fun j => by
    rw [hpin]
    rfl
  have hsrc : ∀ i, (z.pin i).modeOf 0 = (s.pin i).modeOf 0 ∧ (z.pin i).ctr 0 = (s.pin i).ctr 0 := fun i => by
    by_cases hi : i = e
    · rw [hi, hself]
      exact ⟨rfl, rfl⟩
    · rw [hothers i hi]
      exact ⟨rfl, rfl⟩
  have hgone : y.pin e = { s.pin e with
      full := full, c := (y.pin e).c, cnt := (y.pin e).cnt, down := (y.pin e).down } := by
    rw [hself] at hrest
    exact hrest
  have hmodeOf : ∀ j, (z.pin e).modeOf j = (s.pin e).modeOf j := fun j => by
    rw [hself]
    rfl
  have hctr0 : ∀ j, (z.pin e).ctr j = (s.pin e).ctr j := fun j => by
    rw [hself]
    rfl
  have hmirrored : (z.pin e).mirrored k = (s.pin e).mirrored k := by
    rw [hself]
    rfl
  simp only [hmodeOf, hmirrored, hsrc, hctr0] at htakes hmirror hkept
  refine ⟨fun h => (hctr k).trans (htakes h), fun h hs => (hctr k).trans (hmirror h hs), fun j hj hm => (hctr j).trans (hkept j hj hm), ?_, ?_, ?_, ?_, ?_,
    ?_, fun i hi hm => ?_, ?_⟩
  · rw [hpin, hgone]
  · rw [hpin]
  · rw [hpin, hgone]
    exact hp.st
  · rw [hpin]
  · rw [hpin, hgone]
  · rw [hpin, hgone]
  · rw [hpinne i hi, hpins i hi (by rwa [hothers i hi]), hothers i hi]
  · obtain ⟨c, hc⟩ : ∃ px, y.pxGo e pc id = { y with px := px } := ⟨_, hgo⟩
    obtain ⟨a, b, hab⟩ : ∃ px turn, y = { z with px := px, tick := { z.tick with turn := turn } } := ⟨_, _, hw⟩
    obtain ⟨d, hd⟩ : ∃ px, z = { s.at t with px := px } := ⟨_, hframe⟩
    rw [hc, hab, hd]
    rfl

theorem writeCtr_pxNext (v : B48) : CtrInstr s t e k v ((s.pin e).pc + 1) full ((z.writeCtr e k v).pxNext e id) := by
  have hrest := (z.writeCtr_written v hp.lt hk (by rw [hz.self]; exact hlen)).rest
  rw [hz.self] at hrest
  have hpc : ((z.writeCtr e k v).pin e).pc = (s.pin e).pc := by rw [hrest]
  have hnext := writeCtr_pxGo hp hlen hk hz v (((z.writeCtr e k v).pin e).pc + 1)
  rw [hpc] at hnext
  rw [State.pxNext, hpc]
  exact hnext

end Writes

/-! The instructions. -/

section Instructions

variable {s : State} {e : Nat} (hp : PinReady s e) (t : Time)
include hp

theorem exec_pxLdi (k : BitVec 2) (imm : BitVec 24) :
    exec (.pxLdi t e k imm) s = .next (((s.at t).writeCtr e k.toNat (imm.signExtend 48)).pxNext e id) := by
  have hexec : exec (.pxLdi t e k imm) s = execPxLdi t e k imm s := rfl
  rw [hexec, execPxLdi, pxOp_ready hp]

theorem exec_pxAddi (k : BitVec 2) (imm : BitVec 24) :
    exec (.pxAddi t e k imm) s = .next (((s.at t).writeCtr e k.toNat ((s.pin e).ctr k.toNat + imm.signExtend 48)).pxNext e id) := by
  have hexec : exec (.pxAddi t e k imm) s = execPxAddi t e k imm s := rfl
  rw [hexec, execPxAddi, pxOp_ready hp]

theorem exec_pxCalc {op : BitVec 3} (hop : ¬5 ≤ op.toNat) (d a b : BitVec 2) : exec (.pxCalc t e d a b op) s =
    .next (((s.at t).writeCtr e d.toNat (calcVal op ((s.pin e).ctr d.toNat) ((s.pin e).ctr a.toNat) ((s.pin e).ctr b.toNat))).pxNext e id) := by
  have hexec : exec (.pxCalc t e d a b op) s = execPxCalc t e d a b op s := rfl
  rw [hexec, execPxCalc, pxOp_ready hp, if_neg hop]

theorem exec_pxJmp_count {n : BitVec 2} (hn : (s.pin e).ctr n.toNat ≠ 0) (target : BitVec 5) :
    exec (.pxJmp t e 4 n target) s = .next (((s.at t).writeCtr e n.toNat ((s.pin e).ctr n.toNat - 1)).pxGo e target.toNat id) := by
  rw [exec_pxJmp hp t (fun h => absurd h (by decide)) target, if_pos ((Px.jumps_four _ n).2 hn), if_pos (by decide)]

theorem exec_pxXsh_store (k : BitVec 2) :
    exec (.pxXsh t e 2 k) s = .next (((s.at t).writeCtr e k.toNat ((s.pin e).sh.setWidth 48)).pxNext e id) := by
  have hexec : exec (.pxXsh t e 2 k) s = execPxXsh t e 2 k s := rfl
  rw [hexec, execPxXsh, pxOp_ready hp, if_neg (by decide), if_neg (by decide), if_neg (by decide)]

/-- A GET to a counter that finds its register full: the flags `need` are cleared, and the counter takes the value. -/
theorem exec_pxGet_ctr {w j : Bool} {need : BitVec 2} (hneed : need = if w then 3 else if j then 2 else 1) (hwj : ¬(w && j) = true)
    (hfull : (s.pin e).full &&& need = need) (k : BitVec 2) : exec (.pxGet t e false k w j) s =
    .next ((((s.at t).modPx e fun p => { p with full := p.full &&& ~~~need }).writeCtr e k.toNat
      (if w then s.pxWide e else (s.reg (pxBase e + (if j then 0x50 else 0x48))).signExtend 48)).pxNext e id) := by
  have hexec : exec (.pxGet t e false k w j) s = execPxGet t e false k w j s := rfl
  subst hneed
  have hgo : ¬((s.pin e).full &&& (if w then 3 else if j then 2 else 1) != if w then 3 else if j then 2 else 1) = true := by
    rw [hfull, bne_self_eq_false]
    exact Bool.false_ne_true
  rw [hexec, execPxGet, pxOp_ready hp]
  dsimp only
  rw [if_neg hwj, if_neg hgo, if_neg Bool.false_ne_true]
  rfl

end Instructions

theorem clearFull (s : State) (t : Time) (e : Nat) (need : BitVec 2) :
    FullSet s t e ((s.pin e).full &&& ~~~need) ((s.at t).modPx e fun p => { p with full := p.full &&& ~~~need }) :=
  ⟨(s.at t).pin_modPx_same e _, fun i hi => (s.at t).pin_modPx_ne e i _ hi, rfl⟩

theorem CtrInstr.gives {c : Instr} {s s' : State} {t : Time} {e k : Nat} {v v' : B48} {pc : Nat} {full full' : BitVec 2} (hexec : exec c s = .next s')
    (h : CtrInstr s t e k v pc full s') (hv : v = v') (hf : full = full') : Gives c s (CtrInstr s t e k v' pc full') := by
  subst hv hf
  exact ⟨s', hexec, h⟩

/-! CNT (R388 to R390). -/

/-- The counting of a counter set, the engine at the next instruction. -/
def Px.counting (p : Px) (k : Nat) (m : Nat × Nat × Nat × Nat) (xen : Bool) (x : Nat) : Px :=
  { p with mode := p.mode.modify k fun _ => m, xen := xen || (p.xen && p.xk != k), xk := if xen then k else p.xk, xi := if xen then x else p.xi,
           pc := (p.pc + 1) % 32, blk := none, seen := [], resume := false }

theorem exec_pxCnt {s : State} {e : Nat} (hp : PinReady s e) (t : Time) {k : BitVec 2} {mode eng : BitVec 3}
    (h : ¬(mode = 7 ∨ (mode = 6 ∧ eng.toNat = e ∧ k = 0))) (a b x : BitVec 2) (xen : Bool) : exec (.pxCnt t e k mode a b x xen eng) s =
      .next ((s.at t).modPx e fun p => p.counting k.toNat (mode.toNat, a.toNat, b.toNat, eng.toNat) xen x.toNat).mirrors := by
  have hexec : exec (.pxCnt t e k mode a b x xen eng) s = execPxCnt t e k mode a b x xen eng s := rfl
  have hok : ¬(mode == 7 || (mode == 6 && eng.toNat == e && k == 0)) = true := by simpa [and_assoc] using h
  rw [hexec, execPxCnt, pxOp_ready hp, if_neg hok]
  exact congrArg (fun z : State => Host.Outcome.next z.mirrors) rfl

theorem calcVal_three (cd ca cb : B48) : calcVal 3 cd ca cb =
    if cd.toInt < ca.toInt then cd + cb else if ca.toInt < cd.toInt then cd - cb else cd := by
  unfold calcVal
  rw [if_neg (by decide), if_neg (by decide), if_neg (by decide), if_pos (by decide)]

/-- What a CNT leaves. -/
theorem pxCnt_spec {s : State} (t : Time) {e : Nat} (he : e < 8) (hlen : (s.pin e).c.length = 4) (hmlen : (s.pin e).mode.length = 4) {k : Nat} (hk : k < 4)
    (m : Nat × Nat × Nat × Nat) (hm : ¬(m.1 = 6 ∧ m.2.2.2 = e ∧ k = 0)) (xen : Bool) (x : Nat) :
    let s' := ((s.at t).modPx e fun p => p.counting k m xen x).mirrors
    (∀ j, (s'.pin e).modeOf j ≠ 6 → (s'.pin e).ctr j = (s.pin e).ctr j) ∧
      (m.1 = 6 → (s.pin m.2.2.2).modeOf 0 ≠ 6 → (s'.pin e).ctr k = (s.pin m.2.2.2).ctr 0) ∧
      (∃ c n d, s'.pin e = { (s.pin e).counting k m xen x with c := c, cnt := n, down := d }) ∧
      (∀ i, i ≠ e → (s.pin i).mode.any (fun m => m.1 == 6) = false → s'.pin i = s.pin i) ∧ s' = { s.at t with px := s'.px } := by
  have hself : ((s.at t).modPx e fun p => p.counting k m xen x).pin e = (s.pin e).counting k m xen x := (s.at t).pin_modPx_same e _
  have hne : ∀ i, i ≠ e → ((s.at t).modPx e fun p => p.counting k m xen x).pin i = s.pin i := fun i hi => (s.at t).pin_modPx_ne e i _ hi
  have hframe : ∃ px, ((s.at t).modPx e fun p => p.counting k m xen x) = { s.at t with px := px } := ⟨_, rfl⟩
  intro s'
  have hs' : s' = ((s.at t).modPx e fun p => p.counting k m xen x).mirrors := rfl
  clear_value s'
  generalize (s.at t).modPx e (fun p => p.counting k m xen x) = z at *
  obtain ⟨⟨px, hpx⟩, hall⟩ := z.mirrors_frame
  rw [← hs'] at hpx hall
  have he' := hall e
  rw [hself] at he'
  refine ⟨fun j hj => ?_, fun h6 hsrc => ?_, ⟨_, _, _, he'.rest⟩, fun i hi hmi => ?_, ?_⟩
  · rw [he'.modeOf_eq] at hj
    exact (he'.kept hlen).2 j hj
  · have hgot : ((s.pin e).counting k m xen x).mode.getD k (0, 0, 0, 0) = m := by simp [Px.counting, hmlen, hk]
    have hzm : (z.pin e).modeOf k = 6 := by
      rw [hself, Px.modeOf, hgot]
      exact h6
    have hzg : (z.pin e).mirrored k = m.2.2.2 := by rw [hself, Px.mirrored, hgot]
    have hzsrc : (z.pin m.2.2.2).modeOf 0 ≠ 6 ∧ (z.pin m.2.2.2).ctr 0 = (s.pin m.2.2.2).ctr 0 := by
      by_cases hi : m.2.2.2 = e
      · have hk0 : k ≠ 0 := fun h => hm ⟨h6, hi, h⟩
        rw [hi] at hsrc ⊢
        rw [hself]
        refine ⟨?_, rfl⟩
        rw [Px.modeOf] at hsrc ⊢
        simpa [Px.counting, hk0] using hsrc
      · rw [hne _ hi]
        exact ⟨hsrc, rfl⟩
    have hmir := z.mirrors_ctr he hk hzm (by rw [hzg]; exact hzsrc.1)
    rw [hs', hmir, hzg, hzsrc.2]
  · rw [(hall i).unmirrored (by rwa [hne i hi]), hne i hi]
  · obtain ⟨d, rfl⟩ := hframe
    rw [hpx]

/-- Settles O50: each write is `writeCtr_pxNext`, a CNT the mirrors after it. -/
theorem pinCounterWrites : Obligations.PinCounterWrites := by
  unfold Obligations.PinCounterWrites
  intro s t e hp hlen hmlen p frame writes
  have hz : FullSet s t e p.full (s.at t) := .refl s t e
  have hwrites : ∀ {c : Instr} (k : BitVec 2) {v v' : B48}, exec c s = .next (((s.at t).writeCtr e k.toNat v).pxNext e id) → v = v' →
      writes c k.toNat v' (p.pc + 1) p.full := fun k _ _ h hv => CtrInstr.gives h (writeCtr_pxNext hp hlen k.isLt hz _) hv rfl
  have hgets : ∀ (w j : Bool) (need full : BitVec 2) (k : BitVec 2) (v : B48), need = (if w then 3 else if j then 2 else 1) → ¬(w && j) = true →
      p.full &&& need = need → (if w then s.pxWide e else (s.reg (pxBase e + (if j then 0x50 else 0x48))).signExtend 48) = v →
      p.full &&& ~~~need = full → writes (.pxGet t e false k w j) k.toNat v (p.pc + 1) full := fun w j need full k v hneed hwj hfull hv hf =>
    CtrInstr.gives (exec_pxGet_ctr hp t hneed hwj hfull k) (writeCtr_pxNext hp hlen k.isLt (clearFull s t e need) _) hv hf
  have hbits : ∀ f : BitVec 2, (f.getLsbD 0 = true → f &&& 1 = 1) ∧ (f.getLsbD 1 = true → f &&& 2 = 2) := by decide
  refine ⟨fun k imm => hwrites k (exec_pxLdi hp t k imm) rfl, fun k imm => hwrites k (exec_pxAddi hp t k imm) rfl, fun d a b => ?_, fun n target hn => ?_,
    fun k => hwrites k (exec_pxXsh_store hp t k) rfl, fun k hf => hgets false false 1 _ k _ rfl (by decide) ((hbits _).1 hf) rfl rfl,
    fun k hf => hgets false true 2 _ k _ rfl (by decide) ((hbits _).2 hf) rfl rfl, fun k hf => ?_, fun k mode a b x xen eng h7 h6 => ?_⟩
  · intro ca cb cd
    have hcalc : ∀ (op : BitVec 3) (v : B48), ¬5 ≤ op.toNat → calcVal op cd ca cb = v → writes (.pxCalc t e d a b op) d.toNat v (p.pc + 1) p.full :=
      fun op v hop hv => hwrites d (exec_pxCalc hp t hop d a b) hv
    refine ⟨hcalc 0 _ (by decide) rfl, hcalc 1 _ (by decide) rfl, hcalc 2 _ (by decide) rfl, hcalc 4 _ (by decide) rfl,
      fun h => hcalc 3 _ (by decide) ?_, fun h => hcalc 3 _ (by decide) ?_, fun h => hcalc 3 _ (by decide) ?_⟩
    · rw [calcVal_three, if_pos h]
    · rw [calcVal_three, if_neg (Int.not_lt.2 h.le), if_pos h]
    · rw [calcVal_three, h, if_neg (Int.lt_irrefl _), if_neg (Int.lt_irrefl _)]
  · exact CtrInstr.gives (exec_pxJmp_count hp t hn target) (writeCtr_pxGo hp hlen n.isLt hz _ _) rfl rfl
  · refine hgets true false 3 _ k _ rfl (by decide) ?_ rfl ?_
    · rw [hf]
      decide
    · rw [hf]
      decide
  · have hm : ¬((mode.toNat, a.toNat, b.toNat, eng.toNat).1 = 6 ∧ (mode.toNat, a.toNat, b.toNat, eng.toNat).2.2.2 = e ∧ k.toNat = 0) := fun h =>
      h6 ⟨BitVec.eq_of_toNat_eq h.1, h.2.1, BitVec.eq_of_toNat_eq h.2.2⟩
    obtain ⟨hkept, hmir, ⟨c, n, d, hself⟩, hothers, hframe⟩ := pxCnt_spec t hp.lt hlen hmlen k.isLt _ hm xen x.toNat
    refine ⟨_, exec_pxCnt hp t (fun h => h.elim h7 h6) a b x xen, ?_⟩
    generalize ((s.at t).modPx e fun p => p.counting k.toNat (mode.toNat, a.toNat, b.toNat, eng.toNat) xen x.toNat).mirrors = s' at *
    have hturn : s' = { s.at t with px := s'.px, tick := { s.tick with turn := s'.tick.turn } } := by
      obtain ⟨q, rfl⟩ : ∃ q, s' = { s.at t with px := q } := ⟨_, hframe⟩
      rfl
    have h6' : mode = 6 → mode.toNat = 6 := fun h => by
      rw [h]
      rfl
    refine ⟨(congrArg Px.mode hself :), hkept, fun h => hmir (h6' h), fun hx => ?_, fun hx => ?_, (congrArg Px.pc hself :), (congrArg Px.blk hself :),
      hothers, hturn⟩
    · subst hx
      exact ⟨(congrArg Px.xen hself :), (congrArg Px.xk hself :), (congrArg Px.xi hself :)⟩
    · subst hx
      refine ⟨?_, (congrArg Px.xk hself :), (congrArg Px.xi hself :)⟩
      rw [hself]
      simp [Px.counting, p]

end Machine
end Sys2Proof

/-! Edges at the inputs of a pin engine (11_pin_engines R381 to R384, R388 to R390, R393, R399). -/

namespace Sys2Proof
namespace Machine

/-! Counting (R388, R389). -/

/-- What a counter changes by. -/
def deltaOf : Option Int → B48
  | some d => BitVec.ofInt 48 d
  | none => 0

/-- What counter `k` changes by at the edges `chg`. -/
def Px.delta (p : Px) (chg : Nat → Option (Time × Bool)) (k : Nat) : B48 :=
  deltaOf (countOf (p.modeOf k) (chg (p.mode.getD k (0, 0, 0, 0)).2.1).isSome (chg (p.mode.getD k (0, 0, 0, 0)).2.2.1).isSome
    (p.lev.getLsbD (p.mode.getD k (0, 0, 0, 0)).2.1) (p.lev.getLsbD (p.mode.getD k (0, 0, 0, 0)).2.2.1))

/-- `q` is `p` after counting: the counters, their latest edges and directions, and the count of errors. -/
def Px.Counted (p q : Px) : Prop := q = { p with c := q.c, cnt := q.cnt, down := q.down, qerr := q.qerr } ∧ q.c.length = p.c.length

theorem Px.countAt_counted (p : Px) (chg : Nat → Option (Time × Bool)) (k : Nat) : p.Counted (p.countAt chg k) := by
  unfold Px.countAt
  extract_lets m ea eb
  split
  · exact ⟨rfl, rfl⟩
  · split
    · exact ⟨rfl, rfl⟩
    · exact ⟨rfl, List.length_modify ..⟩

theorem Px.countAt_ctr (p : Px) (chg : Nat → Option (Time × Bool)) {k : Nat} (hk : k < p.c.length) (j : Nat) :
    (p.countAt chg k).ctr j = if j = k then p.ctr k + p.delta chg k else p.ctr j := by
  unfold Px.countAt Px.delta
  extract_lets m ea eb
  show _ = if j = k then p.ctr k + deltaOf (countOf m.1 ea.isSome eb.isSome (p.lev.getLsbD m.2.1) (p.lev.getLsbD m.2.2.1)) else p.ctr j
  generalize countOf m.1 ea.isSome eb.isSome (p.lev.getLsbD m.2.1) (p.lev.getLsbD m.2.2.1) = d
  by_cases hj : j = k
  · subst hj
    rw [if_pos rfl]
    cases d with
    | none => simp [deltaOf, Px.ctr]
    | some d =>
      by_cases hd : d = 0
      · simp [hd, deltaOf, Px.ctr]
      · simp [hd, deltaOf, Px.ctr, upd, hk]
  · rw [if_neg hj]
    cases d with
    | none => rfl
    | some d =>
      by_cases hd : d = 0
      · simp [hd]
      · simp [hd, Px.ctr, upd, Ne.symm hj]

/-- Counting changes neither the levels nor the modes. -/
theorem Px.Counted.delta_eq {p q : Px} (h : p.Counted q) (chg : Nat → Option (Time × Bool)) (k : Nat) : q.delta chg k = p.delta chg k := by
  rw [h.1]
  rfl

theorem Px.Counted.trans {p q r : Px} (h1 : p.Counted q) (h2 : q.Counted r) : p.Counted r := by
  obtain ⟨hq, hqc⟩ := h1
  obtain ⟨hr, hrc⟩ := h2
  rw [hq] at hr
  exact ⟨hr, hrc.trans hqc⟩

/-- All counters at the edges of one pin clock. -/
def Px.countAll (p : Px) (chg : Nat → Option (Time × Bool)) (l : List Nat) : Px := l.foldl (fun p k => p.countAt chg k) p

theorem Px.countAll_counted (p : Px) (chg : Nat → Option (Time × Bool)) (l : List Nat) : p.Counted (p.countAll chg l) := by
  exact List.foldlRecOn (motive := p.Counted) l (fun p k => p.countAt chg k) ⟨rfl, rfl⟩ fun q hq k _ => hq.trans (q.countAt_counted chg k)

theorem Px.countAll_ctr (chg : Nat → Option (Time × Bool)) {l : List Nat} (hl : l.Nodup) (p : Px) (hlen : ∀ k, k ∈ l → k < p.c.length) (j : Nat) :
    (p.countAll chg l).ctr j = if j ∈ l then p.ctr j + p.delta chg j else p.ctr j := by
  induction l generalizing p with
  | nil => rfl
  | cons k l ih =>
    obtain ⟨hkl, hl'⟩ := List.nodup_cons.1 hl
    have hk := p.countAt_counted chg k
    have hctr := p.countAt_ctr chg (hlen k List.mem_cons_self) j
    have hrest := ih hl' (p.countAt chg k) fun i hi => by
      rw [hk.2]
      exact hlen i (List.mem_cons_of_mem _ hi)
    rw [hk.delta_eq, hctr] at hrest
    show ((p.countAt chg k).countAll chg l).ctr j = _
    rw [hrest]
    by_cases hj : j = k
    · subst hj
      rw [if_neg hkl, if_pos rfl, if_pos List.mem_cons_self]
    · rw [if_neg hj]
      simp only [List.mem_cons, hj, false_or]

/-- With no edge nothing counts. -/
theorem countOf_still (m : Nat) (a b : Bool) : countOf m false false a b = some 0 := by
  by_cases h5 : m = 5
  · subst h5
    revert a b
    decide
  · simp [countOf, h5]

theorem Px.countAt_still (p : Px) (k : Nat) : p.countAt (fun _ => none) k = p := by
  unfold Px.countAt
  extract_lets m ea eb
  have h0 : countOf m.1 ea.isSome eb.isSome (p.lev.getLsbD m.2.1) (p.lev.getLsbD m.2.2.1) = some 0 := countOf_still _ _ _
  rw [h0]
  rfl

theorem Px.countAll_still (p : Px) (l : List Nat) : p.countAll (fun _ => none) l = p := by
  induction l with
  | nil => rfl
  | cons k l ih =>
    show (p.countAt (fun _ => none) k).countAll (fun _ => none) l = p
    rw [p.countAt_still, ih]

/-- A counter that does not count (mode 0). -/
theorem Px.countAt_off (p : Px) (chg : Nat → Option (Time × Bool)) {k : Nat} (h : p.modeOf k = 0) : p.countAt chg k = p := by
  unfold Px.countAt
  extract_lets m ea eb
  have h0 : countOf m.1 ea.isSome eb.isSome (p.lev.getLsbD m.2.1) (p.lev.getLsbD m.2.2.1) = some 0 := by
    rw [show m.1 = 0 from h]
    rfl
  rw [h0]
  rfl

/-! The accepted edges of one pin clock, and what they do to their engine. -/

/-- An accepted edge: its input, whether it rises, its stamp and the stamp's validity. -/
abbrev Edge := Nat × Bool × Time × Bool

/-- The accepted edge of an input among `acc`: stamp and validity. -/
def edgeOf (acc : List Edge) (i : Nat) : Option (Time × Bool) := (acc.find? fun x => x.1 == i).map fun x => (x.2.2.1, x.2.2.2)

/-- The engine after the accepted edges, its mirrors and its index latch apart. -/
def Px.edges (p : Px) (acc : List Edge) : Px :=
  Px.countAll { p with
    lev := acc.foldl (fun (l : BitVec 4) x => l ^^^ (1#4 <<< x.1)) p.lev
    last := acc.foldl (fun l x => upd l x.1 fun _ => some (x.2.2.1, x.2.2.2)) p.last
    seen := if p.st == 1 && p.blk.isSome then p.seen ++ acc else p.seen } (edgeOf acc) (List.range 4)

/-- The turning point of the direction check follows the encoder. -/
def State.trackEnc (s : State) (old : B48) : State := if s.encNow == old then s else s.encMoved

theorem State.trackEnc_frame (s : State) (old : B48) : ∃ x, s.trackEnc old = { s with tick := { s.tick with turn := x } } := by
  unfold State.trackEnc
  split
  · exact ⟨_, rfl⟩
  · exact iteInduction (motive := fun z : State => ∃ x, z = { s with tick := { s.tick with turn := x } }) (fun _ => ⟨_, rfl⟩) fun _ => ⟨_, rfl⟩

/-- The index latch at the edge `x` (R390). -/
def Px.latch (p : Px) (x : Edge) : Px := { p.putData 3 (0x08 + p.xk) (p.ctr p.xk).toNat with idx := x.2.2.1 }

/-- The engine after the edge that may be one of its index input. -/
def Px.latchIf (p : Px) : Option Edge → Px
  | some x => if p.xen then p.latch x else p
  | none => p

/-- The pin engines after the accepted edges, the index latch apart. -/
def State.edged (s : State) (e : Nat) (acc : List Edge) : State := (s.modPx e fun p => p.edges acc).mirrors

theorem inputEdge_gives {s : State} {e : Nat} (hr : s.running = true) (hg : s.clk.aGated = none) (he : e < 8) (t : Time) {es : List PinEdge}
    {acc : List Edge} (hacc : (s.at t).accepted e es = acc) : Gives (.inputEdge t e es) s fun s' =>
      s'.pin e = (((s.at t).edged e acc).pin e).latchIf (acc.find? fun x => x.1 == (((s.at t).edged e acc).pin e).xi && x.2.1) ∧
      (∀ j, j ≠ e → s'.pin j = ((s.at t).edged e acc).pin j) ∧
      ∃ px x, s' = { (s.at t).edged e acc with px := px, tick := { ((s.at t).edged e acc).tick with turn := x } } := by
  have hexec : exec (.inputEdge t e es) s = execInputEdge t e es s := rfl
  have hok : ¬(8 ≤ e || (s.at t).clk.aGated.isSome) = true := by
    rw [show (s.at t).clk = s.clk from rfl, hg, decide_eq_false (Nat.not_le.2 he)]
    exact Bool.false_ne_true
  rw [execInputEdge, inRun_running hr, if_neg hok, hacc] at hexec
  extract_lets acc' chg old s1 s2 hit s3 at hexec
  refine ⟨_, hexec, ?_⟩
  clear hexec
  have hs2 : (s.at t).edged e acc = s2 := rfl
  have hs3 : s3.pin e = (s2.pin e).latchIf hit ∧ (∀ j, j ≠ e → s3.pin j = s2.pin j) ∧ ∃ px, s3 = { s2 with px := px } := by
    dsimp only [s3]
    clear_value hit s2
    cases hit with
    | none => exact ⟨rfl, fun _ _ => rfl, _, rfl⟩
    | some x =>
      by_cases hx : (s2.pin e).xen = true
      · dsimp only
        rw [if_pos hx, Px.latchIf, if_pos hx]
        exact ⟨s2.pin_modPx_same e _, fun j hj => s2.pin_modPx_ne e j _ hj, _, rfl⟩
      · dsimp only
        rw [if_neg hx, Px.latchIf, if_neg hx]
        exact ⟨rfl, fun _ _ => rfl, _, rfl⟩
  obtain ⟨x, hx⟩ := s3.trackEnc_frame old
  obtain ⟨hself, hothers, px, hpx⟩ := hs3
  have hend : (if s3.encNow == old then s3 else s3.encMoved) = s3.trackEnc old := rfl
  dsimp only
  rw [hend, hx, hs2]
  refine ⟨hself, hothers, px, x, ?_⟩
  rw [hpx]

/-! What the accepted edges leave. -/

theorem Px.edges_counted (p : Px) (acc : List Edge) : ∃ c n d q, p.edges acc = { p with
    lev := acc.foldl (fun (l : BitVec 4) x => l ^^^ (1#4 <<< x.1)) p.lev
    last := acc.foldl (fun l x => upd l x.1 fun _ => some (x.2.2.1, x.2.2.2)) p.last
    seen := if p.st == 1 && p.blk.isSome then p.seen ++ acc else p.seen, c := c, cnt := n, down := d, qerr := q } ∧ c.length = p.c.length := by
  obtain ⟨heq, hlen⟩ := Px.countAll_counted { p with
    lev := acc.foldl (fun (l : BitVec 4) x => l ^^^ (1#4 <<< x.1)) p.lev
    last := acc.foldl (fun l x => upd l x.1 fun _ => some (x.2.2.1, x.2.2.2)) p.last
    seen := if p.st == 1 && p.blk.isSome then p.seen ++ acc else p.seen } (edgeOf acc) (List.range 4)
  exact ⟨_, _, _, _, heq, hlen⟩

/-- What a counter changes by at the accepted edges, the levels after them being `lev`. -/
def edgeDelta (m : Nat × Nat × Nat × Nat) (acc : List Edge) (lev : BitVec 4) : B48 :=
  deltaOf (countOf m.1 (edgeOf acc m.2.1).isSome (edgeOf acc m.2.2.1).isSome (lev.getLsbD m.2.1) (lev.getLsbD m.2.2.1))

theorem Px.edges_ctr {p : Px} (hlen : p.c.length = 4) (acc : List Edge) {k : Nat} (hk : k < 4) : (p.edges acc).ctr k =
    p.ctr k + edgeDelta (p.mode.getD k (0, 0, 0, 0)) acc (acc.foldl (fun (l : BitVec 4) x => l ^^^ (1#4 <<< x.1)) p.lev) := by
  refine (Px.countAll_ctr (edgeOf acc) List.nodup_range _ (fun j hj => ?_) k).trans (if_pos (List.mem_range.2 hk))
  rw [hlen]
  exact List.mem_range.1 hj

theorem State.edged_pin (s : State) (e : Nat) (acc : List Edge) :
    (∃ c n d, (s.edged e acc).pin e = { (s.pin e).edges acc with c := c, cnt := n, down := d }) ∧
      (∀ j, j ≠ e → (s.pin j).mode.any (fun m => m.1 == 6) = false → (s.edged e acc).pin j = s.pin j) ∧ ∃ px, s.edged e acc = { s with px := px } := by
  obtain ⟨⟨px, hpx⟩, hall⟩ := (s.modPx e fun p => p.edges acc).mirrors_frame
  have hself : (s.modPx e fun p => p.edges acc).pin e = (s.pin e).edges acc := s.pin_modPx_same e _
  have hne : ∀ i, i ≠ e → (s.modPx e fun p => p.edges acc).pin i = s.pin i := fun i hi => s.pin_modPx_ne e i _ hi
  obtain ⟨px', hpx'⟩ : ∃ px', (s.modPx e fun p => p.edges acc) = { s with px := px' } := ⟨_, rfl⟩
  unfold State.edged
  have hrest := (hall e).rest
  rw [hself] at hrest
  generalize (s.modPx e fun p => p.edges acc).mirrors = z at *
  generalize (s.pin e).edges acc = q at *
  refine ⟨⟨(z.pin e).c, (z.pin e).cnt, (z.pin e).down, hrest⟩, fun j hj hm => ((hall j).unmirrored ?_).trans (hne j hj), px, ?_⟩
  · rwa [hne j hj]
  · rw [hpx, hpx']

theorem State.edged_unmirrored {s : State} {e : Nat} (acc : List Edge) (hm : (s.pin e).mode.any (fun m => m.1 == 6) = false) :
    (s.edged e acc).pin e = (s.pin e).edges acc := by
  have hself : (s.modPx e fun p => p.edges acc).pin e = (s.pin e).edges acc := s.pin_modPx_same e _
  obtain ⟨c, n, d, q, hedges, -⟩ := (s.pin e).edges_counted acc
  refine (((s.modPx e fun p => p.edges acc).mirrors_frame.2 e).unmirrored ?_).trans hself
  rw [hself, hedges]
  exact hm

theorem State.edged_ctr {s : State} {e : Nat} (hlen : (s.pin e).c.length = 4) (acc : List Edge) {k : Nat} (hk : k < 4) (hm : (s.pin e).modeOf k ≠ 6) :
    ((s.edged e acc).pin e).ctr k = (s.pin e).ctr k +
      edgeDelta ((s.pin e).mode.getD k (0, 0, 0, 0)) acc (acc.foldl (fun (l : BitVec 4) x => l ^^^ (1#4 <<< x.1)) (s.pin e).lev) := by
  have hself : (s.modPx e fun p => p.edges acc).pin e = (s.pin e).edges acc := s.pin_modPx_same e _
  obtain ⟨c, n, d, q, hedges, -⟩ := (s.pin e).edges_counted acc
  have hmode : ((s.modPx e fun p => p.edges acc).pin e).modeOf k = (s.pin e).modeOf k := by
    rw [hself, hedges]
    rfl
  rw [State.edged, State.mirrors_kept_ctr _ e hk (by rwa [hmode]), hself, Px.edges_ctr hlen acc hk]

/-- A mirror in another engine of c0, where that is no mirror itself, takes its new value. -/
theorem State.edged_mirror {s : State} {e j k : Nat} (acc : List Edge) (hj : j < 8) (hje : j ≠ e) (hk : k < 4) (hm : (s.pin j).modeOf k = 6)
    (hsrc : (s.pin j).mirrored k = e) (h0 : (s.pin e).modeOf 0 ≠ 6) : ((s.edged e acc).pin j).ctr k = ((s.edged e acc).pin e).ctr 0 := by
  have hself : (s.modPx e fun p => p.edges acc).pin e = (s.pin e).edges acc := s.pin_modPx_same e _
  have hne : (s.modPx e fun p => p.edges acc).pin j = s.pin j := s.pin_modPx_ne e j _ hje
  obtain ⟨c, n, d, q, hedges, -⟩ := (s.pin e).edges_counted acc
  have hmode : ((s.modPx e fun p => p.edges acc).pin e).modeOf 0 ≠ 6 := by
    rw [hself, hedges]
    exact h0
  have hmir := (s.modPx e fun p => p.edges acc).mirrors_ctr hj hk (by rw [hne]; exact hm) (by rw [hne, hsrc]; exact hmode)
  rw [hne, hsrc] at hmir
  rw [State.edged, hmir, State.mirrors_kept_ctr _ e (by decide) hmode]

/-! Which edges are accepted (R381 to R384). -/

/-- The edge accepted at an input, if one is. -/
def State.acceptedAt (s : State) (e : Nat) (es : List PinEdge) (i : Nat) : Option Edge :=
  match es.find? fun x => x.i == i with
  | some x =>
    if s.inPasses e x && s.inLevel e x != (s.pin e).lev.getLsbD i && (match (s.pin e).last.getD i none with
      | some (y, _) => decide (16 ≤ since x.stamp y)
      | none => true) then some (i, s.inLevel e x, x.stamp, s.stampOk x.stamp) else none
  | none => none

theorem State.accepted_eq (s : State) (e : Nat) (es : List PinEdge) : s.accepted e es = (List.range 4).filterMap (s.acceptedAt e es) := rfl

section Accepted

variable {s : State} {e i : Nat} {es : List PinEdge}

theorem State.acceptedAt_none (h : (es.find? fun x => x.i == i) = none) : s.acceptedAt e es i = none := by
  rw [State.acceptedAt, h]

variable {x : PinEdge} (h : (es.find? fun x => x.i == i) = some x)
include h

theorem State.acceptedAt_some (hp : s.inPasses e x = true) (hl : s.inLevel e x ≠ (s.pin e).lev.getLsbD i)
    (hf : ∀ y ok, (s.pin e).last.getD i none = some (y, ok) → 16 ≤ since x.stamp y) :
    s.acceptedAt e es i = some (i, s.inLevel e x, x.stamp, s.stampOk x.stamp) := by
  rw [State.acceptedAt, h]
  dsimp only
  rw [hp, bne_iff_ne.2 hl]
  cases hlast : (s.pin e).last.getD i none with
  | none => rfl
  | some y => exact if_pos (by simp [hf y.1 y.2 hlast])

theorem State.acceptedAt_refused (hbad : s.inPasses e x = false ∨ s.inLevel e x = (s.pin e).lev.getLsbD i ∨
    ∃ y ok, (s.pin e).last.getD i none = some (y, ok) ∧ since x.stamp y < 16) : s.acceptedAt e es i = none := by
  rw [State.acceptedAt, h]
  dsimp only
  obtain hp | hl | ⟨y, ok, hlast, hnear⟩ := hbad
  · rw [hp]
    rfl
  · rw [hl, bne_self_eq_false, Bool.and_false]
    rfl
  · rw [hlast]
    exact if_neg (by simp [hnear])

end Accepted

theorem filterMap_filter_of_none {α β : Type} {f : α → Option β} {q : α → Bool} (h : ∀ j, q j = false → f j = none) (l : List α) :
    (l.filter q).filterMap f = l.filterMap f := by
  induction l with
  | nil => rfl
  | cons j l ih =>
    cases hq : q j with
    | false => rw [List.filter_cons_of_neg (by rw [hq]; exact Bool.false_ne_true), List.filterMap_cons_none (h j hq), ih]
    | true =>
      rw [List.filter_cons_of_pos hq]
      simp only [List.filterMap_cons, ih]

/-- Of four inputs, one alone has an edge. -/
theorem filterMap_four {α : Type} {f : Nat → Option α} {i : Nat} (hi : i < 4) (h : ∀ j, j ≠ i → f j = none) :
    (List.range 4).filterMap f = (f i).toList := by
  have hone : ∀ i < 4, (List.range 4).filter (· == i) = [i] := by decide
  rw [← filterMap_filter_of_none (q := (· == i)) fun j hj => h j (beq_eq_false_iff_ne.1 hj), hone i hi]
  cases hf : f i <;> simp [hf]

/-- Two inputs alone have edges. -/
theorem filterMap_four_two {α : Type} {f : Nat → Option α} {a b : Nat} (hab : a < b) (hb : b < 4) (h : ∀ j, j ≠ a → j ≠ b → f j = none) :
    (List.range 4).filterMap f = (f a).toList ++ (f b).toList := by
  have htwo : ∀ b < 4, ∀ a < b, (List.range 4).filter (fun j => j == a || j == b) = [a, b] := by decide
  have hout : ∀ j, (j == a || j == b) = false → f j = none := fun j hj => by
    obtain ⟨ha, hb⟩ := Bool.or_eq_false_iff.1 hj
    exact h j (beq_eq_false_iff_ne.1 ha) (beq_eq_false_iff_ne.1 hb)
  rw [← filterMap_filter_of_none hout, htwo b hb a hab]
  cases hfa : f a <;> cases hfb : f b <;> simp [hfa, hfb]

/-! One accepted edge. -/

theorem edgeOf_single (i : Nat) (r : Bool) (x : Time) (ok : Bool) (j : Nat) : (edgeOf [(i, r, x, ok)] j).isSome = decide (i = j) := by
  by_cases h : i = j
  · simp [edgeOf, h]
  · simp [edgeOf, h]

/-- The level of the input after its edge. -/
theorem flipped_self {lev : BitVec 4} {i : Nat} {r : Bool} (hi : i < 4) (h : lev.getLsbD i ≠ r) : (lev ^^^ (1#4 <<< i)).getLsbD i = r := by
  have hbit : (1#4 <<< i).getLsbD i = true := by
    interval_cases i <;> decide
  rw [BitVec.getLsbD_xor, hbit]
  revert h
  cases lev.getLsbD i <;> cases r <;> decide

section Delta

variable {i a b g : Nat} {r : Bool} {x : Time} {ok : Bool} {lev : BitVec 4}

theorem edgeDelta_single (m : Nat) : edgeDelta (m, a, b, g) [(i, r, x, ok)] lev =
    deltaOf (countOf m (decide (i = a)) (decide (i = b)) (lev.getLsbD a) (lev.getLsbD b)) := by
  rw [edgeDelta, edgeOf_single, edgeOf_single]

theorem edgeDelta_off : edgeDelta (0, a, b, g) [(i, r, x, ok)] lev = 0 := rfl

theorem edgeDelta_one (hi : lev.getLsbD i = r) : edgeDelta (1, a, b, g) [(i, r, x, ok)] lev = if a = i ∧ r = true then 1 else 0 := by
  rw [edgeDelta_single]
  by_cases ha : a = i
  · subst ha
    rw [hi]
    cases r <;> simp [countOf, deltaOf]
  · simp [countOf, deltaOf, ha, Ne.symm ha]

theorem edgeDelta_dir {m : Nat} (hm : m = 2 ∨ (m = 3 ∧ a ≠ b)) (hi : lev.getLsbD i = r) :
    edgeDelta (m, a, b, g) [(i, r, x, ok)] lev = if a = i ∧ r = true then (if lev.getLsbD b then -1 else 1) else 0 := by
  have hboth : (decide (3 ≤ m) && decide (m ≤ 5) && decide (i = a) && decide (i = b)) = false := by
    by_contra h
    simp only [Bool.not_eq_false, Bool.and_eq_true, decide_eq_true_eq] at h
    omega
  have hm1 : ¬(m == 1) = true := by simp; omega
  have hm2 : (m == 2 || m == 3) = true := by simp; omega
  rw [edgeDelta_single, countOf, hboth, if_neg Bool.false_ne_true, if_neg hm1, if_pos hm2]
  by_cases ha : a = i
  · subst ha
    rw [hi]
    cases r <;> cases lev.getLsbD b <;> simp [deltaOf]
  · simp [deltaOf, ha, Ne.symm ha]

theorem edgeDelta_four (hab : a ≠ b) : edgeDelta (4, a, b, g) [(i, r, x, ok)] lev =
    if a = i then (if lev.getLsbD a ≠ lev.getLsbD b then 1 else -1) else 0 := by
  have hfour : ∀ la lb : Bool, deltaOf (countOf 4 true false la lb) = if la ≠ lb then 1 else -1 := by decide
  rw [edgeDelta_single]
  by_cases ha : a = i
  · subst ha
    rw [decide_eq_true rfl, decide_eq_false hab, if_pos rfl, hfour]
  · simp [countOf, deltaOf, ha, Ne.symm ha]

theorem edgeDelta_five (hab : a ≠ b) : edgeDelta (5, a, b, g) [(i, r, x, ok)] lev =
    if a = i then (if lev.getLsbD a ≠ lev.getLsbD b then 1 else -1) else if b = i then (if lev.getLsbD a = lev.getLsbD b then 1 else -1) else 0 := by
  have hfirst : ∀ la lb : Bool, deltaOf (countOf 5 true false la lb) = if la ≠ lb then 1 else -1 := by decide
  have hsecond : ∀ la lb : Bool, deltaOf (countOf 5 false true la lb) = if la = lb then 1 else -1 := by decide
  rw [edgeDelta_single]
  by_cases ha : a = i
  · subst ha
    rw [decide_eq_true rfl, decide_eq_false hab, if_pos rfl, hfirst]
  · by_cases hb : b = i
    · subst hb
      rw [decide_eq_false (Ne.symm ha), decide_eq_true rfl, if_neg ha, if_pos rfl, hsecond]
    · rw [decide_eq_false (Ne.symm ha), decide_eq_false (Ne.symm hb), if_neg ha, if_neg hb, countOf_still]
      rfl

end Delta

/-! What is left of the engines after the edges. -/

theorem Px.latchIf_rest (p : Px) (x : Option Edge) : ∃ data idx, p.latchIf x = { p with data := data, idx := idx } := by
  cases x with
  | none => exact ⟨_, _, rfl⟩
  | some x =>
    rw [Px.latchIf]
    split
    · exact ⟨_, _, rfl⟩
    · exact ⟨_, _, rfl⟩

theorem Px.latchIf_none_of {p : Px} {i : Nat} {r : Bool} {x : Time} {ok : Bool} (h : p.xen = false ∨ p.xi ≠ i ∨ r = false) :
    p.latchIf ([(i, r, x, ok)].find? fun y => y.1 == p.xi && y.2.1) = p := by
  by_cases hhit : (i == p.xi && r) = true
  · rw [List.find?_singleton]
    dsimp only
    rw [if_pos hhit, Px.latchIf, if_neg]
    obtain ⟨hi, hr⟩ := Bool.and_eq_true_iff.1 hhit
    obtain hx | hx | hx := h
    · rw [hx]
      exact Bool.false_ne_true
    · exact absurd (beq_iff_eq.1 hi).symm hx
    · exact absurd (hx.symm.trans hr) Bool.false_ne_true
  · rw [List.find?_singleton]
    dsimp only
    rw [if_neg hhit]
    rfl

theorem Px.latchIf_some_of {p : Px} {i : Nat} {x : Time} {ok : Bool} (hx : p.xen = true) (hi : p.xi = i) :
    p.latchIf ([(i, true, x, ok)].find? fun y => y.1 == p.xi && y.2.1) = p.latch (i, true, x, ok) := by
  rw [List.find?_singleton]
  dsimp only
  rw [if_pos (by simp [hi]), Px.latchIf, if_pos hx]

theorem Px.edges_nil (p : Px) : p.edges [] = p := by
  have hseen : (if p.st == 1 && p.blk.isSome then p.seen ++ [] else p.seen) = p.seen := by rw [List.append_nil, ite_self]
  unfold Px.edges
  rw [hseen]
  exact Px.countAll_still p (List.range 4)

theorem State.mirrors_pin_beyond (s : State) {j : Nat} (hj : 8 ≤ j) : s.mirrors.pin j = s.pin j :=
  List.foldlRecOn (motive := fun z : State => z.pin j = s.pin j) (List.range 64) (fun s i => s.mirrorOne (i % 8)) rfl fun z hz i _ =>
    (z.mirrorOne_pin_ne (by omega)).trans hz

/-- With no accepted edge, and no mirror, no engine changes. -/
theorem State.edged_nil {s : State} (e : Nat) (h : ∀ j, j < 8 → (s.pin j).mode.any (fun m => m.1 == 6) = false) (j : Nat) :
    (s.edged e []).pin j = s.pin j := by
  have hsame : (s.modPx e fun p => p.edges []).pin j = s.pin j := by
    by_cases hj : j = e
    · rw [hj, State.pin_modPx_same, Px.edges_nil]
    · rw [State.pin_modPx_ne _ _ _ _ hj]
  by_cases hj : j < 8
  · refine (((s.modPx e fun p => p.edges []).mirrors_frame.2 j).unmirrored ?_).trans hsame
    rw [hsame]
    exact h j hj
  · exact (State.mirrors_pin_beyond _ (Nat.not_lt.1 hj)).trans hsame

section Main

variable {s : State} {t : Time} {e : Nat} (hr : s.running = true) (hg : s.clk.aGated = none) (he : e < 8)
include hr hg he

/-- What one accepted edge leaves (the first clause of O53). -/
theorem inputEdge_one (hlen : (s.pin e).c.length = 4) {es : List PinEdge} {i : Nat} {r : Bool} {x : Time} {ok : Bool}
    (hacc : (s.at t).accepted e es = [(i, r, x, ok)]) :
    let p := s.pin e
    let lev := p.lev ^^^ (1#4 <<< i)
    Gives (.inputEdge t e es) s fun s' => (s'.pin e).lev = lev ∧
      (s'.pin e).last = p.last.modify i (fun _ => some (x, ok)) ∧
      (s'.pin e).seen = (if p.st = 1 ∧ p.blk ≠ none then p.seen ++ [(i, r, x, ok)] else p.seen) ∧
      (∀ k m, k < 4 → p.mode.getD k (0, 0, 0, 0) = m → m.1 ≠ 6 → (s'.pin e).ctr k = p.ctr k + edgeDelta m [(i, r, x, ok)] lev) ∧
      (p.xen = true → p.xi = i → r = true → (s'.pin e).idx = x ∧ (s'.pin e).data = p.data.modify 3 fun w =>
        pack 64 [((fld w 63 56 + 1) % 256, 56), (3, 54), ((8 + p.xk) % 64, 48), (((s'.pin e).ctr p.xk).toNat % 2 ^ 48, 0)]) ∧
      (p.xen = false ∨ p.xi ≠ i ∨ r = false → (s'.pin e).idx = p.idx ∧ (s'.pin e).data = p.data) ∧
      (∀ j k, j < 8 → j ≠ e → k < 4 → (s.pin j).modeOf k = 6 → ((s.pin j).mode.getD k (0, 0, 0, 0)).2.2.2 = e → p.modeOf 0 ≠ 6 →
        (s'.pin j).ctr k = (s'.pin e).ctr 0) ∧
      (∀ j, j ≠ e → (s.pin j).mode.any (fun m => m.1 == 6) = false → s'.pin j = s.pin j) ∧
      s' = { s.at t with px := s'.px, tick := { s.tick with turn := s'.tick.turn } } := by
  intro p lev
  obtain ⟨s', hexec, hself, hothers, px, turn, hframe⟩ := inputEdge_gives hr hg he t hacc
  have hctr := fun k => @State.edged_ctr (s.at t) e hlen [(i, r, x, ok)] k
  have hmir := fun j k => @State.edged_mirror (s.at t) e j k [(i, r, x, ok)]
  obtain ⟨⟨c, n, d, hz⟩, hzne, px', hzpx⟩ := (s.at t).edged_pin e [(i, r, x, ok)]
  obtain ⟨c', n', d', q, hedges, -⟩ := Px.edges_counted ((s.at t).pin e) [(i, r, x, ok)]
  rw [hedges] at hz
  generalize (s.at t).edged e [(i, r, x, ok)] = z at *
  obtain ⟨data, idx, hlatch⟩ := (z.pin e).latchIf_rest ([(i, r, x, ok)].find? fun y => y.1 == (z.pin e).xi && y.2.1)
  have hsame := hself.trans hlatch
  have hsctr : ∀ k, (s'.pin e).ctr k = (z.pin e).ctr k := fun k => by
    rw [hsame]
    rfl
  have hxen : (z.pin e).xen = p.xen ∧ (z.pin e).xi = p.xi ∧ (z.pin e).xk = p.xk ∧ (z.pin e).idx = p.idx ∧ (z.pin e).data = p.data := by
    rw [hz]
    exact ⟨rfl, rfl, rfl, rfl, rfl⟩
  obtain ⟨hxen, hxi, hxk, hidx, hdata⟩ := hxen
  refine ⟨s', hexec, ?_, ?_, ?_, fun k m hk hm h6 => ?_, fun hx hxi' hr' => ?_, fun hno => ?_, fun j k hj hje hk hm hsrc h0 => ?_, fun j hj hm => ?_, ?_⟩
  · rw [hsame, hz]
    rfl
  · rw [hsame, hz]
    rfl
  · rw [hsame, hz]
    show (if p.st == 1 && p.blk.isSome then p.seen ++ [(i, r, x, ok)] else p.seen) = _
    simp only [Bool.and_eq_true, beq_iff_eq, Option.isSome_iff_ne_none]
  · rw [hsctr, hctr k hk (by rw [Px.modeOf]; exact hm ▸ h6), ← hm]
    rfl
  · subst hr'
    rw [Px.latchIf_some_of (hxen.trans hx) (hxi.trans hxi')] at hself
    rw [hsctr, hself]
    refine ⟨rfl, ?_⟩
    show upd (z.pin e).data 3 _ = _
    rw [hdata, hxk]
    rfl
  · rw [Px.latchIf_none_of (by rw [hxen, hxi]; exact hno)] at hself
    rw [hself]
    exact ⟨hidx, hdata⟩
  · rw [hothers j hje, hsctr]
    exact hmir j k hj hje hk hm hsrc h0
  · rw [hothers j hj]
    exact hzne j hj hm
  · rw [hframe, hzpx]
    rfl

end Main

/-! Edges at both inputs of a counter in modes 3 to 5 (R389). -/

/-- The edge of input `i`. -/
theorem edgeOf_isSome {acc : List Edge} {x : Edge} (hx : x ∈ acc) : (edgeOf acc x.1).isSome = true := by
  rw [edgeOf, Option.isSome_map, List.find?_isSome]
  exact ⟨x, hx, beq_self_eq_true _⟩

theorem countOf_both {m : Nat} (h3 : 3 ≤ m) (h5 : m ≤ 5) (a b : Bool) : countOf m true true a b = none := by
  rw [countOf, decide_eq_true h3, decide_eq_true h5]
  rfl

theorem Px.countAt_error (p : Px) {chg : Nat → Option (Time × Bool)} {k : Nat} {m : Nat × Nat × Nat × Nat} (hm : p.mode.getD k (0, 0, 0, 0) = m)
    (h : countOf m.1 (chg m.2.1).isSome (chg m.2.2.1).isSome (p.lev.getLsbD m.2.1) (p.lev.getLsbD m.2.2.1) = none) :
    p.countAt chg k = { p with qerr := p.qerr + 1 } := by
  subst hm
  unfold Px.countAt
  extract_lets m ea eb
  have hnone : countOf m.1 ea.isSome eb.isSome (p.lev.getLsbD m.2.1) (p.lev.getLsbD m.2.2.1) = none := h
  rw [hnone]

/-- One counter that counts among four, at edges of both its inputs, raises QERR. -/
theorem Px.countAll_both {p : Px} {chg : Nat → Option (Time × Bool)} {m a b : Nat} (h3 : 3 ≤ m) (h5 : m ≤ 5)
    (hmode : p.mode = [(m, a, b, 0), (0, 0, 0, 0), (0, 0, 0, 0), (0, 0, 0, 0)]) (ha : (chg a).isSome = true) (hb : (chg b).isSome = true) :
    p.countAll chg (List.range 4) = { p with qerr := p.qerr + 1 } := by
  have hzero : p.countAt chg 0 = { p with qerr := p.qerr + 1 } := by
    refine p.countAt_error (m := (m, a, b, 0)) (by rw [hmode]; rfl) ?_
    rw [ha, hb]
    exact countOf_both h3 h5 _ _
  obtain ⟨q, hq⟩ : ∃ q, q = { p with qerr := p.qerr + 1 } := ⟨_, rfl⟩
  have hqmode : q.mode = [(m, a, b, 0), (0, 0, 0, 0), (0, 0, 0, 0), (0, 0, 0, 0)] := by
    rw [hq]
    exact hmode
  have hoff : ∀ k ∈ [1, 2, 3], q.countAt chg k = q := fun k hk => q.countAt_off chg (by
    rw [Px.modeOf, hqmode]
    revert k
    simp)
  show (((p.countAt chg 0).countAt chg 1).countAt chg 2).countAt chg 3 = _
  rw [hzero, ← hq, hoff 1 (by decide), hoff 2 (by decide), hoff 3 (by decide)]

/-- Two accepted edges, at both inputs of the one counter that counts. -/
theorem inputEdge_two {s : State} {t : Time} {e : Nat} (hr : s.running = true) (hg : s.clk.aGated = none) (he : e < 8) {es : List PinEdge} {x y : Edge}
    (hacc : (s.at t).accepted e es = [x, y]) {m : Nat} (h3 : 3 ≤ m) (h5 : m ≤ 5)
    (hmode : (s.pin e).mode = [(m, x.1, y.1, 0), (0, 0, 0, 0), (0, 0, 0, 0), (0, 0, 0, 0)]) : Gives (.inputEdge t e es) s fun s' =>
      (s'.pin e).ctr 0 = (s.pin e).ctr 0 ∧ (s'.pin e).qerr = (s.pin e).qerr + 1 ∧ (s'.pin e).lev = (s.pin e).lev ^^^ (1#4 <<< x.1) ^^^ (1#4 <<< y.1) := by
  obtain ⟨s', hexec, hself, -, -⟩ := inputEdge_gives hr hg he t hacc
  have hnomirror : (s.pin e).mode.any (fun m => m.1 == 6) = false := by
    have hm6 : m ≠ 6 := by omega
    rw [hmode]
    simp [hm6]
  rw [State.edged_unmirrored (s := s.at t) [x, y] hnomirror] at hself
  obtain ⟨data, idx, hlatch⟩ := (((s.at t).pin e).edges [x, y]).latchIf_rest
    ([x, y].find? fun z => z.1 == (((s.at t).pin e).edges [x, y]).xi && z.2.1)
  have hall : ∃ l v, ((s.at t).pin e).edges [x, y] = { s.pin e with
      lev := (s.pin e).lev ^^^ (1#4 <<< x.1) ^^^ (1#4 <<< y.1), last := l, seen := v, qerr := (s.pin e).qerr + 1 } :=
    ⟨_, _, Px.countAll_both h3 h5 hmode (edgeOf_isSome List.mem_cons_self) (edgeOf_isSome (List.mem_cons_of_mem _ List.mem_cons_self))⟩
  obtain ⟨l, v, hall⟩ := hall
  rw [hlatch, hall] at hself
  refine ⟨s', hexec, ?_⟩
  dsimp only
  rw [hself]
  exact ⟨rfl, rfl, rfl⟩

theorem find_edge (g : PinEdge) (j : Nat) : [g].find? (fun y => y.i == j) = if g.i = j then some g else none := by
  rw [List.find?_singleton]
  simp only [beq_iff_eq]

/-- Settles O53: one edge is `inputEdge_one`, its counting `edgeDelta_one` and its like; an edge that is not accepted leaves `State.edged_nil`. -/
theorem inputEdges : Obligations.InputEdges := by
  unfold Obligations.InputEdges
  intro s t e hr hg he hlen p level passes
  have hpass : ∀ g, (s.at t).inPasses e g = true ↔ passes g := fun g => by
    show (fld (s.reg (pxBase e + 0x18)) (31 - 6 * g.i) (26 - 6 * g.i) == g.src &&
      decide (fld (s.reg (pxBase e + 0x20)) (31 - 4 * g.i) (28 - 4 * g.i) < g.held)) = true ↔ _
    rw [Bool.and_eq_true, beq_iff_eq, decide_eq_true_eq]
  refine ⟨fun g i r x hgi hlev hx hp hi hflip hfar => ?_, fun g hgi hbad hnone => ?_, fun ga gb a b m hai hbi hpa hpb hab hb hfa hfb hla hlb h3 h5 hmode => ?_⟩
  · intro lev
    have hacc : (s.at t).accepted e [g] = [(i, r, x, (s.at t).stampOk x)] := by
      have hone : (s.at t).acceptedAt e [g] i = some (i, level g, g.stamp, (s.at t).stampOk g.stamp) :=
        State.acceptedAt_some ((find_edge g i).trans (if_pos hgi)) ((hpass g).2 hp) (fun h => hflip (h.symm.trans hlev))
          (fun y ok hy => hx ▸ hfar y ok hy)
      rw [State.accepted_eq, filterMap_four hi fun j hj => State.acceptedAt_none ((find_edge g j).trans (if_neg fun h => hj (h.symm.trans hgi))),
        hone, hlev, hx]
      rfl
    obtain ⟨s', hexec, h1, h2, h3, hctr, h5, h6, h7, h8, h9⟩ := inputEdge_one hr hg he hlen hacc
    refine ⟨s', hexec, h1, h2, h3, fun k m a b g' hk hm => ⟨fun h => ?_, fun h => ?_, fun h => ?_, fun h hab => ?_, fun h hab => ?_⟩, h5, h6, h7, h8, h9⟩
    · subst h
      rw [hctr k _ hk hm (show 0 ≠ 6 by decide), edgeDelta_off]
      exact BitVec.add_zero _
    · subst h
      rw [hctr k _ hk hm (show 1 ≠ 6 by decide), edgeDelta_one (flipped_self hi hflip)]
      split_ifs <;> simp [p]
    · have h6m : m ≠ 6 := by omega
      rw [hctr k _ hk hm h6m, edgeDelta_dir h (flipped_self hi hflip)]
      split_ifs <;> simp [BitVec.sub_eq_add_neg, p]
    · subst h
      rw [hctr k _ hk hm (show 4 ≠ 6 by decide), edgeDelta_four hab]
      split_ifs <;> simp [BitVec.sub_eq_add_neg, p]
    · subst h
      rw [hctr k _ hk hm (show 5 ≠ 6 by decide), edgeDelta_five hab]
      split_ifs <;> simp [BitVec.sub_eq_add_neg, p]
  · have hacc : (s.at t).accepted e [g] = [] := by
      have hone : (s.at t).acceptedAt e [g] g.i = none := State.acceptedAt_refused ((find_edge g g.i).trans (if_pos rfl)) <| by
        obtain hp | hl | hnear := hbad
        · exact .inl (Bool.eq_false_iff.2 (mt (hpass g).1 hp))
        · exact .inr (.inl hl.symm)
        · exact .inr (.inr hnear)
      rw [State.accepted_eq, filterMap_four hgi fun j hj => State.acceptedAt_none ((find_edge g j).trans (if_neg (Ne.symm hj))), hone]
      rfl
    obtain ⟨s', hexec, hself, hothers, px, turn, hframe⟩ := inputEdge_gives hr hg he t hacc
    have hsame := @State.edged_nil (s.at t) e hnone
    obtain ⟨-, -, px', hpx⟩ := (s.at t).edged_pin e []
    refine ⟨s', hexec, fun j => ?_, ?_⟩
    · by_cases hj : j = e
      · rw [hj]
        exact hself.trans (hsame e)
      · exact (hothers j hj).trans (hsame j)
    · rw [hframe, hpx]
      rfl
  · have hfinda : [ga, gb].find? (fun y => y.i == a) = some ga := List.find?_cons_of_pos (beq_iff_eq.2 hai)
    have hfindb : [ga, gb].find? (fun y => y.i == b) = some gb :=
      (List.find?_cons_of_neg (by simp; omega)).trans ((find_edge gb b).trans (if_pos hbi))
    have hfind : ∀ j, j ≠ a → j ≠ b → [ga, gb].find? (fun y => y.i == j) = none := fun j hja hjb =>
      (List.find?_cons_of_neg (by simp; omega)).trans ((find_edge gb j).trans (if_neg (by omega)))
    have hacc : (s.at t).accepted e [ga, gb] =
        [(a, level ga, ga.stamp, (s.at t).stampOk ga.stamp), (b, level gb, gb.stamp, (s.at t).stampOk gb.stamp)] := by
      have hone : (s.at t).acceptedAt e [ga, gb] a = some (a, level ga, ga.stamp, (s.at t).stampOk ga.stamp) :=
        State.acceptedAt_some hfinda ((hpass ga).2 hpa) (Ne.symm hfa) fun y ok hy => absurd (hla.symm.trans hy) nofun
      have htwo : (s.at t).acceptedAt e [ga, gb] b = some (b, level gb, gb.stamp, (s.at t).stampOk gb.stamp) :=
        State.acceptedAt_some hfindb ((hpass gb).2 hpb) (Ne.symm hfb) fun y ok hy => absurd (hlb.symm.trans hy) nofun
      rw [State.accepted_eq, filterMap_four_two hab hb fun j hja hjb => State.acceptedAt_none (hfind j hja hjb), hone, htwo]
      rfl
    exact inputEdge_two hr hg he hacc h3 h5 hmode

end Machine
end Sys2Proof

/-! The frames of one Hinge link (12_hinge_array R408, R410, R413 to R415). -/

namespace Sys2Proof
namespace Machine

/-! Ports. -/

theorem State.port_modPort_same (s : State) (p : Bool) (f : Port → Port) : (s.modPort p f).port p = f (s.port p) := by cases p <;> rfl

theorem State.port_modPort_other (s : State) (p : Bool) (f : Port → Port) : (s.modPort p f).port (!p) = s.port (!p) := by cases p <;> rfl

/-- What an update does to a port is what it does to its present value. -/
theorem State.modPort_congr (s : State) (p : Bool) {f g : Port → Port} (h : f (s.port p) = g (s.port p)) : s.modPort p f = s.modPort p g := by
  cases p
  · exact congrArg (fun q : Port => { s with hng := { s.hng with up := q } }) h
  · exact congrArg (fun q : Port => { s with hng := { s.hng with dn := q } }) h

/-- A port updated: of Hinge the ports alone. -/
theorem State.modPort_frame (s : State) (p : Bool) (f : Port → Port) :
    ∃ u d, s.modPort p f = { s with hng := { s.hng with up := u, dn := d } } := by
  cases p
  · exact ⟨_, _, rfl⟩
  · exact ⟨_, _, rfl⟩

/-- The frames a port sends: one where it is UP. -/
def State.framed (s : State) (d : Bool) (typ : Nat) (ws : List W64) : List Out := if (s.port d).st = 2 then [.hinge d.toNat typ ws] else []

theorem State.sendFrame_eq (s : State) (d : Bool) (typ : Nat) (ws : List W64) : s.sendFrame d typ ws = { s with out := s.framed d typ ws ++ s.out } := by
  unfold State.sendFrame State.framed
  by_cases h : (s.port d).st = 2
  · rw [if_pos (beq_iff_eq.2 h), if_pos h]
    rfl
  · rw [if_neg (mt beq_iff_eq.1 h), if_neg h]
    rfl

section Training

variable {s : State} (ha : s.alive = true) (hg : s.clk.aGated = none) (t : Time) (p : Bool)
include ha hg

theorem exec_mark_own (rtt : Nat) (echo : W64) (hst : (s.port p).st = 1 ∨ (s.port p).st = 3) : exec (.mark t p true echo rtt) s =
    .next ((s.at t).modPort p fun q => if q.marks < 16 then { q with marks := q.marks + 1, markSum := q.markSum + rtt } else q) := by
  have hexec : exec (.mark t p true echo rtt) s = execMark t p true echo rtt s := rfl
  have hok : ¬((s.port p).st == 0 || (s.port p).st == 4 || s.clk.aGated.isSome) = true := by
    rw [hg]
    obtain h | h := hst
    · rw [h]
      decide
    · rw [h]
      decide
  rw [hexec, execMark, timed_alive ha]
  exact congrArg _ (if_neg hok)

theorem exec_mark_neighbour (rtt : Nat) (echo : W64) (h0 : (s.port p).st ≠ 0) (h4 : (s.port p).st ≠ 4) : exec (.mark t p false echo rtt) s =
    .next { s.at t with out := .hinge p.toNat 0x02 (frame false 0x02 (s.hpos.getD 0) 0 1 echo) :: s.out } := by
  have hexec : exec (.mark t p false echo rtt) s = execMark t p false echo rtt s := rfl
  have hok : ¬((s.port p).st == 0 || (s.port p).st == 4 || s.clk.aGated.isSome) = true := by
    rw [hg]
    simp [h0, h4]
  rw [hexec, execMark, timed_alive ha]
  exact congrArg _ (if_neg hok)

/-- The port after its 16 round trips. -/
def Port.trained (q : Port) (now : Time) : Port :=
  { q with raw := q.markSum / 32, marks := 0, markSum := 0, st := if 380 * 32 < q.markSum then 4 else 2, hbT := now, runT := none }

theorem exec_portUp (hst : (s.port p).st = 1 ∨ (s.port p).st = 3) (hm : (s.port p).marks = 16) :
    exec (.portUp t p) s = .next ((s.at t).modPort p fun q => q.trained (s.at t).now) := by
  have hexec : exec (.portUp t p) s = execPortUp t p s := rfl
  have hok : (((s.port p).st == 1 || (s.port p).st == 3) && (s.port p).marks == 16 && s.clk.aGated.isNone) = true := by
    rw [hg, hm]
    obtain h | h := hst
    · rw [h]
      decide
    · rw [h]
      decide
  rw [hexec, execPortUp, timed_alive ha]
  exact congrArg _ ((if_pos hok).trans ((s.at t).modPort_congr p rfl))

omit hg in
theorem exec_portUp_early (hm : (s.port p).marks ≠ 16) : exec (.portUp t p) s = .next (s.at t) := by
  have hexec : exec (.portUp t p) s = execPortUp t p s := rfl
  have hno : ¬(((s.port p).st == 1 || (s.port p).st == 3) && (s.port p).marks == 16 && s.clk.aGated.isNone) = true := by simp [hm]
  rw [hexec, execPortUp, timed_alive ha]
  exact congrArg _ (if_neg hno)

omit ha in
theorem State.hears_up (hst : (s.port p).st = 2) : (s.at t).hears p = true := by
  show ((s.port p).st == 2 && s.clk.aGated.isNone) = true
  rw [hst, hg]
  rfl

theorem exec_frameDiscard (hst : (s.port p).st = 2) (lanes : BitVec 2) : exec (.frameDiscard t p lanes) s = .next (
    if lanes == 1#2 || lanes == 2#2 then (s.at t).modHng fun h => { h with lane := h.lane + 1 }
    else (s.at t).modHng fun h => { h with frame := h.frame + 1 }) := by
  have hexec : exec (.frameDiscard t p lanes) s = execFrameDiscard t p lanes s := rfl
  have hears : ¬(!(s.at t).hears p) = true := by
    rw [State.hears_up hg t p hst]
    decide
  rw [hexec, execFrameDiscard, timed_alive ha, if_neg hears]

end Training

/-! HEARTBEAT (R408, R415, R423). -/

/-- The port after a heartbeat at `now`. -/
def Port.heard (q : Port) (high : Nat) (pos : Option Nat) (now : Time) : Port :=
  { q with high := high, pos := pos, hbT := now, runT := if q.runT = none ∨ 4000 < since now q.hbT then some now else q.runT }

/-- What a heartbeat touches before array time is compared. -/
def State.heard (s : State) (p : Bool) (high : Nat) (valid : Bool) (src : BitVec 6) : State :=
  let s1 := s.modPort p fun q => { q with
    high := high, pos := if valid then some src.toNat else none, hbT := s.now,
    runT := if q.runT.isNone || 4000 < since s.now q.hbT then some s.now else q.runT }
  if p || s1.isRoot then s1 else s1.modHng fun h => { h with pos := if valid && src.toNat < 63 then some (src.toNat + 1) else none }

theorem State.heard_spec (s : State) (p : Bool) (high : Nat) (valid : Bool) (src : BitVec 6) : let z := s.heard p high valid src
    (∃ u d x, z = { s with hng := { s.hng with up := u, dn := d, pos := x } }) ∧
      z.port p = (s.port p).heard high (if valid then some src.toNat else none) s.now ∧ z.port (!p) = s.port (!p) ∧
      z.hng.pos = (if p = true ∨ s.isRoot = true then s.hng.pos else if valid = true ∧ src.toNat < 63 then some (src.toNat + 1) else none) ∧
      z.isRoot = s.isRoot := by
  unfold State.heard
  obtain ⟨f, hf⟩ : ∃ f : Port → Port, f = fun q => { q with
      high := high, pos := if valid then some src.toNat else none, hbT := s.now,
      runT := if q.runT.isNone || 4000 < since s.now q.hbT then some s.now else q.runT } := ⟨_, rfl⟩
  have hport : f (s.port p) = (s.port p).heard high (if valid then some src.toNat else none) s.now := by
    rw [hf, Port.heard]
    simp only [Bool.or_eq_true, Option.isNone_iff_eq_none, decide_eq_true_eq]
  have hst : ∀ q, (f q).st = q.st := fun q => by rw [hf]
  rw [← hf]
  have hroot : (s.modPort p f).isRoot = s.isRoot := by
    cases p
    · show (bit (s.reg 0x1C0000) 31 || (f s.hng.up).st == 1 || (f s.hng.up).st == 4) = _
      rw [hst]
      rfl
    · rfl
  have hsame := s.port_modPort_same p f
  have hother := s.port_modPort_other p f
  obtain ⟨u, d, hud⟩ := s.modPort_frame p f
  generalize s.modPort p f = z at *
  by_cases hp : p = true ∨ s.isRoot = true
  · dsimp only
    rw [if_pos (by rw [hroot]; simpa using hp), if_pos hp]
    refine ⟨⟨u, d, s.hng.pos, hud⟩, hsame.trans hport, hother, ?_, hroot⟩
    rw [hud]
  · dsimp only
    rw [if_neg (by rw [hroot]; simpa using hp), if_neg hp]
    refine ⟨⟨u, d, if valid && decide (src.toNat < 63) then some (src.toNat + 1) else none, ?_⟩, hsame.trans hport, hother, ?_, hroot⟩
    · rw [hud]
      rfl
    · show (if valid && decide (src.toNat < 63) then some (src.toNat + 1) else none) = _
      simp only [Bool.and_eq_true, decide_eq_true_eq]

/-- One comparison of array time (R415). -/
theorem State.compareTime_spec (s : State) (diff : Int) : let s' := s.compareTime diff
    (∃ n o g sl a, s' = { s with now := n, hng := { s.hng with offset := o, alGood := g, slew := sl, aligned := a } }) ∧
      (s'.now = s.now ∨ s'.now = s.now + 1) ∧ s'.hng.offset = BitVec.ofInt 16 (max (-32768) (min 32767 diff)) ∧
      s'.hng.alGood = (if diff.natAbs ≤ 1 then min 64 (s.hng.alGood + 1) else 0) ∧
      s'.hng.aligned = ((s.hng.aligned || s'.hng.alGood == 64) && diff.natAbs ≤ 20) := by
  unfold State.compareTime
  extract_lets sl good s1
  have hs1 : (∃ n, s1 = { s with now := n }) ∧ (s1.now = s.now ∨ s1.now = s.now + 1) := by
    dsimp only [s1]
    split
    · exact ⟨⟨_, rfl⟩, .inr rfl⟩
    · exact ⟨⟨_, rfl⟩, .inl rfl⟩
  obtain ⟨⟨n, hn⟩, hnow⟩ := hs1
  clear_value s1
  subst hn
  exact ⟨⟨_, _, _, _, _, rfl⟩, hnow, rfl, rfl, rfl⟩

theorem clamped_offset {d : Int} (h1 : -32768 ≤ d) (h2 : d ≤ 32767) : (BitVec.ofInt 16 (max (-32768) (min 32767 d))).toInt = d := by
  rw [min_eq_right h2, max_eq_right h1, BitVec.toInt_ofInt]
  exact Int.bmod_eq_of_le (by omega) (by omega)

theorem exec_heartbeat {s : State} (ha : s.alive = true) (hg : s.clk.aGated = none) (t : Time) {p : Bool} (hst : (s.port p).st = 2) (high : BitVec 6)
    (al valid : Bool) (src : BitVec 6) (sent : W64) (fine : Int) : exec (.heartbeat t p high al valid src sent fine) s = .next (
      let z := (s.at t).heard p high.toNat valid src
      if z.freeTime || p != z.alignPort then z else z.compareTime (z.timeDiff sent fine)) := by
  have hexec : exec (.heartbeat t p high al valid src sent fine) s = execHeartbeat t p high al valid src sent fine s := rfl
  have hears : ¬(!(s.at t).hears p) = true := by
    rw [State.hears_up hg t p hst]
    decide
  rw [hexec, execHeartbeat, timed_alive ha, if_neg hears]
  rfl

theorem heartbeat_spec {s : State} (ha : s.alive = true) (hg : s.clk.aGated = none) (t : Time) {p : Bool} (hst : (s.port p).st = 2) (high : BitVec 6)
    (al valid : Bool) (src : BitVec 6) (sent : W64) (fine : Int) : Gives (.heartbeat t p high al valid src sent fine) s fun s' =>
      let now := (s.at t).now
      let diff := 50 * (sent + 80 - now).toInt + fine
      s'.port p = (s.port p).heard high.toNat (if valid then some src.toNat else none) now ∧ s'.port (!p) = s.port (!p) ∧
      s'.hng.pos = (if p = true ∨ s.isRoot = true then s.hng.pos else if valid = true ∧ src.toNat < 63 then some (src.toNat + 1) else none) ∧
      (s'.freeTime = true ∨ p ≠ s'.alignPort → s'.hng.offset = s.hng.offset ∧ s'.hng.aligned = s.hng.aligned ∧ s'.now = now) ∧
      (s'.freeTime = false → p = s'.alignPort → (-32768 ≤ diff → diff ≤ 32767 → s'.hng.offset.toInt = diff) ∧
        s'.hng.alGood = (if diff.natAbs ≤ 1 then min 64 (s.hng.alGood + 1) else 0) ∧ (s'.now = now ∨ s'.now = now + 1) ∧
        (s'.hng.aligned = true ↔ (s.hng.aligned = true ∨ s'.hng.alGood = 64) ∧ diff.natAbs ≤ 20)) ∧
      (s.isRoot = true → s'.freeTime = true) ∧ s' = { s with now := s'.now, hng := s'.hng } := by
  refine ⟨_, exec_heartbeat ha hg t hst high al valid src sent fine, ?_⟩
  obtain ⟨⟨u, d, x, hz⟩, hport, hother, hpos, hroot⟩ := (s.at t).heard_spec p high.toNat valid src
  generalize (s.at t).heard p high.toNat valid src = z at *
  have hzo : z.hng.offset = s.hng.offset ∧ z.hng.aligned = s.hng.aligned ∧ z.hng.alGood = s.hng.alGood ∧ z.now = (s.at t).now := by
    rw [hz]
    exact ⟨rfl, rfl, rfl, rfl⟩
  obtain ⟨hoff, hal, hgood, hnow⟩ := hzo
  have hfree : s.isRoot = true → z.freeTime = true := fun h => by
    rw [State.freeTime, hroot]
    show (s.isRoot || _) = true
    rw [h]
    rfl
  dsimp only
  by_cases hcmp : (z.freeTime || p != z.alignPort) = true
  · rw [if_pos hcmp]
    have hno : ¬(z.freeTime = false ∧ p = z.alignPort) := fun h => by
      rw [h.1, ← h.2, bne_self_eq_false] at hcmp
      exact Bool.false_ne_true hcmp
    refine ⟨hport, hother, hpos, fun _ => ⟨hoff, hal, hnow⟩, fun h1 h2 => absurd ⟨h1, h2⟩ hno, hfree, ?_⟩
    rw [hz]
    rfl
  · rw [if_neg hcmp]
    obtain ⟨hf, hp⟩ := Bool.or_eq_false_iff.1 (Bool.eq_false_iff.2 hcmp)
    obtain ⟨⟨n, o, g, sl, a, hc⟩, hn, ho, hgd, haln⟩ := z.compareTime_spec (z.timeDiff sent fine)
    have hdiff : z.timeDiff sent fine = 50 * (sent + 80 - (s.at t).now).toInt + fine := by rw [State.timeDiff, hnow]
    rw [hdiff] at hc hn ho hgd haln ⊢
    generalize z.compareTime (50 * (sent + 80 - (s.at t).now).toInt + fine) = y at *
    have hyf : y.freeTime = z.freeTime ∧ y.alignPort = z.alignPort ∧ y.port p = z.port p ∧ y.port (!p) = z.port (!p) ∧ y.hng.pos = z.hng.pos := by
      rw [hc]
      cases p <;> exact ⟨rfl, rfl, rfl, rfl, rfl⟩
    obtain ⟨hyf, hya, hyp, hyo, hypos⟩ := hyf
    have hyes : ¬(y.freeTime = true ∨ p ≠ y.alignPort) := by
      rw [hyf, hya, hf]
      simpa using hp
    refine ⟨hyp.trans hport, hyo.trans hother, hypos.trans hpos, fun h => absurd h hyes, fun _ _ => ⟨fun h1 h2 => ?_, ?_, ?_, ?_⟩, fun h => ?_, ?_⟩
    · rw [ho, clamped_offset h1 h2]
    · rw [hgd, hgood]
    · rwa [hnow] at hn
    · rw [haln, hal]
      simp only [Bool.and_eq_true, Bool.or_eq_true, beq_iff_eq, decide_eq_true_eq]
    · rw [hyf]
      exact hfree h
    · rw [hc, hz]
      rfl

/-- The tag of a heartbeat: the highest position known, whether array time is aligned, whether a position is held. -/
def State.beatTag (s : State) : Nat := 64 * max (s.hpos.getD 0) (max s.hng.dn.high (s.hng.dn.pos.getD 0)) + 2 * s.hng.aligned.toNat + s.hpos.isSome.toNat

theorem exec_heartbeatSend {s : State} (ha : s.alive = true) (hg : s.clk.aGated = none) (t : Time) : exec (.heartbeatSend t) s =
    .next (((s.at t).sendFrame false 0x01 (frame false 0x01 (s.hpos.getD 0) 0 s.beatTag (s.at t).now)).sendFrame true 0x01
      (frame false 0x01 (s.hpos.getD 0) 0 s.beatTag (s.at t).now)) := by
  have hexec : exec (.heartbeatSend t) s = execHeartbeatSend t s := rfl
  have hok : ¬s.clk.aGated.isSome = true := by
    rw [hg]
    decide
  rw [hexec, execHeartbeatSend, timed_alive ha]
  exact congrArg _ (if_neg hok)

/-- Settles O55: training (`exec_mark_own`, `exec_portUp`), heartbeats (`exec_heartbeatSend`, `heartbeat_spec`), discarded frames. -/
theorem hingeLinkFrames : Obligations.HingeLinkFrames := by
  unfold Obligations.HingeLinkFrames
  intro s t p ha hg now port sent
  refine ⟨fun rtt echo hst hm => ?_, fun rtt echo h0 h4 => exec_mark_neighbour ha hg t p rtt echo h0 h4, fun hst hm => ?_,
    fun hm => exec_portUp_early ha t p hm, ⟨s.beatTag, _, exec_heartbeatSend ha hg t, ?_, ?_, ?_, ?_⟩,
    fun high al valid src sent' fine hst => heartbeat_spec ha hg t hst high al valid src sent' fine, fun lanes hst => ⟨fun h => ?_, fun h => ?_⟩⟩
  · refine ⟨_, exec_mark_own ha hg t p rtt echo hst, ?_⟩
    have hsame := (s.at t).port_modPort_same p fun q => if q.marks < 16 then { q with marks := q.marks + 1, markSum := q.markSum + rtt } else q
    rw [if_pos (show ((s.at t).port p).marks < 16 from hm)] at hsame
    obtain ⟨u, d, hud⟩ := (s.at t).modPort_frame p fun q => if q.marks < 16 then { q with marks := q.marks + 1, markSum := q.markSum + rtt } else q
    exact ⟨hsame, (s.at t).port_modPort_other p _, by rw [hud]⟩
  · refine ⟨_, exec_portUp ha hg t p hst hm, ?_⟩
    have hsame := (s.at t).port_modPort_same p fun q => q.trained now
    obtain ⟨u, d, hud⟩ := (s.at t).modPort_frame p fun q => q.trained now
    exact ⟨congrArg Port.raw hsame, congrArg Port.st hsame, congrArg Port.hbT hsame, congrArg Port.runT hsame, (s.at t).port_modPort_other p _,
      by rw [hud]⟩
  · rw [State.sendFrame_eq, State.sendFrame_eq, List.append_assoc]
    rfl
  · have h1 := Bool.toNat_lt s.hng.aligned
    have h2 := Bool.toNat_lt s.hpos.isSome
    unfold State.beatTag
    omega
  · have h1 := Bool.toNat_lt s.hng.aligned
    have h2 := Bool.toNat_lt s.hpos.isSome
    unfold State.beatTag
    omega
  · have h2 := Bool.toNat_lt s.hpos.isSome
    unfold State.beatTag
    omega
  · have hl : (lanes == 1#2 || lanes == 2#2) = true := by simpa using h
    exact (exec_frameDiscard ha hg t p hst lanes).trans (congrArg _ (if_pos hl))
  · have hl : ¬(lanes == 1#2 || lanes == 2#2) = true := by
      obtain rfl | rfl := h
      · decide
      · decide
    exact (exec_frameDiscard ha hg t p hst lanes).trans (congrArg _ (if_neg hl))

end Machine
end Sys2Proof

/-! Loss and return of a Hinge partner, LOSS and PCIE_EVT frames (12_hinge_array R423 to R425, R436; 03_sequence_table R121). -/

namespace Sys2Proof
namespace Machine

/-! Frames sent. -/

/-- A broadcast leaves by the port: it is UP, and no closure link that is not in use. -/
abbrev State.goes (s : State) (d : Bool) : Prop := (s.port d).st = 2 ∧ (s.closure d = false ∨ s.hng.rerouted = true)

theorem State.sendBcast_eq (s : State) (d : Bool) (typ : Nat) (ws : List W64) :
    s.sendBcast d typ ws = { s with out := (if s.goes d then [Out.hinge d.toNat typ ws] else []) ++ s.out } := by
  unfold State.sendBcast
  by_cases hc : s.closure d = false ∨ s.hng.rerouted = true
  · have hopen : ¬(s.closure d && !s.hng.rerouted) = true := by
      obtain h | h := hc <;> simp [h]
    rw [if_neg hopen, State.sendFrame_eq, State.framed]
    by_cases hst : (s.port d).st = 2
    · rw [if_pos hst, if_pos ⟨hst, hc⟩]
    · rw [if_neg hst, if_neg fun h => hst h.1]
  · have hclosed : (s.closure d && !s.hng.rerouted) = true := by simpa using hc
    rw [if_pos hclosed, if_neg fun h => hc h.2]
    rfl

theorem State.broadcast_eq (s : State) (typ tag : Nat) (payload : W64) : let ws := frame true typ (s.hpos.getD 0) 0 tag payload
    s.broadcast typ tag payload = { s with out := (if s.goes true then [Out.hinge 1 typ ws] else []) ++
      (if s.goes false then [Out.hinge 0 typ ws] else []) ++ s.out } := by
  intro ws
  unfold State.broadcast
  dsimp only
  rw [State.sendBcast_eq, State.sendBcast_eq, List.append_assoc]
  rfl

theorem State.sendTo_none {s : State} {q : Nat} (h : s.route q = none) (typ tag : Nat) (payload : W64) : s.sendTo q typ tag payload = s := by
  rw [State.sendTo, h]

theorem State.sendTo_some {s : State} {q : Nat} {d : Bool} (h : s.route q = some d) (typ tag : Nat) (payload : W64) :
    s.sendTo q typ tag payload = { s with out := s.framed d typ (frame false typ (s.hpos.getD 0) q tag payload) ++ s.out } := by
  rw [State.sendTo, h]
  exact s.sendFrame_eq d typ _

/-- A frame to one position changes what is sent alone, and takes nothing back. -/
theorem State.sendTo_out (s : State) (q typ tag : Nat) (payload : W64) : ∃ l, s.sendTo q typ tag payload = { s with out := l ++ s.out } := by
  cases h : s.route q with
  | none => exact ⟨[], State.sendTo_none h ..⟩
  | some d => exact ⟨_, State.sendTo_some h ..⟩

/-! Barriers (R429). -/

/-- Barriers go on: their own fields, and what is sent. -/
def BarOnly (s s' : State) : Prop := ∃ w d p g l, s' = { s with hng := { s.hng with bWait := w, bDone := d, bParts := p, bGath := g }, out := l ++ s.out }

theorem State.barrierTry_barOnly (s : State) : BarOnly s s.barrierTry := by
  have hrefl : BarOnly s s := ⟨_, _, _, _, [], rfl⟩
  unfold State.barrierTry
  split
  · exact hrefl
  · next p hp =>
    split
    · exact hrefl
    · extract_lets id far gs n
      split
      · exact hrefl
      · split
        · rw [State.broadcast_eq]
          exact ⟨_, _, _, _, _, rfl⟩
        · obtain ⟨l, hl⟩ := s.sendTo_out 0 0x06 id (BitVec.ofNat 64 (n % 128))
          rw [hl]
          exact ⟨_, _, _, _, l, rfl⟩

/-! What goes on after a loss keeps. -/

/-- What the steps that follow a loss keep of it. -/
structure LossKept (s s' : State) : Prop where
  up : s'.hng.up = s.hng.up
  dn : s'.hng.dn = s.hng.dn
  lossUp : s'.hng.lossUp = s.hng.lossUp
  lossDn : s'.hng.lossDn = s.hng.lossDn
  lost : ∀ r, s.hng.lost.getLsbD r = true → s'.hng.lost.getLsbD r = true
  aligned : s.hng.aligned = false → s'.hng.aligned = false
  seq : s.seq.held = false ∧ s.seq.token = 0 → s'.seq.held = false ∧ s'.seq.token = 0
  regs : s'.regs = s.regs
  cause : ∀ i, s.host.cause.getLsbD i = true → s'.host.cause.getLsbD i = true
  out : s.out <:+ s'.out

theorem LossKept.refl (s : State) : LossKept s s := ⟨rfl, rfl, rfl, rfl, fun _ => id, id, id, rfl, fun _ => id, List.suffix_rfl⟩

theorem LossKept.trans {a b c : State} (h1 : LossKept a b) (h2 : LossKept b c) : LossKept a c where
  up := h2.up.trans h1.up
  dn := h2.dn.trans h1.dn
  lossUp := h2.lossUp.trans h1.lossUp
  lossDn := h2.lossDn.trans h1.lossDn
  lost := fun r h => h2.lost r (h1.lost r h)
  aligned := fun h => h2.aligned (h1.aligned h)
  seq := fun h => h2.seq (h1.seq h)
  regs := h2.regs.trans h1.regs
  cause := fun i h => h2.cause i (h1.cause i h)
  out := h1.out.trans h2.out

/-- A step that leaves Hinge, the lock and the registers. -/
theorem LossKept.quiet {s s' : State} (hh : s'.hng = s.hng) (hq : s'.seq = s.seq) (hr : s'.regs = s.regs)
    (hc : ∀ i, s.host.cause.getLsbD i = true → s'.host.cause.getLsbD i = true) (ho : s.out <:+ s'.out) : LossKept s s' := by
  refine ⟨congrArg Hinge.up hh, congrArg Hinge.dn hh, congrArg Hinge.lossUp hh, congrArg Hinge.lossDn hh,
    fun r h => ?_, fun h => ?_, fun h => ?_, hr, hc, ho⟩
  · rwa [hh]
  · rwa [hh]
  · rwa [hq]

theorem State.raise_lossKept (s : State) {v : Nat} (hv : v < 28) : LossKept s (s.raise v) := by
  obtain ⟨h, o, heq, -⟩ := s.raise_frame hv
  exact .quiet (by rw [heq]) (by rw [heq]) (by rw [heq]) (fun _ => s.raise_cause_mono v) (s.raise_out v)

theorem State.logEvent_out (s : State) (unit code d1 d2 d3 : Nat) : s.out <:+ (s.logEvent unit code d1 d2 d3).out := by
  unfold State.logEvent
  extract_lets w1 same
  clear_value same
  cases same with
  | some q => exact List.suffix_rfl
  | none =>
    dsimp only
    split
    · exact List.suffix_rfl
    · exact State.raise_out (s.modFlt _) 26

theorem State.logEvent_lossKept (s : State) (unit code d1 d2 d3 : Nat) : LossKept s (s.logEvent unit code d1 d2 d3) := by
  obtain ⟨f, h, o, heq⟩ := s.logEvent_frame unit code d1 d2 d3
  exact .quiet (by rw [heq]) (by rw [heq]) (by rw [heq]) (fun _ => s.logEvent_cause_mono unit code d1 d2 d3) (s.logEvent_out ..)

theorem BarOnly.lossKept {s s' : State} (h : BarOnly s s') : LossKept s s' := by
  obtain ⟨w, d, p, g, l, rfl⟩ := h
  exact ⟨rfl, rfl, rfl, rfl, fun _ => id, id, id, rfl, fun _ => id, List.suffix_append l s.out⟩

theorem State.unlock_lossKept (s : State) : LossKept s s.unlock := by
  unfold State.unlock
  split
  · exact ⟨rfl, rfl, rfl, rfl, fun _ => id, id, fun _ => ⟨rfl, rfl⟩, rfl, fun _ => id, List.suffix_rfl⟩
  · exact .refl s

/-- A reroute begins or ends (R425). -/
theorem State.setReroute_spec (s : State) (on : Bool) : LossKept s (s.setReroute on) ∧
    ∃ r n f h o, s.setReroute on = { s with hng := { s.hng with rerouted := r, reN := n }, flt := f, host := h, out := o } := by
  unfold State.setReroute
  split
  · exact ⟨.refl s, _, _, _, _, _, rfl⟩
  · obtain ⟨z, hz⟩ : ∃ z, z = s.modHng fun h => { h with rerouted := on, reN := h.reN + 1 } := ⟨_, rfl⟩
    have hkept : LossKept s z := by
      rw [hz]
      exact ⟨rfl, rfl, rfl, rfl, fun _ => id, id, id, rfl, fun _ => id, List.suffix_rfl⟩
    rw [← hz]
    refine ⟨hkept.trans ((z.raise_lossKept (v := 24) (by decide)).trans (State.logEvent_lossKept ..)), ?_⟩
    obtain ⟨h, o, hraise, -⟩ := z.raise_frame (v := 24) (by decide)
    obtain ⟨f, h', o', hlog⟩ := (z.raise 24).logEvent_frame 0x07 3 on.toNat 0 0
    rw [hlog, hraise, hz]
    exact ⟨_, _, _, _, _, rfl⟩

/-! STOPPED, and a lost reference. -/

theorem State.endGap_lossKept (s : State) (enc : B48) (prov : Bool) : LossKept s (s.endGap enc prov) := by
  obtain ⟨g, n, f, b, heq⟩ := s.endGap_frame enc prov
  exact .quiet (by rw [heq]) (by rw [heq]) (by rw [heq]) (fun _ h => by rwa [heq]) (by rw [heq])

theorem State.setTck_lossKept (s : State) (st : Nat) : LossKept s (s.setTck st) := by
  unfold State.setTck
  split
  · exact .refl s
  · refine LossKept.trans ?_ (State.raise_lossKept _ (v := 16) (by decide))
    exact .quiet rfl rfl rfl (fun _ => id) List.suffix_rfl

theorem State.stepStop_lossKept (s : State) (reason : Nat) (pending : Bool) : LossKept s (s.stepStop reason pending) := by
  unfold State.stepStop
  split
  · unfold State.stepFail State.calIdle
    extract_lets bs s1
    have hs1 : LossKept s s1 := by
      dsimp only [s1]
      split
      · exact .quiet rfl rfl rfl (fun _ => id) List.suffix_rfl
      · exact .quiet rfl rfl rfl (fun _ => id) List.suffix_rfl
      · exact .quiet rfl rfl rfl (fun _ => id) List.suffix_rfl
    clear_value s1
    refine hs1.trans (LossKept.trans ?_ (State.raise_lossKept _ (v := 19) (by decide)))
    exact .quiet rfl rfl rfl (fun _ => id) List.suffix_rfl
  · exact .refl s

theorem State.enterStopped_lossKept (s : State) : LossKept s s.enterStopped := by
  unfold State.enterStopped
  split
  · exact .refl s
  · extract_lets s1 s2
    have hs1 : LossKept s s1 := by
      refine (s.endGap_lossKept s.encNow false).trans ?_
      exact .quiet rfl rfl rfl (fun _ => id) List.suffix_rfl
    clear_value s1
    have hs2 : LossKept s1 s2 := by
      refine LossKept.trans ?_ (State.stepStop_lossKept _ 8 true)
      refine LossKept.trans (b := s1.stopSeq.setTck 0) ?_ (.quiet rfl rfl rfl (fun _ => id) List.suffix_rfl)
      refine LossKept.trans (b := s1.stopSeq) ?_ (State.setTck_lossKept _ 0)
      exact ⟨rfl, rfl, rfl, rfl, fun _ => id, id, id, rfl, fun _ => id, List.suffix_rfl⟩
    clear_value s2
    split
    · refine hs1.trans (hs2.trans ?_)
      exact .quiet rfl rfl rfl (fun _ => id) List.suffix_rfl
    · exact hs1.trans hs2

theorem FabOnly.lossKept {s s' : State} (h : FabOnly s s') : LossKept s s' := by
  obtain ⟨f, rfl⟩ := h
  exact .quiet rfl rfl rfl (fun _ => id) List.suffix_rfl

theorem State.gateCpll_lossKept (s : State) (cause : Nat) (start lastPass : Time) (target : Nat) :
    LossKept s (s.gateCpll cause start lastPass target) := by
  unfold State.gateCpll
  extract_lets s1 base held now new s2 s3 s4 s5 s6 s7
  have h1 : LossKept s s1 := by
    dsimp only [s1]
    split
    · exact s.endGap_lossKept _ _
    · exact .refl s
  have h2 : LossKept s1 s2 := .quiet rfl rfl rfl (fun _ => id) List.suffix_rfl
  have h3 : LossKept s2 s3 := (s2.clockFail_fabOnly lastPass).lossKept
  clear_value s3
  have h5 : LossKept s3 s5 := ⟨rfl, rfl, rfl, rfl, fun _ => id, fun _ => rfl, id, rfl, fun _ => id, List.suffix_rfl⟩
  have h7 : LossKept s5 s7 := .quiet rfl rfl rfl (fun _ => id) List.suffix_rfl
  clear_value s7
  have h8 : LossKept (s7.raise 22) ((s7.raise 22).relock target) := .quiet rfl rfl rfl (fun _ => id) List.suffix_rfl
  exact h1.trans (h2.trans (h3.trans (h5.trans (h7.trans ((s7.raise_lossKept (v := 22) (by decide)).trans h8)))))

theorem State.countFailover_lossKept (s : State) : LossKept s s.countFailover := by
  refine LossKept.trans ?_ (State.raise_lossKept _ (v := 22) (by decide))
  exact .quiet rfl rfl rfl (fun _ => id) List.suffix_rfl

theorem State.failover_lossKept (s : State) : LossKept s s.failover := by
  unfold State.failover
  extract_lets nxt s1
  have h1 : LossKept s s1 := by
    dsimp only [s1]
    split
    · exact .refl s
    · exact s.countFailover_lossKept
  clear_value s1
  refine h1.trans (LossKept.trans (b := s1.useFree) ?_ (State.gateCpll_lossKept ..))
  exact .quiet rfl rfl rfl (fun _ => id) List.suffix_rfl

theorem State.refLost_lossKept (s : State) (r : Nat) : LossKept s (s.refLost r) := by
  unfold State.refLost
  split
  · exact .refl s
  · extract_lets s1 nxt
    have h1 : LossKept s s1 := .quiet rfl rfl rfl (fun _ => id) List.suffix_rfl
    clear_value s1
    split
    · exact h1
    · split
      · exact h1.trans s1.failover_lossKept
      · split
        · exact h1
        · have h2 : LossKept s1 (if nxt == 3 || s1.clk.again then s1 else s1.countFailover) := by
            split
            · exact .refl s1
            · exact s1.countFailover_lossKept
          generalize (if nxt == 3 || s1.clk.again then s1 else s1.countFailover) = s2 at *
          exact h1.trans (h2.trans (.quiet rfl rfl rfl (fun _ => id) List.suffix_rfl))

theorem State.refLost_absent (s : State) : bit (s.refLost 1).clk.absent 1 = true := by
  unfold State.refLost
  split
  · next h => exact h
  · extract_lets s1 nxt
    have h1 : bit s1.clk.absent 1 = true := bit_absent s.clk.absent (r := 1) (by decide)
    clear_value s1
    split
    · exact h1
    · split
      · obtain ⟨-, -, -, habsent, -⟩ := s1.failover_spec
        rw [habsent]
        exact h1
      · split
        · exact h1
        · obtain ⟨h, o, heq, -⟩ := s1.countFailover_frame
          have h2 : bit (if nxt == 3 || s1.clk.again then s1 else s1.countFailover).clk.absent 1 = true := by
            split
            · exact h1
            · rw [heq]
              exact h1
          generalize (if nxt == 3 || s1.clk.again then s1 else s1.countFailover) = s2 at h2 ⊢
          exact h2

/-! Positions that are lost (R424). -/

theorem foldl_setBits (c : Nat → Bool) (l : List Nat) (m : W64) {i : Nat} (hi : i < 64) :
    (l.foldl (fun m r => if c r then m ||| (1#64 <<< r) else m) m).getLsbD i = true ↔ m.getLsbD i = true ∨ (i ∈ l ∧ c i = true) := by
  induction l generalizing m with
  | nil => simp
  | cons r l ih =>
    rw [List.foldl_cons, ih]
    by_cases hc : c r = true
    · rw [if_pos hc, BitVec.getLsbD_or, Bool.or_eq_true]
      by_cases hri : i = r
      · subst hri
        simp [hi, hc]
      · have hbit : (1#64 <<< r).getLsbD i = false := by
          simp [hi]
          omega
        simp [hbit, hri]
    · rw [if_neg hc]
      by_cases hri : i = r
      · subst hri
        simp [hc]
      · simp [hri]

/-- The positions a loss of `q` cuts off from a device at `me`. -/
def CutAt (s : State) (me q r : Nat) : Prop := r = q ∨ (s.ringed = false ∧ ((me < q ∧ q < r ∧ r ≤ s.hTop) ∨ (q < me ∧ r < q)))

theorem State.cutOff_bit {s : State} {me : Nat} (hme : s.hpos = some me) (q : Nat) {r : Nat} (hr : r < 64) :
    (s.cutOff q).getLsbD r = true ↔ CutAt s me q r := by
  unfold State.cutOff
  dsimp only
  rw [foldl_setBits _ _ _ hr, hme]
  have hzero : (0 : W64).getLsbD r = false := by simp
  simp only [hzero, Bool.false_eq_true, List.mem_range, hr, true_and, false_or, CutAt, Option.getD_some, Bool.or_eq_true,
    beq_iff_eq, Bool.and_eq_true, Bool.not_eq_true', decide_eq_true_eq, and_assoc]

/-- Positions are marked lost: vector 24, and a lock that one of them holds is released (R121, R424). -/
theorem State.markLost_spec (s : State) (m : W64) : let s' := s.markLost m
    LossKept s s' ∧ s'.host.cause.getLsbD 8 = true ∧ s'.hng.lost = s.hng.lost ||| m ∧
      (s.seq.held = true → bit s.seq.src 6 = true → m.getLsbD (fld s.seq.src 5 0) = true → s'.seq.held = false ∧ s'.seq.token = 0) ∧
      s'.tick = s.tick := by
  unfold State.markLost
  extract_lets s1 s2 s'
  obtain ⟨z, hz⟩ : ∃ z, z = s.modHng fun h => { h with lost := h.lost ||| m } := ⟨_, rfl⟩
  have h0 : LossKept s z := by
    rw [hz]
    exact ⟨rfl, rfl, rfl, rfl, fun r h => by
      show (s.hng.lost ||| m).getLsbD r = true
      rw [BitVec.getLsbD_or, h, Bool.true_or], id, id, rfl, fun _ => id, List.suffix_rfl⟩
  have hzl : z.hng.lost = s.hng.lost ||| m ∧ z.seq = s.seq ∧ z.tick = s.tick := by
    rw [hz]
    exact ⟨rfl, rfl, rfl⟩
  obtain ⟨hzl, hzq, hzt⟩ := hzl
  have h1 : LossKept z s1 := by
    dsimp only [s1]
    rw [← hz]
    exact z.raise_lossKept (v := 24) (by decide)
  have hs1 : s1.host.cause.getLsbD 8 = true ∧ s1.hng = z.hng ∧ s1.seq = z.seq ∧ s1.tick = z.tick := by
    dsimp only [s1]
    rw [← hz]
    obtain ⟨h, o, heq, hc⟩ := z.raise_frame (v := 24) (by decide)
    rw [heq]
    exact ⟨hc, rfl, rfl, rfl⟩
  obtain ⟨hcause, hs1h, hs1q, hs1t⟩ := hs1
  clear_value s1
  have h2 : LossKept s1 s2 ∧ s2.host = s1.host ∧ s2.hng.lost = s1.hng.lost ∧ s2.seq = s1.seq ∧ s2.tick = s1.tick := by
    dsimp only [s2]
    split
    · exact ⟨⟨rfl, rfl, rfl, rfl, fun _ => id, fun _ => rfl, id, rfl, fun _ => id, List.suffix_rfl⟩, rfl, rfl, rfl, rfl⟩
    · exact ⟨.refl s1, rfl, rfl, rfl, rfl⟩
  obtain ⟨h2, hs2h, hs2l, hs2q, hs2t⟩ := h2
  clear_value s2
  have hq : s2.seq = s.seq := hs2q.trans (hs1q.trans hzq)
  have h02 := h0.trans (h1.trans h2)
  dsimp only [s']
  have hheld : (s2.seq.held && bit s2.seq.src 6 && m.getLsbD (fld s2.seq.src 5 0)) = true ↔
      s.seq.held = true ∧ bit s.seq.src 6 = true ∧ m.getLsbD (fld s.seq.src 5 0) = true := by
    rw [hq, Bool.and_eq_true, Bool.and_eq_true, and_assoc]
  have hl : s2.hng.lost = s.hng.lost ||| m := by rw [hs2l, hs1h, hzl]
  have ht : s2.tick = s.tick := hs2t.trans (hs1t.trans hzt)
  have hcause2 : s2.host.cause.getLsbD 8 = true := by rwa [hs2h]
  by_cases hc : (s2.seq.held && bit s2.seq.src 6 && m.getLsbD (fld s2.seq.src 5 0)) = true
  · rw [if_pos hc, State.unlock_held (by rw [hq]; exact (hheld.1 hc).1)]
    refine ⟨h02.trans ?_, hcause2, hl, fun _ _ _ => ⟨rfl, rfl⟩, ht⟩
    exact ⟨rfl, rfl, rfl, rfl, fun _ => id, id, fun _ => ⟨rfl, rfl⟩, rfl, fun _ => id, List.suffix_rfl⟩
  · rw [if_neg hc]
    exact ⟨h02, hcause2, hl, fun h1 h2 h3 => absurd (hheld.2 ⟨h1, h2, h3⟩) hc, ht⟩

/-- What follows a loss: the reroute and the barriers. -/
theorem State.loseAt_spec (s : State) (q : Nat) : let s' := s.loseAt q
    LossKept s s' ∧ s'.host.cause.getLsbD 8 = true ∧ s'.hng.lost = s.hng.lost ||| s.cutOff q ∧
      (s.seq.held = true → bit s.seq.src 6 = true → (s.cutOff q).getLsbD (fld s.seq.src 5 0) = true → s'.seq.held = false ∧ s'.seq.token = 0) ∧
      s'.tick = s.tick := by
  unfold State.loseAt
  obtain ⟨h1, hcause, hlost, hlock, htick⟩ := s.markLost_spec (s.cutOff q)
  obtain ⟨h2, r, n, f, h, o, heq⟩ := (s.markLost (s.cutOff q)).setReroute_spec true
  have hre : ((s.markLost (s.cutOff q)).setReroute true).hng.lost = s.hng.lost ||| s.cutOff q ∧
      ((s.markLost (s.cutOff q)).setReroute true).tick = s.tick := by
    rw [heq]
    exact ⟨hlost, htick⟩
  generalize (s.markLost (s.cutOff q)).setReroute true = y at *
  have h3 := y.barrierTry_barOnly.lossKept
  obtain ⟨w, d, p, g, l, hb⟩ := y.barrierTry_barOnly
  refine ⟨h1.trans (h2.trans h3), h3.cause 8 (h2.cause 8 hcause), ?_, fun ha hb hc => h3.seq (h2.seq (hlock ha hb hc)), ?_⟩
  · rw [hb]
    exact hre.1
  · rw [hb]
    exact hre.2

/-! A partner lost (R423 to R425). -/

/-- The port of a lost partner retrains, and the loss is counted. -/
def State.portLost (s : State) (p : Bool) : State :=
  let align := s.alignPort == p && !s.isRoot
  let s := s.modPort p fun q => { q with st := 3, lost := true, runT := none, marks := 0, markSum := 0 }
  s.modHng fun h =>
    { h with lossUp := if p then h.lossUp else h.lossUp + 1, lossDn := if p then h.lossDn + 1 else h.lossDn,
             aligned := h.aligned && !align, alGood := if align then 0 else h.alGood,
             bGath := h.bGath.filter fun g => g.1 != p }

theorem State.portLost_spec {s : State} {p : Bool} (hst : (s.port p).st = 2) : let z := s.portLost p
    (z.port p).st = 3 ∧ (z.port p).lost = true ∧ (z.port p).runT = none ∧ z.port (!p) = s.port (!p) ∧
      z.hng.lossUp = (if p then s.hng.lossUp else s.hng.lossUp + 1) ∧ z.hng.lossDn = (if p then s.hng.lossDn + 1 else s.hng.lossDn) ∧
      (s.alignPort = p → s.isRoot = false → z.hng.aligned = false) ∧ z.hpos = s.hpos ∧ (z.goes (!p) ↔ s.goes (!p)) ∧
      ∃ h, z = { s with hng := h } := by
  have hal : ∀ a : Bool, s.alignPort = p → s.isRoot = false → (a && !(s.alignPort == p && !s.isRoot)) = false := fun a h1 h2 => by
    rw [h1, h2, beq_self_eq_true]
    exact Bool.and_false a
  cases p
  · have hup : s.hng.up.st = 2 := hst
    have hroot : (s.portLost false).isRoot = s.isRoot := by
      show (bit (s.reg 0x1C0000) 31 || (3 : Nat) == 1 || (3 : Nat) == 4) = (bit (s.reg 0x1C0000) 31 || s.hng.up.st == 1 || s.hng.up.st == 4)
      rw [hup]
      rfl
    have hpos : (s.portLost false).hpos = s.hpos := by
      unfold State.hpos
      rw [hroot]
      rfl
    exact ⟨rfl, rfl, rfl, rfl, rfl, rfl, fun h1 h2 => hal _ h1 h2, hpos, Iff.rfl, _, rfl⟩
  · have hpos : (s.portLost true).hpos = s.hpos := rfl
    exact ⟨rfl, rfl, rfl, rfl, rfl, rfl, fun h1 h2 => hal _ h1 h2, hpos, Iff.rfl, _, rfl⟩

/-- The position of a lost partner is lost too, and a LOSS frame tells so; a partner without one, or to a device without one, is only reported. -/
def State.posLost (s : State) (p : Bool) (pos : Option Nat) (clos : Bool) : State :=
  let q := pos.getD 0
  if pos.isSome && s.hpos.isSome then
    let s := s.sendBcast (!p) 0x0B (frame true 0x0B (s.hpos.getD 0) 0 1 (BitVec.ofNat 64 q))
    if clos then s.markLost (1#64 <<< q) else s.loseAt q
  else s.raise 24

theorem State.sendBcast_lossKept (s : State) (d : Bool) (typ : Nat) (ws : List W64) : LossKept s (s.sendBcast d typ ws) := by
  rw [State.sendBcast_eq]
  exact .quiet rfl rfl rfl (fun _ => id) (List.suffix_append _ _)

theorem State.posLost_spec (s : State) (p : Bool) (pos : Option Nat) (clos : Bool) : let s' := s.posLost p pos clos
    LossKept s s' ∧ s'.host.cause.getLsbD 8 = true ∧ s'.tick = s.tick ∧ ∀ q me, pos = some q → q < 64 → s.hpos = some me →
      s'.hng.lost.getLsbD q = true ∧ (s.goes (!p) → .hinge (!p).toNat 0x0B (frame true 0x0B me 0 1 (BitVec.ofNat 64 q)) ∈ s'.out) ∧
      (s.seq.held = true → bit s.seq.src 6 = true → fld s.seq.src 5 0 = q → s'.seq.held = false ∧ s'.seq.token = 0) := by
  unfold State.posLost
  extract_lets q z s'
  by_cases hc : (pos.isSome && s.hpos.isSome) = true
  · have hs' : s' = if clos then z.markLost (1#64 <<< q) else z.loseAt q := if_pos hc
    have hz : LossKept s z := s.sendBcast_lossKept ..
    obtain ⟨o, ho⟩ := s.sendBcast_frame (!p) 0x0B (frame true 0x0B (s.hpos.getD 0) 0 1 (BitVec.ofNat 64 q))
    have hzs : z.seq = s.seq ∧ z.hpos = s.hpos ∧ z.tick = s.tick := by
      dsimp only [z]
      rw [ho]
      exact ⟨rfl, rfl, rfl⟩
    have hsent : s.goes (!p) → .hinge (!p).toNat 0x0B (frame true 0x0B (s.hpos.getD 0) 0 1 (BitVec.ofNat 64 q)) ∈ z.out := fun hg => by
      dsimp only [z]
      rw [State.sendBcast_eq, if_pos hg]
      exact List.mem_cons_self
    obtain ⟨hzq, hzp, hzt⟩ := hzs
    have hmark : ∃ m, (∀ me, s.hpos = some me → q < 64 → m.getLsbD q = true) ∧ LossKept z s' ∧ s'.host.cause.getLsbD 8 = true ∧
        s'.hng.lost = z.hng.lost ||| m ∧
        (z.seq.held = true → bit z.seq.src 6 = true → m.getLsbD (fld z.seq.src 5 0) = true → s'.seq.held = false ∧ s'.seq.token = 0) ∧
        s'.tick = z.tick := by
      clear_value z s'
      subst hs'
      cases clos with
      | false => exact ⟨z.cutOff q, fun me hme hq => (State.cutOff_bit (hzp.trans hme) q hq).2 (.inl rfl), z.loseAt_spec q⟩
      | true => exact ⟨1#64 <<< q, fun me hme hq => by simp [hq], z.markLost_spec (1#64 <<< q)⟩
    obtain ⟨m, hm, h2, hcause, hlost, hlock, htick⟩ := hmark
    clear_value z s'
    refine ⟨hz.trans h2, hcause, htick.trans hzt, fun q' me hpos hq' hme => ?_⟩
    have hqq : q = q' := by
      dsimp only [q]
      rw [hpos]
      rfl
    rw [hqq] at hm hsent
    rw [hme] at hsent
    refine ⟨?_, fun hg => h2.out.subset (hsent hg), fun h1 h2 h3 => hlock (hzq ▸ h1) (hzq ▸ h2) ?_⟩
    · rw [hlost, BitVec.getLsbD_or, hm me hme hq', Bool.or_true]
    · rw [hzq, h3]
      exact hm me hme hq'
  · have hs' : s' = s.raise 24 := if_neg hc
    obtain ⟨h, o, heq, hcause⟩ := s.raise_frame (v := 24) (by decide)
    have htick : s'.tick = s.tick := by
      rw [hs', heq]
    refine ⟨by rw [hs']; exact s.raise_lossKept (by decide), ?_, htick, fun q' me hpos _ hme => absurd ?_ hc⟩
    · rw [hs', heq]
      exact hcause
    · rw [hpos, hme]
      rfl

theorem exec_partnerLost {s : State} (ha : s.alive = true) (t : Time) {p : Bool} (hst : (s.port p).st = 2) (hl : (s.port p).lost = false)
    (hh : 8000 ≤ since (s.at t).now (s.port p).hbT) (hg : s.clk.aGated = none) : exec (.partnerLost t p) s = .next (
      let clos := s.closure p && !s.hng.rerouted
      let z := (((s.at t).portLost p).logEvent 0x07 1 p.toNat ((s.port p).pos.getD 0) 0).posLost p (s.port p).pos clos
      let z := if z.regF 0x10000 29 28 == (if p then 2 else 1) && z.regF 0x10030 0 0 == 0 then z.enterStopped else z
      if p then z else z.refLost 1) := by
  have hexec : exec (.partnerLost t p) s = execPartnerLost t p s := rfl
  have hok : ¬((s.port p).st != 2 || (s.port p).lost || decide (since (s.at t).now (s.port p).hbT < 8000) || s.clk.aGated.isSome) = true := by
    rw [hst, hl, hg, decide_eq_false (Nat.not_lt.2 hh)]
    decide
  rw [hexec, execPartnerLost, timed_alive ha]
  exact congrArg _ ((if_neg hok).trans rfl)

theorem exec_partnerLost_none {s : State} (ha : s.alive = true) (t : Time) {p : Bool}
    (h : (s.port p).st ≠ 2 ∨ (s.port p).lost = true ∨ since (s.at t).now (s.port p).hbT < 8000 ∨ s.clk.aGated ≠ none) :
    exec (.partnerLost t p) s = .next (s.at t) := by
  have hexec : exec (.partnerLost t p) s = execPartnerLost t p s := rfl
  have hno : ((s.port p).st != 2 || (s.port p).lost || decide (since (s.at t).now (s.port p).hbT < 8000) || s.clk.aGated.isSome) = true := by
    simpa [Option.isSome_iff_ne_none, or_assoc] using h
  rw [hexec, execPartnerLost, timed_alive ha]
  exact congrArg _ (if_pos hno)

theorem partnerLost_spec {s : State} (ha : s.alive = true) (t : Time) {p : Bool} (hst : (s.port p).st = 2) (hl : (s.port p).lost = false)
    (hh : 8000 ≤ since (s.at t).now (s.port p).hbT) (hg : s.clk.aGated = none) : Gives (.partnerLost t p) s fun s' =>
      (s'.port p).st = 3 ∧ (s'.port p).lost = true ∧ (s'.port p).runT = none ∧ s'.port (!p) = s.port (!p) ∧ s'.host.cause.getLsbD 8 = true ∧
      s'.hng.lossUp = (if p then s.hng.lossUp else s.hng.lossUp + 1) ∧ s'.hng.lossDn = (if p then s.hng.lossDn + 1 else s.hng.lossDn) ∧
      (s.alignPort = p → s.isRoot = false → s'.hng.aligned = false) ∧
      (∀ q me, (s.port p).pos = some q → q < 64 → s.hpos = some me → s'.hng.lost.getLsbD q = true ∧ (s.goes (!p) →
        .hinge (!p).toNat 0x0B (frame true 0x0B me 0 1 (BitVec.ofNat 64 q)) ∈ s'.out) ∧
        (s.seq.held = true → bit s.seq.src 6 = true → fld s.seq.src 5 0 = q → s'.seq.held = false ∧ s'.seq.token = 0)) ∧
      (p = true → s.regF 0x10000 29 28 = 2 → s.regF 0x10030 0 0 = 0 → s'.tick.st = 0) ∧ (p = false → bit s'.clk.absent 1 = true) ∧
      s'.regs = s.regs := by
  have hexec := exec_partnerLost ha t hst hl hh hg
  extract_lets clos z1 z2 at hexec
  refine ⟨_, hexec, ?_⟩
  clear hexec
  obtain ⟨hpst, hplost, hprun, hother, hlu, hld, hal, hpos, hgoes, hn, hframe⟩ := State.portLost_spec (s := s.at t) (p := p) hst
  obtain ⟨f, h, o, hlog⟩ := ((s.at t).portLost p).logEvent_frame 0x07 1 p.toNat ((s.port p).pos.getD 0) 0
  obtain ⟨y, hy⟩ : ∃ y, y = ((s.at t).portLost p).logEvent 0x07 1 p.toNat ((s.port p).pos.getD 0) 0 := ⟨_, rfl⟩
  have hz1 : z1 = y.posLost p (s.port p).pos clos := by rw [hy]
  rw [← hy] at hlog
  generalize (s.at t).portLost p = x at *
  obtain ⟨hpk, hpcause, hptick, hploss⟩ := y.posLost_spec p (s.port p).pos clos
  rw [← hz1] at hpk hpcause hptick hploss
  have hyx : y.hng = x.hng ∧ y.seq = s.seq ∧ y.regs = s.regs ∧ y.hpos = x.hpos ∧ (y.goes (!p) ↔ x.goes (!p)) ∧ y.port p = x.port p ∧
      y.port (!p) = x.port (!p) := by
    rw [hlog, hframe]
    exact ⟨rfl, rfl, rfl, rfl, Iff.rfl, rfl, rfl⟩
  obtain ⟨hyh, hyq, hyr, hyp, hyg, hyp1, hyp2⟩ := hyx
  have hregF : ∀ a b c, z1.regF a b c = s.regF a b c := fun a b c => congrArg (fun w => fld w b c) (reg_of_regs (hpk.regs.trans hyr) a)
  have h12 : LossKept z1 z2 ∧ (p = true → s.regF 0x10000 29 28 = 2 → s.regF 0x10030 0 0 = 0 → z2.tick.st = 0) := by
    dsimp only [z2]
    rw [hregF, hregF]
    by_cases hstop : (s.regF 0x10000 29 28 == (if p then 2 else 1) && s.regF 0x10030 0 0 == 0) = true
    · rw [if_pos hstop]
      exact ⟨z1.enterStopped_lossKept, fun _ _ _ => z1.enterStopped_spec.2⟩
    · rw [if_neg hstop]
      refine ⟨.refl z1, fun h1 h2 h3 => absurd ?_ hstop⟩
      rw [h1, h2, h3]
      rfl
  obtain ⟨h12, hstop⟩ := h12
  have h23 : LossKept z2 (if p then z2 else z2.refLost 1) ∧ (p = true → (if p then z2 else z2.refLost 1) = z2) ∧
      (p = false → bit (if p then z2 else z2.refLost 1).clk.absent 1 = true) := by
    cases p
    · exact ⟨z2.refLost_lossKept 1, fun h => absurd h Bool.false_ne_true, fun _ => z2.refLost_absent⟩
    · exact ⟨.refl z2, fun _ => rfl, fun h => absurd h.symm Bool.false_ne_true⟩
  obtain ⟨h23, hsame, habsent⟩ := h23
  clear_value z1 z2
  generalize (if p then z2 else z2.refLost 1) = s' at *
  have hall := (hpk.trans h12).trans h23
  have h1' := h12.trans h23
  have hport : ∀ d, s'.port d = y.port d := fun d => by
    cases d
    · exact hall.up
    · exact hall.dn
  refine ⟨?_, ?_, ?_, ?_, h1'.cause 8 hpcause, ?_, ?_, fun ha hr => ?_, fun q me hq h64 hme => ?_, fun hp h2 h0 => ?_, habsent, hall.regs.trans hyr⟩
  · rw [hport, hyp1, hpst]
  · rw [hport, hyp1, hplost]
  · rw [hport, hyp1, hprun]
  · rw [hport, hyp2]
    exact hother
  · rw [hall.lossUp, hyh]
    exact hlu
  · rw [hall.lossDn, hyh]
    exact hld
  · exact hall.aligned (by rw [hyh]; exact hal ha hr)
  · obtain ⟨hb, ho, hlk⟩ := hploss q me hq h64 (hyp.trans (hpos.trans hme))
    refine ⟨h1'.lost q hb, fun hgo => h1'.out.subset (ho (hyg.2 (hgoes.2 hgo))), fun a b c => h1'.seq (hlk ?_ ?_ ?_)⟩
    · rwa [hyq]
    · rwa [hyq]
    · rwa [hyq]
  · rw [hsame hp]
    exact hstop hp h2 h0

/-! A partner that rejoins, LOSS and PCIE_EVT frames. -/

/-- A position that rejoins. -/
theorem State.regain_spec (s : State) (q : Nat) : let s' := s.regain q
    s'.hng.lost = s.hng.lost &&& ~~~s.cutOff q ∧ s'.hng.up = s.hng.up ∧ s'.hng.dn = s.hng.dn ∧ s'.seq = s.seq ∧ s'.regs = s.regs ∧ s.out <:+ s'.out := by
  unfold State.regain
  extract_lets s1 s'
  have h1 : s1.hng.lost = s.hng.lost &&& ~~~s.cutOff q := rfl
  have h2 : s1.hng.up = s.hng.up ∧ s1.hng.dn = s.hng.dn ∧ s1.seq = s.seq ∧ s1.regs = s.regs ∧ s1.out = s.out := ⟨rfl, rfl, rfl, rfl, rfl⟩
  dsimp only [s']
  clear_value s' s1
  obtain ⟨hu, hd, hq, hr, ho⟩ := h2
  split
  · obtain ⟨hk, r, n, f, h, o, heq⟩ := s1.setReroute_spec false
    have hout := hk.out
    rw [ho] at hout
    rw [heq] at hout ⊢
    exact ⟨h1, hu, hd, hq, hr, hout⟩
  · exact ⟨h1, hu, hd, hq, hr, by rw [ho]⟩

theorem regained_bit {s : State} {me : Nat} (hme : s.hpos = some me) (q : Nat) {r : Nat} (hr : r < 64) :
    (s.hng.lost &&& ~~~s.cutOff q).getLsbD r = true ↔ s.hng.lost.getLsbD r = true ∧ ¬CutAt s me q r := by
  rw [← State.cutOff_bit hme q hr]
  simp [hr]

theorem exec_partnerRejoin {s : State} (ha : s.alive = true) (t : Time) {p : Bool} {x : Time} (hst : (s.port p).st = 2) (hl : (s.port p).lost = true)
    (hr : (s.port p).runT = some x) (hx : 200000 ≤ since (s.at t).now x) : exec (.partnerRejoin t p) s = .next (
      let q := (s.port p).pos.getD 0
      let z := ((s.at t).modPort p fun p => { p with lost := false }).logEvent 0x07 2 p.toNat q 0
      if (s.port p).pos.isSome && z.hpos.isSome then
        (z.sendBcast (!p) 0x0B (frame true 0x0B (z.hpos.getD 0) 0 0 (BitVec.ofNat 64 q))).regain q
      else z) := by
  have hexec : exec (.partnerRejoin t p) s = execPartnerRejoin t p s := rfl
  rw [hexec, execPartnerRejoin, timed_alive ha]
  dsimp only
  have hrun : ((s.at t).port p).runT = some x := hr
  have hok : (((s.at t).port p).st == 2 && ((s.at t).port p).lost && decide (200000 ≤ since (s.at t).now x)) = true := by
    show ((s.port p).st == 2 && (s.port p).lost && decide (200000 ≤ since (s.at t).now x)) = true
    rw [hst, hl, decide_eq_true hx]
    rfl
  rw [hrun]
  exact congrArg _ (if_pos hok)

/-- A port whose partner has come back. -/
theorem rejoined_port (s : State) (p : Bool) : let z := s.modPort p fun q => { q with lost := false }
    (z.port p).lost = false ∧ (z.port p).st = (s.port p).st ∧ z.port (!p) = s.port (!p) ∧ z.hpos = s.hpos ∧ (z.goes (!p) ↔ s.goes (!p)) ∧
      z.ringed = s.ringed ∧ z.hTop = s.hTop ∧ z.hng.lost = s.hng.lost ∧ ∃ h, z = { s with hng := h } := by
  cases p
  · exact ⟨rfl, rfl, rfl, rfl, Iff.rfl, rfl, rfl, rfl, _, rfl⟩
  · exact ⟨rfl, rfl, rfl, rfl, Iff.rfl, rfl, rfl, rfl, _, rfl⟩

theorem partnerRejoin_spec {s : State} (ha : s.alive = true) (t : Time) {p : Bool} {x : Time} (hst : (s.port p).st = 2) (hl : (s.port p).lost = true)
    (hr : (s.port p).runT = some x) (hx : 200000 ≤ since (s.at t).now x) : Gives (.partnerRejoin t p) s fun s' =>
      (s'.port p).lost = false ∧ (s'.port p).st = 2 ∧ s'.port (!p) = s.port (!p) ∧ s'.regs = s.regs ∧
      ∀ q me, (s.port p).pos = some q → q < 64 → s.hpos = some me →
        (∀ r, r < 64 → (s'.hng.lost.getLsbD r = true ↔ s.hng.lost.getLsbD r = true ∧ ¬CutAt s me q r)) ∧
        (s.goes (!p) → .hinge (!p).toNat 0x0B (frame true 0x0B me 0 0 (BitVec.ofNat 64 q)) ∈ s'.out) := by
  have hexec := exec_partnerRejoin ha t hst hl hr hx
  extract_lets q0 y at hexec
  refine ⟨_, hexec, ?_⟩
  clear hexec
  obtain ⟨hplost, hpst, hother, hpos, hgoes, hring, htop, hlost, h', hframe⟩ := rejoined_port (s.at t) p
  have hlog : ∃ f h o, y = { (s.at t).modPort p fun q => { q with lost := false } with flt := f, host := h, out := o } :=
    State.logEvent_frame ..
  obtain ⟨f, h, o, hlog⟩ := hlog
  generalize ((s.at t).modPort p fun q => { q with lost := false }) = w at hlog hplost hpst hother hpos hgoes hring htop hlost hframe
  clear_value y
  have hy : (y.port p).lost = false ∧ (y.port p).st = 2 ∧ y.port (!p) = s.port (!p) ∧ y.regs = s.regs ∧ y.hpos = s.hpos ∧
      (y.goes (!p) ↔ s.goes (!p)) ∧ (∀ me q r, CutAt y me q r ↔ CutAt s me q r) ∧ y.hng.lost = s.hng.lost := by
    have hregs : w.regs = s.regs := by
      rw [hframe]
      rfl
    have hcut : ∀ me q r, CutAt w me q r ↔ CutAt s me q r := fun me q r => by
      unfold CutAt
      rw [hring, htop]
      exact Iff.rfl
    rw [hlog]
    exact ⟨hplost, hpst.trans hst, hother, hregs, hpos, hgoes, hcut, hlost⟩
  obtain ⟨hyl, hyst, hyo, hyr, hyp, hyg, hyc, hylost⟩ := hy
  by_cases hc : ((s.port p).pos.isSome && y.hpos.isSome) = true
  · rw [if_pos hc, State.sendBcast_eq]
    have hspec := State.regain_spec { y with out := (if y.goes (!p) then [Out.hinge (!p).toNat 0x0B
      (frame true 0x0B (y.hpos.getD 0) 0 0 (BitVec.ofNat 64 q0))] else []) ++ y.out } q0
    obtain ⟨zlost, zup, zdn, -, zregs, zout⟩ := hspec
    have hport : ∀ d, (State.regain { y with out := (if y.goes (!p) then [Out.hinge (!p).toNat 0x0B
        (frame true 0x0B (y.hpos.getD 0) 0 0 (BitVec.ofNat 64 q0))] else []) ++ y.out } q0).port d = y.port d := fun d => by
      cases d
      · exact zup
      · exact zdn
    refine ⟨by rw [hport]; exact hyl, by rw [hport]; exact hyst, by rw [hport]; exact hyo, zregs.trans hyr, fun q me hq h64 hme => ?_⟩
    have hqq : q0 = q := by
      dsimp only [q0]
      rw [hq]
      rfl
    have hyme : y.hpos = some me := hyp.trans hme
    rw [hqq, hyme] at zlost zout
    rw [hqq, hyme]
    refine ⟨fun r hr => ?_, fun hg => zout.subset ?_⟩
    · rw [zlost, ← hyc, ← hylost]
      exact regained_bit (s := y) hyme q hr
    · rw [if_pos (hyg.2 hg)]
      exact List.mem_cons_self
  · rw [if_neg hc]
    refine ⟨hyl, hyst, hyo, hyr, fun q me hq _ hme => absurd ?_ hc⟩
    rw [hq, hyp, hme]
    rfl

/-- A broadcast that arrives while a position is held is forwarded out of the other port and taken. -/
theorem takeBcast_taken {s : State} (ha : s.alive = true) (t : Time) {p : Bool} (hh : s.hears p = true)
    (hc : s.closure p = false ∨ s.hng.rerouted = true) (hpos : s.hpos ≠ none) (src : BitVec 6) (typ tag : Nat) (payload : W64) (f : State → State) :
    takeBcast t p src typ tag payload s f = .next (f { s.at t with
      out := (if s.goes (!p) then [Out.hinge (!p).toNat typ (frame true typ src.toNat 0 tag payload)] else []) ++ s.out }) := by
  have hopen : ¬(!(s.at t).hears p || ((s.at t).closure p && !(s.at t).hng.rerouted)) = true := by
    show ¬(!s.hears p || (s.closure p && !s.hng.rerouted)) = true
    rw [hh]
    obtain h | h := hc <;> simp [h]
  have hgo : (s.at t).hpos.isSome = true := Option.isSome_iff_ne_none.2 hpos
  rw [takeBcast, timed_alive ha, if_neg hopen, State.sendBcast_eq]
  exact congrArg _ (if_pos hgo)

/-- What a forwarded frame leaves. -/
abbrev State.forwarded (s : State) (t : Time) (l : List Out) : State := { s.at t with out := l ++ s.out }

section
variable {s : State} (ha : s.alive = true) (t : Time) {p : Bool} (hh : s.hears p = true) (hc : s.closure p = false ∨ s.hng.rerouted = true) {me : Nat}
  (hme : s.hpos = some me) (src : BitVec 6)

include ha hh hc hme

theorem loss_spec (q : BitVec 6) : Gives (.loss t p src true q) s fun s' => s'.host.cause.getLsbD 8 = true ∧
    (∀ r, r < 64 → (s'.hng.lost.getLsbD r = true ↔ s.hng.lost.getLsbD r = true ∨ CutAt s me q.toNat r)) ∧
    (s.seq.held = true → bit s.seq.src 6 = true → CutAt s me q.toNat (fld s.seq.src 5 0) → s'.seq.held = false ∧ s'.seq.token = 0) ∧
    s'.regs = s.regs ∧ s'.tick = s.tick := by
  have hexec : exec (.loss t p src true q) s = execLoss t p src true q s := rfl
  rw [execLoss, takeBcast_taken ha t hh hc (by rw [hme]; exact Option.some_ne_none me)] at hexec
  generalize (if s.goes (!p) then [Out.hinge (!p).toNat 0x0B (frame true 0x0B src.toNat 0 true.toNat (q.setWidth 64))] else []) = l at hexec
  have hcut : ∀ r, r < 64 → (((s.forwarded t l).cutOff q.toNat).getLsbD r = true ↔ CutAt s me q.toNat r) := fun r hr =>
    State.cutOff_bit (s := s.forwarded t l) hme q.toNat hr
  obtain ⟨hk, hcause, hlost, hlock, htick⟩ := (s.forwarded t l).loseAt_spec q.toNat
  refine ⟨_, hexec, hcause, fun r hr => ?_, fun h1 h2 h3 => hlock h1 h2 ((hcut _ (fld_lt ..)).2 h3), hk.regs, htick⟩
  rw [← hcut r hr]
  show ((s.forwarded t l).loseAt q.toNat).hng.lost.getLsbD r = true ↔ _
  rw [hlost, BitVec.getLsbD_or, Bool.or_eq_true]
  exact Iff.rfl

theorem rejoin_spec (q : BitVec 6) : Gives (.loss t p src false q) s fun s' =>
    (∀ r, r < 64 → (s'.hng.lost.getLsbD r = true ↔ s.hng.lost.getLsbD r = true ∧ ¬CutAt s me q.toNat r)) ∧ s'.seq = s.seq ∧ s'.regs = s.regs := by
  have hexec : exec (.loss t p src false q) s = execLoss t p src false q s := rfl
  rw [execLoss, takeBcast_taken ha t hh hc (by rw [hme]; exact Option.some_ne_none me)] at hexec
  generalize (if s.goes (!p) then [Out.hinge (!p).toNat 0x0B (frame true 0x0B src.toNat 0 false.toNat (q.setWidth 64))] else []) = l at hexec
  obtain ⟨hlost, -, -, hseq, hregs, -⟩ := (s.forwarded t l).regain_spec q.toNat
  refine ⟨_, hexec, fun r hr => ?_, hseq, hregs⟩
  show ((s.forwarded t l).regain q.toNat).hng.lost.getLsbD r = true ↔ _
  rw [hlost]
  exact regained_bit (s := s.forwarded t l) hme q.toNat hr

theorem pcieEvt_spec (kind : BitVec 2) : Gives (.pcieEvt t p src kind) s fun s' =>
    (s.seq.held = true → bit s.seq.src 6 = true → fld s.seq.src 5 0 = src.toNat → kind ≠ 0 → s'.seq.held = false ∧ s'.seq.token = 0) ∧
    (¬(s.seq.held = true ∧ bit s.seq.src 6 = true ∧ fld s.seq.src 5 0 = src.toNat ∧ kind ≠ 0) → s'.seq = s.seq) ∧
    s'.hng = s.hng ∧ s'.regs = s.regs := by
  have hexec : exec (.pcieEvt t p src kind) s = execPcieEvt t p src kind s := rfl
  rw [execPcieEvt, takeBcast_taken ha t hh hc (by rw [hme]; exact Option.some_ne_none me)] at hexec
  generalize (if s.goes (!p) then [Out.hinge (!p).toNat 0x0C (frame true 0x0C src.toNat 0 0 (kind.setWidth 64))] else []) = l at hexec
  have hown : (s.seq.held && bit s.seq.src 6 && fld s.seq.src 5 0 == src.toNat && kind != 0#2) = true ↔
      (s.seq.held = true ∧ bit s.seq.src 6 = true ∧ fld s.seq.src 5 0 = src.toNat ∧ kind ≠ 0) := by
    simp only [Bool.and_eq_true, beq_iff_eq, bne_iff_ne, and_assoc]
    exact Iff.rfl
  by_cases ho : (s.seq.held && bit s.seq.src 6 && fld s.seq.src 5 0 == src.toNat && kind != 0#2) = true
  · have hheld : (s.forwarded t l).unlock = _ := State.unlock_held (hown.1 ho).1
    refine ⟨_, hexec.trans (congrArg _ ((if_pos ho).trans hheld)), ?_⟩
    exact ⟨fun _ _ _ _ => ⟨rfl, rfl⟩, fun h => absurd (hown.1 ho) h, rfl, rfl⟩
  · refine ⟨_, hexec.trans (congrArg _ (if_neg ho)), ?_⟩
    exact ⟨fun h1 h2 h3 h4 => absurd (hown.2 ⟨h1, h2, h3, h4⟩) ho, fun _ => rfl, rfl, rfl⟩

end

/-- Settles O57: the steps after a loss each keep what it marked, and a position that rejoins clears what its loss would mark. -/
theorem partnerLoss : Obligations.PartnerLoss := by
  unfold Obligations.PartnerLoss
  intro s t p ha now port goes cut
  refine ⟨fun hst hl hh hg => partnerLost_spec ha t hst hl hh hg, fun h => exec_partnerLost_none ha t h,
    fun x hst hl hr hx => partnerRejoin_spec ha t hst hl hr hx, fun src q me hst hg hc hme => ?_⟩
  have hh : s.hears p = true := by
    show ((s.port p).st == 2 && s.clk.aGated.isNone) = true
    rw [show (s.port p).st = 2 from hst, hg]
    rfl
  exact ⟨loss_spec ha t hh hc hme src q, rejoin_spec ha t hh hc hme src q, pcieEvt_spec ha t hh hc hme src⟩

end Machine
end Sys2Proof

/-! Barriers over Hinge (12_hinge_array R427, R429). -/

namespace Sys2Proof
namespace Machine

/-! What the way of a frame depends on. -/

/-- The same neighbours, position, losses and reroute, and the same HNG_CTL. -/
structure NetSame (s z : State) : Prop where
  ctl : z.reg 0x1C0000 = s.reg 0x1C0000
  up : z.hng.up = s.hng.up
  dn : z.hng.dn = s.hng.dn
  pos : z.hng.pos = s.hng.pos
  lost : z.hng.lost = s.hng.lost
  rerouted : z.hng.rerouted = s.hng.rerouted

theorem NetSame.of_hng {s z : State} (hctl : z.reg 0x1C0000 = s.reg 0x1C0000) (h : z.hng.up = s.hng.up ∧ z.hng.dn = s.hng.dn ∧
    z.hng.pos = s.hng.pos ∧ z.hng.lost = s.hng.lost ∧ z.hng.rerouted = s.hng.rerouted) : NetSame s z := by
  obtain ⟨hup, hdn, hpos, hlost, hre⟩ := h
  exact ⟨hctl, hup, hdn, hpos, hlost, hre⟩

namespace NetSame
variable {s z : State} (h : NetSame s z)

include h

theorem hpos : z.hpos = s.hpos := by
  unfold State.hpos State.isRoot
  rw [h.ctl, h.up, h.pos]

theorem ringed : z.ringed = s.ringed := by
  unfold State.ringed
  rw [h.ctl]

theorem hTop : z.hTop = s.hTop := by
  unfold State.hTop
  rw [h.hpos, h.up, h.dn]

theorem port (d : Bool) : z.port d = s.port d := by
  cases d
  · exact h.up
  · exact h.dn

theorem closure (d : Bool) : z.closure d = s.closure d := by
  unfold State.closure
  rw [h.ringed, h.dn, h.hpos]

theorem goes (d : Bool) : z.goes d ↔ s.goes d := by
  unfold State.goes
  rw [h.port, h.closure, h.rerouted]

theorem route (q : Nat) : z.route q = s.route q := by
  have hcut : ∀ p, z.hng.cut p q = s.hng.cut p q := fun p => by
    unfold Hinge.cut
    rw [h.lost]
  unfold State.route
  rw [h.hpos]
  cases s.hpos with
  | none => rfl
  | some p =>
    dsimp only
    rw [h.hTop, h.lost, h.ringed, h.rerouted, hcut, h.up, h.dn]

theorem framed (d : Bool) (typ : Nat) (ws : List W64) : z.framed d typ ws = s.framed d typ ws := by
  unfold State.framed
  rw [h.port]

end NetSame

/-- A position is reached by a port that is UP. -/
theorem State.route_up {s : State} {q : Nat} {d : Bool} (h : s.route q = some d) : (s.port d).st = 2 := by
  have hup : ∀ d : Bool, (if d then s.hng.dn.st == 2 else s.hng.up.st == 2) = true → (s.port d).st = 2 := fun d hd => by
    cases d
    · exact beq_iff_eq.1 hd
    · exact beq_iff_eq.1 hd
  unfold State.route at h
  cases hp : s.hpos with
  | none =>
    rw [hp] at h
    exact absurd h (Option.some_ne_none d).symm
  | some p =>
    rw [hp] at h
    dsimp (zeta := false) only at h
    extract_lets dn st at h
    have hup : ∀ d, st d = true → (s.port d).st = 2 := hup
    clear_value st
    split at h
    · exact absurd h (Option.some_ne_none d).symm
    · split at h
      · next hc =>
        rw [Bool.and_eq_true] at hc
        exact Option.some.inj h ▸ hup dn hc.1
      · split at h
        · next hc =>
          rw [Bool.and_eq_true] at hc
          exact Option.some.inj h ▸ hup (!dn) hc.2
        · exact absurd h (Option.some_ne_none d).symm

theorem State.route_self {s : State} {p : Nat} (h : s.hpos = some p) : s.route p = none := by
  unfold State.route
  rw [h]
  dsimp only
  rw [if_pos (by rw [beq_self_eq_true]; rfl)]

/-! A barrier that goes on. -/

/-- The ports away from the root that lead to reachable devices. -/
def State.barrierFar (s : State) (p : Nat) : List Bool :=
  [false, true].filter fun d => (p == 0 || s.route 0 != some d) && (List.range 64).any fun q => s.route q == some d

theorem State.barrierTry_away {s : State} (h : s.hpos = none) : s.barrierTry = s := by
  unfold State.barrierTry
  rw [h]

theorem State.barrierTry_idle {s : State} (h : s.hng.bWait = false) : s.barrierTry = s := by
  unfold State.barrierTry
  cases s.hpos with
  | none => rfl
  | some p =>
    dsimp only
    rw [h]
    rfl

/-- No port away from the root leads anywhere. -/
theorem State.barrierTry_last {s : State} {p : Nat} (hp : s.hpos = some p) (hw : s.hng.bWait = true) (hfar : s.barrierFar p = []) :
    s.barrierTry = if p == 0 then (s.broadcast 0x06 (s.regF 0x1C0048 7 0) (BitVec.ofNat 64 (2 ^ 63 + 1))).barrierDone (s.regF 0x1C0048 7 0) 1
      else s.sendTo 0 0x06 (s.regF 0x1C0048 7 0) 1 := by
  unfold State.barrierTry
  rw [hp]
  dsimp only
  rw [hw, if_neg (show ¬(!true) = true by decide)]
  unfold State.barrierFar at hfar
  rw [hfar]
  rfl

/-- The only branch of the root has brought its gather. -/
theorem State.barrierTry_branch {s : State} {d : Bool} {g : Bool × Nat × Nat} (hp : s.hpos = some 0) (hw : s.hng.bWait = true)
    (hfar : s.barrierFar 0 = [d]) (hg : (s.hng.bGath.find? fun g => g.1 == d && g.2.1 == s.regF 0x1C0048 7 0) = some g) :
    s.barrierTry = (s.broadcast 0x06 (s.regF 0x1C0048 7 0) (BitVec.ofNat 64 (2 ^ 63 + (1 + g.2.2) % 128))).barrierDone
      (s.regF 0x1C0048 7 0) (1 + g.2.2) := by
  unfold State.barrierTry
  rw [hp]
  dsimp only
  rw [hw, if_neg (show ¬(!true) = true by decide)]
  unfold State.barrierFar at hfar
  rw [hfar, List.map_cons, hg, List.map_nil]
  have hsum : 1 + ([some g].map fun g : Option (Bool × Nat × Nat) => (g.map fun g => g.2.2).getD 0).foldl (· + ·) 0 = 1 + g.2.2 := by
    show 1 + (0 + g.2.2) = _
    omega
  rw [hsum]
  rfl

/-- A device whose positions are all reached by the way to the root has no branch. -/
theorem State.barrierFar_nil {s : State} {p : Nat} (hp : s.hpos = some p) (h : ∀ q, q < 64 → s.route q = none ∨ s.route q = s.route 0) :
    s.barrierFar p = [] := by
  refine List.filter_eq_nil_iff.2 fun d _ hd => ?_
  rw [Bool.and_eq_true, List.any_eq_true] at hd
  obtain ⟨hroot, q, hq, hr⟩ := hd
  have hr : s.route q = some d := beq_iff_eq.1 hr
  obtain hn | hn := h q (List.mem_range.1 hq)
  · rw [hn] at hr
    exact absurd hr (Option.some_ne_none d).symm
  · have h0 : s.route 0 = some d := hn.symm.trans hr
    have hp0 : p = 0 := by simpa [h0] using hroot
    rw [State.route_self (hp0 ▸ hp)] at h0
    exact absurd h0 (Option.some_ne_none d).symm

theorem State.barrierFar_one {s : State} {p : Bool} (hon : ∃ q, q < 64 ∧ s.route q = some p) (hoff : ∀ q, q < 64 → s.route q ≠ some (!p)) :
    s.barrierFar 0 = [p] := by
  have hany : ∀ d, ((List.range 64).any fun q => s.route q == some d) = decide (d = p) := fun d => by
    rw [Bool.eq_iff_iff, List.any_eq_true, decide_eq_true_eq]
    refine ⟨fun ⟨q, hq, hr⟩ => ?_, fun hd => ?_⟩
    · by_contra hne
      have hd : d = !p := by
        cases d <;> cases p <;> simp at hne ⊢
      exact hoff q (List.mem_range.1 hq) (hd ▸ beq_iff_eq.1 hr)
    · obtain ⟨q, hq, hr⟩ := hon
      exact ⟨q, List.mem_range.2 hq, beq_iff_eq.2 (hd ▸ hr)⟩
  unfold State.barrierFar
  simp only [hany]
  cases p <;> rfl

/-! The writes to HNG_BARRIER. -/

/-- The register and DONE after a write to HNG_BARRIER. -/
def State.barrierStored (s : State) (v : W32) : State := (s.storeReg 0x1C0048 v).modHng fun h => { h with bDone := h.bDone && !bit v 29 }

theorem State.barrierStored_spec (s : State) (v : W32) : let z := s.barrierStored v
    z.reg 0x1C0048 = v &&& 0xFF ∧ (∀ o, o ≠ 0x1C0048 → z.reg o = s.reg o) ∧ z.hng = { s.hng with bDone := s.hng.bDone && !bit v 29 } ∧
      z.out = s.out ∧ z = { s with regs := z.regs, flt := z.flt, hng := z.hng } := by
  have hrw : rwReg 0x1C0048 = some (0, 0xFF, false) := by decide
  unfold State.barrierStored
  rw [State.storeReg_unbanked _ hrw]
  exact ⟨State.reg_putReg_same s 0x1C0048 _, fun o ho => State.reg_putReg_ne s 0x1C0048 o _ ho, rfl, rfl, rfl⟩

/-- What the release of a barrier by the root leaves to be sent. -/
def State.releaseOut (s : State) (id n : Nat) : List Out :=
  let ws := frame true 0x06 0 0 id (BitVec.ofNat 64 (2 ^ 63 + n % 128))
  (if s.goes true then [Out.hinge 1 0x06 ws] else []) ++ (if s.goes false then [Out.hinge 0 0x06 ws] else []) ++ s.out

/-- The root releases a barrier it has entered. -/
theorem State.barrierRelease_spec {s z : State} (hnet : NetSame s z) (hp : s.hpos = some 0) (hw : z.hng.bWait = true) (hout : z.out = s.out) (id n : Nat) :
    let s' := (z.broadcast 0x06 id (BitVec.ofNat 64 (2 ^ 63 + n % 128))).barrierDone id n
    s'.hng.bWait = false ∧ s'.hng.bDone = true ∧ s'.hng.bParts = n ∧ s'.out = s.releaseOut id n ∧ s'.regs = z.regs := by
  have hpos : z.hpos.getD 0 = 0 := by rw [hnet.hpos, hp, Option.getD_some]
  have hwait : (z.hng.bWait && !z.hng.bWait) = false := by
    rw [hw]
    rfl
  have hdone : (z.hng.bDone || z.hng.bWait) = true := by
    rw [hw]
    exact Bool.or_true _
  unfold State.releaseOut
  rw [State.broadcast_eq, hpos, hout]
  simp only [hnet.goes]
  exact ⟨hwait, hdone, rfl, rfl, rfl⟩

/-- HNG_BARRIER with ENTER: the entry waits. -/
def State.barrierEntered (s : State) (v : W32) : State := (s.barrierStored v).modHng fun h => { h with bWait := true, bDone := false }

theorem State.barrierEntered_spec (s : State) (v : W32) : let z := s.barrierEntered v
    z.reg 0x1C0048 = v &&& 0xFF ∧ (∀ o, o ≠ 0x1C0048 → z.reg o = s.reg o) ∧ z.hng = { s.hng with bWait := true, bDone := false } ∧
      z.out = s.out ∧ z = { s with regs := z.regs, flt := z.flt, hng := z.hng } := by
  obtain ⟨hreg, hother, hhng, hout, hframe⟩ := s.barrierStored_spec v
  have hz : (s.barrierEntered v).hng = { s.hng with bWait := true, bDone := false } := by
    show { (s.barrierStored v).hng with bWait := true, bDone := false } = _
    rw [hhng]
  refine ⟨hreg, hother, hz, hout, ?_⟩
  unfold State.barrierEntered
  exact congrArg (fun x : State => x.modHng fun h => { h with bWait := true, bDone := false }) hframe

theorem fld_low_byte (v : W32) : fld (v &&& 0xFF) 7 0 = fld v 7 0 := by
  have hmask : (v &&& 0xFF).toNat = v.toNat % 2 ^ 8 := by
    rw [BitVec.toNat_and]
    exact Nat.and_two_pow_sub_one_eq_mod v.toNat 8
  unfold fld
  rw [hmask]
  omega

theorem barrierEnter_spec {s : State} (ha : s.alive = true) (t : Time) {v : W32} (u : BitVec 7) (hreach : s.reaches 0x1C0048 = true)
    (hgo : bit v 31 = true) : Gives (.barrierEnter t (goodWr v u)) s fun s' =>
      s'.reg 0x1C0048 = v &&& 0xFF ∧ (∀ o, o ≠ 0x1C0048 → s'.reg o = s.reg o) ∧
      (s.hpos = none → s'.hng = { s.hng with bWait := true, bDone := false } ∧ s'.out = s.out) ∧
      ((∀ q, q < 64 → s.route q = none ∨ s.route q = s.route 0) →
        (s.hpos = some 0 → s'.hng.bWait = false ∧ s'.hng.bDone = true ∧ s'.hng.bParts = 1 ∧ s'.out = s.releaseOut (fld v 7 0) 1) ∧
        (∀ me d, s.hpos = some me → me ≠ 0 → s.route 0 = some d → s'.hng = { s.hng with bWait := true, bDone := false } ∧
          s'.out = .hinge d.toNat 0x06 (frame false 0x06 me 0 (fld v 7 0) 1) :: s.out)) ∧
      s' = { s.at t with regs := s'.regs, flt := s'.flt, hng := s'.hng, out := s'.out } := by
  have hexec : exec (.barrierEnter t (goodWr v u)) s = execBarrierEnter t (goodWr v u) s := rfl
  have hwrite : (s.at t).barrierWrite v = ((s.at t).barrierEntered v).barrierTry := if_pos hgo
  obtain ⟨hreg, hother, hhng, hout, hframe⟩ := (s.at t).barrierEntered_spec v
  obtain ⟨w, d, p, g, l, htry⟩ := ((s.at t).barrierEntered v).barrierTry_barOnly
  have hnet : NetSame s ((s.at t).barrierEntered v) := .of_hng (hother _ (by decide)) (by rw [hhng]; exact ⟨rfl, rfl, rfl, rfl, rfl⟩)
  have hw : ((s.at t).barrierEntered v).hng.bWait = true := by rw [hhng]
  have hid : ((s.at t).barrierEntered v).regF 0x1C0048 7 0 = fld v 7 0 := (congrArg (fun w => fld w 7 0) hreg).trans (fld_low_byte v)
  refine ⟨_, hexec.trans ((regCmd_good ha _ hreach t v u _).trans (congrArg _ hwrite)), ?_⟩
  clear hexec
  generalize (s.at t).barrierEntered v = z at *
  have hfar : (∀ q, q < 64 → s.route q = none ∨ s.route q = s.route 0) → ∀ p, s.hpos = some p → z.barrierFar p = [] := fun h p hp =>
    State.barrierFar_nil (hnet.hpos.trans hp) fun q hq => by
      rw [hnet.route, hnet.route]
      exact h q hq
  refine ⟨?_, ?_, fun hp => ?_, fun hrt => ⟨fun hp => ?_, fun me d hp hne hr => ?_⟩, ?_⟩
  · rw [htry]
    exact hreg
  · rw [htry]
    exact hother
  · rw [State.barrierTry_away (hnet.hpos.trans hp)]
    exact ⟨hhng, hout⟩
  · have hlast := State.barrierTry_last (hnet.hpos.trans hp) hw (hfar hrt 0 hp)
    rw [if_pos (show (0 == 0) = true by decide), hid] at hlast
    obtain ⟨h1, h2, h3, h4, -⟩ := State.barrierRelease_spec hnet hp hw hout (fld v 7 0) 1
    rw [hlast]
    exact ⟨h1, h2, h3, h4⟩
  · have hlast := State.barrierTry_last (hnet.hpos.trans hp) hw (hfar hrt me hp)
    rw [if_neg (by simpa using hne), State.sendTo_some ((hnet.route 0).trans hr), hnet.framed, hnet.hpos, hp, hid, hout] at hlast
    rw [hlast]
    refine ⟨hhng, ?_⟩
    show s.framed d 0x06 _ ++ s.out = _
    rw [State.framed, if_pos (State.route_up hr)]
    rfl
  · rw [htry, hframe]

theorem barrierWrite_spec {s : State} (ha : s.alive = true) (t : Time) {v : W32} (u : BitVec 7) (hreach : s.reaches 0x1C0048 = true)
    (hgo : bit v 31 = false) : Gives (.barrierEnter t (goodWr v u)) s fun s' =>
      s'.hng = { s.hng with bDone := s.hng.bDone && !bit v 29 } ∧ s'.reg 0x1C0048 = v &&& 0xFF := by
  have hexec : exec (.barrierEnter t (goodWr v u)) s = execBarrierEnter t (goodWr v u) s := rfl
  have hwrite : (s.at t).barrierWrite v = (s.at t).barrierStored v := if_neg (by rw [hgo]; exact Bool.false_ne_true)
  obtain ⟨hreg, -, hhng, -, -⟩ := (s.at t).barrierStored_spec v
  exact ⟨_, hexec.trans ((regCmd_good ha _ hreach t v u _).trans (congrArg _ hwrite)), hhng, hreg⟩

/-! Gathers and releases. -/

/-- The gathers kept, with a new one. -/
def State.gathered (s : State) (p : Bool) (id n : Nat) : State :=
  s.modHng fun h => { h with bGath := (h.bGath.filter fun g => !(g.1 == p && g.2.1 == id)) ++ [(p, id, n)] }

theorem exec_barrierGather {s : State} (ha : s.alive = true) (t : Time) {p : Bool} (hh : s.hears p = true) {src : BitVec 6} (hpos : s.hpos ≠ none)
    (hsrc : s.hpos ≠ some src.toNat) (id : Byte) (n : BitVec 7) :
    exec (.barrierGather t p src id n) s = .next ((s.at t).gathered p id.toNat n.toNat).barrierTry := by
  have hexec : exec (.barrierGather t p src id n) s = execBarrierGather t p src id n s := rfl
  have hok : ¬(!(s.at t).hears p || (s.at t).hpos.isNone || (s.at t).hpos == some src.toNat) = true := by
    show ¬(!s.hears p || s.hpos.isNone || s.hpos == some src.toNat) = true
    rw [hh, beq_false_of_ne hsrc, Option.isNone_eq_false_iff.2 (Option.isSome_iff_ne_none.2 hpos)]
    decide
  rw [hexec, execBarrierGather, timed_alive ha]
  exact congrArg _ (if_neg hok)

theorem State.gathered_find (s : State) (p : Bool) (id n : Nat) :
    ((s.gathered p id n).hng.bGath.find? fun g => g.1 == p && g.2.1 == id) = some (p, id, n) := by
  show ((s.hng.bGath.filter fun g => !(g.1 == p && g.2.1 == id)) ++ [(p, id, n)]).find? (fun g => g.1 == p && g.2.1 == id) = _
  have hold : ((s.hng.bGath.filter fun g => !(g.1 == p && g.2.1 == id)).find? fun g => g.1 == p && g.2.1 == id) = none := by
    refine List.find?_eq_none.2 fun g hg hid => ?_
    have hno := (List.mem_filter.1 hg).2
    rw [hid] at hno
    exact absurd hno (by decide)
  rw [List.find?_append, hold, Option.none_or, List.find?_singleton]
  simp

theorem barrierGather_spec {s : State} (ha : s.alive = true) (t : Time) {p : Bool} (hh : s.hears p = true) {src : BitVec 6} (hpos : s.hpos ≠ none)
    (hsrc : s.hpos ≠ some src.toNat) (id : Byte) (n : BitVec 7) :
    (s.hng.bWait = false → Gives (.barrierGather t p src id n) s fun s' => (p, id.toNat, n.toNat) ∈ s'.hng.bGath ∧ s' = { s.at t with
      hng := { s.hng with bGath := s'.hng.bGath } }) ∧
    (s.hng.bWait = true → s.regF 0x1C0048 7 0 = id.toNat → s.hpos = some 0 → (∃ q, q < 64 ∧ s.route q = some p) →
      (∀ q, q < 64 → s.route q ≠ some (!p)) → Gives (.barrierGather t p src id n) s fun s' => s'.hng.bWait = false ∧ s'.hng.bDone = true ∧
        s'.hng.bParts = 1 + n.toNat ∧ s'.out = s.releaseOut id.toNat (1 + n.toNat) ∧ s'.regs = s.regs) := by
  have hexec := exec_barrierGather ha t hh hpos hsrc id n
  refine ⟨fun hw => ⟨_, hexec, ?_⟩, fun hw hid hp hon hoff => ⟨_, hexec, ?_⟩⟩
  · have hidle : ((s.at t).gathered p id.toNat n.toNat).barrierTry = (s.at t).gathered p id.toNat n.toNat := State.barrierTry_idle hw
    rw [hidle]
    exact ⟨List.mem_append_right _ (List.mem_singleton.2 rfl), rfl⟩
  · have hnet : NetSame s ((s.at t).gathered p id.toNat n.toNat) := ⟨rfl, rfl, rfl, rfl, rfl, rfl⟩
    have hfar : ((s.at t).gathered p id.toNat n.toNat).barrierFar 0 = [p] := by
      refine State.barrierFar_one ?_ fun q hq => ?_
      · obtain ⟨q, hq, hr⟩ := hon
        exact ⟨q, hq, (hnet.route q).trans hr⟩
      · rw [hnet.route]
        exact hoff q hq
    have hid' : ((s.at t).gathered p id.toNat n.toNat).regF 0x1C0048 7 0 = id.toNat := hid
    have hfind := (s.at t).gathered_find p id.toNat n.toNat
    have htry := State.barrierTry_branch (g := (p, id.toNat, n.toNat)) (hnet.hpos.trans hp) hw hfar (by rw [hid']; exact hfind)
    rw [hid'] at htry
    rw [htry]
    exact State.barrierRelease_spec hnet hp hw rfl id.toNat (1 + n.toNat)

theorem barrierRelease_taken {s : State} (ha : s.alive = true) (t : Time) {p : Bool} (hh : s.hears p = true)
    (hc : s.closure p = false ∨ s.hng.rerouted = true) (hpos : s.hpos ≠ none) (src : BitVec 6) (id : Byte) (n : BitVec 7) :
    Gives (.barrierRelease t p src id n) s fun s' =>
      s'.hng.bParts = n.toNat ∧ (∀ g, g ∈ s'.hng.bGath → g.2.1 ≠ id.toNat) ∧
      (s.regF 0x1C0048 7 0 = id.toNat → s.hng.bWait = true → s'.hng.bWait = false ∧ s'.hng.bDone = true) ∧
      (s.regF 0x1C0048 7 0 ≠ id.toNat → s'.hng.bWait = s.hng.bWait ∧ s'.hng.bDone = s.hng.bDone) ∧
      s' = { s.at t with hng := s'.hng, out := s'.out } := by
  have hexec : exec (.barrierRelease t p src id n) s = execBarrierRelease t p src id n s := rfl
  rw [execBarrierRelease, takeBcast_taken ha t hh hc hpos] at hexec
  generalize (if s.goes (!p) then [Out.hinge (!p).toNat 0x06
    (frame true 0x06 src.toNat 0 id.toNat (BitVec.ofNat 64 (2 ^ 63 + n.toNat)))] else []) = l at hexec
  have hothers : ∀ g, g ∈ (s.hng.bGath.filter fun g => g.2.1 != id.toNat) → g.2.1 ≠ id.toNat := fun g hg => bne_iff_ne.1 (List.mem_filter.1 hg).2
  by_cases hid : s.regF 0x1C0048 7 0 = id.toNat
  · have hmine : ((s.forwarded t l).regF 0x1C0048 7 0 == id.toNat) = true := beq_iff_eq.2 hid
    refine ⟨(s.forwarded t l).barrierDone id.toNat n.toNat, hexec.trans (congrArg _ (if_pos hmine)), rfl, hothers, fun _ hw => ?_,
      fun h => absurd hid h, rfl⟩
    show (s.hng.bWait && !s.hng.bWait) = false ∧ (s.hng.bDone || s.hng.bWait) = true
    rw [hw]
    exact ⟨rfl, Bool.or_true _⟩
  · have hmine : ¬((s.forwarded t l).regF 0x1C0048 7 0 == id.toNat) = true := mt beq_iff_eq.1 hid
    exact ⟨_, hexec.trans (congrArg _ (if_neg hmine)), rfl, hothers, fun h => absurd h hid, fun _ => ⟨rfl, rfl⟩, rfl⟩

/-- Settles O58: a barrier goes on when no port away from the root leads to a device whose gather has not come. -/
theorem barriers : Obligations.Barriers := by
  unfold Obligations.Barriers
  intro s t v u ha id out
  exact ⟨fun hreach hgo => barrierEnter_spec ha t u hreach hgo, fun hreach hgo => barrierWrite_spec ha t u hreach hgo,
    fun p src id n hh hpos hsrc => barrierGather_spec ha t hh hpos hsrc id n,
    fun p src id n hh hc hpos => barrierRelease_taken ha t hh hc hpos src id n⟩

end Machine
end Sys2Proof

/-! Scheduled operations over Hinge (12_hinge_array R430, R431, R433, R437). -/

namespace Sys2Proof
namespace Machine

/-! Arming. -/

theorem State.armed_same {s : State} {op : Nat} (hop : op < 3) (x : Time) (src dest : Nat) (all : Bool) :
    (s.arm op x src dest all).armed op = some (x, src) := by
  obtain rfl | rfl | rfl : op = 0 ∨ op = 1 ∨ op = 2 := by omega
  · rfl
  · rfl
  · rfl

theorem State.armed_other {s : State} {op o : Nat} (ho : o < 3) (hne : o ≠ op) (x : Time) (src dest : Nat) (all : Bool) :
    (s.arm op x src dest all).armed o = s.armed o := by
  have hop : ¬(op == o) = true := mt beq_iff_eq.1 hne.symm
  obtain rfl | rfl | rfl : o = 0 ∨ o = 1 ∨ o = 2 := by omega
  · exact if_neg hop
  · exact if_neg hop
  · exact congrArg (Option.map fun r : Time × Nat × Nat × Bool => (r.1, r.2.1)) (if_neg hop)

theorem State.armed_of_hng {s z : State} (ha : z.hng.aSnap = s.hng.aSnap) (hc : z.hng.aCommit = s.hng.aCommit) (hr : z.hng.aReset = s.hng.aReset)
    (op : Nat) : z.armed op = s.armed op := by
  unfold State.armed
  rw [ha, hc, hr]

/-! The writes to HNG_SCHED_CTL. -/

/-- The register and REFUSED after a write to HNG_SCHED_CTL. -/
def State.schedStored (s : State) (v : W32) : State := (s.storeReg 0x1C0050 v).modHng fun h => { h with refused := h.refused && !bit v 25 }

theorem State.schedStored_spec (s : State) (v : W32) : let z := s.schedStored v
    z.reg 0x1C0050 = v &&& 0x61FCFFFF ∧ (∀ o, o ≠ 0x1C0050 → z.reg o = s.reg o) ∧
      ∃ r f, z = { s with regs := r, flt := f, hng := { s.hng with refused := s.hng.refused && !bit v 25 } } := by
  have hrw : rwReg 0x1C0050 = some (0x40000, 0x61FCFFFF, false) := by decide
  unfold State.schedStored
  rw [State.storeReg_unbanked _ hrw]
  exact ⟨State.reg_putReg_same s 0x1C0050 _, fun o ho => State.reg_putReg_ne s 0x1C0050 o _ ho, _, _, rfl⟩

/-- The operation a GO arms is broadcast and armed. -/
def State.schedArmed (s : State) (v : W32) (me : Nat) : State :=
  ((s.modHng fun h => { h with refused := false }).broadcast 0x07 (fld v 30 29 + 4 * fld v 24 19 + 256 * (bit v 18).toNat)
    (s.schedTime (fld v 15 0))).arm (fld v 30 29) (s.schedTime (fld v 15 0)) me (fld v 24 19) (bit v 18)

section
variable {s : State} (w : Wr) {v : W32} (hop : fld v 30 29 ≠ 3) (hgo : bit v 31 = true)

theorem State.schedWrite_bad (h : fld v 30 29 = 3) : s.schedWrite w v = s.reject 3 w.src 0x1C0050 := if_pos (beq_iff_eq.2 h)

include hop hgo

theorem State.schedWrite_refused (h : (s.schedStored v).hpos = none ∨ (s.schedStored v).armed (fld v 30 29) ≠ none) :
    s.schedWrite w v = (s.schedStored v).modHng fun h => { h with refused := true } := by
  unfold State.schedWrite
  extract_lets op z
  have hz : z = s.schedStored v := rfl
  rw [if_neg (mt beq_iff_eq.1 hop), hgo, if_neg (show ¬(!true) = true by decide), hz]
  split
  · next me hme hno =>
    obtain h | h := h
    · exact absurd (hme.symm.trans h) (Option.some_ne_none me)
    · exact absurd hno h
  · rfl

theorem State.schedWrite_armed {me : Nat} (hme : (s.schedStored v).hpos = some me) (hno : (s.schedStored v).armed (fld v 30 29) = none) :
    s.schedWrite w v = (s.schedStored v).schedArmed v me := by
  unfold State.schedWrite
  extract_lets op z
  have hz : z = s.schedStored v := rfl
  rw [if_neg (mt beq_iff_eq.1 hop), hgo, if_neg (show ¬(!true) = true by decide), hz, hme, hno]
  rfl

end

/-! The time of an operation (R430). -/

theorem NetSame.hCount {s z : State} (h : NetSame s z) : z.hCount = s.hCount := by
  unfold State.hCount
  rw [h.hpos]
  simp only [h.route]

/-- Ticks are predicted: tracked mode with the LPLL locked, or HOLDOVER. -/
abbrev State.predicted (s : State) : Prop :=
  (s.tick.st = 3 ∨ (s.mode = 1 ∧ (s.clk.lpll = 2 ∨ s.clk.lpll = 3))) ∧ s.clk.tickT ≠ 0 ∧ s.tick.last ≠ none

/-- L after now. -/
abbrev State.schedLead (s : State) (lead : Nat) : Time := s.now + BitVec.ofNat 64 ((s.hCount - 1) * 80 + 120 + lead * 2000)

theorem State.predicted_iff (s : State) : ((s.tick.st == 3 || (s.mode == 1 && (s.clk.lpll == 2 || s.clk.lpll == 3))) && s.clk.tickT != 0) = true ↔
    (s.tick.st = 3 ∨ (s.mode = 1 ∧ (s.clk.lpll = 2 ∨ s.clk.lpll = 3))) ∧ s.clk.tickT ≠ 0 := by
  simp only [Bool.and_eq_true, Bool.or_eq_true, beq_iff_eq, bne_iff_ne]

theorem State.schedTime_lead {s : State} (h : ¬s.predicted) (lead : Nat) : s.schedTime lead = s.schedLead lead := by
  unfold State.schedTime
  cases hl : s.tick.last with
  | none => rfl
  | some l =>
    refine if_neg fun hc => h ?_
    obtain ⟨h1, h2⟩ := s.predicted_iff.1 hc
    exact ⟨h1, h2, by rw [hl]; exact Option.some_ne_none l⟩

theorem State.schedTime_midpoint {s : State} (h : s.predicted) {l : Time} (hl : s.tick.last = some l) (lead : Nat) :
    s.schedTime lead = l + BitVec.ofNat 64 (since (s.schedLead lead) l / s.clk.tickT * s.clk.tickT + s.clk.tickT / 2) := by
  unfold State.schedTime
  rw [hl]
  exact if_pos (s.predicted_iff.2 ⟨h.1, h.2.1⟩)

/-! SCHED_GO. -/

theorem State.schedArmed_spec {s z : State} (hnet : NetSame s z) {me : Nat} (hme : s.hpos = some me) {v : W32} (hop : fld v 30 29 ≠ 3) :
    let s' := z.schedArmed v me
    s'.hng.schedT = z.schedTime (fld v 15 0) ∧ s'.armed (fld v 30 29) = some (s'.hng.schedT, me) ∧
      (∀ o, o < 3 → o ≠ fld v 30 29 → s'.armed o = z.armed o) ∧ s'.hng.refused = false ∧
      (∀ d, s.goes d → .hinge d.toNat 0x07
        (frame true 0x07 me 0 (fld v 30 29 + 4 * fld v 24 19 + 256 * (bit v 18).toNat) s'.hng.schedT) ∈ s'.out) ∧
      (fld v 30 29 = 2 → s'.hng.aReset = some (s'.hng.schedT, me, fld v 24 19, bit v 18)) ∧ s'.regs = z.regs ∧ s'.tick = z.tick := by
  have hlt : fld v 30 29 < 3 := by
    have h4 : fld v 30 29 < 2 ^ 2 := fld_lt v 30 29
    omega
  unfold State.schedArmed
  rw [State.broadcast_eq]
  have hpos : (z.modHng fun h => { h with refused := false }).hpos.getD 0 = me := by
    rw [show (z.modHng fun h => { h with refused := false }).hpos = z.hpos from rfl, hnet.hpos, hme, Option.getD_some]
  rw [hpos]
  refine ⟨rfl, State.armed_same hlt .., fun o ho hne => State.armed_other ho hne .., rfl, fun d hg => ?_, fun h2 => ?_, rfl, rfl⟩
  · have hz : (z.modHng fun h => { h with refused := false }).goes d := (hnet.goes d).2 hg
    refine List.mem_append_left _ (List.mem_append.2 ?_)
    cases d
    · exact .inr (by rw [if_pos hz]; exact List.mem_singleton.2 rfl)
    · exact .inl (by rw [if_pos hz]; exact List.mem_singleton.2 rfl)
  · exact if_pos (beq_iff_eq.2 h2)

section
variable {s : State} (ha : s.alive = true) (t : Time) {v : W32} (u : BitVec 7) (hreach : s.reaches 0x1C0050 = true)

include ha hreach

theorem exec_schedGo : exec (.schedGo t (goodWr v u)) s = .next ((s.at t).schedWrite (goodWr v u) v) := by
  have hexec : exec (.schedGo t (goodWr v u)) s = execSchedGo t (goodWr v u) s := rfl
  exact hexec.trans (regCmd_good ha _ hreach t v u _)

theorem exec_schedGo_bad (hop : fld v 30 29 = 3) : exec (.schedGo t (goodWr v u)) s = .next { s.at t with
    flt := { s.flt with rej := s.flt.rej + 1, info := pack 64 [(3, 60), (u.toNat, 53), (0x1C0050, 0)] } } := by
  rw [exec_schedGo ha t u hreach, State.schedWrite_bad _ hop, State.reject_of_lt _ _ _ (by decide)]
  rfl

theorem schedGo_refused (hop : fld v 30 29 ≠ 3) (hgo : bit v 31 = true) (h : s.hpos = none ∨ s.armed (fld v 30 29) ≠ none) :
    Gives (.schedGo t (goodWr v u)) s fun s' =>
      s'.hng = { s.hng with refused := true } ∧ s'.out = s.out ∧ s'.reg 0x1C0050 = v &&& 0x61FCFFFF := by
  obtain ⟨hreg, hother, r, f, hz⟩ := (s.at t).schedStored_spec v
  have hnet : NetSame s ((s.at t).schedStored v) := .of_hng (hother _ (by decide)) (by rw [hz]; exact ⟨rfl, rfl, rfl, rfl, rfl⟩)
  have harmed : ((s.at t).schedStored v).armed (fld v 30 29) = s.armed (fld v 30 29) := by
    rw [hz]
    rfl
  have hwrite := State.schedWrite_refused (s := s.at t) (goodWr v u) hop hgo (by rw [hnet.hpos, harmed]; exact h)
  refine ⟨_, (exec_schedGo ha t u hreach).trans (congrArg _ hwrite), ?_, ?_, hreg⟩
  · rw [hz]
    rfl
  · rw [hz]
    rfl

theorem schedGo_armed {me : Nat} (hop : fld v 30 29 ≠ 3) (hgo : bit v 31 = true) (hme : s.hpos = some me) (hno : s.armed (fld v 30 29) = none) :
    Gives (.schedGo t (goodWr v u)) s fun s' =>
      s'.armed (fld v 30 29) = some (s'.hng.schedT, me) ∧ (∀ o, o < 3 → o ≠ fld v 30 29 → s'.armed o = s.armed o) ∧ s'.hng.refused = false ∧
      (¬s.predicted → s'.hng.schedT = (s.at t).schedLead (fld v 15 0)) ∧ (∀ l, s.predicted → s.tick.last = some l → s'.hng.schedT =
        l + BitVec.ofNat 64 (since ((s.at t).schedLead (fld v 15 0)) l / s.clk.tickT * s.clk.tickT + s.clk.tickT / 2)) ∧
      (∀ d, (s.port d).st = 2 → s.closure d = false → .hinge d.toNat 0x07
        (frame true 0x07 me 0 (fld v 30 29 + 4 * fld v 24 19 + 256 * (bit v 18).toNat) s'.hng.schedT) ∈ s'.out) ∧
      (fld v 30 29 = 2 → s'.hng.aReset = some (s'.hng.schedT, me, fld v 24 19, bit v 18)) ∧ s'.reg 0x1C0050 = v &&& 0x61FCFFFF ∧
      s'.tick = s.tick := by
  obtain ⟨hreg, hother, r, f, hz⟩ := (s.at t).schedStored_spec v
  have hnet : NetSame s ((s.at t).schedStored v) := .of_hng (hother _ (by decide)) (by rw [hz]; exact ⟨rfl, rfl, rfl, rfl, rfl⟩)
  have harmed : ∀ o, ((s.at t).schedStored v).armed o = s.armed o := fun o => by
    rw [hz]
    rfl
  have hmode : ((s.at t).schedStored v).mode = s.mode := congrArg (fun w => fld w 31 30) (hother 0x10000 (by decide))
  have htick : ((s.at t).schedStored v).tick = s.tick := by
    rw [hz]
    rfl
  have hclk : ((s.at t).schedStored v).clk = s.clk := by
    rw [hz]
    rfl
  have hpred : ((s.at t).schedStored v).predicted ↔ s.predicted := by
    unfold State.predicted
    rw [hmode, htick, hclk]
  have hlead : ∀ n, ((s.at t).schedStored v).schedLead n = (s.at t).schedLead n := fun n => by
    unfold State.schedLead
    rw [hnet.hCount, hz]
    rfl
  have hwrite := State.schedWrite_armed (s := s.at t) (goodWr v u) hop hgo (hnet.hpos.trans hme) ((harmed _).trans hno)
  refine ⟨_, (exec_schedGo ha t u hreach).trans (congrArg _ hwrite), ?_⟩
  clear hz hwrite
  generalize (s.at t).schedStored v = z at *
  obtain ⟨hT, hsame, hne, hrefused, hsent, hreset, hregs, hk⟩ := State.schedArmed_spec hnet hme hop
  refine ⟨hsame, fun o ho hn => (hne o ho hn).trans (harmed o), hrefused, fun hp => ?_, fun l hp hl => ?_,
    fun d h1 h2 => hsent d ⟨h1, .inl h2⟩, hreset, (reg_of_regs hregs _).trans hreg, hk.trans htick⟩
  · rw [hT, State.schedTime_lead (mt hpred.1 hp), hlead]
  · rw [hT, State.schedTime_midpoint (hpred.2 hp) (by rw [htick]; exact hl), hlead, hclk]

end

/-! SCHED. -/

/-- What a SCHED frame of a legal operation does to the device that takes it. -/
def State.schedTake (s : State) (op : Nat) (src dest : Nat) (all : Bool) (x : W64) : State :=
  if !reached x s.now then s.modHng fun h => { h with sLate := h.sLate + 1 }
  else match s.armed op with
    | none => s.arm op x src dest all
    | some (y, q) =>
      let new := !reached x y || (x == y && src < q)
      let s := s.modHng fun h => { h with sConf := h.sConf + 1, refused := h.refused || (new && s.hpos == some q) }
      if new then s.arm op x src dest all else s

theorem exec_sched {s : State} (ha : s.alive = true) (t : Time) {p : Bool} (hh : s.hears p = true) (hc : s.closure p = false ∨ s.hng.rerouted = true)
    (hpos : s.hpos ≠ none) (src : BitVec 6) {op : BitVec 2} (hop : op ≠ 3) (dest : BitVec 6) (all : Bool) (x : W64) :
    ∃ l, exec (.sched t p src op dest all x) s = .next ((s.forwarded t l).schedTake op.toNat src.toNat dest.toNat all x) := by
  have hexec : exec (.sched t p src op dest all x) s = execSched t p src op dest all x s := rfl
  rw [execSched, takeBcast_taken ha t hh hc hpos] at hexec
  exact ⟨_, hexec.trans (congrArg _ (if_neg (mt beq_iff_eq.1 hop)))⟩

section
variable {s : State} {op : Nat} (src dest : Nat) (all : Bool) {x : W64}

theorem State.schedTake_late (h : reached x s.now = false) :
    s.schedTake op src dest all x = s.modHng fun h => { h with sLate := h.sLate + 1 } := if_pos (by rw [h]; rfl)

theorem State.schedTake_free (h : reached x s.now = true) (ho : s.armed op = none) :
    s.schedTake op src dest all x = s.arm op x src dest all := by
  unfold State.schedTake
  rw [if_neg (by rw [h]; decide), ho]

/-- A conflict, counted. -/
def State.schedConflict (s : State) (tell : Bool) : State := s.modHng fun h => { h with sConf := h.sConf + 1, refused := h.refused || tell }

theorem State.schedTake_earlier (h : reached x s.now = true) {y : Time} {q : Nat} (ho : s.armed op = some (y, q)) (hxy : reached x y = false) :
    s.schedTake op src dest all x = (s.schedConflict (s.hpos == some q)).arm op x src dest all := by
  unfold State.schedTake
  rw [if_neg (by rw [h]; decide), ho]
  dsimp only
  rw [hxy]
  rfl

theorem State.schedTake_later (h : reached x s.now = true) {y : Time} {q : Nat} (ho : s.armed op = some (y, q)) (hxy : reached x y = true)
    (hne : x ≠ y) : s.schedTake op src dest all x = s.schedConflict false := by
  unfold State.schedTake
  rw [if_neg (by rw [h]; decide), ho]
  dsimp only
  rw [hxy, beq_false_of_ne hne]
  rfl

/-- A conflict is counted, whichever of the two stays armed. -/
theorem State.schedTake_counts (h : reached x s.now = true) {y : Time} {q : Nat} (ho : s.armed op = some (y, q)) :
    let s' := s.schedTake op src dest all x
    s'.hng.sConf = s.hng.sConf + 1 ∧ s' = { s with hng := s'.hng } := by
  unfold State.schedTake
  rw [if_neg (by rw [h]; decide), ho]
  dsimp only
  split
  · exact ⟨rfl, rfl⟩
  · exact ⟨rfl, rfl⟩

end

section
variable {s : State} (ha : s.alive = true) (t : Time) {p : Bool} (hh : s.hears p = true) (hc : s.closure p = false ∨ s.hng.rerouted = true)
  (hpos : s.hpos ≠ none) (src : BitVec 6) {op : BitVec 2} (hop : op ≠ 3) (dest : BitVec 6) (all : Bool) {x : W64}

include ha hh hc hpos hop

theorem sched_late (hx : reached x (s.at t).now = false) : Gives (.sched t p src op dest all x) s fun s' =>
    s'.hng = { s.hng with sLate := s.hng.sLate + 1 } ∧ s' = { s.at t with hng := s'.hng, out := s'.out } := by
  obtain ⟨l, hexec⟩ := exec_sched ha t hh hc hpos src hop dest all x
  rw [State.schedTake_late (s := s.forwarded t l) _ _ _ hx] at hexec
  exact ⟨_, hexec, rfl, rfl⟩

theorem sched_armed (hx : reached x (s.at t).now = true) (ho : s.armed op.toNat = none) : Gives (.sched t p src op dest all x) s fun s' =>
    s'.armed op.toNat = some (x, src.toNat) ∧
      (∀ o, o < 3 → o ≠ op.toNat → s'.armed o = s.armed o) ∧ (op = 2 → s'.hng.aReset = some (x, src.toNat, dest.toNat, all)) ∧
      s'.hng.sConf = s.hng.sConf ∧ s' = { s.at t with hng := s'.hng, out := s'.out } := by
  obtain ⟨l, hexec⟩ := exec_sched ha t hh hc hpos src hop dest all x
  have ho' : (s.forwarded t l).armed op.toNat = none := ho
  have hlt : op.toNat < 3 := by bv_omega
  rw [State.schedTake_free (s := s.forwarded t l) _ _ _ hx ho'] at hexec
  refine ⟨_, hexec, State.armed_same hlt .., fun o h1 h2 => State.armed_other h1 h2 .., fun h2 => ?_, rfl, rfl⟩
  rw [h2]
  rfl

theorem sched_conflict (hx : reached x (s.at t).now = true) {y : Time} {q : Nat} (ho : s.armed op.toNat = some (y, q)) :
    Gives (.sched t p src op dest all x) s fun s' => s'.hng.sConf = s.hng.sConf + 1 ∧
      (reached x y = false → s'.armed op.toNat = some (x, src.toNat) ∧ (s.hpos = some q → s'.hng.refused = true)) ∧
      (reached x y = true → x ≠ y → s'.armed op.toNat = some (y, q) ∧ s'.hng.refused = s.hng.refused) ∧
      s' = { s.at t with hng := s'.hng, out := s'.out } := by
  obtain ⟨l, hexec⟩ := exec_sched ha t hh hc hpos src hop dest all x
  have ho' : (s.forwarded t l).armed op.toNat = some (y, q) := ho
  have hlt : op.toNat < 3 := by bv_omega
  obtain ⟨hcount, hframe⟩ := State.schedTake_counts (s := s.forwarded t l) src.toNat dest.toNat all hx ho'
  refine ⟨_, hexec, hcount, fun hxy => ?_, fun hxy hne => ?_, ?_⟩
  · rw [State.schedTake_earlier (s := s.forwarded t l) _ _ _ hx ho' hxy]
    refine ⟨State.armed_same hlt .., fun hq => ?_⟩
    show (s.hng.refused || s.hpos == some q) = true
    rw [hq, beq_self_eq_true, Bool.or_true]
  · rw [State.schedTake_later (s := s.forwarded t l) _ _ _ hx ho' hxy hne]
    exact ⟨ho', Bool.or_false _⟩
  · rw [hframe]

end

/-! SCHED_DEADLINE. -/

theorem State.schedDue_of_settled {s : State} {x : Time} (hinv : s.clk.lastInv = none) (hn : s.noTicks = false) (hx : reached s.now x = true)
    (hst : s.tick.st = 0 ∨ 2000 ≤ since s.now x) : s.schedDue x = true := by
  have hset : s.settled = true := by
    unfold State.settled
    rw [hn, hinv]
    rfl
  unfold State.schedDue
  rw [hx, hn, hset]
  obtain h | h := hst
  · rw [h]
    rfl
  · rw [decide_eq_true h]
    exact Bool.or_true _

theorem State.schedDue_ahead {s : State} {x : Time} (hx : reached s.now x = false) : s.schedDue x = false := by
  unfold State.schedDue
  rw [hx]
  rfl

theorem State.spanned_none {s : State} (h : s.clk.lastInv = none) (x : Time) : s.spanned x = false := by
  unfold State.spanned
  rw [h]

/-- The operations that are due execute, snapshot, commit and reset in order; none of them was spanned by an interruption. -/
theorem exec_schedDeadline {s : State} (ha : s.alive = true) (t : Time) {d0 d1 d2 : Bool}
    (h0 : ((s.hng.aSnap.map fun a => a.1).map (s.at t).schedDue).getD false = d0)
    (h1 : ((s.hng.aCommit.map fun a => a.1).map (s.at t).schedDue).getD false = d1)
    (h2 : ((s.hng.aReset.map fun a => a.1).map (s.at t).schedDue).getD false = d2)
    (hinv : s.clk.lastInv = none ∨ (d0 = false ∧ d1 = false ∧ d2 = false)) :
    exec (.schedDeadline t) s = .next (
      let z := if d0 then ((s.at t).modHng fun h => { h with aSnap := none }).snapEffect s.tick.line.toNat s.encNow (s.at t).now else s.at t
      let z := if d1 then (z.modHng fun h => { h with aCommit := none }).schedCommit else z
      if d2 then z.tickReset z.now else z) := by
  have hexec : exec (.schedDeadline t) s = execSchedDeadline t s := rfl
  have hnone : ∀ (d : Bool) (o : Option Time), d = d0 ∨ d = d1 ∨ d = d2 → (d && (o.map (s.at t).spanned).getD false) = false := fun d o hd => by
    obtain hinv | ⟨rfl, rfl, rfl⟩ := hinv
    · cases o with
      | none => exact Bool.and_false d
      | some x =>
        have hx : (s.at t).spanned x = false := State.spanned_none hinv x
        show (d && (s.at t).spanned x) = false
        rw [hx, Bool.and_false]
    · obtain rfl | rfl | rfl := hd <;> rfl
  have hlate : ([(d0, s.hng.aSnap.map fun a => a.1), (d1, s.hng.aCommit.map fun a => a.1), (d2, s.hng.aReset.map fun a => a.1)].filter fun p =>
      p.1 && (p.2.map (s.at t).spanned).getD false) = [] := by
    refine List.filter_eq_nil_iff.2 fun p hp => ?_
    simp only [List.mem_cons, List.not_mem_nil, or_false] at hp
    rw [Bool.not_eq_true]
    obtain rfl | rfl | rfl := hp
    · exact hnone _ _ (.inl rfl)
    · exact hnone _ _ (.inr (.inl rfl))
    · exact hnone _ _ (.inr (.inr rfl))
  have hsame : ((s.at t).modHng fun h => { h with sLate := h.sLate + BitVec.ofNat 8 ([] : List (Bool × Option Time)).length }) = s.at t := by
    show { s.at t with hng := { s.hng with sLate := s.hng.sLate + 0#8 } } = s.at t
    rw [BitVec.add_zero]
    rfl
  rw [hexec, execSchedDeadline, timed_alive ha]
  extract_lets due e0 e1 e2 late z0 z1 z2 y1 y2
  have he0 : e0 = d0 := h0
  have he1 : e1 = d1 := h1
  have he2 : e2 = d2 := h2
  have hz0 : z0 = s.at t := by
    dsimp only [z0, late]
    rw [he0, he1, he2]
    exact (congrArg (fun l : List (Bool × Option Time) => (s.at t).modHng fun h => { h with sLate := h.sLate + BitVec.ofNat 8 l.length }) hlate).trans hsame
  dsimp only [z2, z1, y2, y1]
  rw [he0, he1, he2, hz0]
  rfl

theorem State.snapEffect_hng (s : State) (n : Nat) (enc : B48) (t : Time) : (s.snapEffect n enc t).hng = s.hng := by
  obtain ⟨x, hx⟩ := s.freeze_frame
  obtain ⟨h, o, heq, -⟩ := State.raise_frame (s.freeze.modTick fun k =>
    { k with tag := k.tag + 1, snap := false, snapLine := BitVec.ofNat 48 n, snapTime := t, snapEnc := enc }) (v := 18) (by decide)
  rw [State.snapEffect, heq, hx]
  rfl

/-- A scheduled commit: the epoch counts up, and what is armed stays. -/
theorem State.schedCommit_tickKept (s : State) : TickKept (s.modTick fun k => { k with epoch := k.epoch + 1 }) s.schedCommit := by
  unfold State.schedCommit
  extract_lets old s1
  have h1 : TickKept (s.modTick fun k => { k with epoch := k.epoch + 1 }) s1 := (s.commitEffect_tickKept ..).trans (State.commitDir_tickKept _ _)
  clear_value s1
  refine h1.trans ?_
  split
  · exact (s1.changeMode_tickKept old).trans (State.minPeriod_tickKept _)
  · exact s1.minPeriod_tickKept

theorem State.tickReset_due {s : State} {t x : Time} {q dest : Nat} {all : Bool} (h : s.hng.aReset = some (x, q, dest, all)) (hx : reached t x = true) :
    s.tickReset t = if all || s.hpos == some dest then s.intReset 0 else s.modHng fun h => { h with aReset := none } := by
  unfold State.tickReset
  rw [h]
  exact if_pos hx

section
variable {s : State} (ha : s.alive = true) (t : Time) {x : Time} {q : Nat}

theorem armed_due (hinv : s.clk.lastInv = none) (hn : s.noTicks = false) (hx : reached (s.at t).now x = true)
    (hst : s.tick.st = 0 ∨ 2000 ≤ since (s.at t).now x) : ((some x).map (s.at t).schedDue).getD false = true :=
  State.schedDue_of_settled (s := s.at t) hinv hn hx hst

theorem none_due : ((none : Option Time).map (s.at t).schedDue).getD false = false := rfl

include ha

theorem snap_due (hinv : s.clk.lastInv = none) (hn : s.noTicks = false) (hx : reached (s.at t).now x = true)
    (hst : s.tick.st = 0 ∨ 2000 ≤ since (s.at t).now x) (h0 : s.hng.aSnap = some (x, q)) (h1 : s.hng.aCommit = none) (h2 : s.hng.aReset = none) :
    Gives (.schedDeadline t) s fun s' => s'.hng = { s.hng with aSnap := none } ∧
      s'.tick.tag = s.tick.tag + 1 ∧ s'.tick.snapTime = (s.at t).now ∧ s'.tick.snapEnc = s.encNow ∧ s'.tick.snap = false ∧
      s'.host.cause.getLsbD 2 = true ∧ s'.regs = s.regs := by
  have hexec := exec_schedDeadline ha t (d0 := true) (d1 := false) (d2 := false) (by rw [h0]; exact armed_due t hinv hn hx hst)
    (by rw [h1]; exact none_due t) (by rw [h2]; exact none_due t) (.inl hinv)
  obtain ⟨htick, -, hcause, hregs⟩ := State.snapEffect_spec ((s.at t).modHng fun h => { h with aSnap := none }) s.tick.line.toNat s.encNow (s.at t).now
  refine ⟨_, hexec, (State.snapEffect_hng ..).trans rfl, (congrArg Tick.tag htick).trans rfl, (congrArg Tick.snapTime htick).trans rfl,
    (congrArg Tick.snapEnc htick).trans rfl, (congrArg Tick.snap htick).trans rfl, hcause, hregs⟩

theorem commit_due (hinv : s.clk.lastInv = none) (hn : s.noTicks = false) (hx : reached (s.at t).now x = true)
    (hst : s.tick.st = 0 ∨ 2000 ≤ since (s.at t).now x) (h0 : s.hng.aSnap = none) (h1 : s.hng.aCommit = some (x, q)) (h2 : s.hng.aReset = none) :
    Gives (.schedDeadline t) s fun s' => s'.hng.aCommit = none ∧ s'.tick.epoch = s.tick.epoch + 1 := by
  have hexec := exec_schedDeadline ha t (d0 := false) (d1 := true) (d2 := false) (by rw [h0]; exact none_due t)
    (by rw [h1]; exact armed_due t hinv hn hx hst) (by rw [h2]; exact none_due t) (.inl hinv)
  have hk := State.schedCommit_tickKept ((s.at t).modHng fun h => { h with aCommit := none })
  exact ⟨_, hexec, hk.armed.2, congrArg TickCore.epoch hk.core⟩

theorem reset_due (hinv : s.clk.lastInv = none) (hn : s.noTicks = false) (hx : reached (s.at t).now x = true)
    (hst : s.tick.st = 0 ∨ 2000 ≤ since (s.at t).now x) {dest : Nat} {all : Bool} (h0 : s.hng.aSnap = none) (h1 : s.hng.aCommit = none)
    (h2 : s.hng.aReset = some (x, q, dest, all)) : Gives (.schedDeadline t) s fun s' =>
      (all = true ∨ s.hpos = some dest → s'.boot.intRst = some 0) ∧
      (all = false → s.hpos ≠ some dest → s' = { s.at t with hng := { s.hng with aReset := none } }) := by
  have hexec := exec_schedDeadline ha t (d0 := false) (d1 := false) (d2 := true) (by rw [h0]; exact none_due t)
    (by rw [h1]; exact none_due t) (by rw [h2]; exact armed_due t hinv hn hx hst) (.inl hinv)
  have hreset : (s.at t).tickReset (s.at t).now = _ := State.tickReset_due (s := s.at t) h2 hx
  refine ⟨_, hexec.trans (congrArg _ hreset), fun h => ?_, fun hall hp => ?_⟩
  · have hhit : (all || (s.at t).hpos == some dest) = true := by
      obtain h | h := h
      · rw [h, Bool.true_or]
      · rw [show (s.at t).hpos = some dest from h, beq_self_eq_true, Bool.or_true]
    rw [if_pos hhit]
    rfl
  · have hmiss : ¬(all || (s.at t).hpos == some dest) = true := by
      rw [hall, beq_false_of_ne (show (s.at t).hpos ≠ some dest from hp)]
      decide
    rw [if_neg hmiss]
    rfl

theorem snap_ahead (hx : reached (s.at t).now x = false) (h0 : s.hng.aSnap = some (x, q)) (h1 : s.hng.aCommit = none) (h2 : s.hng.aReset = none) :
    Gives (.schedDeadline t) s fun s' => s'.hng = s.hng ∧ s'.tick = s.tick ∧ s'.regs = s.regs := by
  have hexec := exec_schedDeadline ha t (d0 := false) (d1 := false) (d2 := false) (by rw [h0]; exact State.schedDue_ahead hx)
    (by rw [h1]; exact none_due t) (by rw [h2]; exact none_due t) (.inr ⟨rfl, rfl, rfl⟩)
  exact ⟨_, hexec, rfl, rfl, rfl⟩

end

/-- Settles O59: GO and SCHED arm one operation of a kind; a due one executes alone, and none was spanned by an interruption. -/
theorem scheduledOperations : Obligations.ScheduledOperations := by
  unfold Obligations.ScheduledOperations
  intro s t ha now
  refine ⟨fun v u hreach => ?_, fun p src op dest all x hh hc hpos hop => ?_, fun x q hinv hn hx hst => ?_,
    fun x q h0 h1 h2 hx => snap_ahead ha t hx h0 h1 h2⟩
  · intro op x tracked
    exact ⟨fun h => exec_schedGo_bad ha t u hreach h, fun hop hgo h => schedGo_refused ha t u hreach hop hgo h,
      fun me hop hgo hme hno => schedGo_armed ha t u hreach hop hgo hme hno⟩
  · intro c
    exact ⟨fun hx => sched_late ha t hh hc hpos src hop dest all hx, fun hx ho => sched_armed ha t hh hc hpos src hop dest all hx ho,
      fun y q hx ho => sched_conflict ha t hh hc hpos src hop dest all hx ho⟩
  · exact ⟨fun h0 h1 h2 => snap_due ha t hinv hn hx hst h0 h1 h2, fun h0 h1 h2 => commit_due ha t hinv hn hx hst h0 h1 h2,
      fun dest all h0 h1 h2 => reset_due ha t hinv hn hx hst h0 h1 h2⟩

end Machine
end Sys2Proof
